-- ==== Sys2Proof/Word.lean ====
section
/-!
DEFINITION. Word.lean: the register word and the octet. Registers are 32 bits wide (R11); structures in host memory and on
links are sequences of octets (R7, R8).
-/

namespace Sys2Proof

/-- A 32-bit register word (R11). -/
abbrev Word := BitVec 32

/-- One octet. -/
abbrev Byte := BitVec 8

/-- A sequence of octets, octet 0 first. -/
abbrev Octets := List Byte

end Sys2Proof
end

