-- ==== Sys2Proof/Syntax.lean ====
section
/-!
DEFINITION. Syntax.lean: the commands that reach the block from outside, one constructor per row of the opcode table, with what
each carries.
-/

namespace Sys2Proof

/-- What a host command carries besides its parameters (Table 11.3): the issuing function, its COMMAND ring, the TAG, the
HIGH flag and the data buffer. -/
structure Cmd where
  func : Fin 4
  ring : Fin 256
  tag : BitVec 32
  high : Bool
  addr : BitVec 64
  len : BitVec 32
deriving DecidableEq, Repr

/-- The samples that the clusters modulated for one position's downlink element of a sub-frame (R95, R98): of each power-line stream in
stream order (50 values), and of the radio chain (125 pairs, I then Q). -/
structure DownElement where
  position : Fin 32
  plc : List (List Int)
  radio : List Int
deriving DecidableEq, Repr

/-- What a sense item observes of its window (R125, R163): the peak preamble correlation in 1/256 of full, whether a radio
preamble was detected, the mean energy in dB below full scale, and whether a sample fell in an interval for which no sub-frame came. -/
structure SenseObs where
  cell : Fin 32768
  corr : Nat
  preamble : Bool
  level : Nat
  invalid : Bool
deriving DecidableEq, Repr

/-- What happens on the cells and in the engines in one batten that the model does not compute: the sense windows; cells on
which a reception starts, or is lost; cells whose frame or acknowledgement in transmission ended before this batten, with the instant
of its end in ns; cells
whose wake-up sequence ended; cells with a late receive or sense item, or a late transmit item (Table 2.16); and how many nodes of an
evaluation that this batten's valley point starts are evaluated in time (R269); meter-table slots in which an error is found, and
whether it is uncorrectable (R195); an uncorrectable error is found in the active plan buffer (R84). -/
structure BattenIn where
  sense : List SenseObs
  rxStart : List (Fin 32768)
  rxLost : List (Fin 32768)
  txEnd : List (Fin 32768 × Nat)
  wusEnd : List (Fin 32768)
  lateRx : List (Fin 32768)
  lateTx : List (Fin 32768)
  lateMetro : List (Fin 128)
  lateCtrl : List (Fin 128)
  valleyNodes : Nat
  slotErrors : List (BitVec 22 × Bool)
  planError : Bool
deriving DecidableEq, Repr

/-- A fragment's place in its datagram: tag, datagram size, offset in octets. -/
structure FragmentInfo where
  tag : BitVec 16
  size : BitVec 16
  offset : BitVec 16
deriving DecidableEq, Repr

/-- Kinds of a received power-line frame. -/
inductive PlcKind where
  | data | beacon
deriving DecidableEq, Repr

/-- What tells one route request from another: its originator and the originator's number of it (R146). -/
structure RouteAsk where
  originator : BitVec 16
  id : BitVec 16
deriving DecidableEq, Repr

/-- A power-line frame as decoded (R121): its end in ns after the present instant's course start is given as an absolute
instant of the time scale. SNR figures are in 0.5 dB per tone group. `mic` tells that the CCM tag is good. `source` is the
neighbour that sent the frame, `originator` the mesh originator of the datagram. -/
structure PlcFrame where
  cell : Fin 32768
  frameEnd : Nat
  decoded : Bool
  unsupported : Bool
  fcsOk : Bool
  kind : PlcKind
  dstPan : BitVec 16
  dst : BitVec 16
  srcPan : BitVec 16
  source : BitVec 16
  originator : BitVec 16
  ackReq : Bool
  toneReq : Bool
  secured : Bool
  keyIndex : Bool
  fc : BitVec 32
  mic : Bool
  dsn : Byte
  snr : List Int
  lqi : Byte
  late : Bool
  clip : Bool
  fragment : Option FragmentInfo
  payload : Octets
deriving DecidableEq, Repr

/-- A join request, a route request and a tone-map response as received by a power-line cell. -/
structure ToneResponse where
  cell : Fin 32768
  source : BitVec 16
  coherent : Bool
  mod : BitVec 2
  gain : BitVec 5
  map : BitVec 24
deriving DecidableEq, Repr

/-- When an Enh-Ack was received: its SFD and its end, as instants of the time scale in ns (R169). -/
structure AckSpan where
  sfd : Nat
  stop : Nat
deriving DecidableEq, Repr

/-- Kinds of a received radio frame. -/
inductive RadKind where
  | data | associate | dataRequest | disassociate | beaconRequest | enhancedRequest | beacon | other
deriving DecidableEq, Repr

/-- A radio frame as decoded (R161). `source` is the EUI-64 where `extended`, else the short address; `dst` and `dstExtended` likewise.
`csl` is the CSL IE: its period and phase in 10-symbol units. `modeSwitch` marks a PHR mode switch, `version2` frame version 2,
`suppressed` sequence number or frame counter suppression (Table 5.1). `header` holds the octets that the MIC covers besides the
payload, and `mic` the MIC received. -/
structure RadFrame where
  cell : Fin 32768
  frameEnd : Nat
  decoded : Bool
  fcsOk : Bool
  modeSwitch : Bool
  version2 : Bool
  suppressed : Bool
  kind : RadKind
  dstPan : BitVec 16
  dstExtended : Bool
  dst : BitVec 64
  srcPan : BitVec 16
  extended : Bool
  source : BitVec 64
  ackReq : Bool
  secLevel : Fin 8
  keyMode : Fin 4
  fc : BitVec 32
  header : Octets
  mic : Octets
  dsn : Byte
  csl : Option (Nat × Nat)
  rssi : Byte
  chains : Fin 4
  late : Bool
  clip : Bool
  mesh : Bool
  fragment : Option FragmentInfo
  payload : Octets
deriving DecidableEq, Repr


/-- PARAMS of VALLEY_RETRO (Table 11.5). -/
structure RetroParams where
  fromS : BitVec 64
  toS : BitVec 64
  root : BitVec 16
  sig : Byte
  ring : Byte
  func : Byte
  reserved : BitVec 24
  epoch : BitVec 32
deriving DecidableEq, Repr

/-- What the header of a received slate link frame gives (Table 10.1): the hub it came from, EPOCH, SEQ and ACK. -/
structure SlateHdr where
  hub : Fin 128
  epoch : Byte
  seq : BitVec 32
  ack : BitVec 32
deriving DecidableEq, Repr

/-- PARAMS of ARCHIVE_SCAN (Table 11.5). -/
structure ScanParams where
  fromS : BitVec 64
  toS : BitVec 64
  first : BitVec 32
  last : BitVec 32
  mask : BitVec 32
  valley : Byte
  ring : Fin 256
deriving DecidableEq, Repr


/-- An entry of a scatter list (R342). -/
structure ScatterEntry where
  addr : BitVec 64
  len : BitVec 32
  reserved : BitVec 32
deriving DecidableEq, Repr

/-- The header and body of an Announce as R374 and R375 use them. -/
structure PtpAnnounce where
  priority1 : Byte
  clockClass : Byte
  accuracy : Byte
  variance : BitVec 16
  priority2 : Byte
  grandmaster : BitVec 64
  stepsRemoved : BitVec 16
  source : BitVec 80
  utcOffset : BitVec 16
  utcValid : Bool
  leap61 : Bool
  leap59 : Bool
deriving DecidableEq, Repr

/-- A Sync: source, sequenceId, ingress timestamp, originTimestamp and correctionField, in 2^-16 ns. -/
structure PtpSync where
  source : BitVec 80
  seq : BitVec 16
  twoStep : Bool
  t2 : Int
  t1 : Int
  correction : Int
deriving DecidableEq, Repr

/-- A Follow_Up: source, sequenceId, preciseOriginTimestamp and correctionField, in 2^-16 ns. -/
structure PtpFollowUp where
  source : BitVec 80
  seq : BitVec 16
  t1 : Int
  correction : Int
deriving DecidableEq, Repr

/-- A Pdelay_Resp (`followUp` false: its t2, and t4 the ingress timestamp) or its Follow_Up (`followUp` true: its t3), in
2^-16 ns. -/
structure PdelayResp where
  seq : BitVec 16
  followUp : Bool
  twoStep : Bool
  t2 : Int
  t3 : Int
  t4 : Int
  correction : Int
deriving DecidableEq, Repr

/-- PARAMS of KEY_WRITE (R392). -/
structure KeyWriteParams where
  target : Byte
  index : Byte
  attr : Byte
  format : Byte
  len : Byte
  wrapSlot : Byte
  purpose : Byte
  replace : Byte
  keyId : BitVec 64
deriving DecidableEq, Repr

/-- PARAMS of KEY_GENERATE (R395); `drawn` holds the octets that were drawn at acceptance, or that the input log carries
(R395, R412), and is empty where none were. -/
structure KeyGenParams where
  slot : Byte
  attr : Byte
  len : Byte
  mode : Byte
  purpose : Byte
  replace : Byte
  label : Octets
  drawn : Octets
deriving DecidableEq, Repr


/-- The header of a ridge frame (Table 15.3): the sender's unit code and state, SEQ, ACK and EPOCH. `fcsBad` tells that its FCS
fails. -/
structure RidgeHdr where
  unit : Fin 4
  state : Fin 4
  seq : BitVec 32
  ack : BitVec 32
  epoch : Byte
  fcsBad : Bool
deriving DecidableEq, Repr

/-- The payload of HELLO (Table 15.4). `genCrc` is the CRC of the partner's safety generation in force, which R437 has the units compare
at every link-up; no frame is named for it (log entry 158), and it is no octet of HELLO here. -/
structure RidgeHello where
  serial : BitVec 64
  planId : BitVec 64
  epoch : BitVec 32
  connId : BitVec 32
  release : BitVec 32
  grade : Byte
  lc : Byte
  flags : Byte
  state : Byte
  accepted : BitVec 16
  genCrc : BitVec 32
deriving DecidableEq, Repr

/-- An entry of the input log of a course exchange (Table 15.6). -/
inductive RidgeLog where
  | command (func : Fin 4) (ring : Byte) (descriptor : Octets) (object : BitVec 32) (sha : Octets)
  | regWrite (func : Fin 4) (addr : BitVec 32) (value : Word) (expert : Bool)
  | owner (now : Option (Fin 4)) (cause : Byte)
  | random (consumer : Byte) (octets : Octets)
  | grant (lanes : BitVec 320)
  | time (state : Byte) (set : Bool) (smear utc : Int)
  | metro (second : BitVec 64) (values : Option (List Int × List Int))
  | plan (check : Byte) (fallback : Option Byte) (cancel : Bool)
  | shed (level : Fin 5)
  | repair (slot : BitVec 22) (octets : Octets)
deriving DecidableEq, Repr

/-- A course exchange (Table 15.7). `index` holds the two digests over the cold index that R473 exchanges at the first course of a day;
the spec names no frame for them. -/
structure RidgeCx where
  course : BitVec 64
  tDep : BitVec 64
  tArr : BitVec 64
  digest : Octets
  classes : List Octets
  verdict : Fin 4
  replayed : BitVec 64
  log : List RidgeLog
  index : Option (Octets × Octets) := none
deriving DecidableEq, Repr


/-- The DRAM that a start finds (R563, R564): the trained rate (0 none, 1 4,800, 2 5,200, 3 5,600 MT/s), two ranks, 32 Gb devices,
and the channel that failed where no rate passed. -/
structure DramFit where
  rate : Fin 4
  dual : Bool
  big : Bool
  channel : Fin 4
deriving DecidableEq, Repr


/-- An access from the live side of a crossing that is held in reset (R542). -/
inductive LiveAccess where
  | hostRead (func : Fin 4) (addr : BitVec 24)
  | hostWrite (func : Fin 4) (addr : BitVec 24) (value : Word)
  | transfer
deriving DecidableEq, Repr

/-- An error that a patrol scrub finds in DRAM (R565). -/
structure DdrError where
  uncorrectable : Bool
  channel : Fin 4
  subchannel : Fin 2
  rank : Fin 2
  device : Fin 10
deriving DecidableEq, Repr

/-- The commands of the block, in the order of the opcode table. -/
inductive Instr where
/-- POWER_ON_RESET (R497): The rising edge of PORST_N starts the boot sequence of Table 17.1 from ROM: straps are sampled,
  OTP is checked, DRAM is trained, an image is verified and the processors are loaded. -/
  | powerOnReset (unitB : Bool) (straps : Fin 4) (svcMode : Bool) (fit : DramFit)
/-- PORST_ASSERT (R557): PORST_N driven low overrides WARM_RST_N at every moment and abandons any power-safe stop in
  progress. -/
  | porstAssert
/-- WARM_RESET (R556): A WARM_RST_N falling edge held for 10 µs makes a power-safe stop when the archive is mounted, then an
  internal warm reset; boot resumes at step 4 and keeps only the state that R582 lists. -/
  | warmReset
/-- ROOTSEED_PROGRAM (R510): In MANUFACTURE, once the entropy source is READY, a blank ROOTSEED is programmed with DRBG
  output, then its CRC and marker. -/
  | rootseedProgram
/-- READY_TIMEOUT (R502): When a NEW slot's processors do not report ready within 5 s of step 6, the boot core makes a warm
  reset itself. -/
  | readyTimeout
/-- IMAGE_CONFIRMED (R502): All processors report ready in time, so the NEW slot becomes CURRENT and the former CURRENT slot
  becomes PREVIOUS. -/
  | imageConfirmed
/-- TFTP_WRITE_REQUEST (R504): A TFTP write request arriving at the service port is accepted for wg20.img, or refused with
  an error. -/
  | tftpWriteRequest (name : Octets) (octet : Bool) (blksize : Option Nat)
/-- XMODEM_RECEIVE (R504): In recovery, an image transfer by XMODEM-1K arrives over the service UART. -/
  | xmodemReceive (octets : Octets)
/-- IMAGE_RECEIVED (R505): A completely received image is checked, then written to the target slot and marked NEW, or
  refused with a reason. -/
  | imageReceived (flashError : Bool)
/-- FW_RESET (R506): A write of OTP_FW_CTRL.RESET makes a power-safe stop and then a warm reset within 100 ms. -/
  | fwReset (func next : Fin 4)
/-- NEXT_SLOT_SELECT (R501): A write of OTP_FW_CTRL.NEXT stores, in the boot control record, the slot that the next start
  tries first. -/
  | nextSlotSelect (func next : Fin 4)
/-- ARCHIVE_MOUNT (R329): The archive reads its anchors, restores or replays its maps, scans the open bands, verifies them
  and sets MOUNTED, or raises ARC_MOUNT_FAIL. -/
  | archiveMount (anchorOk : Bool)
/-- POWER_SAFE_STOP_DONE (R328): The stop completes when every hub has sent STOP_DONE or 10 ms have passed, and ARC_STOPPED
  is raised. -/
  | powerSafeStopDone
/-- TIME_ACQUIRE_TIMEOUT (R368): When ACQ_S elapses without a qualified PTP or RIDGE reference, provisional time starts and
  courses begin. -/
  | timeAcquireTimeout
/-- TIME_SCALE_STEP (R368): When PTP or RIDGE qualifies before courses run, the time scale is stepped to it and SET becomes
  1. -/
  | timeScaleStep (ridge : Bool) (seconds : BitVec 64) (ns : BitVec 32)
/-- SECOND_TICK (R372): At each whole second of the time scale the reference candidates are evaluated, with reversion after
  REVERT_S. -/
  | secondTick
/-- FREQ_MONITOR_WINDOW (R382): At the end of each 1 s window the rate of each candidate is measured against the history,
  and warnings or disqualification follow. -/
  | freqMonitorWindow (ptp pps ridge : Option Int)
/-- PTP_SYNC_RX (R377): A Sync from the chosen master yields an offset θ that feeds the servo. -/
  | ptpSyncRx (port : Fin 16) (m : PtpSync)
/-- PTP_FOLLOW_UP_RX (R377): A Follow_Up delivers the preciseOriginTimestamp of a two-step Sync. -/
  | ptpFollowUpRx (port : Fin 16) (m : PtpFollowUp)
/-- PTP_ANNOUNCE_RX (R375): An Announce feeds the BMCA, the UTC offset and any leap announcement. -/
  | ptpAnnounceRx (port : Fin 16) (m : PtpAnnounce)
/-- PDELAY_REQ_RX (R374): A received Pdelay_Req is answered with a two-step Pdelay_Resp and Pdelay_Resp_Follow_Up. -/
  | pdelayReqRx (port : Fin 16) (requester : BitVec 80) (seq : BitVec 16) (t2 : Int)
/-- PDELAY_RESP_RX (R377): A Pdelay_Resp or its Follow_Up updates the port's meanLinkDelay. -/
  | pdelayRespRx (port : Fin 16) (m : PdelayResp)
/-- PDELAY_REQ_TIMER (R374): Every 1 s each enabled port sends a Pdelay_Req. -/
  | pdelayReqTimer
/-- PTP_UNSUPPORTED_RX (R374): A PTP message of an unsupported kind or of another domain is counted and discarded. -/
  | ptpUnsupportedRx (port : Fin 16)
/-- TX_TIMESTAMP_ENTRY (R378): An egress timestamp enters the port's queue, or is discarded with OVF when the queue is full.
  -/
  | txTimestampEntry (port : Fin 16) (seq : BitVec 16) (stamp : Int)
/-- ANNOUNCE_TIMEOUT (R371): The announce receipt timeout expires and the PTP candidate is lost. -/
  | announceTimeout (port : Fin 16)
/-- SYNC_TIMEOUT (R371): No Sync arrives for 3 Sync intervals and the PTP candidate is lost. -/
  | syncTimeout
/-- PPS_IN_EDGE (R379): A PPS_IN rising edge is timestamped and gives a phase offset. -/
  | ppsInEdge (stamp : Int)
/-- LEAP_SMEAR_START (R366): A leap smear begins 86,400 s before the leap, or at its first announcement when that is later.
  -/
  | leapSmearStart
/-- LEAP_SMEAR_END (R366): The whole leap second has been absorbed and the smear ends. -/
  | leapSmearEnd
/-- COURSE_BOUNDARY (R81): At the barrier that ends each course, the course is closed and the boundary actions take effect;
  the next course starts at the time that R50 fixes. -/
  | courseBoundary
/-- BATTEN_START (R50): A batten begins, and its work set, record quota and flags run. -/
  | battenStart (i : BattenIn)
/-- POST_COMMIT_PASS_DONE (R203): The post-commit pass ends, and the comb and the scrubber resume. -/
  | postCommitPassDone
/-- SHED_STEP_DOWN (R293): After FALL_S seconds in which the margin has held, the shed level falls one step. -/
  | shedStepDown
/-- COMB_PASS_START (R206): A comb pass starts at a second that is a multiple of the comb period, or late when the previous
  pass is unfinished. -/
  | combPassStart
/-- REPLAY_DONE (R462): The replay engine finishes re-executing the differing classes and forms a verdict. -/
  | replayDone (agrees : Option Bool)
/-- ELECTION_CLOSE (R350): The claim window closes at the first boundary at least 10 ms after it opened, and the lowest bid
  wins. -/
  | electionClose
/-- LEASE_LAPSE (R351): The owner's lease lapses without a heartbeat, the owner is fenced and ownership ends. -/
  | leaseLapse
/-- CLAIM (R350): A function bids for ownership or joins an open election. -/
  | claim (c : Cmd) (bid : BitVec 64)
/-- HEARTBEAT (R350): The owner restarts its lease. -/
  | heartbeat (c : Cmd)
/-- HANDOVER (R350): The owner passes ownership to a target function. -/
  | handover (c : Cmd) (target : Byte)
/-- RELEASE (R350): The owner gives up ownership. -/
  | release (c : Cmd)
/-- NOP (R347): A read-class command that returns the current course. -/
  | nop (c : Cmd)
/-- PLAN_LOAD (R73): A plan image is received into the staged buffer and checked under Table 2.13. -/
  | planLoad (c : Cmd) (data : Octets)
/-- TABLE_LOAD (R74): A table image or update batch is staged for epoch E + 1. -/
  | tableLoad (c : Cmd) (kind mode : Byte) (reserved : BitVec 16) (epoch : BitVec 32) (data : Octets)
/-- PLAN_COMMIT (R77): A commit of the staged plan is made pending for a target course. -/
  | planCommit (c : Cmd) (target : BitVec 64)
/-- PLAN_CANCEL (R80): A pending commit is cancelled with ABORTED. -/
  | planCancel (c : Cmd)
/-- METER_LOOKUP (R193): The meter index of an EUI-64 is looked up without setting HIT. -/
  | meterLookup (c : Cmd) (key : BitVec 64)
/-- METER_STATE_READ (R347): Per-meter state records are copied to the host buffer. -/
  | meterStateRead (c : Cmd) (first count : BitVec 32)
/-- METER_STATE_WRITE (R347): The host area is written, or the frame counters or failure marks are cleared. -/
  | meterStateWrite (c : Cmd) (index : BitVec 32) (op : Byte) (data : Octets)
/-- FRAME_SEND (R151): A host payload is sent to a meter over power line or radio and completes with a delivery result. -/
  | frameSend (c : Cmd) (index : BitVec 32) (medium ackReq : Byte) (data : Octets)
/-- IMAGE_PUSH (R248): A tariff or scroll-list image is multicast to target cells with repeats. -/
  | imagePush (c : Cmd) (kind times : Byte) (payloadLen cells : BitVec 16) (data : Octets)
/-- SWITCH_REQ (R431): The owner requests a disconnect or a reconnect of a meter. -/
  | switchReq (c : Cmd) (index : BitVec 32) (action : Byte)
/-- PREPAY_TOPUP (R243): Credit is added to a prepayment meter under a top-up identifier. -/
  | prepayTopup (c : Cmd) (index amount : BitVec 32) (topupId : BitVec 16)
/-- VALLEY_RETRO (R272): A retrospective valley run starts over archived seconds. -/
  | valleyRetro (c : Cmd) (p : RetroParams)
/-- RETRO_RUN_END (R274): A retrospective run ends, writes its summary and completes with a digest. -/
  | retroRunEnd
/-- ARCHIVE_FORMAT (R312): Every present hub is erased and a new archive is written and mounted. -/
  | archiveFormat (c : Cmd) (mode coldOpen spare reserved : Byte) (hotGib : BitVec 32)
/-- ARCHIVE_ADOPT (R311): A hub in state FOREIGN is adopted into the format. -/
  | archiveAdopt (c : Cmd) (hub : Byte)
/-- ARCHIVE_SCAN (R330): Archived records that match are read and delivered to a tile ring. -/
  | archiveScan (c : Cmd) (p : ScanParams)
/-- SCAN_BATCH (R331): A scan sends a batch once its ring has room. -/
  | scanBatch (scan : Fin 8)
/-- ARCHIVE_HOST_READ (R347): Units of the hot HOST region are read into the host buffer. -/
  | archiveHostRead (c : Cmd) (unit count : BitVec 32)
/-- ARCHIVE_HOST_WRITE (R321): Units of the hot HOST region are written. -/
  | archiveHostWrite (c : Cmd) (unit count : BitVec 32) (data : Octets)
/-- KEY_WRITE (R392): A key slot or a verification list entry is loaded in clear or wrapped form. -/
  | keyWrite (c : Cmd) (p : KeyWriteParams) (data : Octets)
/-- KEY_GENERATE (R395): A slot is loaded with DRBG output or with a device-derived key. -/
  | keyGenerate (c : Cmd) (p : KeyGenParams)
/-- KEY_DESTROY (R397): A slot or verification entry is overwritten and emptied. -/
  | keyDestroy (c : Cmd) (target index : Byte)
/-- KEY_ATTEST (R405): A signed attestation statement for a slot is returned. -/
  | keyAttest (c : Cmd) (slot : Byte) (nonce : Octets)
/-- RANDOM_READ (R411): DRBG output is returned to the host. -/
  | randomRead (c : Cmd)
/-- TIME_SET (R385): The time scale is slewed, a held-off candidate is accepted, or a step is stored for reset. -/
  | timeSet (c : Cmd) (mode : Byte) (delta : BitVec 64)
/-- TIME_REF (R386): A reference candidate is forced, selection returns to automatic, or holdover is ordered. -/
  | timeRef (c : Cmd) (op cand : Byte)
/-- SAFE_RESET (R434): The armed safety function leaves LOCKOUT or START by deliberate reset. -/
  | safeReset (c : Cmd) (confirm : BitVec 32)
/-- EVENT_CLEAR (R526): Event records up to a sequence number are removed. -/
  | eventClear (c : Cmd) (upTo : BitVec 64)
/-- LIFECYCLE (R512): A life-cycle transition word is programmed after the key slots are zeroised. -/
  | lifecycle (c : Cmd) (target : Byte) (reserved : BitVec 24) (confirm : BitVec 32)
/-- CAL_WRITE (R484): A calibration generation is programmed into OTP block CAL. -/
  | calWrite (c : Cmd) (data : Octets)
/-- CAL_IN_FORCE (R484): A newly written calibration generation comes into force at the next whole second. -/
  | calInForce
/-- DEFAULTS_WRITE (R513): A DEFAULTS generation is programmed into OTP. -/
  | defaultsWrite (c : Cmd) (data : Octets)
/-- OTP_PROGRAM_DONE (R509): An OTP programming finishes its words and its read-back and reports its result. -/
  | otpProgramDone (differs : Bool) (word : BitVec 32)
/-- DOORBELL_WRITE (R341): A doorbell write sets a new ring index, or is ignored, or puts the ring into ERROR. -/
  | doorbellWrite (func : Fin 4) (offset : BitVec 20) (eight : Bool) (value : BitVec 64)
/-- DESCRIPTOR_PREFETCH (R345): A descriptor is prefetched once its completion ring has a slot to reserve, and accepted in
  ring order. -/
  | descriptorPrefetch (func : Fin 4) (ring : Fin 256) (octets : Octets)
/-- RING_ENABLE (R355): A disabled idle ring is enabled with its indexes at 0 and ERROR cleared. -/
  | ringEnable (func : Fin 4)
/-- RING_DISABLE (R355): A ring stops prefetching or writing and drains to IDLE. -/
  | ringDisable (func : Fin 4)
/-- RING_ABORT (R356): The cached descriptors of a disabled COMMAND ring are discarded with ABORTED. -/
  | ringAbort (func : Fin 4) (enable : Bool)
/-- DROPS_WRITEBACK (R340): Within 100 µs of a drop, the write-back word is rewritten with the new DROPS. -/
  | dropsWriteback (func : Fin 4) (ring : Fin 256)
/-- MSIX_MODERATION_EXPIRY (R360): The moderation interval of a ring ends and one message covers its write-backs. -/
  | msixModerationExpiry (func : Fin 4) (ring : Fin 256)
/-- FENCE_LINK_DOWN (R357): A function's link reports Data Link Layer down and the function is fenced. -/
  | fenceLinkDown (func : Fin 4) (holds : Bool)
/-- FENCE_FLR (R357): A function level reset fences the function and resets its per-function registers. -/
  | fenceFlr (func : Fin 4) (holds : Bool)
/-- FENCE_MASTER_CLEAR (R357): Clearing Bus Master Enable fences the function. -/
  | fenceMasterClear (func : Fin 4) (holds : Bool)
/-- FENCE_D3HOT (R357): A function that enters D3hot is fenced. -/
  | fenceD3hot (func : Fin 4) (holds : Bool)
/-- FENCE_DMA_ERROR (R357): A descriptor fetch, entry write or write-back ends in error and fences the function. -/
  | fenceDmaError (func : Fin 4)
/-- PCIE_PERST (R555): PCIE_PERST_N low holds a link in fundamental reset and fences its function. -/
  | pciePerst (link : Fin 4) (low : Bool)
/-- FENCE_OWNER_CMD (R357): The owner writes HST_FENCE_CMD to fence other functions. -/
  | fenceOwnerCmd (func : Fin 4) (mask : BitVec 4)
/-- UNFENCE (R359): A function writes UNFENCE and is unfenced when no hardware cause holds. -/
  | unfence (func : Fin 4)
/-- DATA_DMA_ERROR (R357): A data buffer transfer fails and the command completes with HW_FAULT without a fence. -/
  | dataDmaError (func : Fin 4) (ring : Fin 256)
/-- WSW_STICKY_CLEAR (R354): Writing 1 to STICKY clears the wrong-state write capture. -/
  | wswStickyClear (func : Fin 4)
/-- REGISTER_WRITE (R14): A register write without a behaviour of its own is judged as a whole under the access types and
  ownership. -/
  | registerWrite (func : Fin 4) (offset : BitVec 22) (bytes : Fin 17) (value : Word)
/-- LO_READ_LATCH (R16): A read of a _LO word latches the _HI word for the reading function. -/
  | loReadLatch (func : Fin 4) (offset : BitVec 22)
/-- LO_WRITE_HOLD (R17): An accepted _LO write replaces the held value of its function. -/
  | loWriteHold (func : Fin 4) (offset : BitVec 22) (value : Word)
/-- HI_WRITE_APPLY (R17): An accepted _HI write applies both halves in one step. -/
  | hiWriteApply (func : Fin 4) (offset : BitVec 22) (value : Word)
/-- COUNTER_READ_CLEAR (R15): A read of an RC field returns its value and clears it. -/
  | counterReadClear (func : Fin 4) (offset : BitVec 22) (bytes : Fin 17)
/-- STOPPED_ACCESS_RESUME (R543): An access held in a block with a stopped clock completes when the clock runs again. -/
  | stoppedAccessResume (func : Fin 4)
/-- CROSSING_RESET (R542): One side of a crossing is reset, both sides enter reset together, and live-side accesses fail. -/
  | crossingReset (block : Fin 22) (accesses : List LiveAccess)
/-- BLOCK_DISABLE (R43): A write of ENABLE = 0 stops intake at the boundary and lets in-flight items run to their end. -/
  | blockDisable (func : Fin 4) (block : Fin 22)
/-- BLOCK_ENABLE (R45): A write of ENABLE = 1 while IDLE reads 1 resumes intake at the next boundary. -/
  | blockEnable (func : Fin 4) (block : Fin 22)
/-- BLOCK_ABORT (R44): An ABORT on a disabled block discards in-flight items and completes outstanding commands ABORTED. -/
  | blockAbort (func : Fin 4) (block : Fin 22) (enable : Bool)
/-- BLOCK_DRAIN_DONE (R43): The last in-flight item ends, IDLE is set and the idle event is raised. -/
  | blockDrainDone (block : Fin 22)
/-- PROFILE_WRITE (R38): A preset is loaded and every override of the block is cleared. -/
  | profileWrite (func : Fin 4) (block : Fin 22) (code : Byte)
/-- EXPERT_ENABLE_WRITE (R39): GLB_EXPERT_EN.EN takes its value when the write completes. -/
  | expertEnableWrite (func : Fin 4) (on : Bool)
/-- STAGE_SEAL_WRITE (R76): Writing SEAL closes staging to further table loads. -/
  | stageSealWrite (func : Fin 4) (sealed : Bool)
/-- HASH_SEED_WRITE (R190): The meter table seeds are written while the table is empty and retested at the boundary. -/
  | hashSeedWrite (func : Fin 4) (second : Bool) (seed : Word)
/-- SHADOW_ENABLE (R211): The shadow address and EN are set and the scrubber runs. -/
  | shadowEnable (func : Fin 4) (low high : Word)
/-- BILL_RES_WRITE (R240): The register resolution RES is written under the seal while the table is empty. -/
  | billResWrite (func : Fin 4) (res : Fin 4)
/-- TAMPER_CFG_WRITE (R491): TMP_CFG is written and CFG_CHANGED is recorded. -/
  | tamperCfgWrite (func : Fin 4) (pol en : BitVec 4)
/-- LANE_MODE_WRITE (R561): A change of LANE_ELEC_CFG.MODE retrains the group at the boundary. -/
  | laneModeWrite (func : Fin 4) (group : Fin 40) (mode : Fin 4)
/-- SAFE_OTP_PROGRAM (R437): Writing SAF_OTP.PROGRAM programs a safety generation from the staged values. -/
  | safeOtpProgram (func : Fin 4)
/-- SWITCHOVER (R446): The active and the standby unit exchange roles two boundaries later. -/
  | switchover (func : Fin 4)
/-- REJOIN (R465): The owner of a HOLD unit requests a join. -/
  | rejoin (func : Fin 4)
/-- EVT_CURSOR_WRITE (R525): The window cursor moves, cancelling or starting fetches. -/
  | evtCursorWrite (func : Fin 4) (high : BitVec 32)
/-- EVT_WINDOW_LATCH (R525): A read of word 0 of a window record latches its other words. -/
  | evtWindowLatch (func position : Fin 4)
/-- WINDOW_FETCH_DONE (R525): A spilled unit has been loaded and its records are shown. -/
  | windowFetchDone (func : Fin 4)
/-- LANE_GROUP_TRAINED (R34): A group whose role changed completes training in its new role. -/
  | laneGroupTrained (group : Fin 40) (kr : Bool)
/-- LANE_TRAIN_TIMEOUT (R34): A group is not trained within 100 ms. -/
  | laneTrainTimeout (group : Fin 40)
/-- BLOCK_LOCK_CHANGE (R579): A lane loses or regains PCS block lock. -/
  | blockLockChange (lane : Fin 320) (lock hiBer : Bool) (errored : BitVec 32)
/-- REFCLK_CHANGE (R571): An LREFCLK moves out of or back into tolerance. -/
  | refclkChange (clock : Fin 5) (ok : Bool)
/-- KR_TRAINING_TIMEOUT (R561): No KR training frame arrives in 500 ms, so the lane falls back to SFI. -/
  | krTrainingTimeout (lane : Fin 320)
/-- KR_RETRY (R561): After 1 s without block lock, the lane tries KR again. -/
  | krRetry (lane : Fin 320)
/-- SUBFRAME_TX (R92): A unit originates a sub-frame 0.5 µs after the start of each interval. -/
  | subframeTx (lane : Fin 320) (sf : BitVec 48) (down : List DownElement)
/-- SUBFRAME_RX (R94): A sub-frame arrives and its elements are checked and demultiplexed. -/
  | subframeRx (lane : Fin 320) (octets : Octets) (inTime : BitVec 16)
/-- HELLO_RX (R105): An eave HELLO is matched against the plan and ranging begins, or MISMATCH is set. -/
  | helloRx (lane : Fin 320) (position : Fin 32) (message : Octets)
/-- RANGE_RSP_RX (R106): A ranging response gives the one-way delay, and a DELAY message may follow. -/
  | rangeRspRx (lane : Fin 320) (position : Fin 32) (rtt : BitVec 32) (message : Octets)
/-- STATUS_RX (R103): An eave STATUS message updates alarms and acknowledges down messages. -/
  | statusRx (lane : Fin 320) (position : Fin 32) (message : Octets)
/-- EAVE_LOST_TIMEOUT (R103): A mapped eave sends no valid up message for 64 slots, and LOST is set. -/
  | eaveLostTimeout (lane : Fin 320) (position : Fin 32)
/-- RANGING_INTERVAL (R106): Every INTERVAL ms each eave is ranged again. -/
  | rangingInterval
/-- SLOT_MAP_APPLY (R108): APPLY_SF is reached; the eave becomes MAPPED, or MAP_LATE is raised. -/
  | slotMapApply (lane : Fin 320) (position : Fin 32)
/-- PLC_FRAME_RX (R131): A decoded power-line frame is checked, acknowledged when owed, and passed on. -/
  | plcFrameRx (f : PlcFrame)
/-- PLC_ACK_RX (R133): An acknowledgement from the addressed neighbour ends the attempt ACKED. -/
  | plcAckRx (cell : Fin 32768) (source : BitVec 16) (ackEnd : Nat)
/-- PLC_ACK_WAIT_EXPIRY (R133): ACK_WAIT expires without an acknowledgement; the frame is retried or ends NO_ACK. -/
  | plcAckWaitExpiry (cell : Fin 32768)
/-- TONE_MAP_RESPONSE_RX (R136): A neighbour's tone-map response is stored or discarded. -/
  | toneMapResponseRx (r : ToneResponse)
/-- LBP_JOINING_RX (R140): A join request is tested and EAP-PSK starts, or the join is refused. -/
  | lbpJoiningRx (cell : Fin 32768) (eui : BitVec 64)
/-- EAP_PSK_COMPLETE (R140): A join exchange completes; the short address and GMK are delivered and JOINED is set. -/
  | eapPskComplete (cell : Fin 32768) (eui : BitVec 64) (ok : Bool)
/-- ROUTE_REQUEST_RX (R146): A route request to 0000h opens or joins a collection. -/
  | routeRequestRx (cell : Fin 32768) (ask : RouteAsk) (neighbour cost : BitVec 16) (hops : Byte)
/-- RREP_WAIT_EXPIRY (R146): After RREP_WAIT ms, one route reply is sent towards the best copy. -/
  | rrepWaitExpiry (cell : Fin 32768) (ask : RouteAsk)
/-- ROUTE_ERROR_RX (R145): A LOADng route error sets ROUTE_FAIL on a destination. -/
  | routeErrorRx (cell : Fin 32768) (dest : BitVec 16)
/-- BEACON_REQUEST_RX (R146): A beacon request makes a beacon owed. -/
  | beaconRequestRx (cell : Fin 32768)
/-- PAN_CONFLICT_RX (R147): A G3 PAN ID conflict notification is reported. -/
  | panConflictRx (cell : Fin 32768)
/-- FAIL_MARK_EXPIRY (R145): FAIL_UNTIL is reached and a meter's failure marks clear. -/
  | failMarkExpiry (index : BitVec 20)
/-- REASSEMBLY_TIMEOUT (R152): An open datagram not completed within 60 s is discarded. -/
  | reassemblyTimeout (cell : Fin 32768)
/-- GMK_SWITCH (R142): A cell switches to the new GMK index when every meter has confirmed or 600 s have passed. -/
  | gmkSwitch (cell : Fin 32768) (confirmed : Bool)
/-- RAD_FRAME_RX (R167): A decoded radio frame is checked, Enh-Acked when owed, authenticated and passed on. -/
  | radFrameRx (f : RadFrame)
/-- ENH_ACK_RX (R169): A matching Enh-Ack ends the attempt ACKED and re-learns the CSL timing. -/
  | enhAckRx (cell : Fin 32768) (dsn : Byte) (span : AckSpan) (csl : Option (Nat × Nat))
/-- RAD_ACK_WAIT_EXPIRY (R169): ACK_WAIT expires without an Enh-Ack; the frame is retried or ends NO_ACK. -/
  | radAckWaitExpiry (cell : Fin 32768)
/-- ASSOC_REQUEST_RX (R173): An association request is tested and a short address is assigned, or the request is refused. -/
  | assocRequestRx (cell : Fin 32768) (eui : BitVec 64)
/-- DATA_REQUEST_RX (R175): A data request from a pending requester queues its association response. -/
  | dataRequestRx (cell : Fin 32768) (eui : BitVec 64)
/-- PENDING_EXPIRY (R175): A pending-list entry not collected within 5 s is dropped and its address released. -/
  | pendingExpiry (cell : Fin 32768) (eui : BitVec 64)
/-- DISASSOC_NOTIFY_RX (R174): A disassociation notification releases the meter's association. -/
  | disassocNotifyRx (cell : Fin 32768) (eui : BitVec 64)
/-- CHAIN_FAULT_TIMER (R187): One chain's samples have been invalid for 60 s while the other's have not. -/
  | chainFaultTimer (cell : Fin 32768)
/-- YELM_ARRIVAL (R224): A decoded yelm enters the record engine's queue in arrival order. -/
  | yelmArrival
/-- SWITCH_RESULT_RX (R244): The delivery result of a disconnect or reconnect request returns to the record engine. -/
  | switchResultRx
/-- STAGING_BOUND_CHANGE (R295): Tile staging reaches or leaves its 300 s bound. -/
  | stagingBoundChange
/-- PACKET_ADMIT (R283): The switch core decides admission of a packet at its first cell. -/
  | packetAdmit (port : Fin 64) (cls : Fin 8) (bytes : Fin 16385)
/-- OVERFLOW_READ_RETURN (R287): A cell read back from DRAM enters its queue's resequencer. -/
  | overflowReadReturn (packet cells : BitVec 32)
/-- DRAM_READ_TIMEOUT (R288): An overflow read that errs or times out drops its packet whole. -/
  | dramReadTimeout (packet : BitVec 32)
/-- OVERFLOW_SHRINK_DONE (R289): The occupancy falls to a smaller region size, which then takes effect. -/
  | overflowShrinkDone
/-- SLATE_HELLO_RX (R308): A hub HELLO in the current epoch begins its return to UP. -/
  | slateHelloRx (h : SlateHdr)
/-- SLATE_GEOMETRY_RX (R310): A hub GEOMETRY is checked against the format; the hub goes UP or FOREIGN. -/
  | slateGeometryRx (h : SlateHdr) (payload : Octets)
/-- SLATE_CREDIT_RX (R307): A CREDIT raises the hub's command and write-buffer limits. -/
  | slateCreditRx (h : SlateHdr) (cmdLimit wbufLimit : BitVec 32)
/-- SLATE_CPL_RX (R305): A completion of a die operation arrives from a hub. -/
  | slateCplRx (h : SlateHdr) (tag : BitVec 16) (status : Byte) (data : Octets)
/-- BAND_VERIFY_DONE (R323): The read-back of a closed band ends; failed pages are rebuilt and the parity slot freed. -/
  | bandVerifyDone (band : BitVec 32) (failed : List Nat)
/-- SLATE_STOP_DONE_RX (R308): A hub reports that it has stopped after STOP. -/
  | slateStopDoneRx (h : SlateHdr)
/-- SLATE_RESEND_TIMER (R306): ACK has not advanced for 100 µs, so unacknowledged frames are resent. -/
  | slateResendTimer (hub : Fin 128)
/-- CREDIT_TIMEOUT (R309): A command waits for credit beyond CREDIT_TO and the hub is revoked. -/
  | creditTimeout (hub : Fin 128)
/-- CMD_TIMEOUT (R309): A command outstanding beyond CMD_TO revokes the hub. -/
  | cmdTimeout (hub : Fin 128)
/-- HUB_LINK_LOST (R309): No block lock for 100 µs revokes the hub. -/
  | hubLinkLost (hub : Fin 128)
/-- HUB_HELLO_TIMER (R309): A revoked hub is sent HELLO every 1 ms. -/
  | hubHelloTimer (hub : Fin 128)
/-- HUB_LOST_TIMEOUT (R310): A revoked hub that does not answer within LOST_S becomes LOST. -/
  | hubLostTimeout (hub : Fin 128)
/-- CHECKPOINT_TIMER (R321): Every CKPT_S a per-meter checkpoint and an anchor are written. -/
  | checkpointTimer
/-- HOT_GC (R321): With fewer than 3 free hot bands, collection moves the valid units of one band. -/
  | hotGc
/-- SCRUB_BLOCK_READ (R212): The scrubber reads a 4 KiB shadow block and compares it with the table. -/
  | scrubBlockRead (failed : Bool) (block : Octets)
/-- SCRUB_CONFIRM (R213): After CONFIRM × 100 ms a mismatch is rechecked, and then confirmed or discarded. -/
  | scrubConfirm (slot : BitVec 22) (failed : Bool) (octets : Octets)
/-- ENTROPY_SAMPLE (R408): A noise sample passes or fails the health tests and may move the entropy state. -/
  | entropySample (sample : Byte)
/-- DRBG_RESEED (R409): The DRBG reseeds after 2^20 requests or 1 s. -/
  | drbgReseed
/-- SAFETY_INPUT_SAMPLE (R419): Each safety channel samples its inputs every 100 µs and updates demand and the seal. -/
  | safetyInputSample (isoA isoB : BitVec 16) (esiA esiB sealA sealB : Bool)
/-- INPUT_DISCREPANCY_TIMEOUT (R419): The channels of a used input differ for DISC × 10 ms, which is fault 01h. -/
  | inputDiscrepancyTimeout (input : Fin 17)
/-- SEAL_DISCREPANCY_TIMEOUT (R420): The seal channels differ for more than 1 s. -/
  | sealDiscrepancyTimeout
/-- CHANNEL_EXCHANGE (R416): Every 0.5 ms the two channels exchange and compare their state, causes, inputs and grants. -/
  | channelExchange (differ readbackBad : Bool)
/-- SAFETY_FAULT (R432): A detected fault enters LOCKOUT, turns SWP off, blanks egress and discards telegrams. -/
  | safetyFault (code : Byte) (spar : Bool)
/-- SAFETY_SELF_TEST_DONE (R418): Both channels finish their self-tests after release, or enter LOCKOUT. -/
  | safetySelfTestDone (code : Byte) (spar : Bool)
/-- SAFE_RST_PULSE (R434): A SAFE_RST_N pulse of 50 ms to 2 s arms the function for 10 s. -/
  | safeRstPulse (ms : BitVec 16)
/-- ARM_LAPSE (R434): Arming ends unused after 10 s. -/
  | armLapse
/-- TELEGRAM_EXPIRY (R427): A telegram that cannot start an attempt before DEADLINE ends CHANNEL_ACCESS. -/
  | telegramExpiry (id : BitVec 32)
/-- PAIR_DISAGREE_TIMEOUT (R423): The own grants of the two units differ for more than 1 s. -/
  | pairDisagreeTimeout
/-- RIDGE_HELLO_RX (R466): A partner HELLO is checked for compatibility and drives start-up and joining. -/
  | ridgeHelloRx (h : RidgeHdr) (m : RidgeHello)
/-- RIDGE_CLAIM_RX (R468): A partner CLAIM during simultaneous start decides the election. -/
  | ridgeClaimRx (h : RidgeHdr) (serial : BitVec 64)
/-- CLAIM_BACKOFF_TIMER (R468): After its random wait, a unit sends CLAIM unless it has received one. -/
  | claimBackoffTimer
/-- RIDGE_CX_RX (R453): The partner's course exchange arrives with its digests, verdict and log. -/
  | ridgeCxRx (h : RidgeHdr) (arrival : BitVec 64) (x : RidgeCx)
/-- RIDGE_ERASE_RX (R456): The partner's erasure map for a capture batten arrives. -/
  | ridgeEraseRx (h : RidgeHdr) (course : BitVec 64) (batten : Fin 16) (masks : List (BitVec 32)) (late : Bool)
/-- RIDGE_BULK_RX (R449): A bulk object part arrives: command data, confirmation, event, join block or superblock. -/
  | ridgeBulkRx (h : RidgeHdr) (kind : Byte) (object offset total : BitVec 32) (octets : Octets)
/-- RIDGE_RESEND_TIMER (R449): Unacknowledged bulk frames are resent, and the link goes down at the eighth resend. -/
  | ridgeResendTimer
/-- RIDGE_HELLO_TIMER (R448): A unit sends HELLO every 1 ms while it sends no CX. -/
  | ridgeHelloTimer
/-- RIDGE_LINK_TIMEOUT (R447): No valid real-time frame for LINK_TO courses, and the ridge goes down. -/
  | ridgeLinkTimeout
/-- PARTNER_WAIT_TIMEOUT (R469): No partner after WAIT_S, so courses start with MARK 0 for 2 courses. -/
  | partnerWaitTimeout
/-- ALONE_DECISION (R469): After 2 courses with MARK 0 the unit becomes ALONE or STANDBY. -/
  | aloneDecision
/-- SPLIT_RESOLVE (R470): When the ridge comes up with both units ALONE, the unit with fewer eaves is demoted. -/
  | splitResolve
/-- JOIN_REQUEST (R472): The active unit accepts a join and starts sending the replicated state. -/
  | joinRequest
/-- JOIN_TIMEOUT (R472): A join not finished within 30 s leaves the unit in HOLD with JOIN_FAIL. -/
  | joinTimeout
/-- CATCHUP_DONE (R474): The copy of superblocks after a join or a split completes. -/
  | catchupDone
/-- MET_CONVERSION (R477): All eight channels convert at each 125 µs instant and produce flagged samples. -/
  | metConversion (second : BitVec 64) (codes : List Int) (beyond : BitVec 8) (missed : Bool)
/-- MET_SECOND_RECORD (R485): A station second record is formed within 10 ms after each second and logged. -/
  | metSecondRecord
/-- TAMPER_SAMPLE (R491): The soffit domain samples the TAMP inputs every 1 ms and records changes. -/
  | tamperSample (levels : BitVec 4)
/-- MAIN_POWER_OFF (R492): Main power falls below its reset level and MAIN_OFF is recorded. -/
  | mainPowerOff
/-- MAIN_POWER_ON (R492): Main power returns and MAIN_ON is recorded. -/
  | mainPowerOn
/-- VBAT_CHECK (R492): VBAT is checked once per second and VBAT_LOW is recorded below 2.2 V. -/
  | vbatCheck (low : Bool)
/-- SOFFIT_START (R490): The soffit domain starts without retained content, clears the log and writes SOFFIT_START. -/
  | soffitStart
/-- TEMPERATURE_READ (R527): The 16 sensors are read every 1 ms, faulty sensors are excluded and T_J is formed. -/
  | temperatureRead (readings : List Int)
/-- THERMAL_RESTART (R529): After 10 s below 105 °C, a warm reset follows when AUTO_RESTART is 1. -/
  | thermalRestart
/-- SUPPLY_SAMPLE (R531): The 24 supply points are sampled every 1 µs and warnings are set or cleared. -/
  | supplySample (mv : List Nat)
/-- OTP_SUPPLY_SETTLED (R511): The supply has stayed above its warning level for 10 ms, and OTP programming is allowed
  again. -/
  | otpSupplySettled
/-- PROCESS_MONITOR (R533): Each ring oscillator is counted once per second and drift is reported. -/
  | processMonitor (counts : List Nat)
/-- FIFO_PUSH (R535): A producer pushes into a FIFO, or is ignored with OVERRUN when FULL reads 1. -/
  | fifoPush (block : Fin 22) (fifo : Byte) (full : Bool) (entry : Octets) (last : Bool)
/-- FIFO_POP (R535): A consumer pops from a FIFO, or is ignored with UNDERRUN when EMPTY reads 1. -/
  | fifoPop (block : Fin 22) (fifo : Byte) (empty : Bool)
/-- FIFO_DROP (R538): The consumer drops the rest of the item it is reading. -/
  | fifoDrop (block : Fin 22) (fifo : Byte)
/-- FIFO_FLUSH (R539): A flush discards every committed item, and the producer abandons its partial item. -/
  | fifoFlush (block : Fin 22) (fifo : Byte)
/-- PATROL_SCRUB (R565): A patrol scrub reads DRAM and counts corrected or uncorrectable errors. -/
  | patrolScrub (error : Option DdrError)
/-- DDR_DEVICE_HOT (R581): A DRAM device reports above 85 °C and its refresh interval is halved. -/
  | ddrDeviceHot (channel : Fin 4)
/-- COMMAND_DATA_FETCHED (R346): The DMA read of a write-class command's data buffer and scatter list completes in full, so
  the command may be accepted and enter the input log. -/
  | commandDataFetched (func : Fin 4) (ring : Fin 256) (sgl : List ScatterEntry) (data : Octets)
/-- SLATE_NOP_RX (R306): A NOP arrives from a hub carrying only ACK, or a slate frame arrives that is discarded for a failed
  FCS or a wrong epoch and counted in ARC_FCS_ERR_COUNT. -/
  | slateNopRx (h : SlateHdr) (type : Byte) (fcsBad : Bool)
/-- RIDGE_NOP_RX (R448): A ridge NOP arrives carrying ACK, or a ridge frame is discarded for a failed FCS or a wrong epoch
  and counted in RDG_FCS_ERR_COUNT. -/
  | ridgeNopRx (h : RidgeHdr)
/-- ACK_NOP_TIMER (R306): A slate or ridge receiver that has nothing else to send sends a NOP within 20 µs so that its ACK
  reaches the sender. -/
  | ackNopTimer (hub : Option (Fin 128))
/-- LEASE_SHORT_WARNING (R351): LEASE_LEFT falls below 50 ms and HST_LEASE_SHORT is raised, at most once per lease period.
  -/
  | leaseShortWarning
/-- SVC_LINK_CHANGE (R519): The service port link goes up or down, OTP_SVC_STATUS.LINK changes and OTP_SVC_LINK is raised.
  -/
  | svcLinkChange (up : Bool)
/-- SVC_ARP_ICMP_RX (R504): An ARP request or ICMP echo request arrives at the service port and is answered. -/
  | svcArpIcmpRx (icmp : Bool) (target : BitVec 32) (data : Octets)
/-- TFTP_DATA_RX (R504): A TFTP DATA block of a running image transfer arrives at the service port and is stored and
  acknowledged. -/
  | tftpDataRx (block : BitVec 16) (data : Octets)
/-- MIRROR_OBJECT_EXPIRY (R457): A mirrored command-data object held by the standby unit for 10 s without its logged command
  taking effect is discarded. -/
  | mirrorObjectExpiry (object : BitVec 32)
/-- FORMAT_HUB_TIMEOUT (R312): A present hub that has not reached UP within 10 s of an ARCHIVE_FORMAT makes the format
  complete with HW_FAULT. -/
  | formatHubTimeout
/-- SAFE_RST_STUCK (R434): SAFE_RST_N stays low for more than 2 s, the pulse is ignored and SAF_RST_STUCK is raised. -/
  | safeRstStuck
deriving DecidableEq, Repr

end Sys2Proof
end

