-- ==== Sys2Proof/Machine/Maps.lean ====
section
/-!
DEFINITION. Machine/Maps.lean: sparse arrays and octet strings. An array of the device (registers, rings, slots, records) is a
list of (index, value) pairs with strictly rising indexes that lists no entry equal to the array's default, so that equal
arrays are equal data.
-/

namespace Sys2Proof.Machine

/-- A sparse array: the listed entries, indexes strictly rising; every other index holds the array's default. -/
abbrev FMap (α : Type) := List (Nat × α)

/-- The value at index `k`, or `d` where none is listed. -/
def FMap.get {α : Type} (d : α) : FMap α → Nat → α
  | [], _ => d
  | (i, v) :: m, k => if i = k then v else FMap.get d m k

/-- The array without its entry at `k`. -/
def FMap.erase {α : Type} : FMap α → Nat → FMap α
  | [], _ => []
  | (i, v) :: m, k => if i = k then FMap.erase m k else (i, v) :: FMap.erase m k

/-- Places `(k, v)` before the first index above `k`. -/
def FMap.place {α : Type} : FMap α → Nat → α → FMap α
  | [], k, v => [(k, v)]
  | (i, w) :: m, k, v => if k < i then (k, v) :: (i, w) :: m else (i, w) :: FMap.place m k v

/-- Writes `v` at `k`; writing the default `d` removes the entry. -/
def FMap.set {α : Type} [DecidableEq α] (d : α) (m : FMap α) (k : Nat) (v : α) : FMap α :=
  if v = d then FMap.erase m k else FMap.place (FMap.erase m k) k v

/-- Applies `f` to every listed entry, dropping those that become the default. -/
def FMap.mapVals {α : Type} [DecidableEq α] (d : α) (f : Nat → α → α) (m : FMap α) : FMap α :=
  m.filterMap fun p => let v := f p.1 p.2; if v = d then none else some (p.1, v)

/-- Indexes strictly rising from above `lo`. -/
def FMap.risingFrom {α : Type} : Nat → FMap α → Bool
  | _, [] => true
  | lo, (i, _) :: m => decide (lo ≤ i) && FMap.risingFrom (i + 1) m

/-- The canonical form: indexes strictly rising, no entry equal to the default. -/
def FMap.wf {α : Type} [DecidableEq α] (d : α) (m : FMap α) : Bool :=
  FMap.risingFrom 0 m && m.all fun p => decide (p.2 ≠ d)

/-- `n` as `k` octets, least significant first (R7). -/
def le : Nat → Nat → Octets
  | 0, _ => []
  | k + 1, n => BitVec.ofNat 8 n :: le k (n / 256)

/-- `n` as `k` octets, most significant first (R8). -/
def be (k n : Nat) : Octets := (le k n).reverse

/-- The number that octets spell, least significant first (R7). -/
def unLe : Octets → Nat
  | [] => 0
  | b :: bs => b.toNat + 256 * unLe bs

/-- The number that octets spell, most significant first (R8). -/
def unBe (bs : Octets) : Nat := unLe bs.reverse

/-- `k` octets from offset `o`. -/
def slice (bs : Octets) (o k : Nat) : Octets := (bs.drop o).take k

/-- The little-endian number in `k` octets at offset `o` (R7). -/
def leAt (bs : Octets) (o k : Nat) : Nat := unLe (slice bs o k)

/-- The big-endian number in `k` octets at offset `o` (R8). -/
def beAt (bs : Octets) (o k : Nat) : Nat := unBe (slice bs o k)

/-- `k` octets 00h. -/
def zeros (k : Nat) : Octets := List.replicate k 0

/-- Octets padded with 00h to length `k`. -/
def padTo (k : Nat) (bs : Octets) : Octets := (bs ++ zeros (k - bs.length)).take k

/-- True when every octet is 00h. -/
def allZero (bs : Octets) : Bool := bs.all (· == 0)

/-- Bits [hi:lo] of a number (R9). -/
def bitsOf (hi lo n : Nat) : Nat := n / 2 ^ lo % 2 ^ (hi + 1 - lo)

/-- Bit `i` of a number. -/
def bitOf (i n : Nat) : Bool := n / 2 ^ i % 2 == 1

/-- `n` with bits [hi:lo] replaced by `v`. -/
def putBits (hi lo n v : Nat) : Nat :=
  n / 2 ^ (hi + 1) * 2 ^ (hi + 1) + v % 2 ^ (hi + 1 - lo) * 2 ^ lo + n % 2 ^ lo

/-- A truth value as a bit. -/
def b2n (b : Bool) : Nat := if b then 1 else 0

/-- A `w`-bit field read as two's complement (R5). -/
def signed (w n : Nat) : Int :=
  let m := n % 2 ^ w
  if m < 2 ^ (w - 1) then (m : Int) else (m : Int) - (2 ^ w : Nat)

/-- An integer as a `w`-bit two's complement field (R5). -/
def unsigned (w : Nat) (i : Int) : Nat := (i % ((2 ^ w : Nat) : Int)).toNat

/-- `x` kept within `lo` to `hi`. -/
def clampInt (lo hi x : Int) : Int := if x < lo then lo else if hi < x then hi else x

end Sys2Proof.Machine
end

