-- ==== Sys2Proof/Machine/Crypto.lean ====
section
/-!
DEFINITION. Machine/Crypto.lean: the published check and cipher functions the spec names: CRC-16 of R97, CRC-32 and CRC32C,
SHA-256 (FIPS 180-4), AES (FIPS 197), AES-CMAC, the KDF of R400 (SP 800-108 in counter mode), AES-KW (SP 800-38F),
AES-GCM, P-256 and ECDSA (FIPS 186-5). Octet strings are lists of octets.
-/

namespace Sys2Proof.Machine

/-! ### Cyclic redundancy checks -/

/-- One octet into a CRC-16 with polynomial 1021h, most significant bit first. -/
def crc16Octet (crc : Nat) (b : Byte) : Nat :=
  (List.range 8).foldl (fun c _ => if c < 0x8000 then c * 2 else (c * 2 % 0x10000) ^^^ 0x1021)
    (crc ^^^ (b.toNat * 256))

/-- CRC-16 of R97: polynomial 1021h, initial value FFFFh, no reflection, no final exclusive-OR. -/
def crc16 (bs : Octets) : Nat := bs.foldl crc16Octet 0xFFFF

/-- One octet into a reflected 32-bit CRC with the reversed polynomial `poly`. -/
def crc32Octet (poly crc : Nat) (b : Byte) : Nat :=
  (List.range 8).foldl (fun c _ => if c % 2 = 1 then (c / 2) ^^^ poly else c / 2) (crc ^^^ b.toNat)

/-- A reflected 32-bit CRC, initial value and final exclusive-OR FFFFFFFFh. -/
def crc32With (poly : Nat) (bs : Octets) : Nat := bs.foldl (crc32Octet poly) 0xFFFFFFFF ^^^ 0xFFFFFFFF

/-- CRC-32 of IEEE 802.3 (polynomial 04C11DB7h, reflected). -/
def crc32 (bs : Octets) : Nat := crc32With 0xEDB88320 bs

/-- One octet into a CRC-32 with polynomial `poly`, most significant bit first. -/
def crc32Msb (poly crc : Nat) (b : Byte) : Nat :=
  (List.range 8).foldl (fun c _ => if 2 ^ 31 ≤ c then (2 * c % 2 ^ 32) ^^^ poly else 2 * c) (crc ^^^ (b.toNat * 2 ^ 24))

/-- SCHECK of R426: polynomial 741B8CD7h, not reflected, initial value and final exclusive-OR FFFFFFFFh. -/
def scheck (bs : Octets) : Nat := bs.foldl (crc32Msb 0x741B8CD7) 0xFFFFFFFF ^^^ 0xFFFFFFFF

/-- CRC32C (Castagnoli polynomial, reflected). -/
def crc32c (bs : Octets) : Nat := crc32With 0x82F63B78 bs

/-! ### SHA-256 (FIPS 180-4) -/

/-- The round constants of SHA-256. -/
def sha256K : List Nat :=
  [0x428A2F98, 0x71374491, 0xB5C0FBCF, 0xE9B5DBA5, 0x3956C25B, 0x59F111F1, 0x923F82A4, 0xAB1C5ED5,
   0xD807AA98, 0x12835B01, 0x243185BE, 0x550C7DC3, 0x72BE5D74, 0x80DEB1FE, 0x9BDC06A7, 0xC19BF174,
   0xE49B69C1, 0xEFBE4786, 0x0FC19DC6, 0x240CA1CC, 0x2DE92C6F, 0x4A7484AA, 0x5CB0A9DC, 0x76F988DA,
   0x983E5152, 0xA831C66D, 0xB00327C8, 0xBF597FC7, 0xC6E00BF3, 0xD5A79147, 0x06CA6351, 0x14292967,
   0x27B70A85, 0x2E1B2138, 0x4D2C6DFC, 0x53380D13, 0x650A7354, 0x766A0ABB, 0x81C2C92E, 0x92722C85,
   0xA2BFE8A1, 0xA81A664B, 0xC24B8B70, 0xC76C51A3, 0xD192E819, 0xD6990624, 0xF40E3585, 0x106AA070,
   0x19A4C116, 0x1E376C08, 0x2748774C, 0x34B0BCB5, 0x391C0CB3, 0x4ED8AA4A, 0x5B9CCA4F, 0x682E6FF3,
   0x748F82EE, 0x78A5636F, 0x84C87814, 0x8CC70208, 0x90BEFFFA, 0xA4506CEB, 0xBEF9A3F7, 0xC67178F2]

/-- The initial hash value of SHA-256. -/
def sha256Init : List Nat := [0x6A09E667, 0xBB67AE85, 0x3C6EF372, 0xA54FF53A, 0x510E527F, 0x9B05688C, 0x1F83D9AB, 0x5BE0CD19]

/-- A 32-bit word rotated right. -/
def rotr32 (n x : Nat) : Nat := x / 2 ^ n + x % 2 ^ n * 2 ^ (32 - n)

/-- Extends the message schedule by `n` words; `w` holds the words so far, newest first. -/
def shaSchedule : Nat → List Nat → List Nat
  | 0, w => w
  | n + 1, w =>
    let a := w.getD 14 0
    let b := w.getD 1 0
    let s0 := rotr32 7 a ^^^ rotr32 18 a ^^^ (a / 8)
    let s1 := rotr32 17 b ^^^ rotr32 19 b ^^^ (b / 1024)
    shaSchedule n ((w.getD 15 0 + s0 + w.getD 6 0 + s1) % 2 ^ 32 :: w)

/-- One round of SHA-256 on the working variables a to h. -/
def shaRound (v : List Nat) (kw : Nat × Nat) : List Nat :=
  match v with
  | [a, b, c, d, e, f, g, h] =>
    let s1 := rotr32 6 e ^^^ rotr32 11 e ^^^ rotr32 25 e
    let ch := (e &&& f) ^^^ ((0xFFFFFFFF ^^^ e) &&& g)
    let t1 := (h + s1 + ch + kw.1 + kw.2) % 2 ^ 32
    let s0 := rotr32 2 a ^^^ rotr32 13 a ^^^ rotr32 22 a
    let mj := (a &&& b) ^^^ (a &&& c) ^^^ (b &&& c)
    [(t1 + s0 + mj) % 2 ^ 32, a, b, c, (d + t1) % 2 ^ 32, e, f, g]
  | v => v

/-- One 64-octet block into the hash value. -/
def shaBlock (h : List Nat) (blk : Octets) : List Nat :=
  let w16 := ((List.range 16).map fun i => beAt blk (4 * i) 4).reverse
  let w := (shaSchedule 48 w16).reverse
  let v := (sha256K.zip w).foldl shaRound h
  List.zipWith (fun x y => (x + y) % 2 ^ 32) h v

/-- `n` blocks of 64 octets into the hash value. -/
def shaBlocks : Nat → List Nat → Octets → List Nat
  | 0, h, _ => h
  | n + 1, h, bs => shaBlocks n (shaBlock h (bs.take 64)) (bs.drop 64)

/-- SHA-256 of an octet string, 32 octets. -/
def sha256 (bs : Octets) : Octets :=
  let pad := (119 - bs.length % 64) % 64
  let m := bs ++ [0x80#8] ++ zeros pad ++ be 8 (8 * bs.length)
  (shaBlocks (m.length / 64) sha256Init m).flatMap (be 4)

/-- HMAC with SHA-256 (FIPS 198-1) under a key of at most 64 octets. -/
def hmac256 (key bs : Octets) : Octets :=
  let k := padTo 64 key
  sha256 (k.map (· ^^^ 0x5c#8) ++ sha256 (k.map (· ^^^ 0x36#8) ++ bs))

/-! ### AES (FIPS 197) -/

/-- The S-box, octet i in bits [8i+7:8i]. -/
def aesSbox : Nat := 0x16BB54B00F2D99416842E6BF0D89A18CDF2855CEE9871E9B948ED9691198F8E19E1DC186B95735610EF6034866B53E708A8BBD4B1F74DDE8C6B4A61C2E2578BA08AE7A65EAF4566CA94ED58D6D37C8E779E4959162ACD3C25C2406490A3A32E0DB0B5EDE14B8EE4688902A22DC4F816073195D643D7EA7C41744975FEC130CCDD2F3FF1021DAB6BCF5389D928F40A351A89F3C507F02F94585334D43FBAAEFD0CF584C4A39BECB6A5BB1FC20ED00D153842FE329B3D63B52A05A6E1B1A2C830975B227EBE28012079A059618C323C7041531D871F1E5A534CCF73F362693FDB7C072A49CAFA2D4ADF04759FA7DC982CA76ABD7FE2B670130C56F6BF27B777C63

/-- The inverse S-box, octet i in bits [8i+7:8i]. -/
def aesInvSbox : Nat := 0x7D0C2155631469E126D677BA7E042B17619953833CBBEBC8B0F52AAE4D3BE0A0EF9CC9939F7AE52D0D4AB519A97F51605FEC8027591012B131C7078833A8DD1FF45ACD78FEC0DB9A2079D2C64B3E56FC1BBE18AA0E62B76F89C5291D711AF1476EDF751CE837F9E28535ADE72274AC9673E6B4F0CECFF297EADC674F4111913A6B8A130103BDAFC1020F3FCA8F1E2CD00645B3B80558E4F70AD3BC8C00ABD890849D8DA75746155EDAB9EDFD5048706C92B6655DCC5CA4D41698688664F6F87225D18B6D49A25B76B224D92866A12E084EC3FA420B954CEE3D23C2A632947B54CBE9DEC444438E3487FF2F9B8239E37CFBD7F3819EA340BF38A53630D56A0952

/-- The S-box of one octet. -/
def subByte (b : Byte) : Byte := BitVec.ofNat 8 (aesSbox >>> (8 * b.toNat))

/-- The inverse S-box of one octet. -/
def invSubByte (b : Byte) : Byte := BitVec.ofNat 8 (aesInvSbox >>> (8 * b.toNat))

/-- Multiplication by x in the AES field. -/
def xtime (b : Byte) : Byte := (b <<< 1) ^^^ (if b.msb then 0x1b#8 else 0#8)

/-- Multiplication by a small constant in the AES field. -/
def gfMul (k : Nat) (b : Byte) : Byte :=
  let b2 := xtime b
  let b4 := xtime b2
  let b8 := xtime b4
  (if bitOf 0 k then b else 0#8) ^^^ (if bitOf 1 k then b2 else 0#8) ^^^ (if bitOf 2 k then b4 else 0#8)
    ^^^ (if bitOf 3 k then b8 else 0#8)

/-- Octetwise exclusive-OR. -/
def xorOctets (a b : Octets) : Octets := List.zipWith (· ^^^ ·) a b

/-- Extends the key schedule by `n` words of 4 octets; `w` holds the words so far, newest first; `nk` words of key. -/
def aesExpand (nk : Nat) : Nat → Nat → Byte → List Octets → List Octets
  | 0, _, _, w => w
  | n + 1, i, rcon, w =>
    let t := w.headD []
    let first := i % nk = 0
    let t' :=
      if first then (xorOctets ((t.drop 1 ++ t.take 1).map subByte) [rcon, 0, 0, 0])
      else if 6 < nk ∧ i % nk = 4 then t.map subByte else t
    aesExpand nk n (i + 1) (if first then xtime rcon else rcon) (xorOctets (w.getD (nk - 1) []) t' :: w)

/-- The words of a key, first word first. -/
def keyWords (key : Octets) : List Octets := (List.range (key.length / 4)).map fun i => slice key (4 * i) 4

/-- The round keys of an AES-128 or AES-256 key, 16 octets each. -/
def aesRoundKeys (key : Octets) : List Octets :=
  let nk := key.length / 4
  let total := 4 * (nk + 7)
  let w := (aesExpand nk (total - nk) nk 1#8 (keyWords key).reverse).reverse
  (List.range (nk + 7)).map fun r => ((w.drop (4 * r)).take 4).flatten

/-- ShiftRows. -/
def shiftRows (s : Octets) : Octets := (List.range 16).map fun i => s.getD ((i + 4 * (i % 4)) % 16) 0
/-- The inverse of ShiftRows. -/
def invShiftRows (s : Octets) : Octets := (List.range 16).map fun i => s.getD ((i + 12 * (i % 4)) % 16) 0

/-- A column mixed with the coefficients of MixColumns or its inverse. -/
def mixWith (c : List Nat) (s : Octets) : Octets :=
  (List.range 16).map fun i =>
    (List.range 4).foldl (fun acc j =>
      acc ^^^ gfMul (c.getD ((j + 4 - i % 4) % 4) 0) (s.getD (i / 4 * 4 + j) 0)) 0#8

/-- AES encryption of one 16-octet block. -/
def aesEnc (key blk : Octets) : Octets :=
  match aesRoundKeys key with
  | [] => blk
  | k0 :: ks =>
    let s := xorOctets blk k0
    let s := ks.dropLast.foldl (fun s k => xorOctets (mixWith [2, 3, 1, 1] (shiftRows (s.map subByte))) k) s
    xorOctets (shiftRows (s.map subByte)) (ks.getLastD [])

/-- AES decryption of one 16-octet block. -/
def aesDec (key blk : Octets) : Octets :=
  match (aesRoundKeys key).reverse with
  | [] => blk
  | k0 :: ks =>
    let s := xorOctets blk k0
    let s := ks.dropLast.foldl
      (fun s k => mixWith [14, 11, 13, 9] (xorOctets ((invShiftRows s).map invSubByte) k)) s
    xorOctets ((invShiftRows s).map invSubByte) (ks.getLastD [])

/-- Doubling in GF(2^128) for the CMAC subkeys. -/
def cmacDouble (n : Nat) : Nat := (n * 2 % 2 ^ 128) ^^^ (if n < 2 ^ 127 then 0 else 0x87)

/-- CBC-MAC chaining over `n` whole blocks from state `x`. -/
def cbcMac (key : Octets) : Nat → Octets → Octets → Octets
  | 0, x, _ => x
  | n + 1, x, m => cbcMac key n (aesEnc key (xorOctets x (m.take 16))) (m.drop 16)

/-- AES-CMAC (SP 800-38B), 16 octets. -/
def cmac (key m : Octets) : Octets :=
  let k1 := cmacDouble (unBe (aesEnc key (zeros 16)))
  let whole := m.length % 16 = 0 ∧ m ≠ []
  let n := if m = [] then 1 else (m.length + 15) / 16
  let last := m.drop (16 * (n - 1))
  let last := if whole then xorOctets last (be 16 k1)
    else xorOctets (padTo 16 (last ++ [0x80#8])) (be 16 (cmacDouble k1))
  cbcMac key 1 (cbcMac key (n - 1) (zeros 16) m) last

/-- The CCM* nonce of R170: address, frame counter, security level. -/
def ccmNonce (address fc level : Nat) : Octets := be 8 address ++ be 4 fc ++ be 1 level

/-- Octets of the MIC at security level 5, 6 or 7. -/
def ccmLength (level : Nat) : Nat := 2 ^ (level % 4 + 1)

/-- The CCM* tag of `n` octets under a 13-octet nonce, over associated octets and a message (IEEE 802.15.4-2020). -/
def ccmTag (key nonce assoc m : Octets) (n : Nat) : Octets :=
  let flags := 64 * b2n (!assoc.isEmpty) + 8 * ((n - 2) / 2) + 1
  let part := fun (bs : Octets) => padTo ((bs.length + 15) / 16 * 16) bs
  let all := be 1 flags ++ nonce ++ be 2 m.length ++ part (if assoc.isEmpty then [] else be 2 assoc.length ++ assoc) ++ part m
  xorOctets (aesEnc key (be 1 1 ++ nonce ++ be 2 0)) (cbcMac key (all.length / 16) (zeros 16) all) |>.take n

/-- The KDF of R400: `bits` bits from the root under a label and a context. -/
def kdf (root label context : Octets) (bits : Nat) : Octets :=
  (((List.range ((bits + 127) / 128)).map fun i =>
    cmac root (be 1 (i + 1) ++ label ++ [0#8] ++ context ++ be 2 bits)).flatten).take (bits / 8)

/-- One AES-KW unwrapping step: counter `t`, the block register `a` and the semiblocks `r`. -/
def kwStep (key : Octets) (n t : Nat) (st : Octets × List Octets) : Octets × List Octets :=
  let i := (t - 1) % n
  let b := aesDec key (xorOctets st.1 (be 8 t) ++ st.2.getD i [])
  (b.take 8, st.2.set i (b.drop 8))

/-- AES-KW unwrapping of `m` (SP 800-38F): the key, or none when the integrity check fails. -/
def kwUnwrap (key m : Octets) : Option Octets :=
  let n := m.length / 8 - 1
  let r := (List.range n).map fun i => slice m (8 * (i + 1)) 8
  let st := (List.range (6 * n)).foldl (fun st j => kwStep key n (6 * n - j) st) (m.take 8, r)
  if st.1 = List.replicate 8 0xA6#8 then some st.2.flatten else none

/-- Multiplication in the field of GCM: `z`, `v` as in SP 800-38D, `k` bits of `x` left, most significant first. -/
def ghashMul : Nat → Nat → Nat → Nat → Nat
  | 0, _, _, z => z
  | k + 1, x, v, z =>
    let z := if bitOf k x then z ^^^ v else z
    ghashMul k x (if v % 2 = 1 then (v / 2) ^^^ (0xE1 * 2 ^ 120) else v / 2) z

/-- GHASH over `n` blocks. -/
def ghash (h : Nat) : Nat → Nat → Octets → Nat
  | 0, y, _ => y
  | n + 1, y, m => ghash h n (ghashMul 128 (y ^^^ unBe (m.take 16)) h 0) (m.drop 16)

/-- Counter-mode stream over `m`, the counter in the low `cb` octets of the block `iv ‖ counter`. -/
def ctrStream (key iv : Octets) (cb : Nat) : Nat → Nat → Octets → Octets
  | 0, _, _ => []
  | n + 1, c, m => xorOctets (m.take 16) (aesEnc key (iv ++ be cb c)) ++ ctrStream key iv cb n (c + 1) (m.drop 16)

/-- Octets padded with 00h to whole 16-octet blocks. -/
def padBlocks (m : Octets) : Octets := padTo ((m.length + 15) / 16 * 16) m

/-- AES-GCM opening with a 12-octet nonce: the plaintext, or none when the tag fails (SP 800-38D). -/
def gcmOpen (key iv aad ct tag : Octets) : Option Octets :=
  let h := unBe (aesEnc key (zeros 16))
  let m := padBlocks aad ++ padBlocks ct ++ be 8 (8 * aad.length) ++ be 8 (8 * ct.length)
  let s := be 16 (ghash h (m.length / 16) 0 m)
  if xorOctets s (aesEnc key (iv ++ be 4 1)) = tag then
    some (ctrStream key iv 4 ((ct.length + 15) / 16) 2 ct) else none

/-! ### P-256 and ECDSA (FIPS 186-5) -/

/-- The prime of P-256. -/
def p256P : Nat := 0xffffffff00000001000000000000000000000000ffffffffffffffffffffffff
/-- The order of P-256. -/
def p256N : Nat := 0xffffffff00000000ffffffffffffffffbce6faada7179e84f3b9cac2fc632551
/-- The coefficient b of P-256. -/
def p256B : Nat := 0x5ac635d8aa3a93e7b3ebbd55769886bc651d06b0cc53b0f63bce3c3e27d2604b
/-- The base point of P-256. -/
def p256G : Nat × Nat :=
  (0x6b17d1f2e12c4247f8bce6e563a440f277037d812deb33a0f4a13945d898c296,
   0x4fe342e2fe1a7f9b8ee7eb4a7c0f9e162bce33576b315ececbb6406837bf51f5)

/-- `b ^ e` modulo `m`, `k` bits of the exponent. -/
def powModBits (m : Nat) : Nat → Nat → Nat → Nat → Nat
  | 0, _, _, acc => acc
  | k + 1, b, e, acc =>
    powModBits m k (b * b % m) (e / 2) (if e % 2 = 1 then acc * b % m else acc)

/-- The inverse modulo a 256-bit prime. -/
def invMod (m a : Nat) : Nat := powModBits m 256 (a % m) (m - 2) 1

/-- A point on P-256: both coordinates below p, and the curve equation. -/
def onCurve (x y : Nat) : Bool :=
  decide (x < p256P) && decide (y < p256P)
    && (y * y % p256P == (x * x % p256P * x + (p256P - 3) * x + p256B) % p256P)

/-- Point doubling in Jacobian coordinates; z = 0 is the point at infinity. -/
def jacDouble (q : Nat × Nat × Nat) : Nat × Nat × Nat :=
  let p := p256P
  let (x, y, z) := q
  if z = 0 then q else
  let yy := y * y % p
  let s := 4 * x * yy % p
  let z2 := z * z % p
  let m := 3 * ((x + (p - z2)) % p) * ((x + z2) % p) % p
  let x' := (m * m + 2 * (p - s)) % p
  (x', (m * ((s + (p - x')) % p) + (p - 8 * yy * yy % p)) % p, 2 * y * z % p)

/-- Point addition in Jacobian coordinates. -/
def jacAdd (a b : Nat × Nat × Nat) : Nat × Nat × Nat :=
  let p := p256P
  let (x1, y1, z1) := a
  let (x2, y2, z2) := b
  if z1 = 0 then b else if z2 = 0 then a else
  let u1 := x1 * (z2 * z2 % p) % p
  let u2 := x2 * (z1 * z1 % p) % p
  let s1 := y1 * (z2 * z2 % p * z2 % p) % p
  let s2 := y2 * (z1 * z1 % p * z1 % p) % p
  if u1 = u2 then (if s1 = s2 then jacDouble a else (1, 1, 0)) else
  let h := (u2 + (p - u1)) % p
  let r := (s2 + (p - s1)) % p
  let hh := h * h % p
  let hhh := hh * h % p
  let v := u1 * hh % p
  let x3 := (r * r + (p - hhh) + 2 * (p - v)) % p
  (x3, (r * ((v + (p - x3)) % p) + (p - s1 * hhh % p)) % p, z1 * z2 % p * h % p)

/-- `k` times a point, `n` bits of `k` left, most significant first. -/
def jacMul (q : Nat × Nat × Nat) (k : Nat) : Nat → Nat × Nat × Nat → Nat × Nat × Nat
  | 0, acc => acc
  | n + 1, acc =>
    let acc := jacDouble acc
    jacMul q k n (if bitOf n k then jacAdd acc q else acc)

/-- The affine x coordinate and y coordinate of a point, (0, 0) for infinity. -/
def jacAffine (q : Nat × Nat × Nat) : Nat × Nat :=
  if q.2.2 = 0 then (0, 0) else
  let zi := invMod p256P q.2.2
  let zi2 := zi * zi % p256P
  (q.1 * zi2 % p256P, q.2.1 * (zi2 * zi % p256P) % p256P)

/-- ECDSA verification over P-256 with SHA-256. -/
def ecdsaVerify (x y : Nat) (msg : Octets) (r s : Nat) : Bool :=
  if r = 0 || s = 0 || decide (p256N ≤ r) || decide (p256N ≤ s) || !onCurve x y then false else
  let e := unBe (sha256 msg)
  let w := invMod p256N s
  let u1 := e * w % p256N
  let u2 := r * w % p256N
  let q := jacAdd (jacMul (p256G.1, p256G.2, 1) u1 256 (1, 1, 0)) (jacMul (x, y, 1) u2 256 (1, 1, 0))
  q.2.2 != 0 && (jacAffine q).1 % p256N == r

/-- The per-message secret of deterministic ECDSA: tries of the HMAC generator until one lies in 1 to n - 1. -/
def detNonce : Nat → Octets → Octets → Nat
  | 0, _, _ => 1
  | fuel + 1, k, v =>
    let v := hmac256 k v
    let t := unBe v
    if t ≠ 0 ∧ t < p256N then t else
    let k := hmac256 k (v ++ [0#8])
    detNonce fuel k (hmac256 k v)

/-- Deterministic ECDSA over P-256 with SHA-256 (FIPS 186-5): the pair (r, s). -/
def ecdsaSign (d : Nat) (msg : Octets) : Nat × Nat :=
  let h := sha256 msg
  let seed := be 32 d ++ be 32 (unBe h % p256N)
  let v0 := List.replicate 32 1#8
  let k1 := hmac256 (zeros 32) (v0 ++ [0#8] ++ seed)
  let v1 := hmac256 k1 v0
  let k2 := hmac256 k1 (v1 ++ [1#8] ++ seed)
  let v2 := hmac256 k2 v1
  let k := detNonce 128 k2 v2
  let r := (jacAffine (jacMul (p256G.1, p256G.2, 1) k 256 (1, 1, 0))).1 % p256N
  (r, invMod p256N k * ((unBe h + r * d) % p256N) % p256N)

/-- The public key of a private key: d times the base point. -/
def p256Public (d : Nat) : Nat × Nat := jacAffine (jacMul (p256G.1, p256G.2, 1) d 256 (1, 1, 0))

/-- The octets of an ASCII string. -/
def ascii (s : String) : Octets := s.toList.map fun c => BitVec.ofNat 8 c.toNat

end Sys2Proof.Machine
end

