-- ==== Sys2Proof/Config.lean ====
section
/-!
DEFINITION. Config.lean: the free values: what the spec leaves open. None has a body.
-/

namespace Sys2Proof

/-- A free octet, by the counter of the state: DRBG output (R407), data the spec leaves undefined. -/
opaque Config.freeOctet : Nat → Byte

/-- A free number, by the counter of the state. -/
opaque Config.freeNat : Nat → Nat

/-- The link cost that an LQI gives, which R145 leaves to ITU-T G.9903. -/
opaque Config.linkCost : Nat → Nat

/-- Octets of a datagram that the largest MAC frame which G.9903 allows takes, by modulation and tone map (R144). -/
opaque Config.fragmentOctets : Nat → Nat → Nat

/-- Air time in ns of a radio frame with forward error correction, by rate and octets (Table 5.2). -/
opaque Config.fecAirNs : Nat → Nat → Nat

/-- Octets of MAC overhead of a radio frame, by security level (R159). -/
opaque Config.macOverhead : Nat → Nat

/-- A channel's code delayed by PHASE × 2^-16 samples, which R482 applies without saying how it is formed: by the counter of the
state, PHASE and the code of the conversion. -/
opaque Config.phaseDelayed : Nat → Int → Int → Int

/-- The address bits of a FIFO, by block and FIFO index, which R534 leaves to the implementation. -/
opaque Config.fifoLog2 : Nat → Nat → Nat

/-- A ring oscillator's count corrected to 85 °C by its fused coefficient (R533), by oscillator, count and T_J. -/
opaque Config.procCorrected : Nat → Nat → Int → Nat

/-- The value of a field of a given width whose result falls outside its format, by the result. -/
opaque Config.outOfFormat : Nat → Int → Nat

/-- Bits of the JTAG instruction register beyond the two that 1149.1 fixes (R574). -/
opaque Config.tapIrBits : Nat

end Sys2Proof
end

