-- ==== Sys2Proof/Machine/RegTable.lean ====
section
/-!
DEFINITION. Machine/RegTable.lean: the register map of BAR0 (R11 to R13, R35, R36 and the register definitions of every
chapter). One row per register definition of the spec: offset in its block, array stride and length, and its fields with
bits, access type (Table 0.4), reset value, level and the range of permitted values that the field's Meaning gives.
Reserved bits have no row: they read 0 and ignore writes (R12).
-/

namespace Sys2Proof.Machine

/-- Access types of Table 0.4 (R13). -/
inductive Access where
  | ro | rw | w1c | rc | wo | rwo | rws
deriving DecidableEq, Repr

/-- One field of a register: bits [hi:lo], access type, reset value, expert level, least and greatest permitted value
(any other value is a reserved encoding, R14). -/
structure FieldRow where
  hi : Nat
  lo : Nat
  acc : Access
  rst : Nat
  expert : Bool
  least : Nat
  most : Nat
deriving DecidableEq, Repr

/-- One register definition: offset in the block, stride and number of entries, and whether each host function has
its own copy. -/
structure RegRow where
  off : Nat
  stride : Nat
  count : Nat
  perFunc : Bool
  fields : List FieldRow
deriving DecidableEq, Repr

/-- A named field: BAR0 address and bits. -/
structure Fld where
  addr : Nat
  hi : Nat
  lo : Nat
deriving DecidableEq, Repr

/-- The common header of R36 (BLK_CTRL, BLK_PROFILE, BLK_STATUS). -/
def headerRows : List RegRow :=
  [⟨0, 0, 1, false, [⟨1, 1, .wo, 0, false, 0, 1⟩, ⟨0, 0, .rwo, 1, false, 0, 1⟩]⟩,
   ⟨4, 0, 1, false, [⟨7, 0, .rwo, 0, false, 0, 255⟩]⟩,
   ⟨8, 0, 1, false, [⟨3, 3, .ro, 0, false, 0, 1⟩, ⟨2, 2, .ro, 0, false, 0, 1⟩, ⟨1, 1, .ro, 1, false, 0, 1⟩, ⟨0, 0, .ro, 0, false, 0, 1⟩]⟩]

/-- The register rows of block GLB (block 0 of Table 1.8). -/
def rowsGlb : List RegRow :=
  [⟨0x0, 0, 1, false, [⟨31, 16, .ro, 20, false, 0, 65535⟩, ⟨7, 4, .ro, 2, false, 0, 15⟩, ⟨3, 0, .ro, 1, false, 0, 15⟩]⟩,
   ⟨0x10, 0, 1, false, [⟨0, 0, .rwo, 0, false, 0, 1⟩]⟩,
   ⟨0x14, 0, 1, false, [⟨21, 0, .ro, 1, false, 0, 4194303⟩]⟩]

/-- The register rows of block LANE (block 1 of Table 1.8), after the common header. -/
def rowsLane : List RegRow :=
  [⟨0x10, 0, 1, false, [⟨31, 0, .rc, 0, false, 0, 4294967295⟩]⟩,
   ⟨0x14, 0, 1, false, [⟨31, 0, .rc, 0, false, 0, 4294967295⟩]⟩,
   ⟨0x100, 4, 40, false, [⟨13, 13, .ro, 0, false, 0, 1⟩, ⟨12, 12, .ro, 0, false, 0, 1⟩, ⟨11, 4, .ro, 0, false, 0, 255⟩, ⟨3, 3, .ro, 0, false, 0, 1⟩, ⟨2, 0, .ro, 0, false, 0, 7⟩]⟩,
   ⟨0x200, 4, 40, false, [⟨3, 2, .ro, 0, false, 0, 3⟩, ⟨1, 0, .rwo, 0, false, 0, 2⟩]⟩,
   ⟨0x1000, 4, 320, false, [⟨19, 19, .rwo, 0, false, 0, 1⟩, ⟨18, 18, .rwo, 0, false, 0, 1⟩, ⟨17, 12, .rwo, 4, true, 0, 63⟩, ⟨11, 6, .rwo, 48, true, 0, 63⟩, ⟨5, 0, .rwo, 8, true, 0, 63⟩]⟩]

/-- The register rows of block CRS (block 2 of Table 1.8), after the common header. -/
def rowsCrs : List RegRow :=
  [⟨0x10, 0, 1, false, [⟨31, 0, .ro, 0, false, 0, 4294967295⟩]⟩,
   ⟨0x14, 0, 1, false, [⟨31, 0, .ro, 0, false, 0, 4294967295⟩]⟩,
   ⟨0x18, 0, 1, false, [⟨7, 4, .ro, 0, false, 0, 15⟩, ⟨1, 0, .ro, 1, false, 0, 3⟩]⟩,
   ⟨0x1C, 0, 1, false, [⟨31, 0, .ro, 0, false, 0, 4294967295⟩]⟩,
   ⟨0x20, 0, 1, false, [⟨31, 0, .ro, 0, false, 0, 4294967295⟩]⟩,
   ⟨0x24, 0, 1, false, [⟨31, 0, .ro, 0, false, 0, 4294967295⟩]⟩,
   ⟨0x28, 0, 1, false, [⟨8, 8, .w1c, 0, false, 0, 1⟩, ⟨3, 3, .ro, 0, false, 0, 1⟩, ⟨2, 2, .ro, 0, false, 0, 1⟩, ⟨1, 1, .ro, 0, false, 0, 1⟩, ⟨0, 0, .ro, 1, false, 0, 1⟩]⟩,
   ⟨0x2C, 0, 1, false, [⟨0, 0, .rwo, 0, false, 0, 1⟩]⟩,
   ⟨0x30, 0, 1, false, [⟨20, 16, .ro, 0, false, 0, 31⟩, ⟨12, 8, .ro, 0, false, 0, 31⟩, ⟨4, 0, .ro, 0, false, 0, 31⟩]⟩,
   ⟨0x34, 0, 1, false, [⟨31, 0, .ro, 0, false, 0, 4294967295⟩]⟩,
   ⟨0x38, 0, 1, false, [⟨31, 0, .ro, 0, false, 0, 4294967295⟩]⟩,
   ⟨0x3C, 0, 1, false, [⟨31, 31, .ro, 0, false, 0, 1⟩, ⟨11, 8, .ro, 0, false, 0, 15⟩, ⟨7, 0, .ro, 0, false, 0, 255⟩]⟩,
   ⟨0x40, 0, 1, false, [⟨31, 0, .ro, 0, false, 0, 4294967295⟩]⟩,
   ⟨0x44, 0, 1, false, [⟨17, 16, .ro, 0, false, 0, 3⟩, ⟨4, 0, .w1c, 0, false, 0, 31⟩]⟩,
   ⟨0x48, 0, 1, false, [⟨17, 16, .ro, 0, false, 0, 3⟩, ⟨15, 0, .ro, 0, false, 0, 65535⟩]⟩]

/-- The register rows of block EAV (block 3 of Table 1.8), after the common header. -/
def rowsEav : List RegRow :=
  [⟨0x10, 0, 1, false, [⟨23, 16, .rwo, 10, true, 0, 255⟩, ⟨15, 0, .rwo, 1000, true, 0, 65535⟩]⟩,
   ⟨0x14, 0, 1, false, [⟨31, 0, .rc, 0, false, 0, 4294967295⟩]⟩,
   ⟨0x18, 0, 1, false, [⟨31, 0, .rc, 0, false, 0, 4294967295⟩]⟩,
   ⟨0x1C, 0, 1, false, [⟨31, 0, .rc, 0, false, 0, 4294967295⟩]⟩,
   ⟨0x20, 0, 1, false, [⟨31, 0, .rc, 0, false, 0, 4294967295⟩]⟩,
   ⟨0x24, 0, 1, false, [⟨31, 0, .rc, 0, false, 0, 4294967295⟩]⟩,
   ⟨0x1000, 4, 320, false, [⟨21, 16, .ro, 0, false, 0, 63⟩, ⟨15, 8, .ro, 255, false, 0, 255⟩, ⟨7, 7, .ro, 0, false, 0, 1⟩, ⟨6, 6, .ro, 0, false, 0, 1⟩, ⟨5, 5, .ro, 0, false, 0, 1⟩]⟩,
   ⟨0x8000, 4, 8192, false, [⟨31, 30, .ro, 0, false, 0, 3⟩, ⟨29, 29, .ro, 0, false, 0, 1⟩, ⟨28, 28, .ro, 0, false, 0, 1⟩, ⟨27, 27, .ro, 0, false, 0, 1⟩, ⟨26, 26, .ro, 0, false, 0, 1⟩, ⟨19, 0, .ro, 0, false, 0, 1048575⟩]⟩]

/-- The register rows of block PLC (block 4 of Table 1.8), after the common header. -/
def rowsPlc : List RegRow :=
  [⟨0x10, 0, 1, false, [⟨31, 24, .rwo, 24, true, 0, 255⟩, ⟨23, 16, .rwo, 16, true, 0, 255⟩, ⟨15, 8, .rwo, 10, true, 0, 255⟩, ⟨7, 0, .rwo, 6, true, 0, 255⟩]⟩,
   ⟨0x14, 0, 1, false, [⟨15, 8, .rwo, 0, true, 0, 255⟩, ⟨7, 0, .rwo, 0, true, 0, 255⟩]⟩,
   ⟨0x18, 0, 1, true, [⟨14, 0, .rw, 0, false, 0, 32767⟩]⟩,
   ⟨0x1C, 0, 1, false, [⟨31, 16, .ro, 0, false, 0, 65535⟩, ⟨15, 15, .ro, 0, false, 0, 1⟩, ⟨14, 14, .ro, 0, false, 0, 1⟩, ⟨13, 13, .ro, 0, false, 0, 1⟩, ⟨12, 12, .ro, 0, false, 0, 1⟩, ⟨11, 11, .ro, 0, false, 0, 1⟩, ⟨10, 10, .ro, 0, false, 0, 1⟩, ⟨7, 0, .ro, 0, false, 0, 255⟩]⟩,
   ⟨0x20, 0, 1, false, [⟨31, 0, .ro, 0, false, 0, 4294967295⟩]⟩,
   ⟨0x30, 0, 1, false, [⟨31, 0, .rc, 0, false, 0, 4294967295⟩]⟩,
   ⟨0x34, 0, 1, false, [⟨31, 0, .rc, 0, false, 0, 4294967295⟩]⟩,
   ⟨0x38, 0, 1, false, [⟨31, 0, .rc, 0, false, 0, 4294967295⟩]⟩,
   ⟨0x3C, 0, 1, false, [⟨31, 0, .rc, 0, false, 0, 4294967295⟩]⟩,
   ⟨0x40, 0, 1, false, [⟨31, 0, .rc, 0, false, 0, 4294967295⟩]⟩,
   ⟨0x44, 0, 1, false, [⟨31, 0, .rc, 0, false, 0, 4294967295⟩]⟩,
   ⟨0x48, 0, 1, false, [⟨31, 0, .rc, 0, false, 0, 4294967295⟩]⟩,
   ⟨0x4C, 0, 1, false, [⟨31, 0, .rc, 0, false, 0, 4294967295⟩]⟩,
   ⟨0x50, 0, 1, false, [⟨31, 0, .rc, 0, false, 0, 4294967295⟩]⟩,
   ⟨0x54, 0, 1, false, [⟨31, 0, .rc, 0, false, 0, 4294967295⟩]⟩,
   ⟨0x60, 0, 1, false, [⟨31, 30, .ro, 0, false, 0, 3⟩, ⟨14, 0, .ro, 0, false, 0, 32767⟩]⟩,
   ⟨0x64, 0, 1, false, [⟨19, 16, .ro, 0, false, 0, 15⟩, ⟨14, 0, .ro, 0, false, 0, 32767⟩]⟩]

/-- The register rows of block RAD (block 5 of Table 1.8), after the common header. -/
def rowsRad : List RegRow :=
  [⟨0x10, 0, 1, false, [⟨31, 16, .rwo, 0, true, 0, 65535⟩, ⟨15, 8, .rwo, 0, true, 0, 255⟩]⟩,
   ⟨0x14, 0, 1, false, [⟨7, 0, .rwo, 0, true, 0, 255⟩]⟩,
   ⟨0x18, 0, 1, true, [⟨14, 0, .rw, 0, false, 0, 32767⟩]⟩,
   ⟨0x1C, 0, 1, false, [⟨31, 16, .ro, 0, false, 0, 65535⟩, ⟨15, 15, .ro, 0, false, 0, 1⟩, ⟨14, 14, .ro, 0, false, 0, 1⟩, ⟨13, 13, .ro, 0, false, 0, 1⟩, ⟨12, 12, .ro, 0, false, 0, 1⟩, ⟨11, 11, .ro, 0, false, 0, 1⟩, ⟨10, 10, .ro, 0, false, 0, 1⟩, ⟨7, 0, .ro, 0, false, 0, 255⟩]⟩,
   ⟨0x20, 0, 1, false, [⟨31, 0, .ro, 0, false, 0, 4294967295⟩]⟩,
   ⟨0x24, 0, 1, false, [⟨31, 27, .ro, 0, false, 0, 31⟩, ⟨26, 15, .ro, 0, false, 0, 4095⟩, ⟨13, 0, .ro, 0, false, 0, 16383⟩]⟩,
   ⟨0x30, 0, 1, false, [⟨31, 0, .rc, 0, false, 0, 4294967295⟩]⟩,
   ⟨0x34, 0, 1, false, [⟨31, 0, .rc, 0, false, 0, 4294967295⟩]⟩,
   ⟨0x38, 0, 1, false, [⟨31, 0, .rc, 0, false, 0, 4294967295⟩]⟩,
   ⟨0x3C, 0, 1, false, [⟨31, 0, .rc, 0, false, 0, 4294967295⟩]⟩,
   ⟨0x40, 0, 1, false, [⟨31, 0, .rc, 0, false, 0, 4294967295⟩]⟩,
   ⟨0x44, 0, 1, false, [⟨31, 0, .rc, 0, false, 0, 4294967295⟩]⟩,
   ⟨0x48, 0, 1, false, [⟨31, 0, .rc, 0, false, 0, 4294967295⟩]⟩,
   ⟨0x4C, 0, 1, false, [⟨31, 0, .rc, 0, false, 0, 4294967295⟩]⟩,
   ⟨0x50, 0, 1, false, [⟨31, 0, .rc, 0, false, 0, 4294967295⟩]⟩,
   ⟨0x54, 0, 1, false, [⟨31, 0, .rc, 0, false, 0, 4294967295⟩]⟩,
   ⟨0x58, 0, 1, false, [⟨31, 0, .rc, 0, false, 0, 4294967295⟩]⟩,
   ⟨0x5C, 0, 1, false, [⟨31, 0, .rc, 0, false, 0, 4294967295⟩]⟩,
   ⟨0x60, 0, 1, false, [⟨31, 0, .rc, 0, false, 0, 4294967295⟩]⟩,
   ⟨0x70, 0, 1, false, [⟨19, 16, .ro, 0, false, 0, 15⟩, ⟨14, 0, .ro, 0, false, 0, 32767⟩]⟩,
   ⟨0x74, 0, 1, false, [⟨31, 30, .ro, 0, false, 0, 3⟩, ⟨14, 0, .ro, 0, false, 0, 32767⟩]⟩]

/-- The register rows of block MTB (block 6 of Table 1.8), after the common header. -/
def rowsMtb : List RegRow :=
  [⟨0x10, 0, 1, false, [⟨31, 0, .rwo, 0, true, 0, 4294967295⟩]⟩,
   ⟨0x14, 0, 1, false, [⟨31, 0, .rwo, 0, true, 0, 4294967295⟩]⟩,
   ⟨0x18, 0, 1, false, [⟨0, 0, .ro, 0, false, 0, 1⟩]⟩,
   ⟨0x1C, 0, 1, false, [⟨21, 0, .ro, 0, false, 0, 4194303⟩]⟩,
   ⟨0x20, 0, 1, false, [⟨14, 8, .w1c, 0, false, 0, 127⟩, ⟨6, 0, .ro, 0, false, 0, 127⟩]⟩,
   ⟨0x24, 0, 1, false, [⟨14, 8, .rwo, 48, true, 1, 64⟩, ⟨2, 0, .rwo, 4, true, 1, 5⟩]⟩,
   ⟨0x28, 0, 1, false, [⟨31, 31, .rwo, 0, true, 0, 1⟩, ⟨30, 30, .rwo, 1, false, 0, 1⟩, ⟨15, 0, .rwo, 1440, false, 10, 65535⟩]⟩,
   ⟨0x2C, 0, 1, false, [⟨31, 0, .rwo, 259200, true, 0, 4294967295⟩]⟩,
   ⟨0x30, 0, 1, false, [⟨31, 31, .ro, 0, false, 0, 1⟩, ⟨30, 30, .ro, 0, false, 0, 1⟩, ⟨29, 29, .w1c, 0, false, 0, 1⟩, ⟨21, 0, .ro, 0, false, 0, 4194303⟩]⟩,
   ⟨0x34, 0, 1, false, [⟨31, 31, .ro, 0, false, 0, 1⟩, ⟨30, 30, .ro, 0, false, 0, 1⟩, ⟨29, 29, .w1c, 0, false, 0, 1⟩, ⟨21, 0, .ro, 0, false, 0, 4194303⟩]⟩,
   ⟨0x38, 0, 1, false, [⟨31, 12, .rwo, 0, false, 0, 1048575⟩, ⟨0, 0, .rwo, 0, false, 0, 1⟩]⟩,
   ⟨0x3C, 0, 1, false, [⟨31, 0, .rwo, 0, false, 0, 4294967295⟩]⟩,
   ⟨0x40, 0, 1, false, [⟨31, 31, .rwo, 0, true, 0, 1⟩, ⟨23, 16, .rwo, 5, true, 1, 255⟩, ⟨15, 0, .rwo, 300, false, 60, 65535⟩]⟩,
   ⟨0x44, 0, 1, false, [⟨31, 31, .ro, 0, false, 0, 1⟩, ⟨30, 30, .ro, 0, false, 0, 1⟩, ⟨21, 0, .ro, 0, false, 0, 4194303⟩]⟩,
   ⟨0x50, 0, 1, false, [⟨31, 0, .rc, 0, false, 0, 4294967295⟩]⟩,
   ⟨0x54, 0, 1, false, [⟨31, 0, .rc, 0, false, 0, 4294967295⟩]⟩,
   ⟨0x58, 0, 1, false, [⟨31, 0, .rc, 0, false, 0, 4294967295⟩]⟩,
   ⟨0x5C, 0, 1, false, [⟨31, 0, .rc, 0, false, 0, 4294967295⟩]⟩,
   ⟨0x60, 0, 1, false, [⟨31, 0, .rc, 0, false, 0, 4294967295⟩]⟩,
   ⟨0x64, 0, 1, false, [⟨31, 0, .rc, 0, false, 0, 4294967295⟩]⟩]

/-- The register rows of block REC (block 7 of Table 1.8), after the common header. -/
def rowsRec : List RegRow :=
  [⟨0x10, 0, 1, false, [⟨1, 0, .rws, 0, false, 0, 3⟩]⟩,
   ⟨0x14, 0, 1, false, [⟨15, 0, .rwo, 64, false, 1, 65535⟩]⟩,
   ⟨0x18, 0, 1, false, [⟨31, 16, .rwo, 2530, false, 0, 65535⟩, ⟨15, 0, .rwo, 2070, false, 0, 65535⟩]⟩,
   ⟨0x1C, 0, 1, false, [⟨5, 0, .rwo, 30, true, 1, 63⟩]⟩,
   ⟨0x20, 0, 1, false, [⟨31, 31, .rwo, 0, false, 0, 1⟩, ⟨30, 30, .rwo, 0, false, 0, 1⟩, ⟨25, 24, .rwo, 0, false, 0, 3⟩, ⟨14, 8, .rwo, 1, false, 1, 64⟩, ⟨7, 0, .rwo, 0, false, 0, 255⟩]⟩,
   ⟨0x24, 0, 1, true, [⟨5, 0, .rw, 0, false, 0, 63⟩]⟩,
   ⟨0x28, 0, 1, false, [⟨31, 31, .ro, 0, false, 0, 1⟩, ⟨30, 30, .ro, 0, false, 0, 1⟩, ⟨29, 29, .ro, 0, false, 0, 1⟩]⟩,
   ⟨0x2C, 0, 1, false, [⟨31, 0, .ro, 0, false, 0, 4294967295⟩]⟩,
   ⟨0x30, 0, 1, false, [⟨31, 31, .ro, 0, false, 0, 1⟩, ⟨15, 0, .ro, 0, false, 0, 65535⟩]⟩,
   ⟨0x40, 0, 1, false, [⟨31, 0, .rc, 0, false, 0, 4294967295⟩]⟩,
   ⟨0x44, 0, 1, false, [⟨31, 0, .rc, 0, false, 0, 4294967295⟩]⟩,
   ⟨0x48, 0, 1, false, [⟨31, 0, .rc, 0, false, 0, 4294967295⟩]⟩,
   ⟨0x4C, 0, 1, false, [⟨31, 0, .rc, 0, false, 0, 4294967295⟩]⟩,
   ⟨0x50, 0, 1, false, [⟨31, 0, .rc, 0, false, 0, 4294967295⟩]⟩,
   ⟨0x54, 0, 1, false, [⟨31, 0, .rc, 0, false, 0, 4294967295⟩]⟩,
   ⟨0x58, 0, 1, false, [⟨31, 0, .rc, 0, false, 0, 4294967295⟩]⟩,
   ⟨0x5C, 0, 1, false, [⟨31, 0, .rc, 0, false, 0, 4294967295⟩]⟩,
   ⟨0x60, 0, 1, false, [⟨31, 0, .rc, 0, false, 0, 4294967295⟩]⟩,
   ⟨0x64, 0, 1, false, [⟨31, 0, .rc, 0, false, 0, 4294967295⟩]⟩,
   ⟨0x68, 0, 1, false, [⟨31, 0, .rc, 0, false, 0, 4294967295⟩]⟩,
   ⟨0x6C, 0, 1, false, [⟨31, 0, .rc, 0, false, 0, 4294967295⟩]⟩]

/-- The register rows of block VAL (block 8 of Table 1.8), after the common header. -/
def rowsVal : List RegRow :=
  [⟨0x10, 0, 1, false, [⟨15, 0, .rwo, 300, false, 16, 65535⟩]⟩,
   ⟨0x14, 0, 1, false, [⟨31, 16, .rwo, 600, true, 1, 65535⟩, ⟨15, 0, .rwo, 50, true, 0, 65535⟩]⟩,
   ⟨0x18, 0, 1, false, [⟨23, 16, .rwo, 20, true, 1, 100⟩, ⟨15, 0, .rwo, 50, true, 0, 65535⟩]⟩,
   ⟨0x1C, 0, 1, false, [⟨23, 16, .rwo, 2, true, 0, 255⟩, ⟨15, 0, .rwo, 300, true, 1, 65535⟩]⟩,
   ⟨0x20, 0, 1, false, [⟨31, 0, .rwo, 43200, true, 1, 4294967295⟩]⟩,
   ⟨0x24, 0, 1, false, [⟨23, 16, .rwo, 10, true, 1, 100⟩, ⟨15, 0, .rwo, 500, true, 1, 65535⟩]⟩,
   ⟨0x28, 0, 1, false, [⟨31, 31, .rwo, 0, false, 0, 1⟩, ⟨30, 30, .rwo, 0, false, 0, 1⟩, ⟨25, 24, .rwo, 0, false, 0, 3⟩, ⟨7, 0, .rwo, 0, false, 0, 255⟩]⟩,
   ⟨0x2C, 0, 1, false, [⟨31, 0, .ro, 0, false, 0, 4294967295⟩]⟩,
   ⟨0x30, 0, 1, false, [⟨31, 0, .ro, 0, false, 0, 4294967295⟩]⟩,
   ⟨0x34, 0, 1, true, [⟨13, 0, .rw, 0, false, 0, 16383⟩]⟩,
   ⟨0x38, 0, 1, false, [⟨31, 31, .ro, 0, false, 0, 1⟩, ⟨30, 30, .ro, 0, false, 0, 1⟩, ⟨29, 29, .ro, 0, false, 0, 1⟩, ⟨28, 28, .ro, 0, false, 0, 1⟩, ⟨16, 0, .ro, 0, false, 0, 131071⟩]⟩,
   ⟨0x3C, 0, 1, false, [⟨31, 0, .ro, 0, false, 0, 4294967295⟩]⟩,
   ⟨0x40, 0, 1, false, [⟨31, 31, .ro, 0, false, 0, 1⟩, ⟨30, 30, .ro, 0, false, 0, 1⟩, ⟨6, 0, .ro, 0, false, 0, 127⟩]⟩,
   ⟨0x50, 0, 1, false, [⟨31, 0, .rc, 0, false, 0, 4294967295⟩]⟩,
   ⟨0x54, 0, 1, false, [⟨31, 0, .rc, 0, false, 0, 4294967295⟩]⟩,
   ⟨0x58, 0, 1, false, [⟨31, 0, .rc, 0, false, 0, 4294967295⟩]⟩,
   ⟨0x5C, 0, 1, false, [⟨31, 0, .rc, 0, false, 0, 4294967295⟩]⟩,
   ⟨0x60, 0, 1, false, [⟨31, 0, .rc, 0, false, 0, 4294967295⟩]⟩,
   ⟨0x64, 0, 1, false, [⟨31, 0, .rc, 0, false, 0, 4294967295⟩]⟩]

/-- The register rows of block SWC (block 9 of Table 1.8), after the common header. -/
def rowsSwc : List RegRow :=
  [⟨0x10, 0, 1, false, [⟨27, 12, .ro, 0, false, 0, 65535⟩, ⟨11, 8, .ro, 8, false, 0, 15⟩, ⟨2, 0, .ro, 0, false, 0, 7⟩]⟩,
   ⟨0x14, 0, 1, false, [⟨31, 16, .rwo, 1000, true, 0, 65535⟩, ⟨15, 8, .rwo, 1, true, 1, 255⟩]⟩,
   ⟨0x18, 0, 1, false, [⟨31, 31, .ro, 0, false, 0, 1⟩, ⟨30, 16, .ro, 0, false, 0, 32767⟩, ⟨13, 0, .ro, 0, false, 0, 16383⟩]⟩,
   ⟨0x1C, 0, 1, false, [⟨15, 0, .ro, 61440, false, 0, 65535⟩]⟩,
   ⟨0x20, 4, 8, false, [⟨27, 0, .rwo, 0, true, 256, 134283264⟩]⟩,
   ⟨0x40, 0, 1, true, [⟨2, 0, .rw, 0, false, 0, 7⟩]⟩,
   ⟨0x44, 0, 1, false, [⟨18, 0, .ro, 0, false, 0, 524287⟩]⟩,
   ⟨0x48, 0, 1, false, [⟨27, 0, .ro, 0, false, 0, 268435455⟩]⟩,
   ⟨0x4C, 0, 1, false, [⟨15, 0, .ro, 0, false, 0, 65535⟩]⟩,
   ⟨0x60, 4, 8, false, [⟨31, 0, .rc, 0, false, 0, 4294967295⟩]⟩,
   ⟨0x80, 0, 1, false, [⟨31, 0, .rc, 0, false, 0, 4294967295⟩]⟩,
   ⟨0x84, 0, 1, false, [⟨31, 0, .rc, 0, false, 0, 4294967295⟩]⟩,
   ⟨0x88, 0, 1, false, [⟨31, 0, .rc, 0, false, 0, 4294967295⟩]⟩]

/-- The register rows of block ARC (block 10 of Table 1.8), after the common header. -/
def rowsArc : List RegRow :=
  [⟨0x10, 0, 1, false, [⟨7, 7, .ro, 0, false, 0, 1⟩, ⟨6, 6, .ro, 0, false, 0, 1⟩, ⟨5, 5, .ro, 0, false, 0, 1⟩, ⟨4, 4, .ro, 0, false, 0, 1⟩, ⟨2, 0, .ro, 0, false, 0, 7⟩]⟩,
   ⟨0x14, 0, 1, false, [⟨16, 16, .rwo, 1, false, 0, 1⟩, ⟨15, 0, .rwo, 730, false, 0, 65535⟩]⟩,
   ⟨0x18, 0, 1, false, [⟨31, 24, .rwo, 10, true, 1, 255⟩, ⟨23, 12, .rwo, 200, true, 50, 4095⟩, ⟨11, 0, .rwo, 50, true, 10, 4095⟩]⟩,
   ⟨0x1C, 0, 1, false, [⟨15, 0, .rwo, 60, true, 10, 3600⟩]⟩,
   ⟨0x20, 0, 1, false, [⟨6, 0, .rwo, 100, true, 1, 100⟩]⟩,
   ⟨0x24, 0, 1, false, [⟨31, 0, .ro, 0, false, 0, 4294967295⟩]⟩,
   ⟨0x28, 0, 1, false, [⟨31, 0, .ro, 0, false, 0, 4294967295⟩]⟩,
   ⟨0x2C, 0, 1, false, [⟨31, 0, .ro, 0, false, 0, 4294967295⟩]⟩,
   ⟨0x30, 0, 1, false, [⟨31, 0, .ro, 0, false, 0, 4294967295⟩]⟩,
   ⟨0x34, 0, 1, false, [⟨31, 16, .ro, 0, false, 0, 65535⟩, ⟨15, 8, .ro, 0, false, 0, 255⟩, ⟨7, 0, .ro, 0, false, 0, 255⟩]⟩,
   ⟨0x38, 0, 1, true, [⟨6, 0, .rw, 0, false, 0, 127⟩]⟩,
   ⟨0x3C, 0, 1, false, [⟨31, 16, .ro, 0, false, 0, 65535⟩, ⟨15, 8, .ro, 0, false, 0, 255⟩, ⟨2, 0, .ro, 0, false, 0, 7⟩]⟩,
   ⟨0x40, 0, 1, false, [⟨31, 0, .ro, 0, false, 0, 4294967295⟩]⟩,
   ⟨0x44, 0, 1, false, [⟨31, 0, .ro, 0, false, 0, 4294967295⟩]⟩,
   ⟨0x50, 0, 1, false, [⟨31, 0, .rc, 0, false, 0, 4294967295⟩]⟩,
   ⟨0x54, 0, 1, false, [⟨31, 0, .rc, 0, false, 0, 4294967295⟩]⟩,
   ⟨0x58, 0, 1, false, [⟨31, 0, .rc, 0, false, 0, 4294967295⟩]⟩,
   ⟨0x5C, 0, 1, false, [⟨31, 0, .rc, 0, false, 0, 4294967295⟩]⟩,
   ⟨0x60, 0, 1, false, [⟨31, 0, .rc, 0, false, 0, 4294967295⟩]⟩,
   ⟨0x64, 0, 1, false, [⟨31, 0, .rc, 0, false, 0, 4294967295⟩]⟩,
   ⟨0x68, 0, 1, false, [⟨31, 0, .rc, 0, false, 0, 4294967295⟩]⟩,
   ⟨0x6C, 0, 1, false, [⟨31, 0, .rc, 0, false, 0, 4294967295⟩]⟩,
   ⟨0x70, 0, 1, false, [⟨31, 0, .rc, 0, false, 0, 4294967295⟩]⟩]

/-- The register rows of block HST (block 11 of Table 1.8), after the common header. -/
def rowsHst : List RegRow :=
  [⟨0x10, 0, 1, true, [⟨3, 2, .ro, 0, false, 0, 3⟩, ⟨1, 0, .ro, 0, false, 0, 3⟩]⟩,
   ⟨0x14, 0, 1, false, [⟨31, 31, .ro, 0, false, 0, 1⟩, ⟨30, 30, .ro, 0, false, 0, 1⟩, ⟨29, 28, .ro, 0, false, 0, 3⟩, ⟨15, 0, .ro, 0, false, 0, 65535⟩]⟩,
   ⟨0x18, 0, 1, false, [⟨15, 0, .rwo, 250, true, 50, 2000⟩]⟩,
   ⟨0x1C, 0, 1, false, [⟨19, 16, .ro, 0, false, 0, 15⟩, ⟨3, 3, .wo, 0, false, 0, 1⟩, ⟨2, 0, .ro, 0, false, 0, 7⟩]⟩,
   ⟨0x20, 0, 1, false, [⟨3, 0, .rwo, 0, false, 0, 15⟩]⟩,
   ⟨0x24, 0, 1, true, [⟨31, 31, .w1c, 0, false, 0, 1⟩, ⟨26, 24, .ro, 0, false, 0, 7⟩, ⟨15, 0, .ro, 0, false, 0, 65535⟩]⟩,
   ⟨0x28, 0, 1, true, [⟨21, 0, .ro, 0, false, 0, 4194303⟩]⟩,
   ⟨0x2C, 0, 1, false, [⟨31, 31, .rwo, 0, false, 0, 1⟩, ⟨25, 24, .rwo, 0, false, 0, 3⟩, ⟨7, 0, .rwo, 0, false, 0, 255⟩]⟩,
   ⟨0x30, 0, 1, true, [⟨7, 0, .rw, 0, false, 0, 255⟩]⟩,
   ⟨0x34, 0, 1, true, [⟨31, 30, .rw, 0, false, 0, 3⟩, ⟨29, 29, .rw, 0, false, 0, 1⟩, ⟨28, 24, .rw, 4, false, 4, 16⟩, ⟨23, 16, .rw, 0, false, 0, 255⟩, ⟨15, 8, .rw, 0, false, 0, 255⟩, ⟨5, 0, .rw, 0, false, 0, 63⟩]⟩,
   ⟨0x38, 0, 1, true, [⟨31, 12, .rw, 0, false, 0, 1048575⟩]⟩,
   ⟨0x3C, 0, 1, true, [⟨31, 0, .rw, 0, false, 0, 4294967295⟩]⟩,
   ⟨0x40, 0, 1, true, [⟨31, 3, .rw, 0, false, 0, 536870911⟩]⟩,
   ⟨0x44, 0, 1, true, [⟨31, 0, .rw, 0, false, 0, 4294967295⟩]⟩,
   ⟨0x48, 0, 1, true, [⟨1, 1, .wo, 0, false, 0, 1⟩, ⟨0, 0, .rw, 0, false, 0, 1⟩]⟩,
   ⟨0x4C, 0, 1, true, [⟨20, 16, .ro, 0, false, 0, 31⟩, ⟨3, 3, .ro, 0, false, 0, 1⟩, ⟨2, 2, .ro, 0, false, 0, 1⟩, ⟨1, 1, .ro, 0, false, 0, 1⟩, ⟨0, 0, .ro, 1, false, 0, 1⟩]⟩,
   ⟨0x50, 0, 1, true, [⟨31, 0, .ro, 0, false, 0, 4294967295⟩]⟩,
   ⟨0x54, 0, 1, true, [⟨31, 0, .ro, 0, false, 0, 4294967295⟩]⟩,
   ⟨0x60, 0, 1, false, [⟨31, 0, .rc, 0, false, 0, 4294967295⟩]⟩,
   ⟨0x64, 0, 1, false, [⟨31, 0, .rc, 0, false, 0, 4294967295⟩]⟩,
   ⟨0x68, 0, 1, false, [⟨31, 0, .rc, 0, false, 0, 4294967295⟩]⟩,
   ⟨0x6C, 0, 1, false, [⟨31, 0, .rc, 0, false, 0, 4294967295⟩]⟩,
   ⟨0x1000, 4, 640, true, [⟨31, 31, .rw, 0, false, 0, 1⟩, ⟨30, 30, .rw, 0, false, 0, 1⟩, ⟨13, 8, .rw, 0, false, 0, 63⟩, ⟨7, 0, .rw, 0, false, 0, 255⟩]⟩]

/-- The register rows of block TIM (block 12 of Table 1.8), after the common header. -/
def rowsTim : List RegRow :=
  [⟨0x10, 0, 1, false, [⟨11, 11, .ro, 0, false, 0, 1⟩, ⟨10, 10, .ro, 0, false, 0, 1⟩, ⟨9, 9, .ro, 0, false, 0, 1⟩, ⟨8, 8, .ro, 0, false, 0, 1⟩, ⟨7, 7, .ro, 0, false, 0, 1⟩, ⟨5, 4, .ro, 0, false, 0, 3⟩, ⟨2, 0, .ro, 0, false, 0, 7⟩]⟩,
   ⟨0x14, 0, 1, false, [⟨31, 0, .ro, 0, false, 0, 4294967295⟩]⟩,
   ⟨0x18, 0, 1, false, [⟨31, 0, .ro, 0, false, 0, 4294967295⟩]⟩,
   ⟨0x1C, 0, 1, false, [⟨31, 0, .ro, 0, false, 0, 4294967295⟩]⟩,
   ⟨0x20, 0, 1, false, [⟨31, 0, .ro, 0, false, 0, 4294967295⟩]⟩,
   ⟨0x24, 0, 1, false, [⟨31, 0, .ro, 0, false, 0, 4294967295⟩]⟩,
   ⟨0x28, 0, 1, false, [⟨31, 0, .ro, 0, false, 0, 4294967295⟩]⟩,
   ⟨0x2C, 0, 1, false, [⟨31, 0, .ro, 0, false, 0, 4294967295⟩]⟩,
   ⟨0x30, 0, 1, false, [⟨31, 24, .rwo, 7, false, 0, 255⟩, ⟨23, 8, .rwo, 60, false, 0, 65535⟩, ⟨5, 4, .rwo, 3, false, 0, 3⟩, ⟨3, 2, .rwo, 2, false, 0, 3⟩, ⟨1, 0, .rwo, 1, false, 0, 3⟩]⟩,
   ⟨0x34, 0, 1, false, [⟨31, 16, .rwo, 128, true, 0, 65535⟩, ⟨15, 0, .rwo, 208, true, 0, 65535⟩]⟩,
   ⟨0x38, 0, 1, false, [⟨31, 16, .rwo, 1000, true, 1, 65535⟩, ⟨15, 8, .rwo, 200, true, 10, 200⟩, ⟨7, 0, .rwo, 8, true, 4, 255⟩]⟩,
   ⟨0x3C, 0, 1, false, [⟨31, 16, .rwo, 1000, true, 0, 65535⟩, ⟨15, 8, .rwo, 10, true, 1, 255⟩, ⟨7, 0, .rwo, 60, false, 10, 255⟩]⟩,
   ⟨0x40, 0, 1, false, [⟨31, 24, .rwo, 10, true, 1, 255⟩, ⟨23, 20, .rwo, 8, true, 1, 15⟩, ⟨19, 12, .rwo, 50, true, 0, 255⟩, ⟨11, 8, .rwo, 4, true, 1, 15⟩]⟩,
   ⟨0x44, 0, 1, false, [⟨31, 25, .ro, 0, false, 0, 127⟩, ⟨24, 21, .ro, 0, false, 0, 15⟩, ⟨20, 16, .ro, 0, false, 0, 31⟩, ⟨15, 0, .ro, 0, false, 0, 65535⟩]⟩,
   ⟨0x48, 0, 1, false, [⟨11, 8, .ro, 0, false, 0, 15⟩, ⟨7, 4, .ro, 0, false, 0, 15⟩, ⟨3, 0, .ro, 0, false, 0, 15⟩]⟩,
   ⟨0x4C, 0, 1, false, [⟨31, 31, .ro, 0, false, 0, 1⟩, ⟨30, 30, .ro, 0, false, 0, 1⟩, ⟨29, 29, .ro, 0, false, 0, 1⟩, ⟨15, 0, .rwo, 37, false, 0, 65535⟩]⟩,
   ⟨0x50, 0, 1, false, [⟨31, 16, .rwo, 65535, false, 0, 65535⟩, ⟨7, 0, .rwo, 0, false, 0, 255⟩]⟩,
   ⟨0x54, 0, 1, false, [⟨31, 31, .rwo, 0, false, 0, 1⟩, ⟨15, 0, .rwo, 0, false, 0, 65535⟩]⟩,
   ⟨0x58, 0, 1, false, [⟨31, 30, .rwo, 0, false, 0, 3⟩, ⟨25, 16, .rwo, 100, false, 1, 500⟩, ⟨15, 0, .rwo, 0, false, 0, 65535⟩]⟩,
   ⟨0x5C, 0, 1, false, [⟨31, 0, .ro, 0, false, 0, 4294967295⟩]⟩,
   ⟨0x60, 0, 1, false, [⟨31, 0, .ro, 0, false, 0, 4294967295⟩]⟩,
   ⟨0x64, 0, 1, false, [⟨31, 0, .rwo, 0, true, 0, 4294967295⟩]⟩,
   ⟨0x70, 0, 1, false, [⟨31, 0, .rc, 0, false, 0, 4294967295⟩]⟩,
   ⟨0x74, 0, 1, false, [⟨31, 0, .rc, 0, false, 0, 4294967295⟩]⟩,
   ⟨0x78, 0, 1, false, [⟨31, 0, .rc, 0, false, 0, 4294967295⟩]⟩,
   ⟨0x7C, 0, 1, false, [⟨31, 0, .rc, 0, false, 0, 4294967295⟩]⟩,
   ⟨0x100, 4, 16, false, [⟨31, 0, .rwo, 0, false, 0, 4294967295⟩]⟩,
   ⟨0x140, 4, 16, false, [⟨31, 0, .rwo, 0, false, 0, 4294967295⟩]⟩,
   ⟨0x180, 4, 16, false, [⟨31, 8, .ro, 0, false, 0, 16777215⟩, ⟨3, 0, .ro, 3, false, 0, 15⟩]⟩,
   ⟨0x1C0, 4, 16, false, [⟨31, 16, .ro, 0, false, 0, 65535⟩, ⟨5, 5, .w1c, 0, false, 0, 1⟩, ⟨4, 0, .ro, 0, false, 0, 31⟩]⟩]

/-- The register rows of block KEY (block 13 of Table 1.8), after the common header. -/
def rowsKey : List RegRow :=
  [⟨0x10, 0, 1, false, [⟨7, 7, .ro, 0, false, 0, 1⟩, ⟨6, 6, .ro, 0, false, 0, 1⟩, ⟨5, 3, .ro, 0, false, 0, 7⟩, ⟨2, 0, .ro, 0, false, 0, 7⟩]⟩,
   ⟨0x14, 0, 1, true, [⟨7, 0, .rw, 0, false, 0, 255⟩]⟩,
   ⟨0x18, 0, 1, false, [⟨31, 31, .ro, 0, false, 0, 1⟩, ⟨30, 28, .ro, 0, false, 0, 7⟩, ⟨27, 26, .ro, 0, false, 0, 3⟩, ⟨25, 24, .ro, 0, false, 0, 3⟩, ⟨7, 0, .ro, 0, false, 0, 255⟩]⟩,
   ⟨0x1C, 0, 1, false, [⟨31, 0, .ro, 0, false, 0, 4294967295⟩]⟩,
   ⟨0x20, 0, 1, false, [⟨31, 0, .ro, 0, false, 0, 4294967295⟩]⟩,
   ⟨0x24, 0, 1, false, [⟨8, 0, .ro, 0, false, 0, 511⟩]⟩,
   ⟨0x28, 0, 1, false, [⟨31, 0, .ro, 0, false, 0, 4294967295⟩]⟩,
   ⟨0x2C, 0, 1, false, [⟨7, 0, .ro, 0, false, 0, 255⟩]⟩,
   ⟨0x30, 0, 1, false, [⟨31, 0, .rc, 0, false, 0, 4294967295⟩]⟩,
   ⟨0x34, 0, 1, false, [⟨31, 0, .rc, 0, false, 0, 4294967295⟩]⟩,
   ⟨0x38, 0, 1, false, [⟨31, 0, .rc, 0, false, 0, 4294967295⟩]⟩,
   ⟨0x3C, 0, 1, false, [⟨31, 0, .rc, 0, false, 0, 4294967295⟩]⟩,
   ⟨0x40, 4, 16, false, [⟨31, 31, .ro, 0, false, 0, 1⟩, ⟨7, 0, .ro, 0, false, 0, 255⟩]⟩,
   ⟨0x80, 8, 8, false, [⟨31, 0, .ro, 0, false, 0, 4294967295⟩]⟩,
   ⟨0x84, 8, 8, false, [⟨31, 0, .ro, 0, false, 0, 4294967295⟩]⟩,
   ⟨0x100, 4, 8, false, [⟨31, 0, .ro, 0, false, 0, 4294967295⟩]⟩,
   ⟨0x120, 4, 8, false, [⟨31, 0, .ro, 0, false, 0, 4294967295⟩]⟩,
   ⟨0x140, 4, 8, false, [⟨31, 0, .ro, 0, false, 0, 4294967295⟩]⟩]

/-- The register rows of block SAF (block 14 of Table 1.8), after the common header. -/
def rowsSaf : List RegRow :=
  [⟨0x10, 0, 1, false, [⟨23, 23, .ro, 0, false, 0, 1⟩, ⟨22, 22, .ro, 0, false, 0, 1⟩, ⟨21, 16, .ro, 0, false, 0, 63⟩, ⟨1, 0, .ro, 2, false, 0, 3⟩]⟩,
   ⟨0x14, 0, 1, false, [⟨31, 16, .ro, 0, false, 0, 65535⟩, ⟨15, 0, .ro, 0, false, 0, 65535⟩]⟩,
   ⟨0x18, 0, 1, false, [⟨31, 16, .ro, 0, false, 0, 65535⟩, ⟨15, 0, .ro, 0, false, 0, 65535⟩]⟩,
   ⟨0x1C, 0, 1, false, [⟨31, 16, .ro, 0, false, 0, 65535⟩, ⟨8, 8, .ro, 0, false, 0, 1⟩, ⟨7, 7, .ro, 0, false, 0, 1⟩, ⟨6, 6, .ro, 0, false, 0, 1⟩, ⟨5, 5, .ro, 0, false, 0, 1⟩, ⟨4, 3, .ro, 0, false, 0, 3⟩, ⟨2, 1, .ro, 0, false, 0, 3⟩]⟩,
   ⟨0x24, 0, 1, false, [⟨31, 31, .rws, 0, false, 0, 1⟩, ⟨15, 0, .rws, 0, false, 0, 65535⟩]⟩,
   ⟨0x28, 0, 1, false, [⟨31, 31, .ro, 0, false, 0, 1⟩, ⟨15, 0, .ro, 0, false, 0, 65535⟩]⟩,
   ⟨0x2C, 0, 1, false, [⟨31, 0, .rws, 0, false, 0, 4294967295⟩]⟩,
   ⟨0x30, 0, 1, false, [⟨31, 0, .ro, 0, false, 0, 4294967295⟩]⟩,
   ⟨0x34, 0, 1, false, [⟨31, 16, .rws, 0, false, 0, 65535⟩, ⟨15, 8, .rws, 0, false, 0, 255⟩, ⟨7, 0, .rws, 0, false, 0, 255⟩]⟩,
   ⟨0x38, 0, 1, false, [⟨31, 16, .ro, 0, false, 0, 65535⟩, ⟨15, 8, .ro, 0, false, 0, 255⟩, ⟨7, 0, .ro, 0, false, 0, 255⟩]⟩,
   ⟨0x3C, 0, 1, false, [⟨23, 16, .ro, 0, false, 0, 255⟩, ⟨10, 8, .ro, 4, false, 0, 7⟩, ⟨7, 6, .ro, 0, false, 0, 3⟩, ⟨5, 5, .ro, 0, false, 0, 1⟩, ⟨0, 0, .rws, 0, false, 0, 1⟩]⟩,
   ⟨0x40, 0, 1, false, [⟨31, 0, .ro, 0, false, 0, 4294967295⟩]⟩,
   ⟨0x44, 0, 1, false, [⟨31, 0, .ro, 0, false, 0, 4294967295⟩]⟩,
   ⟨0x48, 0, 1, false, [⟨9, 9, .ro, 0, false, 0, 1⟩, ⟨8, 8, .ro, 0, false, 0, 1⟩, ⟨7, 0, .ro, 0, false, 0, 255⟩]⟩,
   ⟨0x50, 0, 1, false, [⟨31, 0, .rc, 0, false, 0, 4294967295⟩]⟩,
   ⟨0x54, 0, 1, false, [⟨31, 0, .rc, 0, false, 0, 4294967295⟩]⟩,
   ⟨0x58, 0, 1, false, [⟨31, 0, .rc, 0, false, 0, 4294967295⟩]⟩,
   ⟨0x5C, 0, 1, false, [⟨31, 0, .rc, 0, false, 0, 4294967295⟩]⟩,
   ⟨0x1000, 4, 320, false, [⟨15, 0, .rws, 0, false, 0, 65535⟩]⟩,
   ⟨0x1800, 4, 320, false, [⟨31, 31, .ro, 0, false, 0, 1⟩, ⟨30, 30, .ro, 0, false, 0, 1⟩, ⟨15, 0, .ro, 0, false, 0, 65535⟩]⟩]

/-- The register rows of block RDG (block 15 of Table 1.8), after the common header. -/
def rowsRdg : List RegRow :=
  [⟨0x10, 0, 1, false, [⟨23, 20, .ro, 0, false, 0, 15⟩, ⟨19, 18, .ro, 0, false, 0, 3⟩, ⟨17, 17, .ro, 0, false, 0, 1⟩, ⟨16, 16, .ro, 0, false, 0, 1⟩, ⟨11, 11, .ro, 0, false, 0, 1⟩, ⟨10, 10, .ro, 0, false, 0, 1⟩, ⟨9, 9, .ro, 0, false, 0, 1⟩, ⟨8, 8, .ro, 0, false, 0, 1⟩, ⟨1, 0, .ro, 0, false, 0, 3⟩]⟩,
   ⟨0x14, 0, 1, false, [⟨31, 31, .rwo, 1, false, 0, 1⟩, ⟨15, 8, .rwo, 5, false, 1, 255⟩, ⟨7, 0, .rwo, 4, true, 2, 255⟩]⟩,
   ⟨0x18, 0, 1, false, [⟨1, 1, .rwo, 0, false, 0, 1⟩, ⟨0, 0, .rwo, 0, false, 0, 1⟩]⟩,
   ⟨0x1C, 0, 1, false, [⟨27, 20, .ro, 0, false, 0, 255⟩, ⟨19, 0, .ro, 0, false, 0, 1048575⟩]⟩,
   ⟨0x20, 0, 1, false, [⟨31, 0, .ro, 0, false, 0, 4294967295⟩]⟩,
   ⟨0x24, 0, 1, false, [⟨31, 0, .ro, 0, false, 0, 4294967295⟩]⟩,
   ⟨0x28, 0, 1, false, [⟨22, 16, .ro, 0, false, 0, 127⟩, ⟨15, 8, .ro, 0, false, 0, 255⟩, ⟨1, 0, .ro, 0, false, 0, 3⟩]⟩,
   ⟨0x2C, 0, 1, false, [⟨31, 0, .ro, 0, false, 0, 4294967295⟩]⟩,
   ⟨0x30, 0, 1, false, [⟨31, 0, .ro, 0, false, 0, 4294967295⟩]⟩,
   ⟨0x34, 0, 1, false, [⟨31, 31, .ro, 0, false, 0, 1⟩, ⟨6, 0, .ro, 0, false, 0, 127⟩]⟩,
   ⟨0x40, 0, 1, false, [⟨31, 0, .rc, 0, false, 0, 4294967295⟩]⟩,
   ⟨0x44, 0, 1, false, [⟨31, 0, .rc, 0, false, 0, 4294967295⟩]⟩,
   ⟨0x48, 0, 1, false, [⟨31, 0, .rc, 0, false, 0, 4294967295⟩]⟩,
   ⟨0x4C, 0, 1, false, [⟨31, 0, .rc, 0, false, 0, 4294967295⟩]⟩,
   ⟨0x50, 0, 1, false, [⟨31, 0, .rc, 0, false, 0, 4294967295⟩]⟩,
   ⟨0x54, 0, 1, false, [⟨31, 0, .rc, 0, false, 0, 4294967295⟩]⟩,
   ⟨0x58, 0, 1, false, [⟨31, 0, .rc, 0, false, 0, 4294967295⟩]⟩]

/-- The register rows of block MET (block 16 of Table 1.8), after the common header. -/
def rowsMet : List RegRow :=
  [⟨0x10, 0, 1, false, [⟨31, 0, .ro, 0, false, 0, 4294967295⟩]⟩,
   ⟨0x14, 0, 1, false, [⟨10, 8, .ro, 4, false, 0, 7⟩, ⟨7, 7, .ro, 0, false, 0, 1⟩, ⟨6, 5, .ro, 0, false, 0, 3⟩, ⟨4, 3, .ro, 0, false, 0, 3⟩]⟩,
   ⟨0x18, 0, 1, false, [⟨31, 0, .ro, 0, false, 0, 4294967295⟩]⟩,
   ⟨0x1C, 0, 1, false, [⟨31, 0, .ro, 0, false, 0, 4294967295⟩]⟩,
   ⟨0x20, 4, 3, false, [⟨31, 0, .ro, 0, false, 0, 4294967295⟩]⟩,
   ⟨0x30, 4, 4, false, [⟨31, 16, .ro, 0, false, 0, 65535⟩, ⟨15, 0, .ro, 0, false, 0, 65535⟩]⟩,
   ⟨0x40, 0, 1, false, [⟨15, 0, .ro, 4, false, 0, 65535⟩]⟩,
   ⟨0x50, 0, 1, false, [⟨31, 0, .rc, 0, false, 0, 4294967295⟩]⟩,
   ⟨0x54, 0, 1, false, [⟨31, 0, .rc, 0, false, 0, 4294967295⟩]⟩,
   ⟨0x58, 0, 1, false, [⟨31, 0, .rc, 0, false, 0, 4294967295⟩]⟩,
   ⟨0x100, 4, 8, false, [⟨31, 8, .ro, 0, false, 0, 16777215⟩, ⟨3, 0, .ro, 8, false, 0, 15⟩]⟩]

/-- The register rows of block TMP (block 17 of Table 1.8), after the common header. -/
def rowsTmp : List RegRow :=
  [⟨0x10, 0, 1, false, [⟨8, 8, .ro, 0, false, 0, 1⟩, ⟨7, 7, .ro, 0, false, 0, 1⟩, ⟨3, 0, .ro, 0, false, 0, 15⟩]⟩,
   ⟨0x14, 0, 1, false, [⟨7, 4, .rws, 0, false, 0, 15⟩, ⟨3, 0, .rws, 0, false, 0, 15⟩]⟩,
   ⟨0x18, 0, 1, false, [⟨31, 0, .ro, 0, false, 0, 4294967295⟩]⟩,
   ⟨0x1C, 0, 1, true, [⟨31, 0, .rw, 0, false, 0, 4294967295⟩]⟩,
   ⟨0x20, 0, 1, false, [⟨31, 0, .ro, 0, false, 0, 4294967295⟩]⟩,
   ⟨0x24, 0, 1, false, [⟨31, 0, .ro, 0, false, 0, 4294967295⟩]⟩]

/-- The register rows of block OTP (block 18 of Table 1.8), after the common header. -/
def rowsOtp : List RegRow :=
  [⟨0x10, 0, 1, false, [⟨12, 9, .ro, 8, false, 0, 15⟩, ⟨8, 8, .ro, 0, false, 0, 1⟩, ⟨2, 0, .ro, 1, false, 0, 7⟩]⟩,
   ⟨0x14, 0, 1, false, [⟨13, 12, .ro, 0, false, 0, 3⟩, ⟨11, 10, .ro, 0, false, 0, 3⟩, ⟨9, 9, .ro, 0, false, 0, 1⟩, ⟨1, 1, .ro, 0, false, 0, 1⟩, ⟨0, 0, .ro, 0, false, 0, 1⟩]⟩,
   ⟨0x18, 0, 1, false, [⟨31, 0, .ro, 0, false, 0, 4294967295⟩]⟩,
   ⟨0x1C, 0, 1, false, [⟨31, 0, .ro, 0, false, 0, 4294967295⟩]⟩,
   ⟨0x20, 0, 1, false, [⟨12, 10, .ro, 0, false, 0, 7⟩, ⟨9, 8, .ro, 0, false, 0, 3⟩, ⟨4, 2, .ro, 0, false, 0, 7⟩, ⟨1, 0, .ro, 0, false, 0, 3⟩]⟩,
   ⟨0x24, 0, 1, false, [⟨31, 0, .ro, 0, false, 0, 4294967295⟩]⟩,
   ⟨0x28, 0, 1, false, [⟨31, 0, .ro, 0, false, 0, 4294967295⟩]⟩,
   ⟨0x2C, 0, 1, false, [⟨5, 4, .rwo, 0, false, 0, 2⟩, ⟨0, 0, .rwo, 0, false, 0, 1⟩]⟩,
   ⟨0x30, 0, 1, false, [⟨10, 8, .ro, 4, false, 0, 7⟩, ⟨7, 7, .ro, 0, false, 0, 1⟩, ⟨6, 5, .ro, 0, false, 0, 3⟩]⟩,
   ⟨0x34, 0, 1, false, [⟨31, 31, .ro, 0, false, 0, 1⟩, ⟨23, 16, .ro, 0, false, 0, 255⟩, ⟨10, 8, .ro, 0, false, 0, 7⟩, ⟨1, 0, .ro, 0, false, 0, 3⟩]⟩,
   ⟨0x38, 0, 1, false, [⟨31, 31, .ro, 0, false, 0, 1⟩, ⟨30, 30, .ro, 0, false, 0, 1⟩, ⟨29, 29, .ro, 0, false, 0, 1⟩]⟩,
   ⟨0x3C, 0, 1, false, [⟨31, 0, .ro, 3232300564, false, 0, 4294967295⟩]⟩,
   ⟨0x40, 0, 1, false, [⟨31, 0, .ro, 0, false, 0, 4294967295⟩]⟩,
   ⟨0x44, 0, 1, true, [⟨31, 0, .rw, 0, false, 0, 4294967295⟩]⟩,
   ⟨0x80, 4, 16, false, [⟨31, 0, .ro, 0, false, 0, 4294967295⟩]⟩]

/-- The register rows of block EVT (block 19 of Table 1.8). -/
def rowsEvt : List RegRow :=
  [⟨0x0, 0, 1, false, [⟨31, 0, .ro, 0, false, 0, 4294967295⟩]⟩,
   ⟨0x4, 0, 1, false, [⟨15, 0, .ro, 0, false, 0, 65535⟩]⟩,
   ⟨0x8, 0, 1, false, [⟨31, 0, .ro, 0, false, 0, 4294967295⟩]⟩,
   ⟨0xC, 0, 1, false, [⟨15, 0, .ro, 0, false, 0, 65535⟩]⟩,
   ⟨0x10, 0, 1, false, [⟨31, 0, .ro, 0, false, 0, 4294967295⟩]⟩,
   ⟨0x14, 0, 1, false, [⟨15, 0, .ro, 0, false, 0, 65535⟩]⟩,
   ⟨0x18, 0, 1, false, [⟨31, 31, .ro, 1, false, 0, 1⟩, ⟨30, 30, .ro, 0, false, 0, 1⟩, ⟨16, 0, .ro, 0, false, 0, 131071⟩]⟩,
   ⟨0x1C, 0, 1, false, [⟨31, 0, .rc, 0, false, 0, 4294967295⟩]⟩,
   ⟨0x20, 0, 1, true, [⟨31, 0, .rw, 0, false, 0, 4294967295⟩]⟩,
   ⟨0x24, 0, 1, true, [⟨15, 0, .rw, 0, false, 0, 65535⟩]⟩,
   ⟨0x28, 0, 1, false, [⟨4, 4, .ro, 0, false, 0, 1⟩, ⟨3, 0, .ro, 0, false, 0, 15⟩]⟩,
   ⟨0x40, 4, 32, false, [⟨31, 0, .ro, 0, false, 0, 4294967295⟩]⟩]

/-- The register rows of block HLT (block 20 of Table 1.8), after the common header. -/
def rowsHlt : List RegRow :=
  [⟨0x10, 0, 1, false, [⟨19, 8, .ro, 0, false, 0, 4095⟩, ⟨7, 4, .ro, 0, false, 0, 15⟩, ⟨2, 0, .ro, 0, false, 0, 7⟩]⟩,
   ⟨0x14, 0, 1, false, [⟨23, 0, .ro, 0, false, 0, 16777215⟩]⟩,
   ⟨0x18, 0, 1, false, [⟨23, 0, .ro, 0, false, 0, 16777215⟩]⟩,
   ⟨0x1C, 0, 1, false, [⟨15, 8, .ro, 0, false, 0, 255⟩, ⟨2, 0, .ro, 0, false, 0, 7⟩]⟩,
   ⟨0x20, 0, 1, false, [⟨0, 0, .rwo, 1, false, 0, 1⟩]⟩,
   ⟨0x24, 0, 1, false, [⟨28, 24, .ro, 0, false, 0, 31⟩, ⟨23, 16, .ro, 0, false, 0, 255⟩, ⟨1, 0, .ro, 0, false, 0, 3⟩]⟩,
   ⟨0x30, 0, 1, false, [⟨31, 0, .rc, 0, false, 0, 4294967295⟩]⟩,
   ⟨0x34, 0, 1, false, [⟨31, 0, .rc, 0, false, 0, 4294967295⟩]⟩,
   ⟨0x38, 0, 1, false, [⟨31, 0, .rc, 0, false, 0, 4294967295⟩]⟩,
   ⟨0x3C, 0, 1, false, [⟨31, 0, .rc, 0, false, 0, 4294967295⟩]⟩,
   ⟨0x40, 0, 1, false, [⟨31, 0, .rc, 0, false, 0, 4294967295⟩]⟩,
   ⟨0x100, 4, 16, false, [⟨31, 31, .ro, 0, false, 0, 1⟩, ⟨11, 0, .ro, 0, false, 0, 4095⟩]⟩,
   ⟨0x140, 4, 24, false, [⟨31, 16, .rc, 65535, false, 0, 65535⟩, ⟨15, 0, .ro, 0, false, 0, 65535⟩]⟩,
   ⟨0x200, 4, 32, false, [⟨31, 16, .ro, 0, false, 0, 65535⟩, ⟨15, 0, .ro, 0, false, 0, 65535⟩]⟩]

/-- The register rows of block DDR (block 21 of Table 1.8), after the common header. -/
def rowsDdr : List RegRow :=
  [⟨0x10, 0, 1, false, [⟨31, 31, .ro, 0, false, 0, 1⟩, ⟨30, 30, .ro, 0, false, 0, 1⟩, ⟨24, 16, .ro, 0, false, 0, 511⟩, ⟨9, 8, .ro, 0, false, 0, 3⟩, ⟨7, 6, .ro, 0, false, 0, 3⟩, ⟨2, 0, .ro, 0, false, 0, 7⟩]⟩,
   ⟨0x14, 0, 1, false, [⟨31, 0, .rc, 0, false, 0, 4294967295⟩]⟩,
   ⟨0x18, 0, 1, false, [⟨31, 0, .rc, 0, false, 0, 4294967295⟩]⟩,
   ⟨0x1C, 0, 1, false, [⟨31, 31, .ro, 0, false, 0, 1⟩, ⟨7, 4, .ro, 0, false, 0, 15⟩, ⟨3, 3, .ro, 0, false, 0, 1⟩, ⟨2, 2, .ro, 0, false, 0, 1⟩, ⟨1, 0, .ro, 0, false, 0, 3⟩]⟩]

/-- The register rows of a block by its number (Table 1.8). Every block but GLB and EVT begins with the header (R36). -/
def blockRows : Nat → List RegRow
  | 0 => rowsGlb
  | 1 => headerRows ++ rowsLane
  | 2 => headerRows ++ rowsCrs
  | 3 => headerRows ++ rowsEav
  | 4 => headerRows ++ rowsPlc
  | 5 => headerRows ++ rowsRad
  | 6 => headerRows ++ rowsMtb
  | 7 => headerRows ++ rowsRec
  | 8 => headerRows ++ rowsVal
  | 9 => headerRows ++ rowsSwc
  | 10 => headerRows ++ rowsArc
  | 11 => headerRows ++ rowsHst
  | 12 => headerRows ++ rowsTim
  | 13 => headerRows ++ rowsKey
  | 14 => headerRows ++ rowsSaf
  | 15 => headerRows ++ rowsRdg
  | 16 => headerRows ++ rowsMet
  | 17 => headerRows ++ rowsTmp
  | 18 => headerRows ++ rowsOtp
  | 19 => rowsEvt
  | 20 => headerRows ++ rowsHlt
  | 21 => headerRows ++ rowsDdr
  | _ => []

/-- The entry of a row that a block offset addresses. -/
def RegRow.covers (r : RegRow) (off : Nat) : Bool :=
  if r.count ≤ 1 then off == r.off
  else decide (r.off ≤ off) && (off - r.off) % r.stride == 0 && decide ((off - r.off) / r.stride < r.count)

/-- The register row at a BAR0 address, or none for an undefined offset (R35). -/
def regRow (a : Nat) : Option RegRow :=
  (blockRows (a / 0x10000)).find? fun r => r.covers (a % 0x10000)

/-- SWC_QLIMIT[k] resets to the queue limit of class k in Table 9.2 (entry 0 reads 0, class 7 has 16,384). -/
def fieldReset (a : Nat) (f : FieldRow) : Nat :=
  match a with
  | 0x090020 => 0
  | 0x090024 => 4096
  | 0x090028 | 0x09002C | 0x090034 => 1048576
  | 0x090030 | 0x09003C => 16384
  | 0x090038 => 262144
  | _ => f.rst

/-- The reset value of the register at a BAR0 address: its fields' reset values, reserved bits 0 (R12, R18). -/
def resetWord (a : Nat) : Nat :=
  match regRow a with
  | none => 0
  | some r => r.fields.foldl (fun acc f => acc + (fieldReset a f) * 2 ^ f.lo) 0

namespace Reg

def GLB_DEVICE_ID : Nat := 0x000000
def GLB_EXPERT_EN : Nat := 0x000010
def GLB_CLK_ALIVE : Nat := 0x000014
def LANE_HI_BER_COUNT : Nat := 0x010010
def LANE_ERR_BLOCK_COUNT : Nat := 0x010014
def LANE_GRP_STATUS (i : Nat) : Nat := 0x010100 + 4 * i
def LANE_ELEC_CFG (i : Nat) : Nat := 0x010200 + 4 * i
def LANE_TX_EQ (i : Nat) : Nat := 0x011000 + 4 * i
def CRS_COURSE_LO : Nat := 0x020010
def CRS_COURSE_HI : Nat := 0x020014
def CRS_TIMING : Nat := 0x020018
def CRS_EPOCH : Nat := 0x02001C
def CRS_PLAN_ID_LO : Nat := 0x020020
def CRS_PLAN_ID_HI : Nat := 0x020024
def CRS_PLAN_STATUS : Nat := 0x020028
def CRS_STAGE_SEAL : Nat := 0x02002C
def CRS_STAGE_TABLES : Nat := 0x020030
def CRS_COMMIT_TARGET_LO : Nat := 0x020034
def CRS_COMMIT_TARGET_HI : Nat := 0x020038
def CRS_COMMIT_STATUS : Nat := 0x02003C
def CRS_OVERRUN_COUNT : Nat := 0x020040
def CRS_OVERRUN_FLAGS : Nat := 0x020044
def CRS_FALLBACK : Nat := 0x020048
def EAV_RANGE_CFG : Nat := 0x030010
def EAV_CLIP_COUNT : Nat := 0x030014
def EAV_SETTLE_COUNT : Nat := 0x030018
def EAV_ELEM_ERR_COUNT : Nat := 0x03001C
def EAV_LATE_COUNT : Nat := 0x030020
def EAV_HDR_ERR_COUNT : Nat := 0x030024
def EAV_LANE_STATUS (i : Nat) : Nat := 0x031000 + 4 * i
def EAV_EAVE_STATE (i : Nat) : Nat := 0x038000 + 4 * i
def PLC_TMR_THRESH : Nat := 0x040010
def PLC_DETECT_ADJ : Nat := 0x040014
def PLC_CELL_SEL : Nat := 0x040018
def PLC_CELL_STATE : Nat := 0x04001C
def PLC_CELL_FC : Nat := 0x040020
def PLC_RX_OK_COUNT : Nat := 0x040030
def PLC_RX_LOST_COUNT : Nat := 0x040034
def PLC_ACK_MISSED_COUNT : Nat := 0x040038
def PLC_CHAN_FAIL_COUNT : Nat := 0x04003C
def PLC_NO_ACK_COUNT : Nat := 0x040040
def PLC_REPLAY_COUNT : Nat := 0x040044
def PLC_UNSUPPORTED_COUNT : Nat := 0x040048
def PLC_TX_CUT_COUNT : Nat := 0x04004C
def PLC_ROUTE_ERR_COUNT : Nat := 0x040050
def PLC_JOIN_REFUSED_COUNT : Nat := 0x040054
def PLC_FOREIGN_LAST : Nat := 0x040060
def PLC_JOIN_LAST : Nat := 0x040064
def RAD_CSL_ADJ : Nat := 0x050010
def RAD_CCA_ADJ : Nat := 0x050014
def RAD_CELL_SEL : Nat := 0x050018
def RAD_CELL_STATE : Nat := 0x05001C
def RAD_CELL_FC : Nat := 0x050020
def RAD_CELL_LOAD : Nat := 0x050024
def RAD_RX_OK_COUNT : Nat := 0x050030
def RAD_RX_LOST_COUNT : Nat := 0x050034
def RAD_ACK_MISSED_COUNT : Nat := 0x050038
def RAD_CHAN_FAIL_COUNT : Nat := 0x05003C
def RAD_NO_ACK_COUNT : Nat := 0x050040
def RAD_REPLAY_COUNT : Nat := 0x050044
def RAD_UNSECURED_COUNT : Nat := 0x050048
def RAD_AUTH_FAIL_COUNT : Nat := 0x05004C
def RAD_UNSUPPORTED_COUNT : Nat := 0x050050
def RAD_TX_CUT_COUNT : Nat := 0x050054
def RAD_ASSOC_REFUSED_COUNT : Nat := 0x050058
def RAD_CSL_FAIL_COUNT : Nat := 0x05005C
def RAD_DUTY_BLOCK_COUNT : Nat := 0x050060
def RAD_ASSOC_LAST : Nat := 0x050070
def RAD_FOREIGN_LAST : Nat := 0x050074
def MTB_HASH_SEED0 : Nat := 0x060010
def MTB_HASH_SEED1 : Nat := 0x060014
def MTB_EPOCH_SEL : Nat := 0x060018
def MTB_OCCUPANCY : Nat := 0x06001C
def MTB_STASH : Nat := 0x060020
def MTB_INSERT_CFG : Nat := 0x060024
def MTB_AGE_CFG : Nat := 0x060028
def MTB_AGE_LIMIT : Nat := 0x06002C
def MTB_COMB_STATUS : Nat := 0x060030
def MTB_SCRUB_STATUS : Nat := 0x060034
def MTB_SHADOW_LO : Nat := 0x060038
def MTB_SHADOW_HI : Nat := 0x06003C
def MTB_SCRUB_CFG : Nat := 0x060040
def MTB_SCRUB_LAST : Nat := 0x060044
def MTB_MISS_COUNT : Nat := 0x060050
def MTB_MISS_PENDING_COUNT : Nat := 0x060054
def MTB_AGED_COUNT : Nat := 0x060058
def MTB_MISMATCH_COUNT : Nat := 0x06005C
def MTB_REPAIR_COUNT : Nat := 0x060060
def MTB_ECC_COUNT : Nat := 0x060064
def REC_BILL_CFG : Nat := 0x070010
def REC_PLAUS_CFG : Nat := 0x070014
def REC_VOLT_WIN : Nat := 0x070018
def REC_RELAY_CFG : Nat := 0x07001C
def REC_DELIVERY : Nat := 0x070020
def REC_CAL_SEL : Nat := 0x070024
def REC_CAL_STATUS : Nat := 0x070028
def REC_CAL_VERSION : Nat := 0x07002C
def REC_STAGING : Nat := 0x070030
def REC_YELM_OK_COUNT : Nat := 0x070040
def REC_PARSE_ERR_COUNT : Nat := 0x070044
def REC_UNKNOWN_COUNT : Nat := 0x070048
def REC_SOURCE_ERR_COUNT : Nat := 0x07004C
def REC_AUTH_FAIL_COUNT : Nat := 0x070050
def REC_REPLAY_COUNT : Nat := 0x070054
def REC_FUTURE_COUNT : Nat := 0x070058
def REC_DUP_COUNT : Nat := 0x07005C
def REC_LATE_DROP_COUNT : Nat := 0x070060
def REC_OFF_DROP_COUNT : Nat := 0x070064
def REC_RING_DROP_COUNT : Nat := 0x070068
def REC_UNARCHIVED_COUNT : Nat := 0x07006C
def VAL_CFG : Nat := 0x080010
def VAL_SIG_CFG0 : Nat := 0x080014
def VAL_SIG_CFG1 : Nat := 0x080018
def VAL_SIG_CFG2 : Nat := 0x08001C
def VAL_SIG_CFG3 : Nat := 0x080020
def VAL_SIG_CFG4 : Nat := 0x080024
def VAL_DELIVERY : Nat := 0x080028
def VAL_EVAL_LO : Nat := 0x08002C
def VAL_EVAL_HI : Nat := 0x080030
def VAL_NODE_SEL : Nat := 0x080034
def VAL_NODE_STATE : Nat := 0x080038
def VAL_NODE_RESID : Nat := 0x08003C
def VAL_RETRO_STATUS : Nat := 0x080040
def VAL_LATE_TILE_COUNT : Nat := 0x080050
def VAL_INCOMPLETE_COUNT : Nat := 0x080054
def VAL_STEP_OVF_COUNT : Nat := 0x080058
def VAL_ALARM_COUNT : Nat := 0x08005C
def VAL_SIG_COUNT : Nat := 0x080060
def VAL_RING_DROP_COUNT : Nat := 0x080064
def SWC_SHED : Nat := 0x090010
def SWC_SHED_CFG : Nat := 0x090014
def SWC_OVF : Nat := 0x090018
def SWC_POOL : Nat := 0x09001C
def SWC_QLIMIT (i : Nat) : Nat := 0x090020 + 4 * i
def SWC_CLASS_SEL : Nat := 0x090040
def SWC_CLASS_ONCHIP : Nat := 0x090044
def SWC_CLASS_DRAM : Nat := 0x090048
def SWC_MCAST : Nat := 0x09004C
def SWC_DROP_COUNT (i : Nat) : Nat := 0x090060 + 4 * i
def SWC_SHED_DROP_COUNT : Nat := 0x090080
def SWC_DRAM_ERR_COUNT : Nat := 0x090084
def SWC_MCAST_SKIP_COUNT : Nat := 0x090088
def ARC_STATE : Nat := 0x0A0010
def ARC_RETAIN : Nat := 0x0A0014
def ARC_LINK_CFG : Nat := 0x0A0018
def ARC_HOT_CFG : Nat := 0x0A001C
def ARC_SCAN_CFG : Nat := 0x0A0020
def ARC_COLD_TOTAL : Nat := 0x0A0024
def ARC_COLD_FREE : Nat := 0x0A0028
def ARC_HOT_FREE : Nat := 0x0A002C
def ARC_DRAM : Nat := 0x0A0030
def ARC_OPEN : Nat := 0x0A0034
def ARC_HUB_SEL : Nat := 0x0A0038
def ARC_HUB_STATE : Nat := 0x0A003C
def ARC_HUB_ID_LO : Nat := 0x0A0040
def ARC_HUB_ID_HI : Nat := 0x0A0044
def ARC_FCS_ERR_COUNT : Nat := 0x0A0050
def ARC_RETX_COUNT : Nat := 0x0A0054
def ARC_REVOKE_COUNT : Nat := 0x0A0058
def ARC_PROG_FAIL_COUNT : Nat := 0x0A005C
def ARC_ERASE_FAIL_COUNT : Nat := 0x0A0060
def ARC_UNCORR_COUNT : Nat := 0x0A0064
def ARC_RECON_COUNT : Nat := 0x0A0068
def ARC_LOST_TILE_COUNT : Nat := 0x0A006C
def ARC_SCAN_DROP_COUNT : Nat := 0x0A0070
def HST_SELF : Nat := 0x0B0010
def HST_OWNER : Nat := 0x0B0014
def HST_LEASE_CFG : Nat := 0x0B0018
def HST_FENCE : Nat := 0x0B001C
def HST_FENCE_CMD : Nat := 0x0B0020
def HST_WSW_STATUS : Nat := 0x0B0024
def HST_WSW_ADDR : Nat := 0x0B0028
def HST_UPLINK_CFG : Nat := 0x0B002C
def HST_RING_SEL : Nat := 0x0B0030
def HST_RING_CFG : Nat := 0x0B0034
def HST_RING_BASE_LO : Nat := 0x0B0038
def HST_RING_BASE_HI : Nat := 0x0B003C
def HST_RING_WB_LO : Nat := 0x0B0040
def HST_RING_WB_HI : Nat := 0x0B0044
def HST_RING_CTRL : Nat := 0x0B0048
def HST_RING_STATUS : Nat := 0x0B004C
def HST_RING_PIDX : Nat := 0x0B0050
def HST_RING_CIDX : Nat := 0x0B0054
def HST_CMD_COUNT : Nat := 0x0B0060
def HST_DB_ERR_COUNT : Nat := 0x0B0064
def HST_DMA_ERR_COUNT : Nat := 0x0B0068
def HST_EVT_DROP_COUNT : Nat := 0x0B006C
def HST_EVT_ROUTE (i : Nat) : Nat := 0x0B1000 + 4 * i
def TIM_STATE : Nat := 0x0C0010
def TIM_NOW_SEC_LO : Nat := 0x0C0014
def TIM_NOW_SEC_HI : Nat := 0x0C0018
def TIM_NOW_NS : Nat := 0x0C001C
def TIM_NOW_FRAC : Nat := 0x0C0020
def TIM_OFFSET : Nat := 0x0C0024
def TIM_RATE : Nat := 0x0C0028
def TIM_HOLD_RATE : Nat := 0x0C002C
def TIM_REF_CFG : Nat := 0x0C0030
def TIM_SERVO_CFG : Nat := 0x0C0034
def TIM_LIMIT_CFG : Nat := 0x0C0038
def TIM_ACQ_CFG : Nat := 0x0C003C
def TIM_MON_CFG : Nat := 0x0C0040
def TIM_MON_STATUS : Nat := 0x0C0044
def TIM_CAND_STATUS : Nat := 0x0C0048
def TIM_UTC : Nat := 0x0C004C
def TIM_PTP_CFG : Nat := 0x0C0050
def TIM_PPS_IN_CFG : Nat := 0x0C0054
def TIM_PPS_OUT_CFG : Nat := 0x0C0058
def TIM_STEP_PEND_LO : Nat := 0x0C005C
def TIM_STEP_PEND_HI : Nat := 0x0C0060
def TIM_RIDGE_ASYM : Nat := 0x0C0064
def TIM_OUTLIER_COUNT : Nat := 0x0C0070
def TIM_TXTS_OVF_COUNT : Nat := 0x0C0074
def TIM_PTP_DISCARD_COUNT : Nat := 0x0C0078
def TIM_HOLDOVER_COUNT : Nat := 0x0C007C
def TIM_PORT_ASYM (i : Nat) : Nat := 0x0C0100 + 4 * i
def TIM_PORT_LAT (i : Nat) : Nat := 0x0C0140 + 4 * i
def TIM_PORT_STATUS (i : Nat) : Nat := 0x0C0180 + 4 * i
def TIM_TXTS_STATUS (i : Nat) : Nat := 0x0C01C0 + 4 * i
def KEY_ENGINE_STATE : Nat := 0x0D0010
def KEY_SLOT_SEL : Nat := 0x0D0014
def KEY_SLOT_INFO : Nat := 0x0D0018
def KEY_SLOT_KCV_LO : Nat := 0x0D001C
def KEY_SLOT_KCV_HI : Nat := 0x0D0020
def KEY_SLOTS_USED : Nat := 0x0D0024
def KEY_RNG_DATA : Nat := 0x0D0028
def KEY_NOISE_RAW : Nat := 0x0D002C
def KEY_RCT_FAIL_COUNT : Nat := 0x0D0030
def KEY_APT_FAIL_COUNT : Nat := 0x0D0034
def KEY_DERIVE_COUNT : Nat := 0x0D0038
def KEY_UNWRAP_FAIL_COUNT : Nat := 0x0D003C
def KEY_PURPOSE (i : Nat) : Nat := 0x0D0040 + 4 * i
def KEY_VKEY_ID_LO (i : Nat) : Nat := 0x0D0080 + 8 * i
def KEY_VKEY_ID_HI (i : Nat) : Nat := 0x0D0084 + 8 * i
def KEY_IDPUB_X (i : Nat) : Nat := 0x0D0100 + 4 * i
def KEY_IDPUB_Y (i : Nat) : Nat := 0x0D0120 + 4 * i
def KEY_MEASURE (i : Nat) : Nat := 0x0D0140 + 4 * i
def SAF_STATE : Nat := 0x0E0010
def SAF_ISO_RAW : Nat := 0x0E0014
def SAF_ISO_STATE : Nat := 0x0E0018
def SAF_PINS : Nat := 0x0E001C
def SAF_CFG0 : Nat := 0x0E0024
def SAF_FORCE0 : Nat := 0x0E0028
def SAF_CFG1 : Nat := 0x0E002C
def SAF_FORCE1 : Nat := 0x0E0030
def SAF_CFG2 : Nat := 0x0E0034
def SAF_FORCE2 : Nat := 0x0E0038
def SAF_OTP : Nat := 0x0E003C
def SAF_CFG_CRC : Nat := 0x0E0040
def SAF_FORCE_CRC : Nat := 0x0E0044
def SAF_FAULT : Nat := 0x0E0048
def SAF_TELEGRAM_COUNT : Nat := 0x0E0050
def SAF_WITHDRAWN_COUNT : Nat := 0x0E0054
def SAF_EXPIRED_COUNT : Nat := 0x0E0058
def SAF_REFUSED_COUNT : Nat := 0x0E005C
def SAF_LANE_CFG (i : Nat) : Nat := 0x0E1000 + 4 * i
def SAF_LANE_STATE (i : Nat) : Nat := 0x0E1800 + 4 * i
def RDG_STATE : Nat := 0x0F0010
def RDG_CFG : Nat := 0x0F0014
def RDG_HOLD_CTRL : Nat := 0x0F0018
def RDG_LINK : Nat := 0x0F001C
def RDG_PARTNER_LO : Nat := 0x0F0020
def RDG_PARTNER_HI : Nat := 0x0F0024
def RDG_MISMATCH : Nat := 0x0F0028
def RDG_MISMATCH_COURSE_LO : Nat := 0x0F002C
def RDG_MISMATCH_COURSE_HI : Nat := 0x0F0030
def RDG_JOIN : Nat := 0x0F0034
def RDG_MISMATCH_COUNT : Nat := 0x0F0040
def RDG_CX_LATE_COUNT : Nat := 0x0F0044
def RDG_ERASE_LATE_COUNT : Nat := 0x0F0048
def RDG_FAILOVER_COUNT : Nat := 0x0F004C
def RDG_RETX_COUNT : Nat := 0x0F0050
def RDG_FCS_ERR_COUNT : Nat := 0x0F0054
def RDG_JOIN_COUNT : Nat := 0x0F0058
def MET_CAL_ID : Nat := 0x100010
def MET_CAL_STATE : Nat := 0x100014
def MET_SEC_LO : Nat := 0x100018
def MET_SEC_HI : Nat := 0x10001C
def MET_SEC_E (i : Nat) : Nat := 0x100020 + 4 * i
def MET_SEC_I (i : Nat) : Nat := 0x100030 + 4 * i
def MET_SEC_FLAGS : Nat := 0x100040
def MET_OVR_COUNT : Nat := 0x100050
def MET_SETTLE_COUNT : Nat := 0x100054
def MET_INVALID_COUNT : Nat := 0x100058
def MET_SAMPLE (i : Nat) : Nat := 0x100100 + 4 * i
def TMP_SOFFIT_STATE : Nat := 0x110010
def TMP_CFG : Nat := 0x110014
def TMP_LOG_HEAD : Nat := 0x110018
def TMP_LOG_SEL : Nat := 0x11001C
def TMP_LOG_REC_LO : Nat := 0x110020
def TMP_LOG_REC_HI : Nat := 0x110024
def OTP_LIFECYCLE : Nat := 0x120010
def OTP_BOOT_STATUS : Nat := 0x120014
def OTP_FW_RELEASE : Nat := 0x120018
def OTP_FW_FMT : Nat := 0x12001C
def OTP_FW_SLOTS : Nat := 0x120020
def OTP_FW_REL_A : Nat := 0x120024
def OTP_FW_REL_B : Nat := 0x120028
def OTP_FW_CTRL : Nat := 0x12002C
def OTP_DEFAULTS_STATE : Nat := 0x120030
def OTP_PROG_STATUS : Nat := 0x120034
def OTP_SVC_STATUS : Nat := 0x120038
def OTP_SVC_IP : Nat := 0x12003C
def OTP_SURVEY_HEAD : Nat := 0x120040
def OTP_SURVEY_SEL : Nat := 0x120044
def OTP_SURVEY_DATA (i : Nat) : Nat := 0x120080 + 4 * i
def EVT_HEAD_LO : Nat := 0x130000
def EVT_HEAD_HI : Nat := 0x130004
def EVT_TAIL_LO : Nat := 0x130008
def EVT_TAIL_HI : Nat := 0x13000C
def EVT_CHIP_TAIL_LO : Nat := 0x130010
def EVT_CHIP_TAIL_HI : Nat := 0x130014
def EVT_STATUS : Nat := 0x130018
def EVT_LOST_COUNT : Nat := 0x13001C
def EVT_CURSOR_LO : Nat := 0x130020
def EVT_CURSOR_HI : Nat := 0x130024
def EVT_WIN_STATUS : Nat := 0x130028
def EVT_WIN (i : Nat) : Nat := 0x130040 + 4 * i
def HLT_THERM_STATUS : Nat := 0x140010
def HLT_PWR_STATUS : Nat := 0x140014
def HLT_PWR_OVER : Nat := 0x140018
def HLT_RESET_CAUSE : Nat := 0x14001C
def HLT_CFG : Nat := 0x140020
def HLT_XING_LAST : Nat := 0x140024
def HLT_OVERRUN_COUNT : Nat := 0x140030
def HLT_UNDERRUN_COUNT : Nat := 0x140034
def HLT_FLUSH_PARTIAL_COUNT : Nat := 0x140038
def HLT_XING_ERR_COUNT : Nat := 0x14003C
def HLT_PWR_WARN_COUNT : Nat := 0x140040
def HLT_TEMP (i : Nat) : Nat := 0x140100 + 4 * i
def HLT_VOLT (i : Nat) : Nat := 0x140140 + 4 * i
def HLT_PROC (i : Nat) : Nat := 0x140200 + 4 * i
def DDR_INFO : Nat := 0x150010
def DDR_ECC_CE_COUNT : Nat := 0x150014
def DDR_ECC_UE_COUNT : Nat := 0x150018
def DDR_ECC_LAST : Nat := 0x15001C

/-- BLK_CTRL of a block. -/
def CTRL (b : Nat) : Nat := b * 0x10000
/-- BLK_PROFILE of a block. -/
def PROFILE (b : Nat) : Nat := b * 0x10000 + 4
/-- BLK_STATUS of a block. -/
def STATUS (b : Nat) : Nat := b * 0x10000 + 8

end Reg

namespace Fl

def GLB_DEVICE_ID_PART : Fld := ⟨0x000000, 31, 16⟩
def GLB_DEVICE_ID_GRADE : Fld := ⟨0x000000, 7, 4⟩
def GLB_DEVICE_ID_STEPPING : Fld := ⟨0x000000, 3, 0⟩
def GLB_EXPERT_EN_EN : Fld := ⟨0x000010, 0, 0⟩
def GLB_CLK_ALIVE_ALIVE : Fld := ⟨0x000014, 21, 0⟩
def LANE_HI_BER_COUNT_COUNT : Fld := ⟨0x010010, 31, 0⟩
def LANE_ERR_BLOCK_COUNT_COUNT : Fld := ⟨0x010014, 31, 0⟩
def LANE_GRP_STATUS_REFCLK_OK (i : Nat) : Fld := ⟨0x010100 + 4 * i, 13, 13⟩
def LANE_GRP_STATUS_TRAINED (i : Nat) : Fld := ⟨0x010100 + 4 * i, 12, 12⟩
def LANE_GRP_STATUS_LANE_UP (i : Nat) : Fld := ⟨0x010100 + 4 * i, 11, 4⟩
def LANE_GRP_STATUS_CHANGING (i : Nat) : Fld := ⟨0x010100 + 4 * i, 3, 3⟩
def LANE_GRP_STATUS_ROLE (i : Nat) : Fld := ⟨0x010100 + 4 * i, 2, 0⟩
def LANE_ELEC_CFG_ACTUAL (i : Nat) : Fld := ⟨0x010200 + 4 * i, 3, 2⟩
def LANE_ELEC_CFG_MODE (i : Nat) : Fld := ⟨0x010200 + 4 * i, 1, 0⟩
def LANE_TX_EQ_POL_RX (i : Nat) : Fld := ⟨0x011000 + 4 * i, 19, 19⟩
def LANE_TX_EQ_POL_TX (i : Nat) : Fld := ⟨0x011000 + 4 * i, 18, 18⟩
def LANE_TX_EQ_PRE (i : Nat) : Fld := ⟨0x011000 + 4 * i, 17, 12⟩
def LANE_TX_EQ_MAIN (i : Nat) : Fld := ⟨0x011000 + 4 * i, 11, 6⟩
def LANE_TX_EQ_POST (i : Nat) : Fld := ⟨0x011000 + 4 * i, 5, 0⟩
def CRS_COURSE_LO_COURSE : Fld := ⟨0x020010, 31, 0⟩
def CRS_COURSE_HI_COURSE : Fld := ⟨0x020014, 31, 0⟩
def CRS_TIMING_BATTEN : Fld := ⟨0x020018, 7, 4⟩
def CRS_TIMING_PERIOD : Fld := ⟨0x020018, 1, 0⟩
def CRS_EPOCH_CUR : Fld := ⟨0x02001C, 31, 0⟩
def CRS_PLAN_ID_LO_PLAN_ID : Fld := ⟨0x020020, 31, 0⟩
def CRS_PLAN_ID_HI_PLAN_ID : Fld := ⟨0x020024, 31, 0⟩
def CRS_PLAN_STATUS_FELL_BACK : Fld := ⟨0x020028, 8, 8⟩
def CRS_PLAN_STATUS_COMMIT_PENDING : Fld := ⟨0x020028, 3, 3⟩
def CRS_PLAN_STATUS_SEALED : Fld := ⟨0x020028, 2, 2⟩
def CRS_PLAN_STATUS_STAGED : Fld := ⟨0x020028, 1, 1⟩
def CRS_PLAN_STATUS_RESIDENT : Fld := ⟨0x020028, 0, 0⟩
def CRS_STAGE_SEAL_SEAL : Fld := ⟨0x02002C, 0, 0⟩
def CRS_STAGE_TABLES_FAILED : Fld := ⟨0x020030, 20, 16⟩
def CRS_STAGE_TABLES_LOADING : Fld := ⟨0x020030, 12, 8⟩
def CRS_STAGE_TABLES_STAGED : Fld := ⟨0x020030, 4, 0⟩
def CRS_COMMIT_TARGET_LO_TARGET : Fld := ⟨0x020034, 31, 0⟩
def CRS_COMMIT_TARGET_HI_TARGET : Fld := ⟨0x020038, 31, 0⟩
def CRS_COMMIT_STATUS_VALID : Fld := ⟨0x02003C, 31, 31⟩
def CRS_COMMIT_STATUS_REASON : Fld := ⟨0x02003C, 11, 8⟩
def CRS_COMMIT_STATUS_RESULT : Fld := ⟨0x02003C, 7, 0⟩
def CRS_OVERRUN_COUNT_COUNT : Fld := ⟨0x020040, 31, 0⟩
def CRS_OVERRUN_FLAGS_CONSEC : Fld := ⟨0x020044, 17, 16⟩
def CRS_OVERRUN_FLAGS_CLASS : Fld := ⟨0x020044, 4, 0⟩
def CRS_FALLBACK_CAUSE : Fld := ⟨0x020048, 17, 16⟩
def CRS_FALLBACK_COUNT : Fld := ⟨0x020048, 15, 0⟩
def EAV_RANGE_CFG_THRESH : Fld := ⟨0x030010, 23, 16⟩
def EAV_RANGE_CFG_INTERVAL : Fld := ⟨0x030010, 15, 0⟩
def EAV_CLIP_COUNT_COUNT : Fld := ⟨0x030014, 31, 0⟩
def EAV_SETTLE_COUNT_COUNT : Fld := ⟨0x030018, 31, 0⟩
def EAV_ELEM_ERR_COUNT_COUNT : Fld := ⟨0x03001C, 31, 0⟩
def EAV_LATE_COUNT_COUNT : Fld := ⟨0x030020, 31, 0⟩
def EAV_HDR_ERR_COUNT_COUNT : Fld := ⟨0x030024, 31, 0⟩
def EAV_LANE_STATUS_FOUND (i : Nat) : Fld := ⟨0x031000 + 4 * i, 21, 16⟩
def EAV_LANE_STATUS_ORIGIN_POS (i : Nat) : Fld := ⟨0x031000 + 4 * i, 15, 8⟩
def EAV_LANE_STATUS_LOOP (i : Nat) : Fld := ⟨0x031000 + 4 * i, 7, 7⟩
def EAV_LANE_STATUS_PARTNER (i : Nat) : Fld := ⟨0x031000 + 4 * i, 6, 6⟩
def EAV_LANE_STATUS_IN_SYNC (i : Nat) : Fld := ⟨0x031000 + 4 * i, 5, 5⟩
def EAV_EAVE_STATE_ACCEPT (i : Nat) : Fld := ⟨0x038000 + 4 * i, 31, 30⟩
def EAV_EAVE_STATE_ORPHAN (i : Nat) : Fld := ⟨0x038000 + 4 * i, 29, 29⟩
def EAV_EAVE_STATE_MAPPED (i : Nat) : Fld := ⟨0x038000 + 4 * i, 28, 28⟩
def EAV_EAVE_STATE_MISMATCH (i : Nat) : Fld := ⟨0x038000 + 4 * i, 27, 27⟩
def EAV_EAVE_STATE_LOST (i : Nat) : Fld := ⟨0x038000 + 4 * i, 26, 26⟩
def EAV_EAVE_STATE_DELAY_NS (i : Nat) : Fld := ⟨0x038000 + 4 * i, 19, 0⟩
def PLC_TMR_THRESH_D8PSK : Fld := ⟨0x040010, 31, 24⟩
def PLC_TMR_THRESH_DQPSK : Fld := ⟨0x040010, 23, 16⟩
def PLC_TMR_THRESH_DBPSK : Fld := ⟨0x040010, 15, 8⟩
def PLC_TMR_THRESH_GROUP_MIN : Fld := ⟨0x040010, 7, 0⟩
def PLC_DETECT_ADJ_ED_ADJ : Fld := ⟨0x040014, 15, 8⟩
def PLC_DETECT_ADJ_DETECT_ADJ : Fld := ⟨0x040014, 7, 0⟩
def PLC_CELL_SEL_CELL : Fld := ⟨0x040018, 14, 0⟩
def PLC_CELL_STATE_PAN_ID : Fld := ⟨0x04001C, 31, 16⟩
def PLC_CELL_STATE_POWERLINE : Fld := ⟨0x04001C, 15, 15⟩
def PLC_CELL_STATE_FOREIGN : Fld := ⟨0x04001C, 14, 14⟩
def PLC_CELL_STATE_RX_ACTIVE : Fld := ⟨0x04001C, 13, 13⟩
def PLC_CELL_STATE_TX_ACTIVE : Fld := ⟨0x04001C, 12, 12⟩
def PLC_CELL_STATE_ACK_OWED : Fld := ⟨0x04001C, 11, 11⟩
def PLC_CELL_STATE_KEY_INDEX : Fld := ⟨0x04001C, 10, 10⟩
def PLC_CELL_STATE_QUEUED : Fld := ⟨0x04001C, 7, 0⟩
def PLC_CELL_FC_FC : Fld := ⟨0x040020, 31, 0⟩
def PLC_RX_OK_COUNT_COUNT : Fld := ⟨0x040030, 31, 0⟩
def PLC_RX_LOST_COUNT_COUNT : Fld := ⟨0x040034, 31, 0⟩
def PLC_ACK_MISSED_COUNT_COUNT : Fld := ⟨0x040038, 31, 0⟩
def PLC_CHAN_FAIL_COUNT_COUNT : Fld := ⟨0x04003C, 31, 0⟩
def PLC_NO_ACK_COUNT_COUNT : Fld := ⟨0x040040, 31, 0⟩
def PLC_REPLAY_COUNT_COUNT : Fld := ⟨0x040044, 31, 0⟩
def PLC_UNSUPPORTED_COUNT_COUNT : Fld := ⟨0x040048, 31, 0⟩
def PLC_TX_CUT_COUNT_COUNT : Fld := ⟨0x04004C, 31, 0⟩
def PLC_ROUTE_ERR_COUNT_COUNT : Fld := ⟨0x040050, 31, 0⟩
def PLC_JOIN_REFUSED_COUNT_COUNT : Fld := ⟨0x040054, 31, 0⟩
def PLC_FOREIGN_LAST_KIND : Fld := ⟨0x040060, 31, 30⟩
def PLC_FOREIGN_LAST_CELL : Fld := ⟨0x040060, 14, 0⟩
def PLC_JOIN_LAST_REASON : Fld := ⟨0x040064, 19, 16⟩
def PLC_JOIN_LAST_CELL : Fld := ⟨0x040064, 14, 0⟩
def RAD_CSL_ADJ_GUARD_ADD : Fld := ⟨0x050010, 31, 16⟩
def RAD_CSL_ADJ_DRIFT_ADD : Fld := ⟨0x050010, 15, 8⟩
def RAD_CCA_ADJ_CCA_ADJ : Fld := ⟨0x050014, 7, 0⟩
def RAD_CELL_SEL_CELL : Fld := ⟨0x050018, 14, 0⟩
def RAD_CELL_STATE_PAN_ID : Fld := ⟨0x05001C, 31, 16⟩
def RAD_CELL_STATE_RADIO : Fld := ⟨0x05001C, 15, 15⟩
def RAD_CELL_STATE_FOREIGN : Fld := ⟨0x05001C, 14, 14⟩
def RAD_CELL_STATE_RX_ACTIVE : Fld := ⟨0x05001C, 13, 13⟩
def RAD_CELL_STATE_TX_ACTIVE : Fld := ⟨0x05001C, 12, 12⟩
def RAD_CELL_STATE_ACK_OWED : Fld := ⟨0x05001C, 11, 11⟩
def RAD_CELL_STATE_WUS : Fld := ⟨0x05001C, 10, 10⟩
def RAD_CELL_STATE_QUEUED : Fld := ⟨0x05001C, 7, 0⟩
def RAD_CELL_FC_FC : Fld := ⟨0x050020, 31, 0⟩
def RAD_CELL_LOAD_PENDING : Fld := ⟨0x050024, 31, 27⟩
def RAD_CELL_LOAD_ASSOCIATED : Fld := ⟨0x050024, 26, 15⟩
def RAD_CELL_LOAD_DUTY_USED : Fld := ⟨0x050024, 13, 0⟩
def RAD_RX_OK_COUNT_COUNT : Fld := ⟨0x050030, 31, 0⟩
def RAD_RX_LOST_COUNT_COUNT : Fld := ⟨0x050034, 31, 0⟩
def RAD_ACK_MISSED_COUNT_COUNT : Fld := ⟨0x050038, 31, 0⟩
def RAD_CHAN_FAIL_COUNT_COUNT : Fld := ⟨0x05003C, 31, 0⟩
def RAD_NO_ACK_COUNT_COUNT : Fld := ⟨0x050040, 31, 0⟩
def RAD_REPLAY_COUNT_COUNT : Fld := ⟨0x050044, 31, 0⟩
def RAD_UNSECURED_COUNT_COUNT : Fld := ⟨0x050048, 31, 0⟩
def RAD_AUTH_FAIL_COUNT_COUNT : Fld := ⟨0x05004C, 31, 0⟩
def RAD_UNSUPPORTED_COUNT_COUNT : Fld := ⟨0x050050, 31, 0⟩
def RAD_TX_CUT_COUNT_COUNT : Fld := ⟨0x050054, 31, 0⟩
def RAD_ASSOC_REFUSED_COUNT_COUNT : Fld := ⟨0x050058, 31, 0⟩
def RAD_CSL_FAIL_COUNT_COUNT : Fld := ⟨0x05005C, 31, 0⟩
def RAD_DUTY_BLOCK_COUNT_COUNT : Fld := ⟨0x050060, 31, 0⟩
def RAD_ASSOC_LAST_REASON : Fld := ⟨0x050070, 19, 16⟩
def RAD_ASSOC_LAST_CELL : Fld := ⟨0x050070, 14, 0⟩
def RAD_FOREIGN_LAST_KIND : Fld := ⟨0x050074, 31, 30⟩
def RAD_FOREIGN_LAST_CELL : Fld := ⟨0x050074, 14, 0⟩
def MTB_HASH_SEED0_SEED : Fld := ⟨0x060010, 31, 0⟩
def MTB_HASH_SEED1_SEED : Fld := ⟨0x060014, 31, 0⟩
def MTB_EPOCH_SEL_CUR_BIT : Fld := ⟨0x060018, 0, 0⟩
def MTB_OCCUPANCY_ENTRIES : Fld := ⟨0x06001C, 21, 0⟩
def MTB_STASH_PEAK : Fld := ⟨0x060020, 14, 8⟩
def MTB_STASH_USED : Fld := ⟨0x060020, 6, 0⟩
def MTB_INSERT_CFG_STASH_WARN : Fld := ⟨0x060024, 14, 8⟩
def MTB_INSERT_CFG_MAX_DEPTH : Fld := ⟨0x060024, 2, 0⟩
def MTB_AGE_CFG_WG16 : Fld := ⟨0x060028, 31, 31⟩
def MTB_AGE_CFG_AGE_EN : Fld := ⟨0x060028, 30, 30⟩
def MTB_AGE_CFG_COMB_PERIOD : Fld := ⟨0x060028, 15, 0⟩
def MTB_AGE_LIMIT_LIMIT : Fld := ⟨0x06002C, 31, 0⟩
def MTB_COMB_STATUS_RUNNING : Fld := ⟨0x060030, 31, 31⟩
def MTB_COMB_STATUS_PAUSED : Fld := ⟨0x060030, 30, 30⟩
def MTB_COMB_STATUS_DMA_ERR : Fld := ⟨0x060030, 29, 29⟩
def MTB_COMB_STATUS_POSITION : Fld := ⟨0x060030, 21, 0⟩
def MTB_SCRUB_STATUS_RUNNING : Fld := ⟨0x060034, 31, 31⟩
def MTB_SCRUB_STATUS_PAUSED : Fld := ⟨0x060034, 30, 30⟩
def MTB_SCRUB_STATUS_DMA_ERR : Fld := ⟨0x060034, 29, 29⟩
def MTB_SCRUB_STATUS_POSITION : Fld := ⟨0x060034, 21, 0⟩
def MTB_SHADOW_LO_ADDR : Fld := ⟨0x060038, 31, 12⟩
def MTB_SHADOW_LO_EN : Fld := ⟨0x060038, 0, 0⟩
def MTB_SHADOW_HI_ADDR : Fld := ⟨0x06003C, 31, 0⟩
def MTB_SCRUB_CFG_REPAIR : Fld := ⟨0x060040, 31, 31⟩
def MTB_SCRUB_CFG_CONFIRM : Fld := ⟨0x060040, 23, 16⟩
def MTB_SCRUB_CFG_PERIOD : Fld := ⟨0x060040, 15, 0⟩
def MTB_SCRUB_LAST_REPAIRED : Fld := ⟨0x060044, 31, 31⟩
def MTB_SCRUB_LAST_REFUSED : Fld := ⟨0x060044, 30, 30⟩
def MTB_SCRUB_LAST_SLOT : Fld := ⟨0x060044, 21, 0⟩
def MTB_MISS_COUNT_COUNT : Fld := ⟨0x060050, 31, 0⟩
def MTB_MISS_PENDING_COUNT_COUNT : Fld := ⟨0x060054, 31, 0⟩
def MTB_AGED_COUNT_COUNT : Fld := ⟨0x060058, 31, 0⟩
def MTB_MISMATCH_COUNT_COUNT : Fld := ⟨0x06005C, 31, 0⟩
def MTB_REPAIR_COUNT_COUNT : Fld := ⟨0x060060, 31, 0⟩
def MTB_ECC_COUNT_COUNT : Fld := ⟨0x060064, 31, 0⟩
def REC_BILL_CFG_RES : Fld := ⟨0x070010, 1, 0⟩
def REC_PLAUS_CFG_MAX_DELTA : Fld := ⟨0x070014, 15, 0⟩
def REC_VOLT_WIN_V_MAX : Fld := ⟨0x070018, 31, 16⟩
def REC_VOLT_WIN_V_MIN : Fld := ⟨0x070018, 15, 0⟩
def REC_RELAY_CFG_PERSIST : Fld := ⟨0x07001C, 5, 0⟩
def REC_DELIVERY_EN : Fld := ⟨0x070020, 31, 31⟩
def REC_DELIVERY_FILTER : Fld := ⟨0x070020, 30, 30⟩
def REC_DELIVERY_FUNC : Fld := ⟨0x070020, 25, 24⟩
def REC_DELIVERY_RINGS : Fld := ⟨0x070020, 14, 8⟩
def REC_DELIVERY_FIRST_RING : Fld := ⟨0x070020, 7, 0⟩
def REC_CAL_SEL_CAL : Fld := ⟨0x070024, 5, 0⟩
def REC_CAL_STATUS_DEFINED : Fld := ⟨0x070028, 31, 31⟩
def REC_CAL_STATUS_HAS_B : Fld := ⟨0x070028, 30, 30⟩
def REC_CAL_STATUS_B_IN_FORCE : Fld := ⟨0x070028, 29, 29⟩
def REC_CAL_VERSION_VERSION_ID : Fld := ⟨0x07002C, 31, 0⟩
def REC_STAGING_FULL : Fld := ⟨0x070030, 31, 31⟩
def REC_STAGING_SECONDS : Fld := ⟨0x070030, 15, 0⟩
def REC_YELM_OK_COUNT_COUNT : Fld := ⟨0x070040, 31, 0⟩
def REC_PARSE_ERR_COUNT_COUNT : Fld := ⟨0x070044, 31, 0⟩
def REC_UNKNOWN_COUNT_COUNT : Fld := ⟨0x070048, 31, 0⟩
def REC_SOURCE_ERR_COUNT_COUNT : Fld := ⟨0x07004C, 31, 0⟩
def REC_AUTH_FAIL_COUNT_COUNT : Fld := ⟨0x070050, 31, 0⟩
def REC_REPLAY_COUNT_COUNT : Fld := ⟨0x070054, 31, 0⟩
def REC_FUTURE_COUNT_COUNT : Fld := ⟨0x070058, 31, 0⟩
def REC_DUP_COUNT_COUNT : Fld := ⟨0x07005C, 31, 0⟩
def REC_LATE_DROP_COUNT_COUNT : Fld := ⟨0x070060, 31, 0⟩
def REC_OFF_DROP_COUNT_COUNT : Fld := ⟨0x070064, 31, 0⟩
def REC_RING_DROP_COUNT_COUNT : Fld := ⟨0x070068, 31, 0⟩
def REC_UNARCHIVED_COUNT_COUNT : Fld := ⟨0x07006C, 31, 0⟩
def VAL_CFG_SILENT_S : Fld := ⟨0x080010, 15, 0⟩
def VAL_SIG_CFG0_REV_S : Fld := ⟨0x080014, 31, 16⟩
def VAL_SIG_CFG0_REV_W : Fld := ⟨0x080014, 15, 0⟩
def VAL_SIG_CFG1_I_REL : Fld := ⟨0x080018, 23, 16⟩
def VAL_SIG_CFG1_I_ABS : Fld := ⟨0x080018, 15, 0⟩
def VAL_SIG_CFG2_ZERO_W : Fld := ⟨0x08001C, 23, 16⟩
def VAL_SIG_CFG2_NEUT_S : Fld := ⟨0x08001C, 15, 0⟩
def VAL_SIG_CFG3_ZERO_S : Fld := ⟨0x080020, 31, 0⟩
def VAL_SIG_CFG4_STEP_TOL : Fld := ⟨0x080024, 23, 16⟩
def VAL_SIG_CFG4_STEP_W : Fld := ⟨0x080024, 15, 0⟩
def VAL_DELIVERY_EN : Fld := ⟨0x080028, 31, 31⟩
def VAL_DELIVERY_RESULTS : Fld := ⟨0x080028, 30, 30⟩
def VAL_DELIVERY_FUNC : Fld := ⟨0x080028, 25, 24⟩
def VAL_DELIVERY_RING : Fld := ⟨0x080028, 7, 0⟩
def VAL_EVAL_LO_SECOND : Fld := ⟨0x08002C, 31, 0⟩
def VAL_EVAL_HI_SECOND : Fld := ⟨0x080030, 31, 0⟩
def VAL_NODE_SEL_NODE : Fld := ⟨0x080034, 13, 0⟩
def VAL_NODE_STATE_DEFINED : Fld := ⟨0x080038, 31, 31⟩
def VAL_NODE_STATE_ALARMED : Fld := ⟨0x080038, 30, 30⟩
def VAL_NODE_STATE_INCOMPLETE : Fld := ⟨0x080038, 29, 29⟩
def VAL_NODE_STATE_DEGRADED : Fld := ⟨0x080038, 28, 28⟩
def VAL_NODE_STATE_PC : Fld := ⟨0x080038, 16, 0⟩
def VAL_NODE_RESID_RESID : Fld := ⟨0x08003C, 31, 0⟩
def VAL_RETRO_STATUS_RUNNING : Fld := ⟨0x080040, 31, 31⟩
def VAL_RETRO_STATUS_PAUSED : Fld := ⟨0x080040, 30, 30⟩
def VAL_RETRO_STATUS_PROGRESS : Fld := ⟨0x080040, 6, 0⟩
def VAL_LATE_TILE_COUNT_COUNT : Fld := ⟨0x080050, 31, 0⟩
def VAL_INCOMPLETE_COUNT_COUNT : Fld := ⟨0x080054, 31, 0⟩
def VAL_STEP_OVF_COUNT_COUNT : Fld := ⟨0x080058, 31, 0⟩
def VAL_ALARM_COUNT_COUNT : Fld := ⟨0x08005C, 31, 0⟩
def VAL_SIG_COUNT_COUNT : Fld := ⟨0x080060, 31, 0⟩
def VAL_RING_DROP_COUNT_COUNT : Fld := ⟨0x080064, 31, 0⟩
def SWC_SHED_AVAIL : Fld := ⟨0x090010, 27, 12⟩
def SWC_SHED_EIGHTHS : Fld := ⟨0x090010, 11, 8⟩
def SWC_SHED_LEVEL : Fld := ⟨0x090010, 2, 0⟩
def SWC_SHED_CFG_HOST_KEEP : Fld := ⟨0x090014, 31, 16⟩
def SWC_SHED_CFG_FALL_S : Fld := ⟨0x090014, 15, 8⟩
def SWC_OVF_SHRINKING : Fld := ⟨0x090018, 31, 31⟩
def SWC_OVF_USED : Fld := ⟨0x090018, 30, 16⟩
def SWC_OVF_SIZE : Fld := ⟨0x090018, 13, 0⟩
def SWC_POOL_FREE : Fld := ⟨0x09001C, 15, 0⟩
def SWC_QLIMIT_CELLS (i : Nat) : Fld := ⟨0x090020 + 4 * i, 27, 0⟩
def SWC_CLASS_SEL_CLASS : Fld := ⟨0x090040, 2, 0⟩
def SWC_CLASS_ONCHIP_CELLS : Fld := ⟨0x090044, 18, 0⟩
def SWC_CLASS_DRAM_CELLS : Fld := ⟨0x090048, 27, 0⟩
def SWC_MCAST_ACTIVE : Fld := ⟨0x09004C, 15, 0⟩
def SWC_DROP_COUNT_COUNT (i : Nat) : Fld := ⟨0x090060 + 4 * i, 31, 0⟩
def SWC_SHED_DROP_COUNT_COUNT : Fld := ⟨0x090080, 31, 0⟩
def SWC_DRAM_ERR_COUNT_COUNT : Fld := ⟨0x090084, 31, 0⟩
def SWC_MCAST_SKIP_COUNT_COUNT : Fld := ⟨0x090088, 31, 0⟩
def ARC_STATE_COLD_FULL : Fld := ⟨0x0A0010, 7, 7⟩
def ARC_STATE_STOPPED : Fld := ⟨0x0A0010, 6, 6⟩
def ARC_STATE_FORMATTING : Fld := ⟨0x0A0010, 5, 5⟩
def ARC_STATE_MOUNTED : Fld := ⟨0x0A0010, 4, 4⟩
def ARC_STATE_CELL_MODE : Fld := ⟨0x0A0010, 2, 0⟩
def ARC_RETAIN_FULL : Fld := ⟨0x0A0014, 16, 16⟩
def ARC_RETAIN_DAYS : Fld := ⟨0x0A0014, 15, 0⟩
def ARC_LINK_CFG_LOST_S : Fld := ⟨0x0A0018, 31, 24⟩
def ARC_LINK_CFG_CMD_TO : Fld := ⟨0x0A0018, 23, 12⟩
def ARC_LINK_CFG_CREDIT_TO : Fld := ⟨0x0A0018, 11, 0⟩
def ARC_HOT_CFG_CKPT_S : Fld := ⟨0x0A001C, 15, 0⟩
def ARC_SCAN_CFG_SHARE : Fld := ⟨0x0A0020, 6, 0⟩
def ARC_COLD_TOTAL_BANDS : Fld := ⟨0x0A0024, 31, 0⟩
def ARC_COLD_FREE_BANDS : Fld := ⟨0x0A0028, 31, 0⟩
def ARC_HOT_FREE_BANDS : Fld := ⟨0x0A002C, 31, 0⟩
def ARC_DRAM_MIB : Fld := ⟨0x0A0030, 31, 0⟩
def ARC_OPEN_SCANS : Fld := ⟨0x0A0034, 31, 16⟩
def ARC_OPEN_VERIFYING : Fld := ⟨0x0A0034, 15, 8⟩
def ARC_OPEN_PARITY : Fld := ⟨0x0A0034, 7, 0⟩
def ARC_HUB_SEL_HUB : Fld := ⟨0x0A0038, 6, 0⟩
def ARC_HUB_STATE_OUTSTANDING : Fld := ⟨0x0A003C, 31, 16⟩
def ARC_HUB_STATE_EPOCH : Fld := ⟨0x0A003C, 15, 8⟩
def ARC_HUB_STATE_STATE : Fld := ⟨0x0A003C, 2, 0⟩
def ARC_HUB_ID_LO_HUB_ID : Fld := ⟨0x0A0040, 31, 0⟩
def ARC_HUB_ID_HI_HUB_ID : Fld := ⟨0x0A0044, 31, 0⟩
def ARC_FCS_ERR_COUNT_COUNT : Fld := ⟨0x0A0050, 31, 0⟩
def ARC_RETX_COUNT_COUNT : Fld := ⟨0x0A0054, 31, 0⟩
def ARC_REVOKE_COUNT_COUNT : Fld := ⟨0x0A0058, 31, 0⟩
def ARC_PROG_FAIL_COUNT_COUNT : Fld := ⟨0x0A005C, 31, 0⟩
def ARC_ERASE_FAIL_COUNT_COUNT : Fld := ⟨0x0A0060, 31, 0⟩
def ARC_UNCORR_COUNT_COUNT : Fld := ⟨0x0A0064, 31, 0⟩
def ARC_RECON_COUNT_COUNT : Fld := ⟨0x0A0068, 31, 0⟩
def ARC_LOST_TILE_COUNT_COUNT : Fld := ⟨0x0A006C, 31, 0⟩
def ARC_SCAN_DROP_COUNT_COUNT : Fld := ⟨0x0A0070, 31, 0⟩
def HST_SELF_BIF : Fld := ⟨0x0B0010, 3, 2⟩
def HST_SELF_FUNC : Fld := ⟨0x0B0010, 1, 0⟩
def HST_OWNER_VALID : Fld := ⟨0x0B0014, 31, 31⟩
def HST_OWNER_ELECTION : Fld := ⟨0x0B0014, 30, 30⟩
def HST_OWNER_OWNER : Fld := ⟨0x0B0014, 29, 28⟩
def HST_OWNER_LEASE_LEFT : Fld := ⟨0x0B0014, 15, 0⟩
def HST_LEASE_CFG_LEASE_MS : Fld := ⟨0x0B0018, 15, 0⟩
def HST_FENCE_FENCED : Fld := ⟨0x0B001C, 19, 16⟩
def HST_FENCE_UNFENCE : Fld := ⟨0x0B001C, 3, 3⟩
def HST_FENCE_CAUSE : Fld := ⟨0x0B001C, 2, 0⟩
def HST_FENCE_CMD_FENCE : Fld := ⟨0x0B0020, 3, 0⟩
def HST_WSW_STATUS_STICKY : Fld := ⟨0x0B0024, 31, 31⟩
def HST_WSW_STATUS_REASON : Fld := ⟨0x0B0024, 26, 24⟩
def HST_WSW_STATUS_COUNT : Fld := ⟨0x0B0024, 15, 0⟩
def HST_WSW_ADDR_ADDR : Fld := ⟨0x0B0028, 21, 0⟩
def HST_UPLINK_CFG_EN : Fld := ⟨0x0B002C, 31, 31⟩
def HST_UPLINK_CFG_FUNC : Fld := ⟨0x0B002C, 25, 24⟩
def HST_UPLINK_CFG_RING : Fld := ⟨0x0B002C, 7, 0⟩
def HST_RING_SEL_RING : Fld := ⟨0x0B0030, 7, 0⟩
def HST_RING_CFG_TYPE : Fld := ⟨0x0B0034, 31, 30⟩
def HST_RING_CFG_IRQ_EN : Fld := ⟨0x0B0034, 29, 29⟩
def HST_RING_CFG_LOG2_SIZE : Fld := ⟨0x0B0034, 28, 24⟩
def HST_RING_CFG_CPL_RING : Fld := ⟨0x0B0034, 23, 16⟩
def HST_RING_CFG_MOD : Fld := ⟨0x0B0034, 15, 8⟩
def HST_RING_CFG_VECTOR : Fld := ⟨0x0B0034, 5, 0⟩
def HST_RING_BASE_LO_ADDR : Fld := ⟨0x0B0038, 31, 12⟩
def HST_RING_BASE_HI_ADDR : Fld := ⟨0x0B003C, 31, 0⟩
def HST_RING_WB_LO_ADDR : Fld := ⟨0x0B0040, 31, 3⟩
def HST_RING_WB_HI_ADDR : Fld := ⟨0x0B0044, 31, 0⟩
def HST_RING_CTRL_ABORT : Fld := ⟨0x0B0048, 1, 1⟩
def HST_RING_CTRL_ENABLE : Fld := ⟨0x0B0048, 0, 0⟩
def HST_RING_STATUS_CACHED : Fld := ⟨0x0B004C, 20, 16⟩
def HST_RING_STATUS_ERROR : Fld := ⟨0x0B004C, 3, 3⟩
def HST_RING_STATUS_ABORTING : Fld := ⟨0x0B004C, 2, 2⟩
def HST_RING_STATUS_ENABLED : Fld := ⟨0x0B004C, 1, 1⟩
def HST_RING_STATUS_IDLE : Fld := ⟨0x0B004C, 0, 0⟩
def HST_RING_PIDX_INDEX : Fld := ⟨0x0B0050, 31, 0⟩
def HST_RING_CIDX_INDEX : Fld := ⟨0x0B0054, 31, 0⟩
def HST_CMD_COUNT_COUNT : Fld := ⟨0x0B0060, 31, 0⟩
def HST_DB_ERR_COUNT_COUNT : Fld := ⟨0x0B0064, 31, 0⟩
def HST_DMA_ERR_COUNT_COUNT : Fld := ⟨0x0B0068, 31, 0⟩
def HST_EVT_DROP_COUNT_COUNT : Fld := ⟨0x0B006C, 31, 0⟩
def HST_EVT_ROUTE_RING_EN (i : Nat) : Fld := ⟨0x0B1000 + 4 * i, 31, 31⟩
def HST_EVT_ROUTE_IRQ_EN (i : Nat) : Fld := ⟨0x0B1000 + 4 * i, 30, 30⟩
def HST_EVT_ROUTE_VECTOR (i : Nat) : Fld := ⟨0x0B1000 + 4 * i, 13, 8⟩
def HST_EVT_ROUTE_RING (i : Nat) : Fld := ⟨0x0B1000 + 4 * i, 7, 0⟩
def TIM_STATE_STEP_PENDING : Fld := ⟨0x0C0010, 11, 11⟩
def TIM_STATE_LEAP : Fld := ⟨0x0C0010, 10, 10⟩
def TIM_STATE_HELD_OFF : Fld := ⟨0x0C0010, 9, 9⟩
def TIM_STATE_FORCED : Fld := ⟨0x0C0010, 8, 8⟩
def TIM_STATE_SET : Fld := ⟨0x0C0010, 7, 7⟩
def TIM_STATE_SEL : Fld := ⟨0x0C0010, 5, 4⟩
def TIM_STATE_STATE : Fld := ⟨0x0C0010, 2, 0⟩
def TIM_NOW_SEC_LO_VALUE : Fld := ⟨0x0C0014, 31, 0⟩
def TIM_NOW_SEC_HI_VALUE : Fld := ⟨0x0C0018, 31, 0⟩
def TIM_NOW_NS_VALUE : Fld := ⟨0x0C001C, 31, 0⟩
def TIM_NOW_FRAC_VALUE : Fld := ⟨0x0C0020, 31, 0⟩
def TIM_OFFSET_VALUE : Fld := ⟨0x0C0024, 31, 0⟩
def TIM_RATE_VALUE : Fld := ⟨0x0C0028, 31, 0⟩
def TIM_HOLD_RATE_VALUE : Fld := ⟨0x0C002C, 31, 0⟩
def TIM_REF_CFG_CLASS_MAX : Fld := ⟨0x0C0030, 31, 24⟩
def TIM_REF_CFG_REVERT_S : Fld := ⟨0x0C0030, 23, 8⟩
def TIM_REF_CFG_PRI2 : Fld := ⟨0x0C0030, 5, 4⟩
def TIM_REF_CFG_PRI1 : Fld := ⟨0x0C0030, 3, 2⟩
def TIM_REF_CFG_PRI0 : Fld := ⟨0x0C0030, 1, 0⟩
def TIM_SERVO_CFG_KP : Fld := ⟨0x0C0034, 31, 16⟩
def TIM_SERVO_CFG_KI : Fld := ⟨0x0C0034, 15, 0⟩
def TIM_LIMIT_CFG_STEP_LIMIT : Fld := ⟨0x0C0038, 31, 16⟩
def TIM_LIMIT_CFG_FREQ_MAX : Fld := ⟨0x0C0038, 15, 8⟩
def TIM_LIMIT_CFG_QUAL_N : Fld := ⟨0x0C0038, 7, 0⟩
def TIM_ACQ_CFG_LOCK_NS : Fld := ⟨0x0C003C, 31, 16⟩
def TIM_ACQ_CFG_OUTLIER : Fld := ⟨0x0C003C, 15, 8⟩
def TIM_ACQ_CFG_ACQ_S : Fld := ⟨0x0C003C, 7, 0⟩
def TIM_MON_CFG_WARN_PPB : Fld := ⟨0x0C0040, 31, 24⟩
def TIM_MON_CFG_WARN_N : Fld := ⟨0x0C0040, 23, 20⟩
def TIM_MON_CFG_DQ_PPB : Fld := ⟨0x0C0040, 19, 12⟩
def TIM_MON_CFG_DQ_N : Fld := ⟨0x0C0040, 11, 8⟩
def TIM_MON_STATUS_HIST_N : Fld := ⟨0x0C0044, 31, 25⟩
def TIM_MON_STATUS_DQ_RUN : Fld := ⟨0x0C0044, 24, 21⟩
def TIM_MON_STATUS_WARN_RUN : Fld := ⟨0x0C0044, 20, 16⟩
def TIM_MON_STATUS_DEV : Fld := ⟨0x0C0044, 15, 0⟩
def TIM_CAND_STATUS_RIDGE : Fld := ⟨0x0C0048, 11, 8⟩
def TIM_CAND_STATUS_PPS : Fld := ⟨0x0C0048, 7, 4⟩
def TIM_CAND_STATUS_PTP : Fld := ⟨0x0C0048, 3, 0⟩
def TIM_UTC_FROM_PTP : Fld := ⟨0x0C004C, 31, 31⟩
def TIM_UTC_LEAP61 : Fld := ⟨0x0C004C, 30, 30⟩
def TIM_UTC_LEAP59 : Fld := ⟨0x0C004C, 29, 29⟩
def TIM_UTC_OFFSET : Fld := ⟨0x0C004C, 15, 0⟩
def TIM_PTP_CFG_PORT_EN : Fld := ⟨0x0C0050, 31, 16⟩
def TIM_PTP_CFG_DOMAIN : Fld := ⟨0x0C0050, 7, 0⟩
def TIM_PPS_IN_CFG_EN : Fld := ⟨0x0C0054, 31, 31⟩
def TIM_PPS_IN_CFG_DELAY : Fld := ⟨0x0C0054, 15, 0⟩
def TIM_PPS_OUT_CFG_MODE : Fld := ⟨0x0C0058, 31, 30⟩
def TIM_PPS_OUT_CFG_WIDTH : Fld := ⟨0x0C0058, 25, 16⟩
def TIM_PPS_OUT_CFG_COMP : Fld := ⟨0x0C0058, 15, 0⟩
def TIM_STEP_PEND_LO_DELTA : Fld := ⟨0x0C005C, 31, 0⟩
def TIM_STEP_PEND_HI_DELTA : Fld := ⟨0x0C0060, 31, 0⟩
def TIM_RIDGE_ASYM_ASYM : Fld := ⟨0x0C0064, 31, 0⟩
def TIM_OUTLIER_COUNT_COUNT : Fld := ⟨0x0C0070, 31, 0⟩
def TIM_TXTS_OVF_COUNT_COUNT : Fld := ⟨0x0C0074, 31, 0⟩
def TIM_PTP_DISCARD_COUNT_COUNT : Fld := ⟨0x0C0078, 31, 0⟩
def TIM_HOLDOVER_COUNT_COUNT : Fld := ⟨0x0C007C, 31, 0⟩
def TIM_PORT_ASYM_VALUE (i : Nat) : Fld := ⟨0x0C0100 + 4 * i, 31, 0⟩
def TIM_PORT_LAT_VALUE (i : Nat) : Fld := ⟨0x0C0140 + 4 * i, 31, 0⟩
def TIM_PORT_STATUS_PEER_DELAY (i : Nat) : Fld := ⟨0x0C0180 + 4 * i, 31, 8⟩
def TIM_PORT_STATUS_PORT_STATE (i : Nat) : Fld := ⟨0x0C0180 + 4 * i, 3, 0⟩
def TIM_TXTS_STATUS_LAST_ID (i : Nat) : Fld := ⟨0x0C01C0 + 4 * i, 31, 16⟩
def TIM_TXTS_STATUS_OVF (i : Nat) : Fld := ⟨0x0C01C0 + 4 * i, 5, 5⟩
def TIM_TXTS_STATUS_COUNT (i : Nat) : Fld := ⟨0x0C01C0 + 4 * i, 4, 0⟩
def KEY_ENGINE_STATE_UNSTORED : Fld := ⟨0x0D0010, 7, 7⟩
def KEY_ENGINE_STATE_START_DONE : Fld := ⟨0x0D0010, 6, 6⟩
def KEY_ENGINE_STATE_LC : Fld := ⟨0x0D0010, 5, 3⟩
def KEY_ENGINE_STATE_RNG : Fld := ⟨0x0D0010, 2, 0⟩
def KEY_SLOT_SEL_SLOT : Fld := ⟨0x0D0014, 7, 0⟩
def KEY_SLOT_INFO_LOADED : Fld := ⟨0x0D0018, 31, 31⟩
def KEY_SLOT_INFO_ATTR : Fld := ⟨0x0D0018, 30, 28⟩
def KEY_SLOT_INFO_LEN : Fld := ⟨0x0D0018, 27, 26⟩
def KEY_SLOT_INFO_ORIGIN : Fld := ⟨0x0D0018, 25, 24⟩
def KEY_SLOT_INFO_PURPOSE : Fld := ⟨0x0D0018, 7, 0⟩
def KEY_SLOT_KCV_LO_KCV : Fld := ⟨0x0D001C, 31, 0⟩
def KEY_SLOT_KCV_HI_KCV : Fld := ⟨0x0D0020, 31, 0⟩
def KEY_SLOTS_USED_COUNT : Fld := ⟨0x0D0024, 8, 0⟩
def KEY_RNG_DATA_DATA : Fld := ⟨0x0D0028, 31, 0⟩
def KEY_NOISE_RAW_SAMPLE : Fld := ⟨0x0D002C, 7, 0⟩
def KEY_RCT_FAIL_COUNT_COUNT : Fld := ⟨0x0D0030, 31, 0⟩
def KEY_APT_FAIL_COUNT_COUNT : Fld := ⟨0x0D0034, 31, 0⟩
def KEY_DERIVE_COUNT_COUNT : Fld := ⟨0x0D0038, 31, 0⟩
def KEY_UNWRAP_FAIL_COUNT_COUNT : Fld := ⟨0x0D003C, 31, 0⟩
def KEY_PURPOSE_BOUND (i : Nat) : Fld := ⟨0x0D0040 + 4 * i, 31, 31⟩
def KEY_PURPOSE_SLOT (i : Nat) : Fld := ⟨0x0D0040 + 4 * i, 7, 0⟩
def KEY_VKEY_ID_LO_KEY_ID (i : Nat) : Fld := ⟨0x0D0080 + 8 * i, 31, 0⟩
def KEY_VKEY_ID_HI_KEY_ID (i : Nat) : Fld := ⟨0x0D0084 + 8 * i, 31, 0⟩
def KEY_IDPUB_X_VALUE (i : Nat) : Fld := ⟨0x0D0100 + 4 * i, 31, 0⟩
def KEY_IDPUB_Y_VALUE (i : Nat) : Fld := ⟨0x0D0120 + 4 * i, 31, 0⟩
def KEY_MEASURE_VALUE (i : Nat) : Fld := ⟨0x0D0140 + 4 * i, 31, 0⟩
def SAF_STATE_SWP_B : Fld := ⟨0x0E0010, 23, 23⟩
def SAF_STATE_SWP_A : Fld := ⟨0x0E0010, 22, 22⟩
def SAF_STATE_CAUSES : Fld := ⟨0x0E0010, 21, 16⟩
def SAF_STATE_STATE : Fld := ⟨0x0E0010, 1, 0⟩
def SAF_ISO_RAW_ISO_B : Fld := ⟨0x0E0014, 31, 16⟩
def SAF_ISO_RAW_ISO_A : Fld := ⟨0x0E0014, 15, 0⟩
def SAF_ISO_STATE_DISC : Fld := ⟨0x0E0018, 31, 16⟩
def SAF_ISO_STATE_DEMAND : Fld := ⟨0x0E0018, 15, 0⟩
def SAF_PINS_ARM_LEFT : Fld := ⟨0x0E001C, 31, 16⟩
def SAF_PINS_ARMED : Fld := ⟨0x0E001C, 8, 8⟩
def SAF_PINS_SEAL_OPEN : Fld := ⟨0x0E001C, 7, 7⟩
def SAF_PINS_ESI_DEMAND : Fld := ⟨0x0E001C, 6, 6⟩
def SAF_PINS_RST : Fld := ⟨0x0E001C, 5, 5⟩
def SAF_PINS_SEAL : Fld := ⟨0x0E001C, 4, 3⟩
def SAF_PINS_ESI : Fld := ⟨0x0E001C, 2, 1⟩
def SAF_CFG0_AUTO_START : Fld := ⟨0x0E0024, 31, 31⟩
def SAF_CFG0_ISO_USED : Fld := ⟨0x0E0024, 15, 0⟩
def SAF_FORCE0_AUTO_START : Fld := ⟨0x0E0028, 31, 31⟩
def SAF_FORCE0_ISO_USED : Fld := ⟨0x0E0028, 15, 0⟩
def SAF_CFG1_CONN_ID : Fld := ⟨0x0E002C, 31, 0⟩
def SAF_FORCE1_CONN_ID : Fld := ⟨0x0E0030, 31, 0⟩
def SAF_CFG2_DL_COURSES : Fld := ⟨0x0E0034, 31, 16⟩
def SAF_CFG2_DISC : Fld := ⟨0x0E0034, 15, 8⟩
def SAF_CFG2_RELEASE : Fld := ⟨0x0E0034, 7, 0⟩
def SAF_FORCE2_DL_COURSES : Fld := ⟨0x0E0038, 31, 16⟩
def SAF_FORCE2_DISC : Fld := ⟨0x0E0038, 15, 8⟩
def SAF_FORCE2_RELEASE : Fld := ⟨0x0E0038, 7, 0⟩
def SAF_OTP_RESULT : Fld := ⟨0x0E003C, 23, 16⟩
def SAF_OTP_FREE : Fld := ⟨0x0E003C, 10, 8⟩
def SAF_OTP_GEN : Fld := ⟨0x0E003C, 7, 6⟩
def SAF_OTP_VALID : Fld := ⟨0x0E003C, 5, 5⟩
def SAF_OTP_PROGRAM : Fld := ⟨0x0E003C, 0, 0⟩
def SAF_CFG_CRC_CRC : Fld := ⟨0x0E0040, 31, 0⟩
def SAF_FORCE_CRC_CRC : Fld := ⟨0x0E0044, 31, 0⟩
def SAF_FAULT_SPAR : Fld := ⟨0x0E0048, 9, 9⟩
def SAF_FAULT_CORE : Fld := ⟨0x0E0048, 8, 8⟩
def SAF_FAULT_CODE : Fld := ⟨0x0E0048, 7, 0⟩
def SAF_TELEGRAM_COUNT_COUNT : Fld := ⟨0x0E0050, 31, 0⟩
def SAF_WITHDRAWN_COUNT_COUNT : Fld := ⟨0x0E0054, 31, 0⟩
def SAF_EXPIRED_COUNT_COUNT : Fld := ⟨0x0E0058, 31, 0⟩
def SAF_REFUSED_COUNT_COUNT : Fld := ⟨0x0E005C, 31, 0⟩
def SAF_LANE_CFG_MASK (i : Nat) : Fld := ⟨0x0E1000 + 4 * i, 15, 0⟩
def SAF_LANE_STATE_GRANT (i : Nat) : Fld := ⟨0x0E1800 + 4 * i, 31, 31⟩
def SAF_LANE_STATE_PUBLISHED (i : Nat) : Fld := ⟨0x0E1800 + 4 * i, 30, 30⟩
def SAF_LANE_STATE_MASK (i : Nat) : Fld := ⟨0x0E1800 + 4 * i, 15, 0⟩
def RDG_STATE_HOLD_CAUSE : Fld := ⟨0x0F0010, 23, 20⟩
def RDG_STATE_PARTNER_STATE : Fld := ⟨0x0F0010, 19, 18⟩
def RDG_STATE_PARTNER_VALID : Fld := ⟨0x0F0010, 17, 17⟩
def RDG_STATE_UNIT : Fld := ⟨0x0F0010, 16, 16⟩
def RDG_STATE_ARC_SAME : Fld := ⟨0x0F0010, 11, 11⟩
def RDG_STATE_CATCHUP : Fld := ⟨0x0F0010, 10, 10⟩
def RDG_STATE_SYNCED : Fld := ⟨0x0F0010, 9, 9⟩
def RDG_STATE_LINK_UP : Fld := ⟨0x0F0010, 8, 8⟩
def RDG_STATE_STATE : Fld := ⟨0x0F0010, 1, 0⟩
def RDG_CFG_AUTO_REJOIN : Fld := ⟨0x0F0014, 31, 31⟩
def RDG_CFG_WAIT_S : Fld := ⟨0x0F0014, 15, 8⟩
def RDG_CFG_LINK_TO : Fld := ⟨0x0F0014, 7, 0⟩
def RDG_HOLD_CTRL_SWITCHOVER : Fld := ⟨0x0F0018, 1, 1⟩
def RDG_HOLD_CTRL_REJOIN : Fld := ⟨0x0F0018, 0, 0⟩
def RDG_LINK_LANES_UP : Fld := ⟨0x0F001C, 27, 20⟩
def RDG_LINK_DELAY_NS : Fld := ⟨0x0F001C, 19, 0⟩
def RDG_PARTNER_LO_SERIAL : Fld := ⟨0x0F0020, 31, 0⟩
def RDG_PARTNER_HI_SERIAL : Fld := ⟨0x0F0024, 31, 0⟩
def RDG_MISMATCH_CLASSES : Fld := ⟨0x0F0028, 22, 16⟩
def RDG_MISMATCH_VERDICTS : Fld := ⟨0x0F0028, 15, 8⟩
def RDG_MISMATCH_RUN : Fld := ⟨0x0F0028, 1, 0⟩
def RDG_MISMATCH_COURSE_LO_COURSE : Fld := ⟨0x0F002C, 31, 0⟩
def RDG_MISMATCH_COURSE_HI_COURSE : Fld := ⟨0x0F0030, 31, 0⟩
def RDG_JOIN_JOINING : Fld := ⟨0x0F0034, 31, 31⟩
def RDG_JOIN_PROGRESS : Fld := ⟨0x0F0034, 6, 0⟩
def RDG_MISMATCH_COUNT_COUNT : Fld := ⟨0x0F0040, 31, 0⟩
def RDG_CX_LATE_COUNT_COUNT : Fld := ⟨0x0F0044, 31, 0⟩
def RDG_ERASE_LATE_COUNT_COUNT : Fld := ⟨0x0F0048, 31, 0⟩
def RDG_FAILOVER_COUNT_COUNT : Fld := ⟨0x0F004C, 31, 0⟩
def RDG_RETX_COUNT_COUNT : Fld := ⟨0x0F0050, 31, 0⟩
def RDG_FCS_ERR_COUNT_COUNT : Fld := ⟨0x0F0054, 31, 0⟩
def RDG_JOIN_COUNT_COUNT : Fld := ⟨0x0F0058, 31, 0⟩
def MET_CAL_ID_CAL_ID : Fld := ⟨0x100010, 31, 0⟩
def MET_CAL_STATE_FREE : Fld := ⟨0x100014, 10, 8⟩
def MET_CAL_STATE_VALID : Fld := ⟨0x100014, 7, 7⟩
def MET_CAL_STATE_SLOT : Fld := ⟨0x100014, 6, 5⟩
def MET_CAL_STATE_FILTER : Fld := ⟨0x100014, 4, 3⟩
def MET_SEC_LO_SECOND : Fld := ⟨0x100018, 31, 0⟩
def MET_SEC_HI_SECOND : Fld := ⟨0x10001C, 31, 0⟩
def MET_SEC_E_E (i : Nat) : Fld := ⟨0x100020 + 4 * i, 31, 0⟩
def MET_SEC_I_V (i : Nat) : Fld := ⟨0x100030 + 4 * i, 31, 16⟩
def MET_SEC_I_I (i : Nat) : Fld := ⟨0x100030 + 4 * i, 15, 0⟩
def MET_SEC_FLAGS_FLAGS : Fld := ⟨0x100040, 15, 0⟩
def MET_OVR_COUNT_COUNT : Fld := ⟨0x100050, 31, 0⟩
def MET_SETTLE_COUNT_COUNT : Fld := ⟨0x100054, 31, 0⟩
def MET_INVALID_COUNT_COUNT : Fld := ⟨0x100058, 31, 0⟩
def MET_SAMPLE_CODE (i : Nat) : Fld := ⟨0x100100 + 4 * i, 31, 8⟩
def MET_SAMPLE_FLAGS (i : Nat) : Fld := ⟨0x100100 + 4 * i, 3, 0⟩
def TMP_SOFFIT_STATE_SEQ_END : Fld := ⟨0x110010, 8, 8⟩
def TMP_SOFFIT_STATE_VBAT_LOW : Fld := ⟨0x110010, 7, 7⟩
def TMP_SOFFIT_STATE_TAMPER : Fld := ⟨0x110010, 3, 0⟩
def TMP_CFG_POL : Fld := ⟨0x110014, 7, 4⟩
def TMP_CFG_EN : Fld := ⟨0x110014, 3, 0⟩
def TMP_LOG_HEAD_SEQ : Fld := ⟨0x110018, 31, 0⟩
def TMP_LOG_SEL_SEQ : Fld := ⟨0x11001C, 31, 0⟩
def TMP_LOG_REC_LO_RECORD : Fld := ⟨0x110020, 31, 0⟩
def TMP_LOG_REC_HI_RECORD : Fld := ⟨0x110024, 31, 0⟩
def OTP_LIFECYCLE_WORDS_FREE : Fld := ⟨0x120010, 12, 9⟩
def OTP_LIFECYCLE_ROOTSEED_OK : Fld := ⟨0x120010, 8, 8⟩
def OTP_LIFECYCLE_CODE : Fld := ⟨0x120010, 2, 0⟩
def OTP_BOOT_STATUS_RESUME_FAIL : Fld := ⟨0x120014, 13, 12⟩
def OTP_BOOT_STATUS_SOURCE : Fld := ⟨0x120014, 11, 10⟩
def OTP_BOOT_STATUS_SLOT : Fld := ⟨0x120014, 9, 9⟩
def OTP_BOOT_STATUS_RESUMED : Fld := ⟨0x120014, 1, 1⟩
def OTP_BOOT_STATUS_SETTINGS_RESET : Fld := ⟨0x120014, 0, 0⟩
def OTP_FW_RELEASE_VALUE : Fld := ⟨0x120018, 31, 0⟩
def OTP_FW_FMT_VALUE : Fld := ⟨0x12001C, 31, 0⟩
def OTP_FW_SLOTS_B_STATE : Fld := ⟨0x120020, 12, 10⟩
def OTP_FW_SLOTS_B_TRIES : Fld := ⟨0x120020, 9, 8⟩
def OTP_FW_SLOTS_A_STATE : Fld := ⟨0x120020, 4, 2⟩
def OTP_FW_SLOTS_A_TRIES : Fld := ⟨0x120020, 1, 0⟩
def OTP_FW_REL_A_RELEASE : Fld := ⟨0x120024, 31, 0⟩
def OTP_FW_REL_B_RELEASE : Fld := ⟨0x120028, 31, 0⟩
def OTP_FW_CTRL_NEXT : Fld := ⟨0x12002C, 5, 4⟩
def OTP_FW_CTRL_RESET : Fld := ⟨0x12002C, 0, 0⟩
def OTP_DEFAULTS_STATE_FREE : Fld := ⟨0x120030, 10, 8⟩
def OTP_DEFAULTS_STATE_VALID : Fld := ⟨0x120030, 7, 7⟩
def OTP_DEFAULTS_STATE_SLOT : Fld := ⟨0x120030, 6, 5⟩
def OTP_PROG_STATUS_BUSY : Fld := ⟨0x120034, 31, 31⟩
def OTP_PROG_STATUS_RESULT : Fld := ⟨0x120034, 23, 16⟩
def OTP_PROG_STATUS_BLOCK : Fld := ⟨0x120034, 10, 8⟩
def OTP_PROG_STATUS_SLOT : Fld := ⟨0x120034, 1, 0⟩
def OTP_SVC_STATUS_LINK : Fld := ⟨0x120038, 31, 31⟩
def OTP_SVC_STATUS_MODE : Fld := ⟨0x120038, 30, 30⟩
def OTP_SVC_STATUS_XFER : Fld := ⟨0x120038, 29, 29⟩
def OTP_SVC_IP_ADDR : Fld := ⟨0x12003C, 31, 0⟩
def OTP_SURVEY_HEAD_COUNT : Fld := ⟨0x120040, 31, 0⟩
def OTP_SURVEY_SEL_RECORD : Fld := ⟨0x120044, 31, 0⟩
def OTP_SURVEY_DATA_DATA (i : Nat) : Fld := ⟨0x120080 + 4 * i, 31, 0⟩
def EVT_HEAD_LO_SEQ : Fld := ⟨0x130000, 31, 0⟩
def EVT_HEAD_HI_SEQ : Fld := ⟨0x130004, 15, 0⟩
def EVT_TAIL_LO_SEQ : Fld := ⟨0x130008, 31, 0⟩
def EVT_TAIL_HI_SEQ : Fld := ⟨0x13000C, 15, 0⟩
def EVT_CHIP_TAIL_LO_SEQ : Fld := ⟨0x130010, 31, 0⟩
def EVT_CHIP_TAIL_HI_SEQ : Fld := ⟨0x130014, 15, 0⟩
def EVT_STATUS_PROVISIONAL : Fld := ⟨0x130018, 31, 31⟩
def EVT_STATUS_SPILLING : Fld := ⟨0x130018, 30, 30⟩
def EVT_STATUS_ON_CHIP : Fld := ⟨0x130018, 16, 0⟩
def EVT_LOST_COUNT_COUNT : Fld := ⟨0x13001C, 31, 0⟩
def EVT_CURSOR_LO_SEQ : Fld := ⟨0x130020, 31, 0⟩
def EVT_CURSOR_HI_SEQ : Fld := ⟨0x130024, 15, 0⟩
def EVT_WIN_STATUS_FETCHING : Fld := ⟨0x130028, 4, 4⟩
def EVT_WIN_STATUS_VALID : Fld := ⟨0x130028, 3, 0⟩
def EVT_WIN_DATA (i : Nat) : Fld := ⟨0x130040 + 4 * i, 31, 0⟩
def HLT_THERM_STATUS_TJ : Fld := ⟨0x140010, 19, 8⟩
def HLT_THERM_STATUS_HOT : Fld := ⟨0x140010, 7, 4⟩
def HLT_THERM_STATUS_LEVEL : Fld := ⟨0x140010, 2, 0⟩
def HLT_PWR_STATUS_POINT : Fld := ⟨0x140014, 23, 0⟩
def HLT_PWR_OVER_POINT : Fld := ⟨0x140018, 23, 0⟩
def HLT_RESET_CAUSE_POINT : Fld := ⟨0x14001C, 15, 8⟩
def HLT_RESET_CAUSE_CAUSE : Fld := ⟨0x14001C, 2, 0⟩
def HLT_CFG_AUTO_RESTART : Fld := ⟨0x140020, 0, 0⟩
def HLT_XING_LAST_BLOCK : Fld := ⟨0x140024, 28, 24⟩
def HLT_XING_LAST_FIFO : Fld := ⟨0x140024, 23, 16⟩
def HLT_XING_LAST_KIND : Fld := ⟨0x140024, 1, 0⟩
def HLT_OVERRUN_COUNT_COUNT : Fld := ⟨0x140030, 31, 0⟩
def HLT_UNDERRUN_COUNT_COUNT : Fld := ⟨0x140034, 31, 0⟩
def HLT_FLUSH_PARTIAL_COUNT_COUNT : Fld := ⟨0x140038, 31, 0⟩
def HLT_XING_ERR_COUNT_COUNT : Fld := ⟨0x14003C, 31, 0⟩
def HLT_PWR_WARN_COUNT_COUNT : Fld := ⟨0x140040, 31, 0⟩
def HLT_TEMP_FAULT (i : Nat) : Fld := ⟨0x140100 + 4 * i, 31, 31⟩
def HLT_TEMP_TEMP (i : Nat) : Fld := ⟨0x140100 + 4 * i, 11, 0⟩
def HLT_VOLT_MIN (i : Nat) : Fld := ⟨0x140140 + 4 * i, 31, 16⟩
def HLT_VOLT_MV (i : Nat) : Fld := ⟨0x140140 + 4 * i, 15, 0⟩
def HLT_PROC_BASE (i : Nat) : Fld := ⟨0x140200 + 4 * i, 31, 16⟩
def HLT_PROC_COUNT (i : Nat) : Fld := ⟨0x140200 + 4 * i, 15, 0⟩
def DDR_INFO_TRAINED : Fld := ⟨0x150010, 31, 31⟩
def DDR_INFO_SELF_REFRESH : Fld := ⟨0x150010, 30, 30⟩
def DDR_INFO_CAPACITY : Fld := ⟨0x150010, 24, 16⟩
def DDR_INFO_RANKS : Fld := ⟨0x150010, 9, 8⟩
def DDR_INFO_DENSITY : Fld := ⟨0x150010, 7, 6⟩
def DDR_INFO_RATE : Fld := ⟨0x150010, 2, 0⟩
def DDR_ECC_CE_COUNT_COUNT : Fld := ⟨0x150014, 31, 0⟩
def DDR_ECC_UE_COUNT_COUNT : Fld := ⟨0x150018, 31, 0⟩
def DDR_ECC_LAST_UE : Fld := ⟨0x15001C, 31, 31⟩
def DDR_ECC_LAST_DEVICE : Fld := ⟨0x15001C, 7, 4⟩
def DDR_ECC_LAST_RANK : Fld := ⟨0x15001C, 3, 3⟩
def DDR_ECC_LAST_SUBCH : Fld := ⟨0x15001C, 2, 2⟩
def DDR_ECC_LAST_CHANNEL : Fld := ⟨0x15001C, 1, 0⟩

/-- BLK_CTRL.ENABLE. -/
def CTRL_ENABLE (b : Nat) : Fld := ⟨b * 0x10000, 0, 0⟩
/-- BLK_PROFILE.PROFILE. -/
def PROFILE_PROFILE (b : Nat) : Fld := ⟨b * 0x10000 + 4, 7, 0⟩
/-- BLK_STATUS.EXPERT_ACTIVE. -/
def STATUS_EXPERT_ACTIVE (b : Nat) : Fld := ⟨b * 0x10000 + 8, 3, 3⟩
/-- BLK_STATUS.ABORTING. -/
def STATUS_ABORTING (b : Nat) : Fld := ⟨b * 0x10000 + 8, 2, 2⟩
/-- BLK_STATUS.ENABLED. -/
def STATUS_ENABLED (b : Nat) : Fld := ⟨b * 0x10000 + 8, 1, 1⟩
/-- BLK_STATUS.IDLE. -/
def STATUS_IDLE (b : Nat) : Fld := ⟨b * 0x10000 + 8, 0, 0⟩

end Fl

end Sys2Proof.Machine
end

