-- ==== Sys2Proof/Machine/State.lean ====
section
/-!
DEFINITION. Machine/State.lean: the state of the block as plain data: every register, buffer, queue, counter and mode that the
spec gives it, what it has put out, and the queue of commands that wait.
-/

namespace Sys2Proof.Machine

/-- Completion status codes of Table 0.5 (R21). No other code exists. -/
inductive Status where
  | ok | illegal | state | notOwner | stale | busy | noSpace | auth | range | aborted | notReady | sealed | lockout
  | hwFault
deriving DecidableEq, Repr

/-- A write to ENABLE, ABORT, PROFILE, an expert field or a field with the same timing that waits for the next course boundary
(R39). `fields` writes the register's expert fields where `expert` is set and its other fields where it is not. -/
inductive CfgWrite where
  | enable (block : Nat) (on : Bool)
  | abort (block : Nat)
  | profile (block : Nat) (code : Nat)
  | fields (func addr : Nat) (value : Word) (expert : Bool)
deriving DecidableEq, Repr

/-- An access that hangs in a block whose clock is stopped (R19, R543), with the accesses of the same function that wait
behind it. `write = none` is a read. -/
structure HungAccess where
  func : Nat
  addr : Nat
  write : Option Word
deriving DecidableEq, Repr

/-- Reasons of a captured write, in the order of R354. -/
inductive WswReason where
  | notOwner | sealClosed | reservedCode | blockState | noExpert
deriving DecidableEq, Repr

/-- A record of the event recorder (Table 18.3); CHECK is computed when the record is written out. -/
structure EvRec where
  seq : Nat
  rep : Nat
  source : Nat
  unit : Nat
  data : Octets
deriving DecidableEq, Repr

/-- A descriptor held in a COMMAND ring's cache (R345): its 64 octets and, once read, its scatter list and data. -/
structure Cached where
  octets : Octets
  fetched : Bool := false
  sgl : List ScatterEntry := []
  data : Octets := []
  /-- The object that mirrors the data on the standby unit (R457), 0 for none. -/
  object : Nat := 0
deriving DecidableEq, Repr

/-- A ring of a host function (R338 to R341, R355, R356, R360). -/
structure Ring where
  cfg : Word := 0x04000000#32
  base : BitVec 64 := 0#64
  wb : BitVec 64 := 0#64
  enabled : Bool := false
  err : Bool := false
  aborting : Bool := false
  pidx : Word := 0#32
  cidx : Word := 0#32
  drops : Word := 0#32
  lastDoorbell : BitVec 64 := 0#64
  cache : List Cached := []
  active : Nat := 0
  reserved : Nat := 0
  moderating : Bool := false
  messageOwed : Bool := false
  dropsOwed : Bool := false
deriving DecidableEq, Repr

/-- What the host interface holds for one function: its rings, its fence (R357) and which hardware causes hold now. -/
structure FuncState where
  rings : FMap Ring := []
  fenced : Bool := false
  cause : Nat := 0
  linkDown : Bool := false
  masterClear : Bool := false
  flr : Bool := false
  d3hot : Bool := false
deriving DecidableEq, Repr

/-- Ownership (Table 11.8). `owned f start`: function `f` is the owner, its lease last started at instant `start`, ns. -/
inductive Ownership where
  | noOwner
  | election (openedNs : Nat) (claims : List (Cmd × Nat))
  | owned (f : Nat) (leaseStartNs : Nat)
deriving DecidableEq, Repr

/-- One entry of the course's input log (R346, R452): an accepted command by its function, ring, descriptor and data with the
object that mirrors them; a register write mirrored to the standby unit (R458); a change of ownership; a second of station
metrology. -/
inductive LogItem where
  | command (func ring : Nat) (descriptor data : Octets) (object : Nat)
  | regWrite (func addr : Nat) (value : Word) (expert : Bool := false)
  | owner (now : Option Nat) (cause : Nat)
  | metro (second : Nat)
  | repair (slot : Nat) (octets : Octets)
deriving DecidableEq, Repr

/-- The host interface (chapter 11). -/
structure HstState where
  bifurcation : Nat := 0
  funcs : FMap FuncState := []
  ownership : Ownership := .noOwner
  /-- HST_LEASE_SHORT has not yet been raised in this lease period (R351). -/
  leaseShortArmed : Bool := true
  inputLog : List LogItem := []
deriving DecidableEq, Repr

/-- The event recorder (R521 to R526). Records are kept newest first. -/
structure EvtState where
  /-- The counter: the number of the newest record. -/
  seq : Nat := 0
  records : List EvRec := []
  spilled : List EvRec := []
  provisional : Bool := true
  /-- The last sequence reservation recorded in RSV (R523); DRAM and archive keep it over a start. -/
  reservation : Nat := 0
  /-- EVENT_CLEAR removed the newest record, so the next raise takes a new one (R526). -/
  noMerge : Bool := true
  /-- Per function: a spilled unit is being loaded. -/
  fetching : FMap Bool := []
  /-- Per function and window position (4 f + i): the octets latched by a read of word 0 (R525). -/
  latched : FMap Octets := []
  /-- Per function: units loaded by a finished fetch, by first record number. -/
  loaded : FMap (List EvRec) := []
deriving DecidableEq, Repr

/-- A batten record of a course type (Table 2.5). -/
structure BattenRec where
  workSet : Nat
  quota : Nat
  valley : Bool
  flush : Bool
  ridgeCopy : Bool
deriving DecidableEq, Repr

/-- A work item (Table 2.6). -/
structure WorkItem where
  op : Nat
  cond : Nat
  cell : Nat
  cost : Nat
  param : Nat
deriving DecidableEq, Repr

/-- An eave record of a chain (Table 2.8). -/
structure EaveRec where
  identity : Nat
  eave : Nat
  position : Nat
  config : Nat
  firstCell : Nat
deriving DecidableEq, Repr

/-- A chain (Table 2.8). -/
structure Chain where
  lane : Nat
  dRx : Nat
  dTx : Nat
  eaves : List EaveRec
deriving DecidableEq, Repr

/-- A cell record (R65). -/
structure CellRec where
  cell : Nat
  cluster : Nat
  kind : Nat
  windowClass : Nat
  paramSet : Nat
deriving DecidableEq, Repr

/-- A window class entry (Table 2.9). -/
structure WindowEntry where
  rxMask : Nat
  replyMask : Nat
  cw : List Nat
deriving DecidableEq, Repr

/-- An override rule of the course cycle (Table 2.4). -/
structure CycleRule where
  modulus : Nat
  residue : Nat
  position : Nat
  type : Nat
deriving DecidableEq, Repr

/-- A batten plan as its image gives it (R54 to R70). `roles` holds the role code and lane mask of each group, `work` the
entries (first item, count) of each work set by cluster, `windows` each class's entries by course type, `refs` each table
kind's mode and digest, `totals` the declared totals by ID. -/
structure Plan where
  planId : Nat := 0
  epoch : Nat := 0
  period : Nat := 1
  expertRidge : Bool := false
  /-- The resident plan: cells are numbered as R515 gives. -/
  survey : Bool := false
  roles : List (Nat × Nat) := []
  cycleMap : List Nat := []
  rules : List CycleRule := []
  types : List (List BattenRec) := []
  work : List (List (Nat × Nat)) := []
  pool : List WorkItem := []
  chains : List Chain := []
  cells : List CellRec := []
  params : List Octets := []
  windows : List (List WindowEntry) := []
  totals : FMap Nat := []
  dram : List Nat := []
  refs : List (Nat × Octets) := []
deriving DecidableEq, Repr

/-- Content staged for epoch E + 1 of one table kind (R74): its mode (1 replace, 2 update) and its octets; for the update
form the batches in the order of loading. -/
structure StagedTable where
  mode : Nat
  octets : Octets
deriving DecidableEq, Repr

/-- A pending commit (R77): the command that asked for it and its target course. -/
structure PendingCommit where
  cmd : Cmd
  target : Nat
deriving DecidableEq, Repr

/-- Course and plan control (chapter 2). -/
structure CrsState where
  active : Plan := {}
  /-- The octets of the active plan's image, empty for the resident plan. -/
  activeImage : Octets := []
  staged : Option Plan := none
  stagedImage : Octets := []
  tables : FMap (Option StagedTable) := []
  pending : Option PendingCommit := none
  /-- Table loads accepted from a ring and not yet in effect: kind, command, and whether the seal was open at the acceptance and
  does not bear on them (R76). -/
  loads : List (Nat × Cmd × Bool) := []
  /-- The staging check's result for the boundary ahead, as the input log carries it (Table 15.6, kind 08h). -/
  decided : Option Nat := none
  /-- Overrun classes that an item of the present course was dropped, abandoned or carried under (R83). -/
  lateClasses : List Nat := []
  /-- A fallback waits for its boundary: its CAUSE (R84). -/
  fallback : Option Nat := none
  /-- An uncorrectable error was found in the active plan buffer in this course (R84). -/
  planBad : Bool := false
  /-- The type of the course in progress (R52). -/
  courseType : Nat := 0
  /-- The next batten of the course to begin, 16 once all have begun. -/
  nextBatten : Nat := 0
  /-- The standby unit confirmed the pending commit (R79 row RIDGE). -/
  standbyConfirmed : Bool := false
  /-- The stored plan has been accepted and comes into force at the next course boundary (R514). -/
  resuming : Bool := false
deriving DecidableEq, Repr

/-- The power-line area of a per-meter state record (Table 4.5). -/
structure PlcArea where
  short : Nat := 0
  cell : Nat := 0xFFFF
  joined : Bool := false
  keyIndex : Nat := 0
  neighFail : Bool := false
  routeFail : Bool := false
  altFail : Bool := false
  lastDsn : Nat := 0
  rxFc : Nat := 0
  failUntil : Nat := 0
  tmUntil : Nat := 0
  tmMod : Nat := 0
  tmGain : Nat := 0
  tmMap : Nat := 0
  /-- The cell in which the tone map was learned (R137, R138); the record of Table 4.5 does not show it. -/
  tmCell : Nat := 0xFFFF
  lqi : Nat := 0
  linkCost : Nat := 0
  upCost : Nat := 0
  upHops : Nat := 0
deriving DecidableEq, Repr

/-- The radio area of a per-meter state record (Table 5.5). RSSI is held as its octet. -/
structure RadArea where
  short : Nat := 0
  cell : Nat := 0xFFFF
  assoc : Bool := false
  sleepy : Bool := false
  synced : Bool := false
  unreachable : Bool := false
  cslFails : Nat := 0
  lastDsn : Nat := 0
  rssi : Nat := 0
  chains : Nat := 0
  rxFc : Nat := 0
  cslPeriod : Nat := 0
  syncUs : Nat := 0
  lastRx : Nat := 0
deriving DecidableEq, Repr

/-- Who asked the WG20 to send a frame (R151, R185). -/
inductive Origin where
  | host (c : Cmd)
  | push (id : Nat)
  | telegram (id : Nat)
  | engine
deriving DecidableEq, Repr

/-- What a frame carries. `lbp` messages: 1 EAP-PSK challenge, 2 ACCEPTED with short address and GMK, 3 DECLINE, 4 KICK,
5 new GMK. -/
inductive FrameKind where
  | data
  | toneMap (mod map : Nat)
  | lbp (msg : Nat)
  | routeReply (cost hops : Nat)
  | beacon
  | assocResponse (status short : Nat)
deriving DecidableEq, Repr

/-- A frame for a cell. `meter` is the destination meter where it has one, `dest` its short address (FFFFh for a broadcast),
`hop` the first hop, `eui` the extended address of a radio association response; `rest` holds the later fragments. `packet` is
the frame's packet in the switch core; `tag` names the frame in its cell. `hopsLeft` is the hops left of the mesh header that a frame
carries to a first hop that is not its destination (R144), 0 where it has none. -/
structure Frame where
  origin : Origin
  kind : FrameKind
  meter : Option Nat := none
  dest : Nat := 0xFFFF
  hop : Nat := 0xFFFF
  eui : Nat := 0
  high : Bool := false
  ackReq : Bool := false
  secured : Bool := false
  payload : Octets := []
  rest : List Octets := []
  nb : Nat := 0
  nr : Nat := 0
  again : Bool := false
  viaAlt : Bool := false
  toneMod : Nat := 0
  toneGain : Nat := 0
  toneMap : Nat := 0
  toneReq : Bool := false
  packet : Nat := 0
  tag : Nat := 0
  hopsLeft : Nat := 0
  dsn : Nat := 0
deriving DecidableEq, Repr

/-- A sense decision of the course (R62, R125): its entry, whether it is the alternate one, whether it found the medium busy,
and the token of the frame that waited (0 for none). -/
structure Decision where
  entry : Nat
  alternate : Bool
  busy : Bool
  waiting : Nat
deriving DecidableEq, Repr

/-- An acknowledgement owed (R131, R167): the end of the frame in ns, the earliest start of the batten that may play it in ns,
and for the radio its sequence number and frame pending bit. -/
structure OwedAck where
  frameEnd : Nat
  earliest : Nat
  dsn : Nat
  pending : Bool
deriving DecidableEq, Repr

/-- An open datagram (R152): source, tag, size, the fragments received, the second since which it is open, and
whether a fragment was late or clipped (R223). -/
structure Datagram where
  source : Nat
  tag : Nat
  size : Nat
  parts : List (Nat × Octets)
  opened : Nat
  late : Bool
  clip : Bool
deriving DecidableEq, Repr

/-- An open route-request collection (R146): originator and request, best copy so far (neighbour, cost, hops), its end in ns. -/
structure RouteRequest where
  originator : Nat
  id : Nat
  neighbour : Nat
  cost : Nat
  hops : Nat
  due : Nat
deriving DecidableEq, Repr

/-- An entry of a radio cell's pending list (R175): requester, response status and short address, the meter when one was
associated, the instant at which it lapses. -/
structure PendingResponse where
  eui : Nat
  status : Nat
  short : Nat
  meter : Option Nat
  due : Nat
deriving DecidableEq, Repr

/-- Battens in which a cell's transmit items produced samples (R63, R95): from `start` to `stop`, ns; the eave plays them `offset` ns
later. -/
structure Play where
  start : Nat
  stop : Nat
  offset : Nat
deriving DecidableEq, Repr

/-- The MAC of a cell: queue, transmit buffer, acknowledgements, contention and frame counter (R125 to R133, R142, R163 to
R169). -/
structure CellMac where
  /-- Queued frames, oldest first. -/
  queue : List Frame := []
  tx : Option Frame := none
  /-- The frame in transmission is in its wake-up sequence. -/
  wus : Bool := false
  ackTx : Bool := false
  /-- The frame whose acknowledgement is awaited. -/
  wait : Option Frame := none
  /-- The end of that frame, ns (R133, R169). -/
  waitFrom : Nat := 0
  /-- Acknowledgements owed, oldest first. -/
  ackOwed : List OwedAck := []
  beaconOwed : Bool := false
  /-- Deferral count of the beacon owed (R129, R146). -/
  beaconNb : Nat := 0
  rx : Bool := false
  /-- Samples of the frame in reception were invalid (R100). -/
  rxBad : Bool := false
  /-- A receive item of the frame in reception was late (Table 2.16). -/
  rxLate : Bool := false
  /-- What the cell's stream plays with TX_EN 1, newest first (R122, R162). -/
  plays : List Play := []
  /-- Virtual carrier sense lasts to this instant, ns (R126). -/
  vcsEnd : Nat := 0
  decisions : List Decision := []
  /-- Frames that waited in this course with a usable entry (R129). -/
  waited : List Nat := []
  /-- A frame has started in this course (R128). -/
  started : Bool := false
  fc : Nat := 0
  /-- A reservation of the counter was recorded since the last reset (R142). -/
  reserved : Bool := false
  keyIndex : Nat := 0
  /-- A GMK change runs: the instant, ns, at which the cell switches in any case (R142). -/
  gmkSwitch : Option Nat := none
  foreign : Bool := false
  /-- 1 + the second of the last foreign report. -/
  foreignSecond : Nat := 0
  /-- EUI-64 of the open LBP exchanges. -/
  lbp : List Nat := []
  requests : List RouteRequest := []
  /-- Per originator: 1 + the last request that was answered (R146). -/
  answered : FMap Nat := []
  datagrams : List Datagram := []
  /-- Per source: 1 + the sequence number of the last accepted frame. -/
  lastDsn : FMap Nat := []
  dsn : Nat := 0
  /-- The tag of the next frame queued. -/
  nextTag : Nat := 0
  pendingList : List PendingResponse := []
  /-- Air time: start instant and duration of the transmissions of the last hour, ns (R165). -/
  air : List (Nat × Nat) := []
  /-- 1 + the instant of the last RAD_DUTY_LIMIT, ns. -/
  dutyMark : Nat := 0
deriving DecidableEq, Repr

/-- An entry of the route table in force (Table 4.8). -/
structure RouteEntry where
  meter : Nat
  short : Nat
  next : Nat
  alt : Nat
  hops : Nat
  altHops : Nat
deriving DecidableEq, Repr

/-- A tone-map default (Table 4.6). -/
structure ToneDefault where
  mod : Nat
  gain : Nat
  map : Nat
deriving DecidableEq, Repr

/-- The cells: their MACs by cell number, and the tables in force (chapters 4 and 5). -/
structure CelState where
  macs : FMap CellMac := []
  routes : FMap (List RouteEntry) := []
  tones : FMap (Option ToneDefault) := []
deriving DecidableEq, Repr

/-- The record and billing area of a per-meter state record (Table 7.8). A gap is (START, LENGTH). -/
structure RecArea where
  regs : FMap Nat := []
  eImp : Nat := 0
  eExp : Nat := 0
  qImp : Nat := 0
  qExp : Nat := 0
  lastBlock : Nat := 0
  lastSeq : Nat := 0
  remImp : Nat := 0
  remExp : Nat := 0
  prepay : Nat := 0
  reqOut : Bool := false
  expect : Nat := 0
  misCount : Nat := 0
  credit : Int := 0
  gap0 : Nat × Nat := (0, 0)
  gap1 : Nat × Nat := (0, 0)
  wrapped : Bool := false
  mismatch : Bool := false
  gapLost : Bool := false
  nonMonoRun : Nat := 0
  topupId : Nat := 0
deriving DecidableEq, Repr

/-- A decoded yelm on its way to the record engine, with what its carrying frames say of it (R223, R226): the medium, cell and
source (short address, or EUI-64 on a radio cell), whether a fragment lost symbols at a barrier or held invalid samples. -/
structure YelmIn where
  payload : Octets
  radio : Bool
  cell : Nat
  source : Nat
  late : Bool
  clip : Bool
  packet : Nat
deriving DecidableEq, Repr

/-- A switch point of a day profile (Table 7.10). -/
structure SwitchPoint where
  minute : Nat
  tariff : Nat
  friendly : Bool
deriving DecidableEq, Repr

/-- A calendar version (Table 7.10). Only used entries are listed. -/
structure CalVersion where
  versionId : Nat := 0
  weekday0 : Nat := 0
  lowThr : Nat := 0
  emerg : Nat := 0
  recon : Nat := 0
  seasons : List (Nat × Nat) := []
  weeks : List (List Nat) := []
  days : List (List SwitchPoint) := []
  special : List (Nat × Nat) := []
  offsets : List (Nat × Int) := []
  prices : List Nat := []
deriving DecidableEq, Repr

/-- A calendar (Table 7.9): version B with its ACTIVATE_S, where it has one. -/
structure Calendar where
  cal : Nat
  a : CalVersion
  b : Option (Nat × CalVersion)
deriving DecidableEq, Repr

/-- A run of meter indexes (Table 7.9). -/
structure MeterRun where
  first : Nat
  count : Nat
  cal : Nat
  prepay : Bool
deriving DecidableEq, Repr

/-- A tariff table (R233). -/
structure TariffTable where
  /-- EPOCH of the image. -/
  epoch : Nat := 0
  cals : List Calendar := []
  runs : List MeterRun := []
deriving DecidableEq, Repr

/-- A top-up (R243). -/
structure TopUp where
  cmd : Cmd
  index : Nat
  amount : Int
  topupId : Nat
deriving DecidableEq, Repr

/-- The record engine (chapter 7). -/
structure RecState where
  /-- Yelms waiting in arrival order. -/
  queue : List YelmIn := []
  /-- The yelm in progress, its meter and the tiles validated so far. -/
  current : Option (YelmIn × Nat) := none
  done : Nat := 0
  /-- It was carried over a barrier once (R82). -/
  carried : Bool := false
  /-- The tariff table that bills the yelm in progress (R236). -/
  billing : Option TariffTable := none
  tariff : TariffTable := {}
  /-- Top-ups that wait behind the yelm in progress (R243). -/
  topups : List TopUp := []
  /-- Disconnect (1) and reconnect (2) requests for the safety function: meter, action (R244). -/
  requests : List (Nat × Nat) := []
  /-- Delivery results of requests on their way back: meter, action, code (R244). -/
  results : List (Nat × Nat × Nat) := []
  /-- 1 + the second of the last REC_AUTH_FAIL, REC_REPLAY and REC_NO_TARIFF. -/
  authSecond : Nat := 0
  replaySecond : Nat := 0
  noTariffSecond : Nat := 0
  /-- Calendars whose version B was in force at the last course. -/
  activated : List Nat := []
deriving DecidableEq, Repr

/-- A meter table slot (Table 6.2). The default is a free slot. -/
structure Slot where
  key : Nat := 0
  index : Nat := 0
  valid : Bool := false
  m0 : Bool := false
  m1 : Bool := false
  hit : Bool := false
  stale : Bool := false
  aged : Bool := false
  pinned : Bool := false
  touched : Bool := false
  stamp : Nat := 0
deriving DecidableEq, Repr

/-- The slots of the table, a free slot where none is listed. -/
abbrev Slots := FMap Slot

/-- A mismatch that waits for its second reading (R213): its slot, the instant of that reading in ns, and whether the slot
was written in between. -/
structure Mismatch where
  slot : Nat
  due : Nat
  written : Bool
deriving DecidableEq, Repr

/-- The meter table engine (chapter 6). -/
structure MtbState where
  slots : Slots := []
  /-- Slots with an uncorrectable error (R195). -/
  bad : List Nat := []
  /-- The table after the last post-commit pass, to which a replace image returns (R200). -/
  base : Slots := []
  /-- A replace image is staged for E + 1 (R200). -/
  replaced : Bool := false
  /-- The post-commit pass runs (R203). -/
  passing : Bool := false
  /-- The stash has reached STASH_WARN and not fallen below it since (R202). -/
  stashHigh : Bool := false
  /-- A comb pass that was due while the previous one ran (R206). -/
  combOwed : Bool := false
  /-- Shedding pauses the comb and the scrubber (R210, R292). -/
  shedPause : Bool := false
  mismatches : List Mismatch := []
  /-- The function that wrote the shadow's address (R211). -/
  shadowFunc : Nat := 0
deriving DecidableEq, Repr

/-- The valley area of a per-meter state record (Table 8.3). `revFirst`, `neutFirst` and `zeroFirst` are the first seconds of the
runs (FIRST_S of R265): a MISSING tile leaves a run unchanged, so they do not follow from its length. Table 8.3 gives them no
octets, and they are held beside the record. -/
structure ValArea where
  lastS : Nat := 0
  lastP : Int := 0
  revRun : Nat := 0
  neutRun : Nat := 0
  zeroRun : Nat := 0
  revOn : Bool := false
  neutOn : Bool := false
  zeroOn : Bool := false
  pValid : Bool := false
  tamper : Nat := 0
  steps : Nat := 0
  revFirst : Nat := 0
  neutFirst : Nat := 0
  zeroFirst : Nat := 0
deriving DecidableEq, Repr

/-- A per-meter state record (Table 6.3). -/
structure MeterRec where
  key : Nat := 0
  initEpoch : Nat := 0
  plc : PlcArea := {}
  rad : RadArea := {}
  bill : RecArea := {}
  val : ValArea := {}
  host : Octets := []
deriving DecidableEq, Repr

/-- A node of the valley tree (Table 8.1). -/
structure ValNode where
  parent : Nat
  source : Nat
  sigEn : Bool
  alarmEn : Bool
  eave : Nat
  floor : Nat
  vScale : Nat
  iScale : Nat
  k0 : Nat
  k1 : Nat
  k2 : Nat
  relThr : Nat
  absThr : Nat
  persist : Nat
deriving DecidableEq, Repr

/-- A meter's place in the valley tree (Table 8.1). -/
structure ValMap where
  meter : Nat
  node : Nat
  phase : Nat
  gen : Bool
  noSig : Bool
deriving DecidableEq, Repr

/-- A valley tree (R252), with its epoch. -/
structure ValTree where
  epoch : Nat := 0
  lag : Nat := 0
  nodes : List ValNode := []
  maps : List ValMap := []
deriving DecidableEq, Repr

/-- Three phase values. -/
structure Three where
  a : Int := 0
  b : Int := 0
  c : Int := 0
deriving DecidableEq, Repr

/-- A slot of the balance ring (R255), with its step records (meter, ΔP). -/
structure BalanceSlot where
  energy : Three := {}
  cover : Nat := 0
  nodata : Nat := 0
  steps : List (Nat × Int) := []
  stepOvf : Bool := false
deriving DecidableEq, Repr

/-- What a node keeps (R262, R268). `resid` is r of the last result in mJ; `okBefore` tells that the last result was measured
and not INCOMPLETE, and `lastSecond` its second. -/
structure NodeState where
  pc : Nat := 0
  alarmed : Bool := false
  firstS : Nat := 0
  sumResid : Int := 0
  sumMeas : Int := 0
  seconds : Nat := 0
  silentMax : Nat := 0
  degradedRun : Bool := false
  incomplete : Bool := false
  degraded : Bool := false
  resid : Int := 0
  okBefore : Bool := false
  lastSecond : Nat := 0
deriving DecidableEq, Repr

/-- Eave metrology of one eave and second (R258): sets present, sums of products and squares per phase, a saturated value. -/
structure MetroSum where
  sets : Nat := 0
  vi : Three := {}
  ii : Three := {}
  saturated : Bool := false
deriving DecidableEq, Repr

/-- A measurement of a node and second: energies in J, currents in 0.1 A, MEAS_PARTIAL. -/
structure Measure where
  e : Three
  i : Three
  part : Bool
deriving DecidableEq, Repr

/-- An evaluation that has not finished (R269): its second, its tree, the nodes still to evaluate in order, the records of the
nodes done (node number, record) and of alarms, and the step signature records. -/
structure Evaluation where
  second : Nat
  tree : ValTree
  left : List Nat
  contrib : FMap (Three × Bool × Bool)
  results : List (Nat × Octets)
  alarms : List (Nat × Octets)
  sigs : List (Nat × Octets)
deriving DecidableEq, Repr

/-- A retrospective run (R272). -/
structure RetroRun where
  cmd : Cmd
  number : Nat
  fromS : Nat
  toS : Nat
  root : Nat
  sig : Bool
  ring : Nat
  func : Nat
  epoch : Nat
  tree : ValTree
deriving DecidableEq, Repr

/-- The valley engine (chapter 8). -/
structure ValState where
  tree : ValTree := {}
  /-- Trees of the last 8 epochs that committed one, newest first (R254). -/
  held : List ValTree := []
  /-- Balance ring: slot of node n and second s at index 256 n + s mod 256 (R255). -/
  ring : FMap BalanceSlot := []
  nodes : FMap NodeState := []
  /-- Eave metrology: eave e and second s at index 8192 s + e. -/
  metro : FMap MetroSum := []
  /-- Station metrology by second (R259). -/
  station : FMap (Option Measure) := []
  /-- The last second evaluated or skipped at a valley point. -/
  lastPoint : Nat := 0
  /-- Seconds up to this one are evaluated with TREE_CHANGE (R270); 0 for none. -/
  changeUntil : Nat := 0
  running : Option Evaluation := none
  retro : Option RetroRun := none
  retroNumber : Nat := 0
deriving DecidableEq, Repr

/-- A down message of the control channel (R102, R103): type, sequence number, its 32 octets. -/
structure DownMsg where
  type : Nat
  seq : Nat
  octets : Octets
deriving DecidableEq, Repr

/-- A slot map sent and not yet applied (R108): its tag, APPLY_SF, whether EAV_MAP_LATE was raised for it, and whether the eave has
shown that it holds the map. -/
structure PendingMap where
  tag : Nat
  applySf : Nat
  late : Bool
  acked : Bool := false
deriving DecidableEq, Repr

/-- What the WG20 keeps for a position of a lane (R103 to R108). `eave` is the eave index found there; `delay` is the delay last
measured, `sent` the delay last sent, `atMapping` the delay at mapping. -/
structure EavPort where
  eave : Option Nat := none
  down : List DownMsg := []
  nextSeq : Nat := 0
  /-- The message whose fragments are being sent. -/
  sending : Octets := []
  ranged : Bool := false
  delay : Nat := 0
  sent : Nat := 0
  atMapping : Nat := 0
  heldTag : Nat := 0
  pendingTag : Nat := 0
  map : Option PendingMap := none
  alarms : Nat := 0
  pwrFail : Bool := false
  /-- An eave that no record of the plan describes has said HELLO here (R105). -/
  mismatch : Bool := false
  /-- The eave here accepts the other unit while this unit sets MARK 1 (R110). -/
  conflict : Bool := false
  /-- METRO pieces of the group in arrival: (element of the group, 6 octets), and the group's number (R101). -/
  metroGroup : Nat := 0
  metro : List (Nat × Octets) := []
deriving DecidableEq, Repr

/-- A set of eave metrology delivered by the fronthaul (R101): the eave, its second, v1 to v3 and i1 to i3. -/
structure MetroSet where
  eave : Nat
  second : Nat
  v : Three
  i : Three
  saturated : Bool
deriving DecidableEq, Repr

/-- What the WG20 keeps for a lane: consecutive valid intervals, the last interval, 1 + the second of the last EAV_LATE. -/
structure EavLane where
  run : Nat := 0
  last : Nat := 0
  lateSecond : Nat := 0
  /-- 1 + the instant of the partner's last sub-frame here, and 1 + the course of its last one with MARK 1 (R464). -/
  partnerNs : Nat := 0
  partnerMark : Nat := 0
  /-- Positions whose element was invalid in this batten (R456). -/
  invalid : Nat := 0
  /-- A valid header has arrived since the batten began (IN_SYNC of R115). -/
  seen : Bool := false
  /-- Captures before this instant, ns, were consumed under the plan before the last commit (R113). -/
  consumedTo : Nat := 0
  /-- Play intervals before this instant, ns, were filled under the plan before a commit that lowered D_TX (R113). -/
  txOffTo : Nat := 0
deriving DecidableEq, Repr

/-- What an uplink element carried of one stream (R95, R98, R100): the capture interval, its invalid blocks as a mask, and its
samples, none where the element failed. -/
structure Capture where
  interval : Nat
  bad : Nat
  samples : List Int
deriving DecidableEq, Repr

/-- Fronthaul (chapter 3): positions at index 32 × lane + position. -/
structure EavState where
  ports : FMap EavPort := []
  lanes : FMap EavLane := []
  /-- Metrology sets that wait for an EAVE_METRO item, by cluster. -/
  sets : List MetroSet := []
  hdrSecond : Nat := 0
  /-- Sample buffers: the last 160 intervals of each stream, newest first, at index 5 × eave + stream (R63, R98). -/
  captures : FMap (List Capture) := []
  /-- Clusters whose EAVE_CTRL item was late in the last batten (Table 2.16). -/
  ctrlLate : List Nat := []
deriving DecidableEq, Repr

/-- A packet held by the switch core (R278, R283 to R287). `queue` is an output queue (8 × port + class) or a cell queue
(1,000 + 2 × cell, plus 1 for normal priority); `reserve`, `pool` and `dram` count its cells by place; `waiting` counts its
cells in DRAM that have not been read back. -/
structure Packet where
  id : Nat
  cls : Nat
  queue : Nat
  bytes : Nat
  firstSeq : Nat
  reserve : Nat
  pool : Nat
  dram : Nat
  waiting : Nat
deriving DecidableEq, Repr

/-- A multicast packet (R290, R291): its packet number, the push command with its kind and payload, the reference count
(targets less 1), and per target cell the copies left and whether every copy so far ended SENT; `sent` counts the cells whose
every copy ended SENT. -/
structure Mcast where
  id : Nat
  cmd : Cmd
  kind : Nat
  payload : Octets
  refs : Nat
  targets : List (Nat × Nat × Bool)
  sent : Nat
deriving DecidableEq, Repr

/-- The switch core (chapter 9). -/
structure SwcState where
  packets : List Packet := []
  nextId : Nat := 1
  /-- The next 16-bit sequence number of each queue (R287). -/
  seqs : FMap Nat := []
  /-- Packets that a Hold producer waits with, oldest first (R285): queue, class, octets. -/
  holding : List (Nat × Nat × Nat) := []
  mcasts : List Mcast := []
  /-- Per port: how far past QC2 the round robin of the read arbiter stands (R281). -/
  turn : FMap Nat := []
  /-- Per class: 1 + the second of the last SWC_CLASS_DROP. -/
  dropSecond : FMap Nat := []
  skipSecond : Nat := 0
  /-- A smaller region size waits until the occupancy falls to it (R289). -/
  shrinkTo : Option Nat := none
  /-- The instant since which the margin for a step down has held (R293). -/
  fallSince : Option Nat := none
  protectedShort : Bool := false
  ovfHigh : Bool := false
  /-- Uplink MAC payloads handed to the record engine's port and not yet taken (Table 1.4, stage 5). -/
  toRecord : List YelmIn := []
deriving DecidableEq, Repr

/-- A record in tile staging (R246, R295): the instant in ns at which it was staged, its second, its octets, whether a flush point has released
it (R59), and the band and page that hold it once the archive has placed it (R317). -/
structure Staged where
  at' : Nat
  second : Nat
  octets : Octets
  released : Bool
  place : Option (Nat × Nat)
deriving DecidableEq, Repr

/-- What a hub declares about itself (Table 10.3). -/
structure Geometry where
  channels : Nat
  dies : Nat
  pageKib : Nat
  modes : Nat
  blocks : Nat
  pages : List Nat
  tProg : Nat
  tErase : Nat
  fw : Nat
deriving DecidableEq, Repr

/-- What a die operation is for: a page of a band, an erase of a member of a band, a page of a superblock for a scan, a page for a
host read, the bad-block map or the erase of a block at a format. -/
inductive Purpose where
  | page (band page : Nat)
  | erase (band member : Nat)
  | scan (scan super page : Nat)
  | host (read : Nat)
  | badMap
  | format
deriving DecidableEq, Repr

/-- A die operation (Tables 10.2 and 10.4): 1 READ, 2 PROGRAM, 3 ERASE, 4 BAD_MAP. -/
structure DieOp where
  tag : Nat
  op : Nat
  channel : Nat
  die : Nat
  block : Nat
  page : Nat
  data : Octets
  purpose : Purpose
deriving DecidableEq, Repr

/-- A sequenced frame kept until it is acknowledged (R306). -/
structure SlateFrame where
  seq : Nat
  type : Nat
  payload : Octets
  resends : Nat
deriving DecidableEq, Repr

/-- A hub position (R306 to R310): STATE of Table 10.6, its link, credits and commands. `seenId` and `geom` are what it last
reported. -/
structure Hub where
  state : Nat := 0
  epoch : Nat := 0
  hello : Bool := false
  seenId : Nat := 0
  geom : Option Geometry := none
  txSeq : Nat := 0
  rxSeq : Nat := 0
  unacked : List SlateFrame := []
  backlog : List (Nat × Octets) := []
  ackOwed : Bool := false
  cmdLimit : Nat := 0
  wbufLimit : Nat := 0
  cmdSent : Nat := 0
  wbufSent : Nat := 0
  outstanding : List DieOp := []
  waiting : List DieOp := []
  /-- A format's place on this hub: the next die, the blocks of it that are still to be erased. -/
  formatDie : Nat := 0
  formatLeft : List Nat := []
  formatting : Bool := false
deriving DecidableEq, Repr

/-- What the format records of a hub (R300). -/
structure HubFmt where
  group : Nat
  lane : Nat
  hubId : Nat
  geom : Geometry
deriving DecidableEq, Repr

/-- The format (R300 to R303, R312, R313). `hotLast` is the last band, by number, of the hot stream. -/
structure Format where
  id : Nat
  mode : Nat
  hotGib : Nat
  coldOpen : Nat
  spare : Nat
  hubs : FMap (Option HubFmt)
  hotLast : Nat
deriving DecidableEq, Repr

/-- The remap of a die (R303, R324): bad blocks, logical blocks whose block failed and takes a spare at the next erase of their
band, logical blocks moved to a spare, spares used. -/
structure Die where
  bad : List Nat := []
  failed : List Nat := []
  moved : FMap Nat := []
  used : Nat := 0
deriving DecidableEq, Repr

/-- What a band is (R303, R322): free, of the cold or the hot stream, being erased, or retired. -/
inductive BandUse where
  | free | cold | hot | erasing | retired
deriving DecidableEq, Repr

/-- A band (R303, R322 to R324). `bytes` of its data sequence are filled, of which `fill` is the part after the last whole page;
`done` are the pages that count as written; `units` the hot units it holds, in order. -/
structure Band where
  use : BandUse := .free
  isOpen : Bool := false
  verifying : Bool := false
  bytes : Nat := 0
  fill : Octets := []
  done : List Nat := []
  units : List Nat := []
  /-- Members whose erase is still to complete. -/
  erases : List Nat := []
deriving DecidableEq, Repr

/-- A run of a superblock (Table 10.8): its group, first slot, and records. -/
structure Run where
  group : Nat
  first : Nat
  records : List Octets
deriving DecidableEq, Repr

/-- A superblock with its index entry (Tables 10.8 and 10.9). `seq` is 0 while it is open. `start` is its first 64 KiB unit, so its
band and start name it. -/
structure Superblock where
  seq : Nat
  band : Nat
  start : Nat
  length : Nat
  slots : Nat
  runs : List Run
  cause : Nat
  closeS : Nat
  rewritten : Bool
deriving DecidableEq, Repr

/-- A scan in progress (R330, R331). `left` names the superblocks it has still to read, in the index order of its acceptance, by
2^16 × band + start; `page` is the next page to look at in the first of them. -/
structure Scan where
  cmd : Cmd
  fromS : Nat
  toS : Nat
  first : Nat
  last : Nat
  mask : Nat
  valley : Bool
  ring : Nat
  left : List Nat := []
  page : Nat := 0
  reading : Bool := false
  batch : List Octets := []
  delivered : Nat := 0
  dropped : Nat := 0
  unreadable : Nat := 0
deriving DecidableEq, Repr

/-- A command that completes OK once units of the hot region are written (R321, R406): its opcode, its command, the units not yet
written, its RESULT and the event that follows its completion. -/
structure HostWrite where
  op : Nat
  cmd : Cmd
  left : List Nat
  result : Octets := []
  event : Option (Nat × Nat) := none
deriving DecidableEq, Repr

/-- An ARCHIVE_HOST_READ in progress (R332): its command, the number that its die operations carry, how many of them have not
ended, and the octets it returns. -/
structure HostRead where
  cmd : Cmd
  number : Nat
  left : Nat
  data : Octets
deriving DecidableEq, Repr

/-- An ARCHIVE_FORMAT in progress (R312). `started` when the erases run. -/
structure FormatJob where
  cmd : Cmd
  mode : Nat
  hotGib : Nat
  coldOpen : Nat
  spare : Nat
  hubs : FMap (Option HubFmt)
  started : Bool
deriving DecidableEq, Repr

/-- The stored plan, its epoch and tables, and the MTB seeds (STORE of Table 10.10, R321): `tables` keeps the images that the
plan's TABLE_REFS name, the other fields the content of every kind that its epoch runs with. -/
structure StoredPlan where
  image : Octets
  plan : Plan
  epoch : Nat
  tables : FMap (Option StagedTable)
  slots : Slots
  routes : FMap (List RouteEntry)
  tones : FMap (Option ToneDefault)
  tariff : TariffTable
  tree : ValTree
  seed0 : Nat
  seed1 : Nat
deriving DecidableEq, Repr

/-- The settings record (R507): SETTINGS_FMT, the register words, the addresses overridden. -/
structure Settings where
  fmt : Nat
  words : FMap Word
  overrides : List Nat
deriving DecidableEq, Repr

/-- The archive (chapter 10). -/
structure ArcState where
  staging : List Staged := []
  format : Option Format := none
  job : Option FormatJob := none
  hubs : FMap Hub := []
  dies : FMap Die := []
  bands : FMap Band := []
  /-- Superblocks, open ones among them; their sequence numbers give the index order. -/
  supers : List Superblock := []
  /-- Per cold slot: 1 + the open band, 0 for none. -/
  slots : FMap Nat := []
  /-- Open hot bands: 1 + band for writes, for collection, for the archive's own meta data (R322). -/
  hotOpen : Nat := 0
  gcOpen : Nat := 0
  metaOpen : Nat := 0
  nextSb : Nat := 1
  /-- Hot map: 1 + 2^16 × band + place of a unit, 0 for never written (R320). -/
  hotMap : FMap Nat := []
  hostUnits : FMap Octets := []
  hostWrites : List HostWrite := []
  /-- Units of the hot region that are still to be placed in a band. -/
  hotOwed : List Nat := []
  hostReads : List HostRead := []
  readNumber : Nat := 0
  scans : FMap (Option Scan) := []
  /-- 1 + the second in which ARC_READ_UNCORR was last raised. -/
  uncorrRaised : Nat := 0
  /-- ARC_FCS_ERR_COUNT advanced in this second. -/
  fcsErr : Bool := false
  /-- A power-safe stop runs: hubs that have not answered (R328). -/
  stopping : Option (List Nat) := none
  /-- The stop marker in DRAM is valid. -/
  marker : Bool := false
  expiredDay : Nat := 0
  anchorSeq : Nat := 0
  /-- The last complete per-meter checkpoint, and the CKPT copy that holds it. -/
  ckpt : FMap MeterRec := []
  ckptCopy : Nat := 0
  /-- Billing snapshots by day, newest first (SNAP). -/
  snaps : List (Nat × FMap MeterRec) := []
  stored : Option StoredPlan := none
  settings : Option Settings := none
  /-- A setting has changed since the settings record was written (R507). -/
  settingsDirty : Bool := false
  journal : List Octets := []
  /-- Per cell: the last recorded frame-counter reservation (R142). -/
  rsv : FMap Nat := []
  lastSecond : Nat := 0
  /-- Day of the last flush point. -/
  flushDay : Nat := 0
  /-- The valley trees in region VALLEY, newest first, and how many were written (R254). -/
  trees : List ValTree := []
  treesWritten : Nat := 0
  /-- Event runs, journal records and reservations already written to the hot stream. -/
  runsNoted : Nat := 0
  journalNoted : Nat := 0
  rsvNoted : FMap Nat := []
deriving DecidableEq, Repr

/-- A reference candidate (Table 12.2). -/
structure Cand where
  qualified : Bool := false
  disqualified : Bool := false
  heldOff : Bool := false
  /-- TIME_SET ACCEPT covers the candidate. -/
  accepted : Bool := false
  /-- Consecutive offsets (PTP) or seconds (PPS_IN) within STEP_LIMIT. -/
  good : Nat := 0
  /-- The second since which it has stayed qualified. -/
  since : Nat := 0
  warnRun : Nat := 0
  dqRun : Nat := 0
  /-- Consecutive windows within WARN_PPB while disqualified (R382). -/
  calm : Nat := 0
  /-- PPS_IN: the whole second nearest to the latest edge. -/
  edge : Option Int := none
deriving DecidableEq, Repr

/-- What the time engine keeps for an Ethernet port (R374 to R378). Times are in 2^-16 ns. -/
structure PtpPort where
  announce : Option PtpAnnounce := none
  delay : Int := 0
  seq : Nat := 0
  /-- The sequenceId of the Pdelay_Req sent and not yet answered. -/
  reqOpen : Option Nat := none
  /-- The two-step Pdelay_Resp that awaits its follow-up: sequenceId, t1, t2, t4, correction. -/
  respOpen : Option (Nat × Int × Int × Int × Int) := none
  /-- The two-step Sync that awaits its Follow_Up: sequenceId, t2, correction. -/
  syncOpen : Option (Nat × Int × Int) := none
  /-- Transmit-timestamp queue, oldest first: sequenceId and egress timestamp. -/
  txq : List (Nat × Int) := []
  /-- Pdelay_Resp messages sent whose t3 is still awaited: sequenceId and requester. -/
  owed : List (Nat × Nat) := []
deriving DecidableEq, Repr

/-- The time engine (chapter 12). -/
structure TimState where
  /-- The time scale: whole ns since the time epoch, and the fraction in 2^-16 ns (R364). -/
  now : Nat := 0
  frac : Nat := 0
  /-- Courses are held (R368). -/
  held : Bool := true
  /-- During the hold: a reference is still waited for. -/
  waiting : Bool := true
  cands : FMap Cand := []
  /-- A TIME_REF in force: 0 none, 1 to 3 the forced candidate, 4 HOLD (R386). -/
  force : Nat := 0
  everSelected : Bool := false
  /-- The servo's integrator and output, 2^-12 ppb (R381). -/
  integ : Int := 0
  fServo : Int := 0
  lastTheta : Option Int := none
  discards : Nat := 0
  lockIn : Nat := 0
  lockOut : Nat := 0
  /-- TIME_SET SLEW: ns still to move (R385). -/
  slew : Int := 0
  /-- The smear: ns still to absorb and ns absorbed; positive moves the time scale forward (R366). -/
  smearLeft : Int := 0
  smearDone : Int := 0
  /-- The rate history, newest first, 2^-8 ppb (R382). -/
  history : List Int := []
  ports : FMap PtpPort := []
  /-- The port that is in SLAVE, if any (R375). -/
  master : Option Nat := none
deriving DecidableEq, Repr

/-- A key slot (R390). The default is EMPTY. -/
structure KeySlot where
  loaded : Bool := false
  attr : Nat := 0
  key : Octets := []
  origin : Nat := 0
  kcv : Octets := []
  loadCourse : Nat := 0
deriving DecidableEq, Repr

/-- An entry of the plan verification list (R404). The default is EMPTY. -/
structure VKey where
  keyId : Nat := 0
  x : Nat := 0
  y : Nat := 0
deriving DecidableEq, Repr

/-- The key image in the STORE region (R406). -/
structure KeyImage where
  slots : FMap KeySlot := []
  bindings : FMap Nat := []
  vlist : FMap VKey := []
  lc : Nat := 0
  digestOk : Bool := true
deriving DecidableEq, Repr

/-- The key engine (chapter 13). `bindings` maps a purpose code to its slot plus 1, 0 when unbound. -/
structure KeyState where
  slots : FMap KeySlot := []
  bindings : FMap Nat := []
  vlist : FMap VKey := []
  /-- The slots and bindings in force at the start of the course (R398). -/
  courseSlots : FMap KeySlot := []
  courseBindings : FMap Nat := []
  /-- The stored key image, none before the first one is written. -/
  stored : Option KeyImage := none
  /-- The life-cycle root in force (Table 13.4). -/
  lcRoot : Octets := []
  /-- The boot measurement M (R399). -/
  measure : Octets := []
  /-- Consecutive samples that passed both health tests in STARTUP or RESTART. -/
  passing : Nat := 0
  failedStarts : Nat := 0
  /-- Repetition count test: last sample and its run. -/
  rctLast : Nat := 256
  rctRun : Nat := 0
  /-- Adaptive proportion test: the window's first sample, matches so far, samples so far. -/
  aptFirst : Nat := 0
  aptMatches : Nat := 0
  aptSeen : Nat := 0
  /-- Generate requests since the DRBG was instantiated or reseeded (R409). -/
  requests : Nat := 0
  reseedWaiting : Bool := false
  /-- Unread raw noise samples (KEY_NOISE_RAW), oldest first. -/
  noise : Octets := []
  /-- Derivations since the last whole thousand (KEY_DERIVE_COUNT). -/
  derivations : Nat := 0
  /-- Per purpose: 1 + the second in which KEY_ROOT_MISSING was last raised, 0 for never (R403). -/
  rootMissing : FMap Nat := []
deriving DecidableEq, Repr

/-- A safety channel's published view (R415, R421): it grants only in RUN, and not on lanes whose mask meets its demand. -/
structure SafView where
  run : Bool := false
  demand : Nat := 0
deriving DecidableEq, Repr

/-- A disconnect or reconnect telegram held by the safety function (R426, R431). `issued` and `deadline` count 0.5 ms from
the time epoch; `host` is the command that asked for it, none for the record engine. -/
structure Telegram where
  id : Nat
  meter : Nat
  action : Nat
  seq : Nat
  issued : Nat
  deadline : Nat
  lane : Nat
  host : Option Cmd
deriving DecidableEq, Repr

/-- The safety function (chapter 14). Inputs are 0 to 15 ISO and 16 ESI; channel 0 is A, channel 1 is B. -/
structure SafState where
  /-- Consecutive open samples of input k, channel ch, at index 2 k + ch (R419). -/
  openRun : FMap Nat := []
  /-- Consecutive samples with both channels of input k closed. -/
  closedRun : FMap Nat := []
  /-- Inputs in demand, bit k; bit 16 is ESI. -/
  demand : Nat := 0
  sealRun : Nat := 0
  sealDisc : Bool := false
  core : SafView := {}
  spar : SafView := {}
  /-- Consecutive comparisons at which the channels differed (fault 02h). -/
  crossRun : Nat := 0
  /-- The self-tests after release have not yet completed (R418). -/
  testing : Bool := true
  /-- A fault code that the last self-test still detects, 00h none. -/
  persist : Nat := 0
  start : Bool := false
  /-- A generation has been programmed since the last reset (CONFIG). -/
  programmed : Bool := false
  /-- The instant at which arming lapses, 0 when not armed (R434). -/
  armUntil : Nat := 0
  /-- SAFE_RESET commands accepted and not yet in effect, and whether the function was armed then (R434). -/
  accepted : List (Cmd × Bool) := []
  /-- Grant samples, bit l for lane l: logged at the start of this course, and in force in this course (R422, R423). -/
  sampled : Nat := 0
  inForce : Nat := 0
  /-- The logged grant that governs this course, before the AND with this unit's own sample (R423, Table 15.1). -/
  logged : Nat := 0
  /-- SWITCH_REQ commands that the next boundary checks (R431): meter, action, command. -/
  requests : List (Nat × Nat × Cmd) := []
  /-- The active unit's logged sample, for the standby unit and in a pair (R423). -/
  partnerSample : Nat := 0
  telegrams : List Telegram := []
  nextId : Nat := 0
  /-- Telegram egress is blanked, up to a boundary outside LOCKOUT (R432, Table 14.2). -/
  blanked : Bool := false
  /-- The safety sequence table (R428). -/
  seqTable : FMap Nat := []
deriving DecidableEq, Repr

/-- A bulk frame kept until it is acknowledged (R449). -/
structure RidgeFrame where
  seq : Nat
  kind : Nat
  object : Nat
  offset : Nat
  total : Nat
  octets : Octets
  resends : Nat
deriving DecidableEq, Repr

/-- This unit's exchange of a course: its digest and class digests (R451, R453). -/
structure OwnCourse where
  course : Nat
  digest : Octets
  classes : List Octets
  /-- Its departure, ns. -/
  departed : Nat
  /-- The digests over the cold index, in the first course of a day (R473). -/
  index : Option (Octets × Octets) := none
deriving DecidableEq, Repr

/-- A join in progress (R472): its start, whether the blocks are sent, and the course J once named. -/
structure JoinRun where
  since : Nat
  sent : Bool
  joinAt : Option Nat
  blocks : List Octets
deriving DecidableEq, Repr

/-- The ridge (chapter 15). -/
structure RdgState where
  /-- Start-up (R466 to R469): 0 waiting for a partner, 1 courses with MARK 0, 2 over. -/
  phase : Nat := 0
  /-- The course with which the courses of MARK 0 began. -/
  probeFrom : Nat := 0
  /-- The link epoch, and whether HELLO was sent and received in it (R447, R448). -/
  epoch : Nat := 0
  helloSent : Bool := false
  helloSeen : Bool := false
  /-- The partner was refused (R443, R466). -/
  refused : Bool := false
  partner : Option RidgeHello := none
  /-- Start-up election (R468): the wait drawn, CLAIM sent. -/
  backoff : Option Nat := none
  claimSent : Bool := false
  joinRequested : Bool := false
  /-- Consecutive courses without a valid real-time frame, and whether one came in this course. -/
  silent : Nat := 0
  heard : Bool := false
  /-- Delivery of bulk frames (R449, R306). -/
  txSeq : Nat := 0
  rxSeq : Nat := 0
  unacked : List RidgeFrame := []
  backlog : List RidgeFrame := []
  ackOwed : Bool := false
  nextObject : Nat := 0
  /-- Objects being received: kind, number, octets so far. -/
  inbound : List (Nat × Nat × Octets) := []
  /-- Command data held by the standby unit: its octets and the instant of its arrival (R457). -/
  objects : FMap (Octets × Nat) := []
  /-- Per class: the items put out since the last ridge copy point (R451). -/
  outputs : FMap Octets := []
  /-- Items of the input log that the last CX carried. -/
  copied : Nat := 0
  /-- Own and partner's exchanges of the last courses, newest first. -/
  own : List OwnCourse := []
  received : List (RidgeCx × Nat) := []
  /-- 1 + the last course compared, or given up (R455). -/
  compared : Nat := 0
  /-- Offsets of the present second, ns (R450). -/
  offsets : List Int := []
  /-- First course of the mismatch run and its classes. -/
  runFrom : Nat := 0
  runClasses : Nat := 0
  /-- The course under arbitration, and this unit's verdict (R462). -/
  arbitration : Option Nat := none
  verdict : Nat := 0
  /-- A change of state, with its HOLD cause, that waits for the boundary. -/
  next : Option (Nat × Nat) := none
  /-- The course at whose end a logged switchover takes place (R446). -/
  switchover : Option Nat := none
  join : Option JoinRun := none
  /-- Partner's erasure maps by capture batten (R456), newest first. -/
  erasures : List (Nat × List Nat) := []
  eraseSecond : Nat := 0
  /-- Events raised in this course by the active unit (R460). -/
  raised : List (Nat × Octets) := []
  /-- Superblocks closed so far when SYNCED last rose or fell. -/
  unsyncedFrom : Nat := 0
  /-- A command of the partner's log is being applied: its completion is not posted here (R463). -/
  applying : Bool := false
  /-- From the partner: its time state and smear (R450, R452). -/
  partnerTime : Nat := 0
  partnerSmear : Int := 0
deriving DecidableEq, Repr


/-- What station metrology has summed over the conversions of one second (R485). `flags` gathers the sample flags of channels 0
to 5; `squares` holds the sums of squares of the currents I1, I2, I3, IN and then of the voltages V1, V2, V3. -/
structure MetSum where
  second : Nat
  count : Nat := 0
  energy : Three := {}
  squares : List Nat := [0, 0, 0, 0, 0, 0, 0]
  flags : Nat := 0
  calChange : Bool := false
deriving DecidableEq, Repr

/-- Station metrology (R477 to R488). -/
structure MetState where
  /-- The calibration generation in force: its slot and octets (R483). -/
  gen : Option (Nat × Octets) := none
  /-- A generation has been written and comes into force at the next whole second (R484). -/
  due : Bool := false
  /-- Output samples that each channel still settles for (R481). -/
  settle : List Nat := [12, 12, 12, 12, 12, 12, 12, 12]
  /-- Channels with OVR at the last conversion, bit c. -/
  lastOvr : Nat := 0
  /-- 1 + the second in which MET_OVR was last raised; 1 + the second in which MET_INVALID was. -/
  ovrRaised : Nat := 0
  invalidRaised : Nat := 0
  /-- Sums of the seconds whose record is not yet formed. -/
  sums : List MetSum := []
  /-- CAL_WRITE commands that found the seal closed at their acceptance (R484). -/
  sealedAt : List Cmd := []
  /-- The last station second record (Table 16.6). -/
  last : Octets := []
deriving DecidableEq, Repr

/-- A record of the tamper log (R492). -/
structure TamperRec where
  seq : Nat
  kind : Nat
  arg : Nat
  state : Nat
deriving DecidableEq, Repr

/-- The soffit domain (R490 to R492). TMP_CFG, TMP_SOFFIT_STATE and TMP_LOG_HEAD are in its registers. -/
structure TmpState where
  /-- The log, newest first. -/
  log : List TamperRec := []
  mainPower : Bool := true
  /-- Consecutive samples of each input that differ from its state. -/
  runs : List Nat := [0, 0, 0, 0]
  /-- The seal as last recorded: open. -/
  sealOpen : Bool := false
deriving DecidableEq, Repr

/-- A generation slot of an OTP block (R509): 0 BLANK, 1 USED, 2 VALID, 3 USED with its marker over a wrong
CRC. -/
structure OtpSlot where
  state : Nat := 0
  octets : Octets := []
deriving DecidableEq, Repr

/-- A programming in progress (R509, R512): the block code of OTP_PROG_STATUS, the slot or word, the octets that it writes, and
the command that waits with its opcode. -/
structure Programming where
  block : Nat
  slot : Nat
  octets : Octets
  cmd : Option (Nat × Cmd)
deriving DecidableEq, Repr

/-- A firmware image in a slot of the NOR (R499): what its header gives, and its decrypted components in type order. -/
structure Image where
  release : Nat
  buildTime : Nat
  minStepping : Nat
  settingsFmt : Nat
  components : List Octets
deriving DecidableEq, Repr

/-- A slot of the NOR (R498, R501): STATE 0 EMPTY, 1 NEW, 2 CURRENT, 3 PREVIOUS, 4 FAILED. -/
structure NorSlot where
  state : Nat := 0
  tries : Nat := 0
  release : Nat := 0
  image : Option Image := none
deriving DecidableEq, Repr

/-- An image transfer by TFTP (R504): block size, next block number, octets received. -/
structure Transfer where
  blksize : Nat
  next : Nat
  octets : Octets
  /-- The image has been received whole; it came over the UART. -/
  whole : Bool := false
  uart : Bool := false
deriving DecidableEq, Repr

/-- What the service port answers, and a line of the service UART (R504). -/
inductive SvcReply where
  | tftpAck (block : Nat)
  | tftpOack (blksize : Nat)
  | tftpError (code : Nat)
  | arp (mac address : Nat)
  | echo (data : Octets)
  | line (step : Nat)
deriving DecidableEq, Repr

/-- Frames of one source on one cell since a second, for a LINK record (R516). -/
structure LinkSum where
  medium : Nat
  cell : Nat
  source : Nat
  pan : Nat
  since : Nat
  count : Nat
  sum : Int
deriving DecidableEq, Repr

/-- Boot, firmware and OTP (chapter 17). -/
structure OtpState where
  identValid : Bool := true
  serial : Nat := 0
  svcMac : Nat := 0
  fwKey : Octets := zeros 32
  fwKeys : List VKey := []
  lcWords : List Nat := [0, 0, 0, 0, 0, 0, 0, 0]
  /-- Transition words up to and with the last one whose read-back differed: they are consumed (R512). -/
  lcFailed : Nat := 0
  decomWord : Nat := 0
  rootseedValid : Bool := false
  rootseedUsed : Bool := false
  rootseed : Octets := []
  defaults : List OtpSlot := List.replicate 4 {}
  cal : List OtpSlot := List.replicate 4 {}
  safe : List OtpSlot := List.replicate 4 {}
  prog : Option Programming := none
  /-- The supply has not stayed above its warning level for 10 ms (R511). -/
  supplyLow : Bool := false
  /-- Boot control record (R498): SEQ and NEXT (0 automatic, 1 A, 2 B). -/
  bcrSeq : Nat := 0
  next : Nat := 0
  slotA : NorSlot := {}
  slotB : NorSlot := {}
  /-- BUILD_TIME of the running image. -/
  buildTime : Nat := 0
  /-- A NEW slot runs and has not reported ready (R502). -/
  unconfirmed : Bool := false
  transfer : Option Transfer := none
  /-- Survey records, newest first (R516). -/
  survey : List Octets := []
  surveyFull : Bool := false
  links : List LinkSum := []
  /-- The device is in reset: PORST_N is low, or has just risen (R497). -/
  inReset : Bool := true
  /-- The cause of the warm reset that follows the power-safe stop in progress. -/
  resetCause : Option Nat := none
deriving DecidableEq, Repr

/-- A FIFO (R534): its committed entries, oldest first, each with a mark on the last of its item; the entries of the item
being written; whether the rest of that item is discarded after a flush (R539). -/
structure Fifo where
  entries : List (Octets × Bool) := []
  partly : List Octets := []
  cut : Bool := false
deriving DecidableEq, Repr

/-- Health monitors and crossings (chapter 18). -/
structure HltState where
  /-- Per sensor: consecutive readings more than 10 °C from the median. -/
  offRun : FMap Nat := []
  /-- Consecutive readings of T_J at or above 132 °C. -/
  hotRun : Nat := 0
  /-- A thermal trip has stopped the device (R529). -/
  tripped : Bool := false
  /-- Per point: consecutive samples below its warning level, below its reset level, and above warning + 1 %. -/
  lowRun : FMap Nat := []
  resetRun : FMap Nat := []
  highRun : FMap Nat := []
  /-- Oscillators whose drift was reported since the start, bit k. -/
  drift : Nat := 0
  /-- FIFO n of block b at index 256 b + n. -/
  fifos : FMap Fifo := []
  /-- 1 + the second in which HLT_XING_ERR was last raised. -/
  xingSecond : Nat := 0
deriving DecidableEq, Repr

/-- The lanes and the DRAM interface (chapter 19). -/
structure LaneState where
  /-- Per lane: the interface that it runs, 1 KR, 2 SFI, where it is not the group's. -/
  sfi : List Nat := []
  /-- Per lane: 1 + the second of the last LANE_HI_BER. -/
  hiBer : FMap Nat := []
  /-- 1 + the second of the last DDR_ECC_CE. -/
  ceSecond : Nat := 0
  /-- Channels whose refresh interval is halved. -/
  hotChannels : List Nat := []
deriving DecidableEq, Repr


/-- Controller states of the test access port (IEEE 1149.1, R574). -/
inductive TapCtl where
  | testLogicReset | runTestIdle
  | selectDr | captureDr | shiftDr | exit1Dr | pauseDr | exit2Dr | updateDr
  | selectIr | captureIr | shiftIr | exit1Ir | pauseIr | exit2Ir | updateIr
deriving DecidableEq, Repr

/-- Instructions of the test access port (R574). -/
inductive TapInstr where
  | bypass | idcode | samplePreload | extest | extestPulse | extestTrain | highz | clamp
deriving DecidableEq, Repr

/-- The test access port (R574): controller, instruction in force, the instruction and the data register being shifted, least
significant bit first, and the latched values of the boundary cells by ball name. -/
structure TapState where
  ctl : TapCtl := .testLogicReset
  instr : TapInstr := .idcode
  ir : List Bool := []
  dr : List Bool := []
  cells : List (String × Bool) := []
deriving DecidableEq, Repr

/-- What the device puts out: ring entries and messages to hosts, frames on its media and lanes, pulses. The model keeps
them in order, newest first. -/
inductive Out where
  | ringEntry (func ring slot : Nat) (octets : Octets)
  | writeBack (func ring : Nat) (index drops : Word)
  | msix (func vector : Nat)
  | hostData (c : Cmd) (octets : Octets)
  | completed (op : Nat) (c : Cmd) (status : Status) (info : Nat) (result : Octets)
  | ppsPulse (second widthMs : Nat) (comp : Int)
  | pdelayReq (port seq : Nat)
  | pdelayResp (port seq requester : Nat) (t2 : Int)
  | pdelayFollowUp (port seq requester : Nat) (t3 : Int)
  | mirrorRepair (slot : Nat) (octets : Octets)
  | frame (cell : Nat) (f : Frame) (fc keyIndex : Nat) (nonce : Octets) (rendezvous : List Nat) (copies : Nat)
  | ack (cell dsn : Nat) (pending : Bool)
  | subframe (lane : Nat) (octets : Octets)
  | slate (hub : Nat) (octets : Octets)
  | laneIdle (lane ms : Nat)
  | readData (func addr : Nat) (value : Word)
  | readAbort (func addr : Nat)
  | ridge (realTime : Bool) (octets : Octets)
  | ridgeIdle (ms : Nat)
  | svc (r : SvcReply)
  | packet (port cls bytes : Nat)
deriving DecidableEq, Repr

/-- The machine's state. -/
structure State where
  /-- Registers that the functions share: the words that differ from their reset value (R11 to R13, R35). -/
  regs : FMap Word := []
  /-- Registers that each function has of its own, by function and address (R337). -/
  fregs : FMap Word := []
  /-- Values that a read of one half of a 64-bit quantity latched, by function and register (R16). -/
  latch : FMap Word := []
  /-- The _LO value of each function that waits for its _HI write (R17). -/
  held : FMap Word := []
  /-- Registers whose expert fields have been written since reset or PROFILE (R37, R38). -/
  overrides : List Nat := []
  /-- Accepted writes that wait for the course boundary in ALONE and HOLD (R39). -/
  cfgPend : List CfgWrite := []
  /-- Accesses that wait for a stopped clock (R19, R543). -/
  hung : List HungAccess := []
  /-- The model's own: counts the free values drawn. -/
  free : Nat := 0
  /-- The model's own: what the device has put out, newest first. -/
  out : List Out := []
  /-- The host interface (chapter 11). -/
  hst : HstState := {}
  /-- The event recorder (chapter 18). -/
  evt : EvtState := {}
  /-- Courses, plans and commits (chapter 2). -/
  crs : CrsState := {}
  /-- Power-line and radio cells, routes and tone-map defaults (chapters 4 and 5). -/
  cel : CelState := {}
  /-- The switch core (chapter 9). -/
  swc : SwcState := {}
  /-- The time engine (chapter 12). -/
  tim : TimState := {}
  /-- Keys, the verification list and the random source (chapter 13). -/
  key : KeyState := {}
  /-- The switching safety function (chapter 14). -/
  saf : SafState := {}
  /-- The meter table (chapter 6). -/
  mtb : MtbState := {}
  /-- Per-meter state records (R141, R202). -/
  meters : FMap MeterRec := []
  /-- The record engine: tiles, yelms and billing (chapter 7). -/
  bill : RecState := {}
  /-- The valley engine (chapter 8). -/
  val : ValState := {}
  /-- The archive and its slate hubs (chapter 10). -/
  arc : ArcState := {}
  /-- The ridge pair (chapter 15). -/
  rdg : RdgState := {}
  /-- Lanes and eaves of the fronthaul (chapter 3). -/
  eav : EavState := {}
  /-- Station metrology (chapter 16). -/
  met : MetState := {}
  /-- The soffit domain: seal, tamper log and retained words (chapter 16). -/
  tmp : TmpState := {}
  /-- Boot, firmware slots and OTP (chapter 17). -/
  otp : OtpState := {}
  /-- Health monitors, crossings and supplies (chapter 18). -/
  hlt : HltState := {}
  /-- Lane groups (chapters 1 and 3). -/
  lane : LaneState := {}
  /-- The JTAG test access port (R574). -/
  tap : TapState := {}
  /-- The commands that wait, first in, first out. -/
  pending : List Instr := []
deriving DecidableEq, Repr

/-- Faults. The spec gives every command an effect, so no meaning ends in one. -/
inductive Fault where
  /-- Raised by no command; safe, since no run reaches it. -/
  | none
deriving DecidableEq, Repr

/-- Refusals. -/
inductive Refusal where
  /-- An arm of the dispatch whose command has no meaning yet, by its mnemonic; safe, since such a step only stops. -/
  | notModelled (mnemonic : String)
deriving DecidableEq, Repr

/-- The machine right after reset. -/
def State.reset : State := {}

end Sys2Proof.Machine
end

