-- ==== Sys2Proof/Machine/Wire.lean ====
section
/-!
DEFINITION. Machine/Wire.lean: how a frame stands between the Clause 49 start and terminate blocks of a 10GBASE-R lane (R92, R302,
R448).
-/

namespace Sys2Proof.Machine

/-- The start block of type 78h: its block type octet and its seven data octets, of which the last names the kind of frame. -/
def startBlock (last : Byte) : Octets := [0x78#8, 0x55#8, 0x55#8, 0x55#8, 0x55#8, 0x55#8, 0x55#8, last]

/-- Block type octet of a terminate block that carries `k` data octets. PRESUMED (log entry 121): the codes of IEEE 802.3 Clause 49. -/
def terminateCode (k : Nat) : Byte := [0x87#8, 0x99#8, 0xAA#8, 0xB4#8, 0xCC#8, 0xD2#8, 0xE1#8, 0xFF#8].getD k 0x87#8

/-- A frame on the lane: start block, data blocks of eight octets, terminate block with the octets left over. -/
def wireFrame (last : Byte) (body : Octets) : Octets :=
  let whole := 8 * (body.length / 8)
  let k := body.length % 8
  startBlock last ++ body.take whole ++ [terminateCode k] ++ body.drop whole ++ zeros (7 - k)

/-- The octets between a start block and its terminate block; none where the blocks are not those of a frame of that kind. -/
def unwire (last : Byte) (w : Octets) : Option Octets :=
  let n := w.length
  let tail := w.drop (n - 8)
  if n % 8 ≠ 0 ∨ n < 16 ∨ w.take 8 ≠ startBlock last then none
  else
    ((List.range 8).find? fun k => tail.take 1 == [terminateCode k] && allZero (tail.drop (1 + k))).map fun k =>
      slice w 8 (n - 16) ++ slice tail 1 k

end Sys2Proof.Machine
end

