-- ==== Sys2Proof/Machine/Ops.lean ====
section
/-!
DEFINITION. Machine/Ops.lean: the named operations every family shares: register fields, counters, the event recorder and
its routing (R361, R520 to R524), rings the WG20 produces (R340, R360), completions (R343, R348), free values, instants.
-/

namespace Sys2Proof.Machine

/-! ### Registers (R11 to R17, R35) -/

/-- The word held for a shared register, its reset value while nothing was written. -/
def State.word (s : State) (a : Nat) : Word := FMap.get (BitVec.ofNat 32 (resetWord a)) s.regs a

/-- Holds word `v` for a shared register. -/
def State.setWord (s : State) (a : Nat) (v : Word) : State :=
  { s with regs := FMap.set (BitVec.ofNat 32 (resetWord a)) s.regs a v }

/-- A field's value. -/
def State.get (s : State) (f : Fld) : Nat := bitsOf f.hi f.lo (s.word f.addr).toNat

/-- A one-bit field as a truth value. -/
def State.flag (s : State) (f : Fld) : Bool := s.get f != 0

/-- Writes a field and leaves the register's other bits. -/
def State.put (s : State) (f : Fld) (v : Nat) : State :=
  s.setWord f.addr (BitVec.ofNat 32 (putBits f.hi f.lo (s.word f.addr).toNat v))

/-- Writes a one-bit field. -/
def State.putFlag (s : State) (f : Fld) (b : Bool) : State := s.put f (b2n b)

/-- A field as two's complement (R5). -/
def State.getSigned (s : State) (f : Fld) : Int := signed (f.hi + 1 - f.lo) (s.get f)

/-- A 64-bit quantity held in the _LO register at `a` and the _HI register after it (R16). -/
def State.get64 (s : State) (a : Nat) : Nat := (s.word a).toNat + 2 ^ 32 * (s.word (a + 4)).toNat

/-- Holds a 64-bit quantity in the _LO register at `a` and the _HI register after it. -/
def State.put64 (s : State) (a v : Nat) : State :=
  (s.setWord a (BitVec.ofNat 32 v)).setWord (a + 4) (BitVec.ofNat 32 (v / 2 ^ 32))

/-- The index of function `f`'s copy of a per-function register (R337). -/
def funcKey (f a : Nat) : Nat := f * 2 ^ 22 + a

/-- The word of function `f`'s copy of a per-function register. -/
def State.fword (s : State) (f a : Nat) : Word := FMap.get (BitVec.ofNat 32 (resetWord a)) s.fregs (funcKey f a)

/-- Holds word `v` in function `f`'s copy. -/
def State.setFword (s : State) (f a : Nat) (v : Word) : State :=
  { s with fregs := FMap.set (BitVec.ofNat 32 (resetWord a)) s.fregs (funcKey f a) v }

/-- A field of function `f`'s copy. -/
def State.fget (s : State) (f : Nat) (x : Fld) : Nat := bitsOf x.hi x.lo (s.fword f x.addr).toNat

/-- Writes a field of function `f`'s copy. -/
def State.fput (s : State) (f : Nat) (x : Fld) (v : Nat) : State :=
  s.setFword f x.addr (BitVec.ofNat 32 (putBits x.hi x.lo (s.fword f x.addr).toNat v))

/-- Advances an RC counter field by `n`; it saturates at its greatest value. -/
def State.bumpBy (s : State) (f : Fld) (n : Nat) : State :=
  s.put f (min (s.get f + n) (2 ^ (f.hi + 1 - f.lo) - 1))

/-- Advances an RC counter field by 1; it saturates at its greatest value. -/
def State.bump (s : State) (f : Fld) : State := s.bumpBy f 1

/-! ### Free values -/

/-- The next free octet (Config.freeOctet of the counter) and the state with the counter advanced. -/
def State.freshOctet (s : State) : Byte × State := (Config.freeOctet s.free, { s with free := s.free + 1 })

/-- `k` free octets. -/
def State.freshOctets : Nat → State → Octets × State
  | 0, s => ([], s)
  | k + 1, s =>
    let (b, s) := s.freshOctet
    let (bs, s) := State.freshOctets k s
    (b :: bs, s)

/-- A free number, below `m` where `m` is not 0. -/
def State.freshNat (s : State) (m : Nat) : Nat × State := (Config.freeNat s.free % m, { s with free := s.free + 1 })

/-! ### Instants -/

/-- The present instant on the time scale, ns since the time epoch. -/
def State.now (s : State) : Nat := s.tim.now

/-- The present second of the time scale. -/
def State.second (s : State) : Nat := s.tim.now / 1000000000

/-- The number of the course in progress (R50). -/
def State.course (s : State) : Nat := s.get64 Reg.CRS_COURSE_LO

/-- Course period of a code, ns (Table 2.1). -/
def periodNs (code : Nat) : Nat := 500000 * 2 ^ code

/-- The course period in force, ns. -/
def State.period (s : State) : Nat := periodNs (s.get Fl.CRS_TIMING_PERIOD)

/-- The first course that starts at least `dt` ns after instant `t`, at the period in force. -/
def State.courseAfter (s : State) (t dt : Nat) : Nat := (t + dt + s.period - 1) / s.period

/-! ### Output -/

/-- Appends to the log of what the device put out. -/
def State.emit (s : State) (o : Out) : State := { s with out := o :: s.out }

/-! ### Rings the WG20 produces (R339, R340, R355, R360) -/

/-- What the host interface holds for function `f`. -/
def State.fn (s : State) (f : Nat) : FuncState := FMap.get {} s.hst.funcs f

/-- Replaces what the host interface holds for function `f`. -/
def State.setFn (s : State) (f : Nat) (x : FuncState) : State :=
  { s with hst := { s.hst with funcs := FMap.set {} s.hst.funcs f x } }

/-- Ring `r` of function `f`. -/
def State.ring (s : State) (f r : Nat) : Ring := FMap.get {} (s.fn f).rings r

/-- Replaces ring `r` of function `f`. -/
def State.setRing (s : State) (f r : Nat) (x : Ring) : State :=
  s.setFn f { s.fn f with rings := FMap.set {} (s.fn f).rings r x }

/-- TYPE of a ring (Table 11.2): 0 COMMAND, 1 COMPLETION, 2 TILE, 3 EVENT. -/
def Ring.type (x : Ring) : Nat := bitsOf 31 30 x.cfg.toNat
/-- SIZE = 2^LOG2_SIZE (R339). -/
def Ring.size (x : Ring) : Nat := 2 ^ bitsOf 28 24 x.cfg.toNat
/-- CPL_RING of a COMMAND ring. -/
def Ring.cplRing (x : Ring) : Nat := bitsOf 23 16 x.cfg.toNat
/-- Entries the ring holds (R339). -/
def Ring.held (x : Ring) : Nat := (x.pidx - x.cidx).toNat
/-- IDLE (R355): disabled, nothing cached, nothing accepted and not complete, no write-back owed. -/
def Ring.idle (x : Ring) : Bool := !x.enabled && x.cache.isEmpty && x.active == 0 && !x.dropsOwed

/-- The function exists under the sampled bifurcation (R336). -/
def State.present (s : State) (f : Nat) : Bool :=
  decide (f < (match s.hst.bifurcation with | 1 => 2 | 2 => 4 | _ => 1))

/-- Sends an MSI-X message of function `f`; a fenced function sends none (R358). -/
def State.msix (s : State) (f v : Nat) : State := if (s.fn f).fenced then s else s.emit (.msix f v)

/-- The interrupt of a write-back that advances PIDX (R360): at once, or owed while the gap of the last message runs. -/
def State.ringInterrupt (s : State) (f r : Nat) : State :=
  let x := s.ring f r
  if !bitOf 29 x.cfg.toNat then s
  else if x.moderating then s.setRing f r { x with messageOwed := true }
  else
    let s := s.msix f (bitsOf 5 0 x.cfg.toNat)
    if bitsOf 15 8 x.cfg.toNat = 0 then s else s.setRing f r { x with moderating := true }

/-- A WG20-produced ring takes entries: enabled, of type `ty`, out of ERROR, its function not fenced (R340, R341, R358). -/
def State.ringAdmits (s : State) (f r ty : Nat) : Bool :=
  let x := s.ring f r
  x.enabled && !x.err && x.type == ty && !(s.fn f).fenced

/-- Writes the entries of one item to ring `r` of function `f`, whole or not at all; a full ring drops it and advances
DROPS by the entries it would have taken (R340, R344). Answers whether the item was written. -/
def State.produce (s : State) (f r ty : Nat) (entries : List Octets) : Bool × State :=
  let x := s.ring f r
  if !s.ringAdmits f r ty then (false, s)
  else if x.size < x.held + entries.length then
    (false, s.setRing f r { x with drops := x.drops + BitVec.ofNat 32 entries.length, dropsOwed := true })
  else
    let first := x.pidx.toNat
    let out := ((List.range entries.length).zip entries).foldl
      (fun acc (p : Nat × Octets) => Out.ringEntry f r ((first + p.1) % x.size) p.2 :: acc) s.out
    let x := { x with pidx := x.pidx + BitVec.ofNat 32 entries.length, dropsOwed := false }
    let s := ({ s with out := out }).setRing f r x
    (true, (s.emit (.writeBack f r x.pidx x.drops)).ringInterrupt f r)

/-! ### What the ridge takes from the rest (R449, R451, R460) -/

/-- The unit is in a pair: logs are applied or sent (SYNCED). -/
def State.paired (s : State) : Bool := s.flag Fl.RDG_STATE_SYNCED

/-- Adds items to an output class of the course digest (R451); 16 + l keeps the downlink elements of lane l. -/
def State.note (s : State) (k : Nat) (items : Octets) : State :=
  if s.paired then
    { s with rdg := { s.rdg with outputs := FMap.set [] s.rdg.outputs k (FMap.get [] s.rdg.outputs k ++ items) } }
  else s

/-- The sequence number after `n`: 32 bits (Tables 10.1 and 15.3). -/
def nextSeq (n : Nat) : Nat := (n + 1) % 2 ^ 32

/-- A frame numbered `seq` is not yet acknowledged by `ack`, in the 32-bit order of numbers less than 2^31 apart. -/
def notAcked (ack seq : Nat) : Bool := decide ((seq + 2 ^ 32 - ack % 2 ^ 32) % 2 ^ 32 < 2 ^ 31)

/-- The UNIT code of this unit: 01b unit A, 10b unit B (Table 18.3). -/
def State.unitCode (s : State) : Nat := 1 + s.get Fl.RDG_STATE_UNIT

/-- The octets of a ridge frame of this unit between its start and terminate blocks: header, payload, FCS (Table 15.3, R448). -/
def State.ridgeFrame (s : State) (type flags seq part : Nat) (payload : Octets) : Octets :=
  let body := be 1 1 ++ be 1 type ++ be 1 (s.unitCode + 4 * s.get Fl.RDG_STATE_STATE) ++ be 1 flags ++ be 4 seq ++ be 4 s.rdg.rxSeq
    ++ be 2 payload.length ++ be 1 part ++ be 1 s.rdg.epoch ++ payload
  body ++ be 4 (crc32 body)

/-- Puts a real-time frame on every real-time lane; SEQ is the course number (R447, Table 15.3). -/
def State.ridgeNow (s : State) (type part : Nat) (payload : Octets) : State :=
  s.emit (.ridge true (wireFrame 0x9D#8 (s.ridgeFrame type 0 (s.course % 2 ^ 32) part payload)))

/-- Puts a bulk frame on the link (Table 15.4); RETX marks one that was sent before. -/
def State.bulkOut (s : State) (f : RidgeFrame) : State :=
  s.emit (.ridge false (wireFrame 0x9D#8 (s.ridgeFrame 0x10 (b2n (f.resends != 0)) f.seq 0
    (be 1 f.kind ++ zeros 3 ++ be 4 f.object ++ be 4 f.offset ++ be 4 f.total ++ f.octets))))

/-- Sends bulk frames while fewer than 64 are unacknowledged (R306, R449). -/
def State.bulkDrain : Nat → State → State
  | 0, s => s
  | k + 1, s =>
    match s.rdg.backlog with
    | [] => s
    | f :: rest =>
      if 64 ≤ s.rdg.unacked.length then s
      else
        let f := { f with seq := s.rdg.txSeq }
        let s := { s with rdg := { s.rdg with
          txSeq := nextSeq s.rdg.txSeq, unacked := s.rdg.unacked ++ [f], backlog := rest, ackOwed := false } }
        State.bulkDrain k (s.bulkOut f)

/-- Sends an object over bulk, in parts of at most 16,368 octets; nothing while the link is down. -/
def State.bulk (s : State) (kind object : Nat) (octets : Octets) : State :=
  if !s.flag Fl.RDG_STATE_LINK_UP then s else
  let parts := (List.range (max 1 ((octets.length + 16367) / 16368))).map fun k =>
    (⟨0, kind, object, 16368 * k, octets.length, slice octets (16368 * k) 16368, 0⟩ : RidgeFrame)
  let s := { s with rdg := { s.rdg with backlog := s.rdg.backlog ++ parts } }
  State.bulkDrain parts.length s

/-! ### Events (R361, R520 to R524) -/

/-- The 32 octets of an event record (Table 18.3). -/
def EvRec.octets (e : EvRec) : Octets :=
  let body := le 6 e.seq ++ le 2 e.rep ++ le 2 e.source ++ le 1 e.unit ++ zeros 1 ++ padTo 16 e.data ++ zeros 2
  body ++ le 2 (crc16 body)

/-- Records held on chip (R524). -/
def onChipLimit : Nat := 65536

/-- Copies a record to one function's ring and vector as HST_EVT_ROUTE gives (R361). -/
def State.routeTo (s : State) (e : EvRec) (f : Nat) : State :=
  let a := Reg.HST_EVT_ROUTE e.source
  let w := (s.fword f a).toNat
  let s :=
    if !bitOf 31 w then s
    else if !s.ringAdmits f (bitsOf 7 0 w) 3 then s.bump Fl.HST_EVT_DROP_COUNT_COUNT
    else (s.produce f (bitsOf 7 0 w) 3 [e.octets]).2
  if bitOf 30 w then s.msix f (bitsOf 13 8 w) else s

/-- Copies a record to every function (R361). -/
def State.route (s : State) (e : EvRec) : State := (List.range 4).foldl (fun s f => s.routeTo e f) s

/-- Takes a full run of 2,048 records into the spill region when a record of the next run was numbered, and drops the
oldest records beyond the 65,536 held on chip, counting those that are not spilled as lost (R524). Numbers are reserved ahead
(R523). -/
def State.spill (s : State) : State :=
  let lastRun := (s.evt.seq - 1) / 2048 * 2048
  let held := s.evt.records
  let fresh := held.filter fun e =>
    decide (e.seq ≤ lastRun) && !(s.evt.spilled.any fun x => x.seq == e.seq)
  let mounted := s.flag Fl.ARC_STATE_MOUNTED && !s.evt.provisional
  let spilled := if mounted then (fresh ++ s.evt.spilled).take 33554432 else s.evt.spilled
  let gone := held.drop onChipLimit
  let lost := gone.filter fun e => !(spilled.any fun x => x.seq == e.seq)
  let reserved := if mounted && decide (s.evt.reservation ≤ s.evt.seq + 2 ^ 23) then s.evt.seq + 2 ^ 24 else s.evt.reservation
  let s := { s with
    evt := { s.evt with records := held.take onChipLimit, spilled := spilled, reservation := reserved } }
  if lost.isEmpty then s else s.bumpBy Fl.EVT_LOST_COUNT_COUNT lost.length

/-- The active unit copies its records to the standby unit (R460). -/
def State.copyRecord (s : State) (e : EvRec) : State :=
  if s.get Fl.RDG_STATE_STATE = 1 ∧ s.paired = true then s.bulk 3 0 e.octets else s

/-- A record with the next number enters the recorder; then its copies (R522, R523). -/
def State.pushRecord (s : State) (source u : Nat) (data : Octets) : State :=
  let e : EvRec := ⟨s.evt.seq + 1, 0, source, u, padTo 16 data⟩
  let s := { s with evt := { s.evt with seq := s.evt.seq + 1, records := e :: s.evt.records, noMerge := false } }
  (s.spill.route e).copyRecord e

/-- The newest record counts a repeat; then its copies (R522). -/
def State.repeatRecord (s : State) (e : EvRec) (rest : List EvRec) : State :=
  let e' := { e with rep := min (e.rep + 1) 0xFFFF }
  (({ s with evt := { s.evt with records := e' :: rest } }).route e').copyRecord e'

/-- UNIT of a record (Table 18.3): the unit code, and bit 3 while numbers are provisional. -/
def State.recordUnit (s : State) (unit : Nat) : Nat := if s.evt.provisional then unit + 8 else unit

/-- Records a raise (R522): a repeat of the newest record, or a new record. A GLB_BOOT (source 0) always takes a new record. `unit` is
the octet of Table 18.3 without bit 3. -/
def State.record (s : State) (source unit : Nat) (data : Octets) : State :=
  let u := s.recordUnit unit
  match s.evt.records with
  | e :: rest =>
    if source ≠ 0 ∧ !s.evt.noMerge ∧ e.source = source ∧ e.unit = u ∧ e.data = padTo 16 data then s.repeatRecord e rest
    else s.pushRecord source u data
  | [] => s.pushRecord source u data

/-- Raises an event source with its data (R520). A standby unit whose ridge is up forwards the event to the active unit, which
records it for both; the active unit keeps what it raised in the course (R460). -/
def State.raise (s : State) (source : Nat) (data : Octets := []) : State :=
  if s.get Fl.RDG_STATE_STATE = 2 ∧ s.flag Fl.RDG_STATE_LINK_UP = true then
    s.bulk 3 0 (EvRec.octets ⟨0, 0, source, s.unitCode, padTo 16 data⟩)
  else
    let s := s.record source s.unitCode data
    if s.get Fl.RDG_STATE_STATE = 1 then
      { s with rdg := { s.rdg with raised := (source, padTo 16 data) :: s.rdg.raised } }
    else s

/-! ### Completions (R343, R348) -/

/-- The code of a status (Table 0.5). -/
def Status.code : Status → Nat
  | .ok => 0 | .illegal => 1 | .state => 2 | .notOwner => 3 | .stale => 4 | .busy => 5 | .noSpace => 6 | .auth => 7
  | .range => 8 | .aborted => 9 | .notReady => 10 | .sealed => 11 | .lockout => 12 | .hwFault => 13

/-- The 64 octets of a completion (Table 11.4). -/
def completionOctets (op : Nat) (c : Cmd) (st : Status) (info : Nat) (result : Octets) : Octets :=
  le 4 c.tag.toNat ++ le 1 op ++ le 1 st.code ++ le 1 c.ring.val ++ zeros 1 ++ le 4 (info % 256) ++ zeros 4
    ++ padTo 48 result

/-- Opcodes of read-class commands (Table 11.5). -/
def readClass (op : Nat) : Bool := op == 5 || op == 0x18 || op == 0x19 || op == 0x3A || op == 0x3B || op == 0x43 || op == 0x44

/-- A command is accepted outside a ring's cache: it counts as one that its ring has accepted, with a reserved slot (R345). -/
def State.accepted (s : State) (c : Cmd) : State :=
  let f := c.func.val
  let x := s.ring f c.ring.val
  let s := s.setRing f c.ring.val { x with active := x.active + 1 }
  let q := s.ring f x.cplRing
  s.setRing f x.cplRing { q with reserved := q.reserved + 1 }

/-- Posts a completion to the command's COMPLETION ring, where that ring takes it (R341, R343, R358); the ring's count of accepted
commands falls, and STATE raises HST_STATE_REFUSED (Table 11.6). -/
def State.post' (s : State) (op : Nat) (c : Cmd) (st : Status) (info : Nat := 0) (result : Octets := []) : State :=
  let f := c.func.val
  let x := s.ring f c.ring.val
  let s := s.setRing f c.ring.val { x with active := x.active - 1 }
  let s := s.emit (.completed op c st (info % 256) (padTo 48 result))
  let q := s.ring f x.cplRing
  let s := s.setRing f x.cplRing { q with reserved := q.reserved - 1 }
  let s := (s.produce f x.cplRing 1 [completionOctets op c st info result]).2
  if st = .state then s.raise 421 (le 1 f ++ le 1 op ++ le 4 c.tag.toNat) else s

/-- A command ends with a status. Completions of logged commands enter their output class (R451), but for those of the ownership
commands, which are local to a unit (Table 15.8). A standby unit posts none for the commands of its partner's log (R463). -/
def State.complete (s : State) (op : Nat) (c : Cmd) (st : Status) (info : Nat := 0) (result : Octets := []) : State :=
  let s := if readClass op ∨ op < 5 then s else s.note 4 (completionOctets op c st info result)
  if s.rdg.applying ∨ (s.get Fl.RDG_STATE_STATE = 2 ∧ readClass op = false ∧ op ≠ 1) then s else s.post' op c st info result

/-- Octets written to a command's data buffer (R342). -/
def State.returnData (s : State) (c : Cmd) (bs : Octets) : State :=
  if (s.fn c.func.val).fenced || s.rdg.applying then s else s.emit (.hostData c bs)

/-- The instruction's answer: a next state. -/
abbrev Answer := Host.Outcome State Fault Refusal

/-! ### Wrong-state writes (R354) -/

/-- The code of a reason in HST_WSW_STATUS.REASON. -/
def WswReason.code : WswReason → Nat
  | .notOwner => 1 | .sealClosed => 2 | .reservedCode => 4 | .blockState => 5 | .noExpert => 3

/-- Captures an ignored write of function `f` at BAR0 offset `a` (R354). -/
def State.capture (s : State) (f a : Nat) (r : WswReason) : State :=
  if s.fget f Fl.HST_WSW_STATUS_STICKY = 1 then
    s.fput f Fl.HST_WSW_STATUS_COUNT (min (s.fget f Fl.HST_WSW_STATUS_COUNT + 1) 0xFFFF)
  else
    let s := s.fput f Fl.HST_WSW_STATUS_STICKY 1
    let s := s.fput f Fl.HST_WSW_STATUS_REASON r.code
    let s := s.fput f Fl.HST_WSW_ADDR_ADDR a
    s.raise 422 (le 1 f)

/-- The owner function, if one holds ownership (R350). -/
def State.owner (s : State) : Option Nat :=
  match s.hst.ownership with
  | .owned f _ => some f
  | _ => none

/-- Function `f` is the owner and can change state: it is not fenced (R350). -/
def State.isOwner (s : State) (f : Nat) : Bool := s.owner == some f && !(s.fn f).fenced

/-- The clock of a block runs (GLB_CLK_ALIVE). -/
def State.clockAlive (s : State) (block : Nat) : Bool := bitOf block (s.get Fl.GLB_CLK_ALIVE_ALIVE)

/-- BLK_STATUS.ENABLED of a block: the effective enable. -/
def State.enabled (s : State) (block : Nat) : Bool := s.flag (Fl.STATUS_ENABLED block)

/-- An input joins the input log of the course (R452). -/
def State.logItem (s : State) (i : LogItem) : State := { s with hst := { s.hst with inputLog := s.hst.inputLog ++ [i] } }

/-! ### Measurements that the valley engine waits for (R258, R259) -/

/-- The index of the sums of an eave in a second. -/
def metroKey (second eave : Nat) : Nat := 8192 * second + eave

/-- A second's station metrology, none where it is invalid. A new second takes the place of the one 256 seconds before it. -/
def State.setStation (s : State) (second : Nat) (m : Option Measure) : State :=
  { s with val := { s.val with
      station := FMap.set none (s.val.station.filter fun p => decide (second < p.1 + 256)) second m } }

end Sys2Proof.Machine
end

