-- ==== Sys2Proof/Machine/Gate.lean ====
section
/-!
DEFINITION. Machine/Gate.lean: rows 1 to 3 of Table 11.7, which every host command passes before the checks of its own
chapter (R346, R349).
-/

namespace Sys2Proof.Machine

/-- Life-cycle state DECOMMISSIONED: no descriptor is fetched (R349, Table 1.10). -/
def State.decommissioned (s : State) : Bool := s.get Fl.OTP_LIFECYCLE_CODE == 5

/-- Unit state STANDBY or HOLD (R444, R349). -/
def State.standbyOrHold (s : State) : Bool :=
  s.get Fl.RDG_STATE_STATE == 2 || s.get Fl.RDG_STATE_STATE == 3

/-- The data buffer breaks R342: its address is not 4-byte aligned or stands without data, or DATA_LEN is too great. -/
def malformed (c : Cmd) : Bool :=
  decide (67108864 < c.len.toNat) || decide (c.addr.toNat % 4 ≠ 0) || (c.len == 0 && c.addr != 0)

/-- Rows 1 to 3 of Table 11.7 for a write-class command; `bad` tells a breach of row 1 in what it carries. -/
def State.gateRefusal (s : State) (c : Cmd) (bad : Bool) : Option Status :=
  if bad || malformed c then some .illegal
  else if !s.isOwner c.func.val then some .notOwner
  else if s.standbyOrHold then some .state
  else none

/-- The descriptor of a command (Table 11.3), without a scatter list. -/
def descriptorOctets (op : Nat) (c : Cmd) (params : Octets) : Octets :=
  le 1 op ++ le 1 (b2n c.high) ++ zeros 2 ++ le 4 c.tag.toNat ++ le 8 c.addr.toNat ++ le 4 c.len.toNat ++ zeros 4 ++ padTo 40 params

/-- A command does not take effect now: a batten of the course has begun, so that it has to wait for a boundary (R27), or the unit is
ACTIVE, so that the input log carries it to the standby unit (R346). -/
def State.logsCommands (s : State) : Bool := s.crs.nextBatten != 0 || s.get Fl.RDG_STATE_STATE == 1

/-- The command stands in its ring's cache with its data read; it enters the input log when the ring comes to it (R345, R346). -/
def State.cacheCommand (s : State) (op : Nat) (c : Cmd) (params data : Octets) : State :=
  let f := c.func.val
  let x := s.ring f c.ring.val
  let s := s.setRing f c.ring.val { x with
    cache := x.cache ++ [{ octets := descriptorOctets op c params, fetched := true, data := data }] }
  let q := s.ring f x.cplRing
  s.setRing f x.cplRing { q with reserved := q.reserved + 1 }

/-- A write-class command: rows 1 to 3 of Table 11.7, which refuse it at acceptance, then the command's own checks and effect. At the
start of a course it takes effect at once; part-way through a course, and on an ACTIVE unit, it goes to the input log (R27). In
life-cycle state DECOMMISSIONED no descriptor is fetched, so nothing happens. -/
def State.writeCommand (s : State) (op : Nat) (c : Cmd) (params data : Octets) (bad : Bool) (effect : State → State) : State :=
  if s.decommissioned then s else
  match s.gateRefusal c bad with
  | some st => (s.accepted c).post' op c st
  | none => if s.logsCommands then s.cacheCommand op c params data else effect (s.accepted c)

/-- A read-class command runs for every function (R346, R347). -/
def State.readCommand (s : State) (op : Nat) (c : Cmd) (effect : State → State) : State :=
  if s.decommissioned then s else
  let s := s.accepted c
  if malformed c then s.complete op c .illegal else effect s

/-- An accepted RWO or RWS write of function `f` at `addr`: in ACTIVE it is logged and takes effect on both units at the
boundary that ends its course (R458); in ALONE it acts at once. -/
def State.logOrDo (s : State) (f addr : Nat) (v : Word) (act : State → State) : State :=
  if s.get Fl.RDG_STATE_STATE = 1 then
    s.logItem (.regWrite f addr v)
  else act s

end Sys2Proof.Machine
end

