-- ==== Sys2Proof/Machine/Meters.lean ====
section
/-!
DEFINITION. Machine/Meters.lean: the per-meter state records (R134, R172, R196, R232) and the release of a radio association
(R174).
-/

namespace Sys2Proof.Machine

/-- The 32 octets of a power-line area (Table 4.5). -/
def PlcArea.octets (a : PlcArea) : Octets :=
  le 2 a.short ++ le 2 a.cell
    ++ le 1 (b2n a.joined + 2 * a.keyIndex + 4 * b2n a.neighFail + 8 * b2n a.routeFail + 16 * b2n a.altFail)
    ++ le 1 a.lastDsn ++ zeros 2 ++ le 4 a.rxFc ++ le 4 a.failUntil ++ le 4 a.tmUntil ++ le 1 a.tmMod ++ le 1 a.tmGain
    ++ le 3 a.tmMap ++ le 1 a.lqi ++ le 2 a.linkCost ++ le 2 a.upCost ++ le 1 a.upHops ++ zeros 1

/-- The 32 octets of a radio area (Table 5.5). -/
def RadArea.octets (a : RadArea) : Octets :=
  le 2 a.short ++ le 2 a.cell
    ++ le 1 (b2n a.assoc + 2 * b2n a.sleepy + 4 * b2n a.synced + 8 * b2n a.unreachable + 16 * a.cslFails)
    ++ le 1 a.lastDsn ++ le 1 a.rssi ++ le 1 a.chains ++ le 4 a.rxFc ++ le 4 a.cslPeriod ++ le 8 a.syncUs ++ le 4 a.lastRx
    ++ zeros 4

/-- The tariff registers as the 640-bit value of Table 7.8. -/
def RecArea.packed (a : RecArea) : Nat := a.regs.foldl (fun n p => n + (p.2 % 2 ^ 20) * 2 ^ (20 * p.1)) 0

/-- The 128 octets of a record and billing area (Table 7.8). -/
def RecArea.octets (a : RecArea) : Octets :=
  le 80 a.packed ++ le 4 a.eImp ++ le 4 a.eExp ++ le 4 a.qImp ++ le 4 a.qExp ++ le 4 a.lastBlock ++ le 2 a.lastSeq
    ++ le 2 a.remImp ++ le 2 a.remExp ++ le 1 (a.prepay + 8 * b2n a.reqOut) ++ le 1 (a.expect + 4 * a.misCount)
    ++ le 4 (unsigned 32 a.credit) ++ le 4 a.gap0.1 ++ le 2 a.gap0.2 ++ le 4 a.gap1.1 ++ le 2 a.gap1.2
    ++ le 2 (b2n a.wrapped + 2 * b2n a.mismatch + 4 * b2n a.gapLost + 2048 * a.nonMonoRun) ++ le 2 a.topupId

/-- The 32 octets of a valley area (Table 8.3). -/
def ValArea.octets (a : ValArea) : Octets :=
  le 4 a.lastS ++ le 4 (unsigned 32 a.lastP) ++ le 4 a.revRun ++ le 4 a.neutRun ++ le 4 a.zeroRun
    ++ le 1 (b2n a.revOn + 2 * b2n a.neutOn + 4 * b2n a.zeroOn + 8 * b2n a.pValid) ++ le 1 a.tamper ++ le 2 a.steps ++ zeros 8

/-- The 256 octets of a per-meter state record (Table 6.3). -/
def MeterRec.octets (m : MeterRec) : Octets :=
  le 8 m.key ++ le 4 m.initEpoch ++ zeros 4 ++ m.plc.octets ++ m.rad.octets ++ m.bill.octets ++ m.val.octets
    ++ padTo 16 m.host

/-- The per-meter state record of a meter index (R196). -/
def State.meterRec (s : State) (i : Nat) : MeterRec := FMap.get {} s.meters i

/-- Writes a per-meter state record; the write enters the METER_STATE class (R451). -/
def State.setMeter (s : State) (i : Nat) (m : MeterRec) : State :=
  ({ s with meters := FMap.set {} s.meters i m }).note 5 (le 4 i ++ le 2 0 ++ m.octets)

/-- Changes a per-meter state record. -/
def State.modMeter (s : State) (i : Nat) (f : MeterRec → MeterRec) : State := s.setMeter i (f (s.meterRec i))

/-- Releases the radio association of a meter, whatever its cause (R174). The cell's free-address map is the set of addresses
that no associated meter of the cell holds, so clearing the meter's area frees the address in it. -/
def State.releaseAssoc (s : State) (i : Nat) : State :=
  let m := s.meterRec i
  if !m.rad.assoc then s else
  (s.setMeter i { m with rad := { m.rad with assoc := false, short := 0, cell := 0xFFFF } }).raise 188

/-- Meters associated in radio cell `c`, with their indexes. -/
def State.associated (s : State) (c : Nat) : List (Nat × MeterRec) :=
  s.meters.filter fun p => p.2.rad.assoc && p.2.rad.cell == c

/-- Meters joined in power-line cell `c`, with their indexes. -/
def State.joined (s : State) (c : Nat) : List (Nat × MeterRec) :=
  s.meters.filter fun p => p.2.plc.joined && p.2.plc.cell == c

end Sys2Proof.Machine
end

