-- ==== Sys2Proof/Machine/Plan.lean ====
section
/-!
DEFINITION. Machine/Plan.lean: what the batten plan in force gives: course types, work items, chains, cells, windows and
parameter sets (R52, R58 to R66, R119, R123, R158, R159).
-/

namespace Sys2Proof.Machine

/-- Courses per second at a period code (Table 2.1). -/
def coursesPerSecond (code : Nat) : Nat := 2000 / 2 ^ code

/-- The type of course `n` (R52). -/
def Plan.typeOf (p : Plan) (n : Nat) : Nat :=
  let l := coursesPerSecond p.period
  match p.rules.find? fun r => (n / l) % r.modulus == r.residue && n % l == r.position with
  | some r => r.type
  | none => p.cycleMap.getD (n % l) 0

/-- The plan in force. -/
def State.plan (s : State) : Plan := s.crs.active

/-- The record of batten `b` of a course type. -/
def Plan.batten (p : Plan) (type b : Nat) : BattenRec := (p.types.getD type []).getD b ⟨0, 0, false, false, false⟩

/-- The work items of a cluster in a work set, in list order (R60). -/
def Plan.items (p : Plan) (set cluster : Nat) : List WorkItem :=
  let e := (p.work.getD set []).getD cluster (0, 0)
  (p.pool.drop e.1).take e.2

/-- The record of a cell of the plan. -/
def Plan.cell (p : Plan) (c : Nat) : Option CellRec := p.cells.find? fun x => x.cell == c

/-- Cell of a CONFIG bit of an eave (R64): power-line cells in the order of the bits from FIRST_CELL, then the radio cell; under
the resident plan 4 × eave plus 0 for L1 or all-phase, 1 for L2, 2 for L3, 3 for radio (R515). -/
def Plan.cellAt (p : Plan) (e : EaveRec) (bit : Nat) : Nat :=
  if p.survey then 4 * e.eave + (if bit = 3 then 0 else if bit = 4 then 3 else bit)
  else e.firstCell + ((List.range bit).filter fun b => bitOf b e.config).length

/-- The cells of an eave. -/
def Plan.cellsOfEave (p : Plan) (e : EaveRec) : List Nat :=
  ((List.range 5).filter fun b => bitOf b e.config).map fun b => p.cellAt e b

/-- The chain and eave of a cell (R64). -/
def Plan.eaveOf (p : Plan) (c : Nat) : Option (Chain × EaveRec) :=
  p.chains.findSome? fun ch => (ch.eaves.find? fun e => (p.cellsOfEave e).contains c).map fun e => (ch, e)

/-- The chain of an eave index with its record. -/
def Plan.eave (p : Plan) (eave : Nat) : Option (Chain × EaveRec) :=
  p.chains.findSome? fun ch => (ch.eaves.find? fun e => e.eave == eave).map fun e => (ch, e)

/-- d_rx of a cell's chain, battens (R63). -/
def Plan.dRx (p : Plan) (c : Nat) : Nat := match p.eaveOf c with | some (ch, _) => ch.dRx | none => 2
/-- d_tx of a cell's chain, battens (R63). -/
def Plan.dTx (p : Plan) (c : Nat) : Nat := match p.eaveOf c with | some (ch, _) => ch.dTx | none => 2

/-- The lane that carries a cell (R421). -/
def Plan.laneOf (p : Plan) (c : Nat) : Option Nat := (p.eaveOf c).map fun x => x.1.lane

/-- The parameter set of a cell. -/
def Plan.params' (p : Plan) (c : Nat) : Octets :=
  match p.cell c with
  | some x => p.params.getD x.paramSet []
  | none => []

/-- A field of a cell's parameter set (Tables 4.4 and 5.3). -/
def Plan.param (p : Plan) (c off k : Nat) : Nat := leAt (p.params' c) off k

/-- KIND of a cell, 0 when the plan has no such cell (R65). -/
def Plan.kind (p : Plan) (c : Nat) : Nat := match p.cell c with | some x => x.kind | none => 0

/-- A power-line cell of the plan. -/
def Plan.isPlc (p : Plan) (c : Nat) : Bool := decide (1 ≤ p.kind c) && decide (p.kind c ≤ 4)

/-- A radio cell of the plan. -/
def Plan.isRad (p : Plan) (c : Nat) : Bool := p.kind c == 5

/-- The PAN ID of a cell (R119, R158). -/
def Plan.panId (p : Plan) (c : Nat) : Nat := (p.param c 2 2 + c) % 65536

/-- The extended address of a radio cell: EUI_BASE with bits [14:0] replaced by the cell number (R158). -/
def Plan.extAddress (p : Plan) (c : Nat) : Nat := p.param c 32 8 / 2 ^ 15 * 2 ^ 15 + c % 2 ^ 15

/-- The chains that a radio cell processes, as a mask (DIVERSITY, Table 5.3). -/
def Plan.chains' (p : Plan) (c : Nat) : Nat := match bitsOf 5 4 (p.param c 7 1) with | 1 => 1 | 2 => 2 | _ => 3

/-- The window class entry of a cell for a course type (Table 2.9). -/
def Plan.window (p : Plan) (c type : Nat) : WindowEntry :=
  match p.cell c with
  | some x => (p.windows.getD x.windowClass []).getD type ⟨0, 0, []⟩
  | none => ⟨0, 0, []⟩

/-- Contention entry `k` of a cell in a course type; FFFFh is none (Table 2.9). -/
def Plan.cw (p : Plan) (c type k : Nat) : Nat := (p.window c type).cw.getD k 0xFFFF

/-- PRIO_MASK (Tables 4.4 and 5.3). -/
def Plan.prioMask (p : Plan) (c : Nat) : Nat := p.param c 6 1
/-- MAX_RETRIES: offset 18 on a power-line set, 20 on a radio set. -/
def Plan.maxRetries (p : Plan) (c : Nat) : Nat := if p.isRad c then p.param c 20 1 else p.param c 18 1
/-- MAX_DEFER: offset 19 on a power-line set, 21 on a radio set. -/
def Plan.maxDefer (p : Plan) (c : Nat) : Nat := if p.isRad c then p.param c 21 1 else p.param c 19 1
/-- MAX_FRAME: offset 24 on a power-line set, 22 on a radio set. -/
def Plan.maxFrame (p : Plan) (c : Nat) : Nat := if p.isRad c then p.param c 22 2 else p.param c 24 2

/-- Length of a batten, ns. -/
def State.battenNs (s : State) : Nat := s.period / 16

/-- The number of the batten in progress, counted across course boundaries (R63). -/
def State.battenNo (s : State) : Nat := 16 * s.course + s.get Fl.CRS_TIMING_BATTEN

/-- The type of the course that holds batten `n`, counted across course boundaries. -/
def State.typeOfBatten (s : State) (n : Nat) : Nat :=
  if n / 16 = s.course then s.crs.courseType else s.plan.typeOf (n / 16)

/-- The batten in progress at a cell's eave: the captures that a receive item of the batten consumes, ns (R63). -/
def State.consumed (s : State) (c : Nat) : Nat × Nat :=
  (s.now - s.plan.dRx c * s.battenNs, s.now - s.plan.dRx c * s.battenNs + s.battenNs)

/-- The sense window of a cell in the batten in progress: SENSE_WIN or CCA_WIN µs that end at the end of the sense batten (R125,
R163). -/
def State.senseWindow (s : State) (c : Nat) : Nat × Nat :=
  let stop := (s.consumed c).2
  (stop - s.plan.param c (if s.plan.isRad c then 12 else 8) 2 * 1000, stop)

/-- The start of the batten that a transmit item of the batten in progress fills at a cell's eave, ns (R63). -/
def State.playNow (s : State) (c : Nat) : Nat := s.now + s.plan.dTx c * s.battenNs

/-- What is kept for a lane. -/
def State.eavLane (s : State) (l : Nat) : EavLane := FMap.get {} s.eav.lanes l

/-- The resident plan runs. -/
def State.resident (s : State) : Bool := s.flag Fl.CRS_PLAN_STATUS_RESIDENT

end Sys2Proof.Machine
end

