-- ==== Sys2Proof/Machine/Swc.lean ====
section
/-!
DEFINITION. Machine/Swc.lean: the switch core (chapter 9): admission, tail drop, overflow to DRAM and the resequencer,
shedding. The queues of frames for a cell are in Machine/Cells.lean.
-/

namespace Sys2Proof.Machine

/-- On-chip reserve of a class, cells (Table 9.2). -/
def classReserve : Nat → Nat
  | 0 => 65536 | 1 => 4096 | 2 => 65536 | 3 => 32768 | 4 => 65536 | 5 => 65536 | 6 => 16384 | 7 => 16384 | _ => 0

/-- The class may use the shared pool (Table 9.2). -/
def classPool (k : Nat) : Bool := decide (2 ≤ k) && decide (k ≤ 7)

/-- The class may overflow to DRAM (Table 9.2). -/
def classOverflows (k : Nat) : Bool := k == 2 || k == 3 || k == 5 || k == 6

/-- The class is of the Hold kind: its producer waits (Table 9.2, R285). -/
def classHolds (k : Nat) : Bool := k == 4 || k == 7

/-- The queue of a cell (R280). -/
def cellQueue (cell : Nat) (high : Bool) : Nat := 1000 + 2 * cell + b2n (!high)

/-- The output queue of a port and class (R280). -/
def outQueue (port cls : Nat) : Nat := 8 * port + cls

/-- The port a queue leaves on: its own, or the port of the cell's cluster (Table 9.1). -/
def State.queuePort (s : State) (q : Nat) : Nat :=
  if q < 1000 then q / 8
  else match s.crs.active.cells.find? fun c => c.cell == (q - 1000) / 2 with
    | some c => 40 + c.cluster / 16
    | none => 40

/-- The sum of a figure over the packets that satisfy `p`. -/
def State.packetSum (s : State) (p : Packet → Bool) (f : Packet → Nat) : Nat :=
  s.swc.packets.foldl (fun n x => if p x then n + f x else n) 0

/-- Free cells of the shared pool. -/
def State.poolFree (s : State) : Nat := 61440 - s.packetSum (fun _ => true) (·.pool)

/-- Cells of the overflow region in use. -/
def State.ovfUsed (s : State) : Nat := s.packetSum (fun _ => true) (·.waiting)

/-- The overflow region's size in cells: absent under profile 01h (R286, R289, R298). -/
def State.ovfCells (s : State) : Nat :=
  if s.get (Fl.PROFILE_PROFILE 9) = 1 then 0 else s.get Fl.SWC_OVF_SIZE * 16384

/-- The SWC registers that show occupancy follow it; SWC_OVF_HIGH is raised when the region reaches 90 % of its size. -/
def State.swcSync (s : State) : State :=
  let used := s.ovfUsed
  let s := (s.put Fl.SWC_POOL_FREE s.poolFree).put Fl.SWC_OVF_USED ((used + 16383) / 16384)
  let s := s.put Fl.SWC_MCAST_ACTIVE s.swc.mcasts.length
  let high := decide (0 < s.ovfCells) && decide (9 * s.ovfCells ≤ 10 * used)
  let was := s.swc.ovfHigh
  let s := { s with swc := { s.swc with ovfHigh := high } }
  if high && !was then s.raise 343 else s

/-- Cells of a packet (R278). -/
def cellsOf (bytes : Nat) : Nat := (bytes + 63) / 64

/-- A packet of a Drop class is dropped (R284): counted, raised once per second per class with class and port; a drop that
only level 4 causes counts in SWC_SHED_DROP_COUNT too. -/
def State.tailDrop (s : State) (q cls : Nat) (shed : Bool) : State :=
  let s := s.bump (Fl.SWC_DROP_COUNT_COUNT cls)
  let s := if shed then s.bump Fl.SWC_SHED_DROP_COUNT_COUNT else s
  let sec := s.second + 1
  if FMap.get 0 s.swc.dropSecond cls = sec then s else
  let s := { s with swc := { s.swc with dropSecond := FMap.set 0 s.swc.dropSecond cls sec } }
  s.raise 338 (le 1 cls ++ le 1 (s.queuePort q))

/-- Cells that multicast copies hold in a cell's queue: a copy occupies its target's queue (R290). -/
def State.pushCells (s : State) (q : Nat) : Nat :=
  if q < 1000 || (q - 1000) % 2 == 0 then 0 else
  ((FMap.get {} s.cel.macs ((q - 1000) / 2)).queue.filter fun f =>
      match f.origin with | .push _ => true | _ => false).foldl (fun n f => n + cellsOf (max 1 f.payload.length)) 0

/-- Where the cells of a packet of `n` cells would go: (reserve, pool, DRAM), or none when it does not fit (R283, R286). The
second answer tells that it is dropped at shed level 4 because it would need the overflow region (Table 9.4). -/
def State.placeCells (s : State) (q cls n : Nat) : Option (Nat × Nat × Nat) × Bool :=
  let held := s.packetSum (fun p => p.queue == q) (fun p => p.reserve + p.pool + p.dram) + s.pushCells q
  let limit := if 1000 ≤ q then 256 else s.get (Fl.SWC_QLIMIT_CELLS cls)
  if cls = 0 || cls = 1 then (some (n, 0, 0), false)
  else if limit < held + n then (none, false)
  else
    let inDram := s.packetSum (fun p => p.queue == q) (·.waiting)
    let r := if 0 < inDram then 0 else min n (classReserve cls - s.packetSum (fun p => p.cls == cls) (·.reserve))
    let p := if 0 < inDram || !classPool cls then 0 else min (n - r) s.poolFree
    let d := n - r - p
    if d = 0 then (some (r, p, 0), false)
    else if !classOverflows cls then (none, false)
    else
      let room := s.ovfCells - s.ovfUsed
      if s.get Fl.SWC_SHED_LEVEL = 4 then (none, decide (0 < s.ovfCells))
      else if s.swc.shrinkTo.isNone ∧ d ≤ room then (some (r, p, d), false) else (none, false)

/-- Admission of a packet of a Drop class or of QC0 and QC1: the packet's number, or none when it is dropped (R283, R284). -/
def State.takeIn (s : State) (q cls bytes : Nat) : Option Nat × State :=
  match s.placeCells q cls (cellsOf bytes) with
  | (none, shed) => (none, if classHolds cls then s else s.tailDrop q cls shed)
  | (some (r, p, d), _) =>
    let id := s.swc.nextId
    let seq := FMap.get 0 s.swc.seqs q
    let pkt : Packet := ⟨id, cls, q, bytes, seq, r, p, d, d⟩
    let s := { s with swc := { s.swc with
      packets := s.swc.packets ++ [pkt], nextId := id + 1,
      seqs := FMap.set 0 s.swc.seqs q ((seq + cellsOf bytes) % 65536) } }
    (some id, s.swcSync)

/-- A packet that its consumer takes as soon as it is admitted, so that none of its cells stays; answers whether it was admitted
(R283, R284). DESIGN CHOICE (log entry 144). -/
def State.passes (s : State) (port cls bytes : Nat) : Bool × State :=
  match s.placeCells (outQueue port cls) cls (cellsOf bytes) with
  | (some _, _) => (true, s)
  | (none, shed) => (false, s.tailDrop (outQueue port cls) cls shed)

/-- The resequencer of the packet's queue has released it: its cells and those of the packets before it are on chip (R287). -/
def State.packetReady (s : State) (id : Nat) : Bool :=
  match s.swc.packets.find? fun p => p.id == id with
  | some p => !s.swc.packets.any fun q => q.queue == p.queue && decide (q.id ≤ id) && decide (0 < q.waiting)
  | none => true

/-- Cells of a queue that are read back and not yet released (R287). -/
def State.reseqHeld (s : State) (q : Nat) : Nat :=
  s.packetSum (fun p => p.queue == q && !s.packetReady p.id) fun p => p.dram - p.waiting

/-- Admits the waiting packets of Hold producers that now fit. Each class has one producer, which waits until its packet fits, so
the packets of a class are admitted in order (R285). -/
def State.admitHeld (s : State) : State :=
  s.swc.holding.foldl (fun s (h : Nat × Nat × Nat) =>
    let first := s.swc.holding.find? fun x => x.2.1 == h.2.1
    match s.placeCells h.1 h.2.1 (cellsOf h.2.2) with
    | (some _, _) =>
      if first ≠ some h then s
      else (({ s with swc := { s.swc with holding := s.swc.holding.erase h } }).takeIn h.1 h.2.1 h.2.2).2
    | (none, _) => s) s

/-- A packet leaves the core: its cells are free (R283). -/
def State.releasePacket (s : State) (id : Nat) : State :=
  let s := { s with swc := { s.swc with packets := s.swc.packets.filter fun p => p.id != id } }
  s.swcSync.admitHeld

/-! ### Departure (R281, R296) -/

/-- The first packet of an output queue, where the resequencer has released it and its consumer takes it here: a yelm waits for
YELM_ARRIVAL, and a multicast packet for the release of its last reference. -/
def State.portHead (s : State) (port cls : Nat) : Option Packet :=
  match s.swc.packets.find? fun p => p.queue == outQueue port cls && !s.swc.mcasts.any fun m => m.id == p.id with
  | some p => if s.packetReady p.id && !s.swc.toRecord.any fun y => y.packet == p.id then some p else none
  | none => none

/-- The packet that the read arbiter of a port serves next: QC0, then QC1, then QC2 to QC7 in round robin (R281). -/
def State.arbiter (s : State) (port : Nat) : Option Packet :=
  (0 :: 1 :: (List.range 6).map fun k => 2 + (FMap.get 0 s.swc.turn port + k) % 6).findSome? fun cls => s.portHead port cls

/-- A packet leaves on its port with the bytes that its producer wrote (R278). -/
def State.departs (s : State) (port : Nat) (p : Packet) : State :=
  let s := if p.cls < 2 then s else { s with swc := { s.swc with turn := FMap.set 0 s.swc.turn port ((p.cls - 1) % 6) } }
  (s.emit (.packet port p.cls p.bytes)).releasePacket p.id

/-- A port reads at most `cells` cells; `fuel` bounds the packets. Answers the cells left. -/
def State.servePort (port : Nat) : Nat → Nat → State → Nat × State
  | 0, cells, s => (cells, s)
  | fuel + 1, cells, s =>
    match s.arbiter port with
    | none => (cells, s)
    | some p => if cells < cellsOf p.bytes then (cells, s) else State.servePort port fuel (cells - cellsOf p.bytes) (s.departs port p)

/-- The consumers of Table 9.6 take what waits in the output queues over one batten: each port reads at most 1 cell and the core at
most 5 cells in each cycle of 0.8 ns (R278, R296). DESIGN CHOICE (log entry 144). -/
def State.drainPorts (s : State) : State :=
  let perPort := s.period / 16 * 5 / 4
  ((List.range 60).foldl (fun (x : Nat × State) port =>
    let r := State.servePort port (x.2.swc.packets.length + x.2.swc.holding.length) (min perPort x.1) x.2
    (x.1 - (min perPort x.1 - r.1), r.2)) (5 * perPort, s)).2

/-- PACKET_ADMIT: a packet arrives for an output queue (R283 to R285). A QC0 packet leaves within 2 µs, so at once (R281). A Hold
producer waits with a packet that does not fit, and with any packet behind it. -/
def packetAdmitEffect (port : Fin 64) (cls : Fin 8) (bytes : Fin 16385) (s : State) : State :=
  let q := outQueue port.val cls.val
  let waits (s : State) : State := { s with swc := { s.swc with holding := s.swc.holding ++ [(q, cls.val, bytes.val)] } }
  if bytes.val = 0 then s
  else if s.swc.holding.any fun h => h.2.1 == cls.val then waits s
  else match s.takeIn q cls.val bytes.val with
    | (some id, s) => if cls.val = 0 then (s.emit (.packet port.val 0 bytes.val)).releasePacket id else s
    | (none, s) => if classHolds cls.val then waits s else s

/-- OVERFLOW_READ_RETURN: cells of a packet come back from DRAM. A read is issued only while fewer than 4,096 cells of the queue are
read and not yet released (R287). -/
def overflowReadReturnEffect (packet cells : BitVec 32) (s : State) : State :=
  let room := match s.swc.packets.find? fun p => p.id == packet.toNat with
    | some p => 4096 - s.reseqHeld p.queue
    | none => 0
  let ps := s.swc.packets.map fun p =>
    if p.id = packet.toNat then { p with waiting := p.waiting - min cells.toNat room } else p
  ({ s with swc := { s.swc with packets := ps } }).swcSync

/-- OVERFLOW_SHRINK_DONE: the smaller size takes effect once the occupancy has fallen to it (R289). -/
def overflowShrinkDoneEffect (s : State) : State :=
  match s.swc.shrinkTo with
  | none => s
  | some mib =>
    if mib * 16384 < s.ovfUsed then s else
    let s := { s with swc := { s.swc with shrinkTo := none } }
    ((s.put Fl.SWC_OVF_SIZE mib).putFlag Fl.SWC_OVF_SHRINKING false).swcSync

/-- The region size of a new plan at its target course (R289). -/
def State.setOverflow (s : State) (mib : Nat) : State :=
  if s.ovfUsed ≤ mib * 16384 then
    let s := { s with swc := { s.swc with shrinkTo := none } }
    ((s.put Fl.SWC_OVF_SIZE mib).putFlag Fl.SWC_OVF_SHRINKING false).swcSync
  else
    let s := { s with swc := { s.swc with shrinkTo := some mib } }
    (s.putFlag Fl.SWC_OVF_SHRINKING true).raise 341

/-! ### Shedding (R292 to R294) -/

/-- The DRAM data rate, MT/s: 4,800, 5,200 or 5,600 by DDR_INFO.RATE. -/
def State.dramRate (s : State) : Nat :=
  match s.get Fl.DDR_INFO_RATE with | 1 => 4800 | 2 => 5200 | 3 => 5600 | _ => 0

/-- B_avail in MB/s. -/
def State.bAvail (s : State) : Nat := s.dramRate * s.get Fl.SWC_SHED_EIGHTHS * 16 / 5

/-- The declared bandwidth of a DRAM class, MB/s. -/
def State.dramClass (s : State) (k : Nat) : Nat := s.crs.active.dram.getD k 0

/-- D, the DRAM_BUDGET sum of the committed plan. -/
def State.dramSum (s : State) : Nat := s.crs.active.dram.foldl (· + ·) 0

/-- R(k): the bandwidth that levels 1 to k release (Table 9.4), doubled so that half of class 3 stays whole. -/
def State.released2 (s : State) (k : Nat) : Nat :=
  (if 1 ≤ k then 2 * s.dramClass 5 else 0) + (if 2 ≤ k then 2 * s.dramClass 6 else 0)
    + (if 3 ≤ k then 2 * (s.dramClass 4 - s.get Fl.SWC_SHED_CFG_HOST_KEEP) else 0)
    + (if 4 ≤ k then s.dramClass 3 else 0)

/-- D − R(k) ≤ B_avail. -/
def State.levelFits (s : State) (k : Nat) : Bool := decide (2 * s.dramSum ≤ 2 * s.bAvail + s.released2 k)

/-- D − R(k) ≤ 0.95 × B_avail. -/
def State.levelMargin (s : State) (k : Nat) : Bool := decide (40 * s.dramSum ≤ 38 * s.bAvail + 20 * s.released2 k)

/-- The target level (R293). -/
def State.shedTarget (s : State) : Nat := ([0, 1, 2, 3].find? fun k => s.levelFits k).getD 4

/-- The shed level at a course boundary (R293, R294). -/
def State.shedUpdate (s : State) : State :=
  let s := s.put Fl.SWC_SHED_AVAIL (s.bAvail / 10)
  let level := s.get Fl.SWC_SHED_LEVEL
  let short := !s.levelFits 4
  let was := s.swc.protectedShort
  let s := { s with swc := { s.swc with protectedShort := short } }
  let s :=
    if level < s.shedTarget then
      (({ s with swc := { s.swc with fallSince := none } }).put Fl.SWC_SHED_LEVEL s.shedTarget).raise 336
    else if s.shedTarget < level ∧ s.levelMargin (level - 1) then
      { s with swc := { s.swc with fallSince := some (s.swc.fallSince.getD s.now) } }
    else { s with swc := { s.swc with fallSince := none } }
  if short && !was then s.raise 342 else s

/-- SHED_STEP_DOWN: the margin has held for FALL_S seconds, so the level falls one step and the wait starts again (R293). A paired
standby unit follows the level of the log instead (Table 15.6). -/
def shedStepDownEffect (s : State) : State :=
  if s.get Fl.RDG_STATE_STATE = 2 ∧ s.flag Fl.RDG_STATE_SYNCED = true then s else
  let level := s.get Fl.SWC_SHED_LEVEL
  match s.swc.fallSince with
  | none => s
  | some t =>
    if level = 0 ∨ !s.levelMargin (level - 1) ∨ s.now < t + s.get Fl.SWC_SHED_CFG_FALL_S * 1000000000 then s else
    let s := { s with swc := { s.swc with fallSince := if 1 < level then some s.now else none } }
    (s.put Fl.SWC_SHED_LEVEL (level - 1)).raise 337

def execPacketAdmit (port : Fin 64) (cls : Fin 8) (bytes : Fin 16385) (s : State) : Answer :=
  .next (packetAdmitEffect port cls bytes s)
def execOverflowReadReturn (packet cells : BitVec 32) (s : State) : Answer :=
  .next (overflowReadReturnEffect packet cells s)
def execOverflowShrinkDone (s : State) : Answer := .next (overflowShrinkDoneEffect s)
def execShedStepDown (s : State) : Answer := .next (shedStepDownEffect s)

end Sys2Proof.Machine
end

