-- ==== Sys2Proof/Machine/Tile.lean ====
section
/-!
DEFINITION. Machine/Tile.lean: tiles (R222, R223), rounding and square roots as the valley engine and metrology use them
(R258, R260, R485), delivery to tile rings and staging for the archive (R246, R247, R266, R295).
-/

namespace Sys2Proof.Machine

/-- The readings of a second (Table 7.3). -/
structure Reading where
  eImp : Nat := 0
  eExp : Nat := 0
  qImp : Nat := 0
  qExp : Nat := 0
  v1 : Nat := 0
  v2 : Nat := 0
  v3 : Nat := 0
  i1 : Nat := 0
  i2 : Nat := 0
  i3 : Nat := 0
  iN : Nat := 0
  freq : Nat := 0
  p : Int := 0
  status : Nat := 0
deriving DecidableEq, Repr

/-- A tile (Table 7.4). `flags` holds the bits of Table 7.6. -/
structure Tile where
  second : Nat
  meter : Nat
  flags : Nat
  reading : Reading
  tariff : Nat
  cal : Nat
  seq : Nat
  deImp : Nat
  deExp : Nat
deriving DecidableEq, Repr

/-- The 64 octets of a tile with its CHECK. -/
def Tile.octets (t : Tile) : Octets :=
  let r := t.reading
  let body := le 8 t.second ++ le 4 t.meter ++ le 4 t.flags ++ le 4 r.eImp ++ le 4 r.eExp ++ le 4 r.qImp ++ le 4 r.qExp
    ++ le 2 r.v1 ++ le 2 r.v2 ++ le 2 r.v3 ++ le 2 r.i1 ++ le 2 r.i2 ++ le 2 r.i3 ++ le 2 r.iN ++ le 2 r.freq
    ++ le 4 (unsigned 32 r.p) ++ le 2 r.status ++ le 1 t.tariff ++ le 1 t.cal ++ le 2 t.seq
    ++ le 2 (min t.deImp 0xFFFF) ++ le 2 (min t.deExp 0xFFFF)
  body ++ le 2 (crc16 body)

/-- The tile that 64 octets spell. -/
def tileOf (bs : Octets) : Tile :=
  { second := leAt bs 0 8, meter := leAt bs 8 4, flags := leAt bs 12 4,
    reading := { eImp := leAt bs 16 4, eExp := leAt bs 20 4, qImp := leAt bs 24 4, qExp := leAt bs 28 4, v1 := leAt bs 32 2,
                 v2 := leAt bs 34 2, v3 := leAt bs 36 2, i1 := leAt bs 38 2, i2 := leAt bs 40 2, i3 := leAt bs 42 2,
                 iN := leAt bs 44 2, freq := leAt bs 46 2, p := signed 32 (leAt bs 48 4), status := leAt bs 52 2 },
    tariff := leAt bs 54 1, cal := leAt bs 55 1, seq := leAt bs 56 2, deImp := leAt bs 58 2, deExp := leAt bs 60 2 }

/-- n ÷ d rounded half away from zero. -/
def roundDiv (n : Int) (d : Nat) : Int :=
  if 0 ≤ n then ((2 * n + d) / (2 * d : Nat) : Int) else -((-2 * n + d) / (2 * d : Nat) : Int)

/-- The integer square root of a number below 2^128. -/
def isqrt (n : Nat) : Nat :=
  (List.range 64).foldr (fun b r => if (r + 2 ^ b) * (r + 2 ^ b) ≤ n then r + 2 ^ b else r) 0

/-- √(n ÷ d) rounded half away from zero. -/
def roundSqrt (n d : Nat) : Nat := (isqrt (4 * n / d) + 1) / 2

/-- A result in a field of `k` octets: two's complement where it fits; where it does not, the field is left open. -/
def fitInt (k : Nat) (v : Int) : Nat :=
  if -(2 ^ (8 * k - 1) : Nat) ≤ v ∧ v < (2 ^ (8 * k - 1) : Nat) then unsigned (8 * k) v
  else Config.outOfFormat (8 * k) v % 2 ^ (8 * k)

/-- A number in a field of `k` octets: left open where it does not fit. -/
def fitNat (k v : Nat) : Nat := if v < 2 ^ (8 * k) then v else Config.outOfFormat (8 * k) v % 2 ^ (8 * k)

/-- Sum of three values. -/
def Three.sum (t : Three) : Int := t.a + t.b + t.c
/-- Applies a function to each phase. -/
def Three.map (f : Int → Int) (t : Three) : Three := ⟨f t.a, f t.b, f t.c⟩
/-- Combines two triples phase by phase. -/
def Three.zip (f : Int → Int → Int) (t u : Three) : Three := ⟨f t.a u.a, f t.b u.b, f t.c u.c⟩
/-- Adds phase by phase. -/
def Three.add (t u : Three) : Three := t.zip (· + ·) u
/-- The octets of a triple, `k` each, two's complement. -/
def Three.octets (k : Nat) (t : Three) : Octets := le k (fitInt k t.a) ++ le k (fitInt k t.b) ++ le k (fitInt k t.c)

/-- A 62-octet body with its CHECK (Table 7.4). -/
def withCheck (body : Octets) : Octets := let b := padTo 62 body; b ++ le 2 (crc16 b)

/-- A record is delivered to a tile ring, or dropped (R247, R266). It crosses the switch core in QC5 (Table 9.2); shed level 3 admits
none. -/
def State.deliverTile (s : State) (f r : Nat) (record : Octets) : Bool × State :=
  if 3 ≤ s.get Fl.SWC_SHED_LEVEL then (false, s)
  else match s.passes (51 + f) 5 64 with
    | (false, s) => (false, s)
    | (true, s) => s.produce f r 2 [record]

/-- Stages a record for the archive (R246). -/
def State.stage (s : State) (second : Nat) (record : Octets) : State :=
  { s with arc := { s.arc with staging := s.arc.staging ++ [⟨s.now, second, record, false, none⟩] } }

/-- Appends an alarm or signature record, or a run summary, to the valley journal in the archive hot stream (R266, R274). -/
def State.journal (s : State) (record : Octets) : State := { s with arc := { s.arc with journal := s.arc.journal ++ [record] } }

end Sys2Proof.Machine
end

