-- ==== Sys2Proof/Machine/Val.lean ====
section
/-!
DEFINITION. Machine/Val.lean: the valley engine (chapter 8): the tree image, posting, measurements, evaluation, alarms, theft
signatures, effects of a commit. The retrospective run is in Machine/Retro.lean.
-/

namespace Sys2Proof.Machine

/-! ### The valley tree (R252, R253) -/

/-- A node record (Table 8.1). -/
def valNodeOf (b : Octets) : ValNode :=
  { parent := leAt b 0 2, source := leAt b 2 1, sigEn := bitOf 0 (leAt b 3 1), alarmEn := bitOf 1 (leAt b 3 1),
    eave := leAt b 4 2, floor := leAt b 6 2, vScale := leAt b 8 4, iScale := leAt b 12 4, k0 := leAt b 16 4,
    k1 := leAt b 20 4, k2 := leAt b 24 4, relThr := leAt b 28 2, absThr := leAt b 30 2, persist := leAt b 32 4 }

/-- A meter record (Table 8.1). -/
def valMapOf (b : Octets) : ValMap :=
  { meter := leAt b 0 4, node := leAt b 4 2, phase := leAt b 6 1, gen := bitOf 0 (leAt b 7 1), noSig := bitOf 1 (leAt b 7 1) }

/-- The records of `k` octets that a string holds. -/
def recordsOf (k n : Nat) (bs : Octets) : List Octets := (List.range n).map fun i => slice bs (k * i) k

/-- A node record obeys Table 8.1 as node `i`. An eave index runs from 0 to 8,191 (Table 0.2). -/
def valNodeOk (i : Nat) (b : Octets) : Bool :=
  let n := valNodeOf b
  (n.parent == 0xFFFF || decide (n.parent < i)) && decide (n.source ≤ 2) && decide (leAt b 3 1 < 4) && decide (n.eave < 8192)
    && (n.source == 1 || (n.eave == 0 && n.vScale == 0 && n.iScale == 0))
    && decide (1 ≤ n.floor) && decide (1 ≤ n.relThr) && decide (n.relThr ≤ 10000)
    && decide (1 ≤ n.persist) && decide (n.persist ≤ 86400) && allZero (b.drop 36) && !(n.source == 0 && n.alarmEn)

/-- A meter record obeys Table 8.1. -/
def valMapOk (nodes : Nat) (b : Octets) : Bool :=
  let m := valMapOf b
  decide (m.meter < 1048576) && decide (m.node < nodes) && decide (1 ≤ m.phase) && decide (m.phase ≤ 4) && decide (leAt b 7 1 < 4)

/-- Depth of each node, in node-number order: 1 for a root, else its parent's plus 1 (R253). -/
def depths (nodes : List ValNode) : List Nat :=
  nodes.foldl (fun ds n => ds ++ [if n.parent = 0xFFFF then 1 else ds.getD n.parent 0 + 1]) []

/-- Strictly rising numbers. -/
def rising : List Nat → Bool
  | a :: b :: l => decide (a < b) && rising (b :: l)
  | _ => true

/-- A valley tree image under an epoch: none where R253 answers ILLEGAL. -/
def valTreeOf (epoch : Nat) (bs : Octets) : Option ValTree :=
  let nodes := leAt bs 8 4
  let maps := leAt bs 12 4
  if slice bs 0 4 != [0x56#8, 0x54#8, 0x52#8, 0x45#8] || leAt bs 4 4 != epoch || decide (nodes = 0) || decide (16384 < nodes)
      || decide (1048576 < maps) || bs.length != 32 + 64 * nodes + 8 * maps || decide (leAt bs 16 2 < 16)
      || decide (240 < leAt bs 16 2) || !allZero (slice bs 18 14) then none
  else
    let nr := recordsOf 64 nodes (bs.drop 32)
    let mr := recordsOf 8 maps (bs.drop (32 + 64 * nodes))
    let ns := nr.map valNodeOf
    let ms := mr.map valMapOf
    if !(((List.range nodes).zip nr).all fun p => valNodeOk p.1 p.2) || !(mr.all (valMapOk nodes))
        || !rising (ms.map (·.meter)) || decide (1 < (ns.filter fun n => n.source == 2).length)
        || ((List.range nodes).any fun i => decide (65535 < (ms.filter fun m => m.node == i).length)) then none
    else some ⟨epoch, leAt bs 16 2, ns, ms⟩

/-- TABLE_LOAD of kind 4 (R253): the status under the totals 09h and 0Ah. -/
def valLoadStatus (epoch maxNodes maxDepth : Nat) (bs : Octets) : Status :=
  match valTreeOf epoch bs with
  | none => .illegal
  | some t =>
    if maxNodes < t.nodes.length ∨ (depths t.nodes).any (fun d => decide (maxDepth < d)) then .range else .ok

/-! ### Delivery (R266) -/

/-- A valley record goes to its tile ring (R266). -/
def State.deliverVal (s : State) (record : Octets) : State :=
  if !s.flag Fl.VAL_DELIVERY_EN then s else
  let (ok, s) := s.deliverTile (s.get Fl.VAL_DELIVERY_FUNC) (s.get Fl.VAL_DELIVERY_RING) record
  if ok then s else s.bump Fl.VAL_RING_DROP_COUNT_COUNT

/-- An alarm or signature record: journal and ring. -/
def State.journalVal (s : State) (record : Octets) : State := ((s.journal record).note 2 record).deliverVal record

/-! ### Posting (R255 to R257, R267, R268) -/

/-- The balance slot of a node and second. -/
def State.balance (s : State) (node second : Nat) : BalanceSlot := FMap.get {} s.val.ring (256 * node + second % 256)

/-- Writes a balance slot. -/
def State.setBalance (s : State) (node second : Nat) (b : BalanceSlot) : State :=
  { s with val := { s.val with ring := FMap.set {} s.val.ring (256 * node + second % 256) b } }

/-- The last second that a valley point evaluated or skipped, or that one of the present course does (R256). -/
def State.coveredTo (s : State) : Nat :=
  let due := (s.plan.types.getD s.crs.courseType []).any (·.valley)
  if due then max s.val.lastPoint (s.second - s.val.tree.lag) else s.val.lastPoint

/-- A tile of second `t` comes too late for the ring (R255, R256): its second was evaluated, or its slot may already serve a
later second. -/
def State.tileLate (s : State) (t : Nat) : Bool := decide (t ≤ s.coveredTo) || decide (t + 250 ≤ s.second)

/-- Phases with a fitted voltage and current, as (phase, V × I). -/
def Reading.fitted (r : Reading) : List (Nat × Nat) :=
  ([(1, r.v1, r.i1), (2, r.v2, r.i2), (3, r.v3, r.i3)].filter fun p => p.2.1 != 0xFFFF && p.2.2 != 0xFFFF).map
    fun p => (p.1, p.2.1 * p.2.2)

/-- `x` on phase `k`. -/
def onPhase (k : Nat) (x : Int) : Three := if k = 1 then ⟨x, 0, 0⟩ else if k = 2 then ⟨0, x, 0⟩ else ⟨0, 0, x⟩

/-- Phase attribution of P (Table 8.2). -/
def byPhase (phase : Nat) (r : Reading) : Three :=
  if phase ≤ 3 then onPhase phase r.p
  else match r.fitted with
    | [] => onPhase 1 r.p
    | (k, w) :: more =>
      let ws := (k, w) :: more
      let total := ws.foldl (fun n x => n + x.2) 0
      let share := fun (x : Nat × Nat) =>
        if total = 0 then r.p.tdiv (ws.length : Nat) else (r.p * (x.2 : Nat)).tdiv (total : Nat)
      let parts : Three := ws.foldl (fun (acc : Three) x => acc.add (onPhase x.1 (share x))) {}
      parts.add (onPhase k (r.p - parts.sum))

/-- A theft signature record (Table 8.6). -/
def signatureRecord (epoch : Nat) (m : ValMap) (sig second run firstS : Nat) (a b : Int) (retro : Bool) : Octets :=
  withCheck (le 8 second ++ le 4 (m.meter + 3 * 2 ^ 20) ++ le 4 (sig + 8 * b2n retro) ++ le 2 m.node ++ le 1 m.phase ++ zeros 1
    ++ le 4 run ++ le 4 (fitInt 4 a) ++ le 4 (fitInt 4 b) ++ le 8 firstS ++ le 4 epoch)

/-- Thresholds of the signatures (VAL_SIG_CFG0 to VAL_SIG_CFG4, REC_VOLT_WIN). -/
structure SigConfig where
  off : Bool
  revW : Nat
  revS : Nat
  iAbs : Nat
  iRel : Nat
  neutS : Nat
  zeroW : Nat
  zeroS : Nat
  vMin : Nat
  stepW : Nat
  stepTol : Nat
deriving DecidableEq, Repr

/-- The thresholds in force; `off` under profile 01h (R275). -/
def State.sigConfig (s : State) : SigConfig :=
  { off := s.get (Fl.PROFILE_PROFILE 8) == 1, revW := s.get Fl.VAL_SIG_CFG0_REV_W, revS := s.get Fl.VAL_SIG_CFG0_REV_S,
    iAbs := s.get Fl.VAL_SIG_CFG1_I_ABS, iRel := s.get Fl.VAL_SIG_CFG1_I_REL, neutS := s.get Fl.VAL_SIG_CFG2_NEUT_S,
    zeroW := s.get Fl.VAL_SIG_CFG2_ZERO_W, zeroS := s.get Fl.VAL_SIG_CFG3_ZERO_S, vMin := s.get Fl.REC_VOLT_WIN_V_MIN,
    stepW := s.get Fl.VAL_SIG_CFG4_STEP_W, stepTol := s.get Fl.VAL_SIG_CFG4_STEP_TOL }

/-- A run after a second that meets its condition or not: its length, its ON flag, and whether it records now (R267). -/
def runStep (run : Nat) (on : Bool) (met : Bool) (limit : Nat) (records : Bool) : Nat × Bool × Bool :=
  if !met then (0, false, false)
  else
    let run := min (run + 1) 0xFFFFFFFF
    let hit := decide (limit ≤ run) && !on && records
    (run, on || hit, hit)

/-- The current of a single-phase meter's phase. -/
def Reading.phaseCurrent (r : Reading) (phase : Nat) : Nat := if phase = 1 then r.i1 else if phase = 2 then r.i2 else r.i3

/-- The fitted voltages of a reading. -/
def Reading.voltages (r : Reading) : List Nat := [r.v1, r.v2, r.v3].filter (· != 0xFFFF)

/-- The conditions of Table 8.7 for a tile with data: the valley area after it and the records completed. `records` tells
that the posting stage writes records. -/
def signatures (g : SigConfig) (epoch : Nat) (m : ValMap) (t : Tile) (a : ValArea) (records retro : Bool) :
    ValArea × List (Nat × Octets) :=
  let r := t.reading
  if g.off then
    ({ a with revRun := 0, neutRun := 0, zeroRun := 0, revOn := false, neutOn := false, zeroOn := false }, [])
  else
    let rev := !m.gen && (decide (r.p < -(g.revW : Int)) || bitOf 5 r.status)
    let i := r.phaseCurrent m.phase
    let diff := max i r.iN - min i r.iN
    let neut := decide (m.phase ≤ 3) && r.iN != 0xFFFF && decide (g.iAbs < diff) && decide (g.iRel * max i r.iN < 100 * diff)
    let vs := r.voltages
    let zero := decide (r.p.natAbs ≤ g.zeroW) && vs.any fun v => decide (g.vMin ≤ v)
    let tam := bitsOf 4 2 r.status
    let x := runStep a.revRun a.revOn rev g.revS records
    let y := runStep a.neutRun a.neutOn neut g.neutS records
    let z := runStep a.zeroRun a.zeroOn zero g.zeroS records
    let fresh := records && ([0, 1, 2].any fun b => bitOf b tam && !bitOf b a.tamper)
    let first := fun (run held : Nat) => if run = 0 then t.second else held
    let revFirst := first a.revRun a.revFirst
    let neutFirst := first a.neutRun a.neutFirst
    let zeroFirst := first a.zeroRun a.zeroFirst
    let sig := fun (k run firstS : Nat) (va vb : Int) => (k, signatureRecord epoch m k t.second run firstS va vb retro)
    let out := (if x.2.2 then [sig 1 x.1 revFirst r.p 0] else []) ++ (if y.2.2 then [sig 2 y.1 neutFirst i r.iN] else [])
      ++ (if z.2.2 then [sig 3 z.1 zeroFirst ((vs.foldl max 0 : Nat) : Int) r.p] else [])
      ++ (if fresh then [sig 4 1 t.second r.status a.tamper] else [])
    ({ a with revRun := x.1, revOn := x.2.1, revFirst := revFirst, neutRun := y.1, neutOn := y.2.1, neutFirst := neutFirst,
              zeroRun := z.1, zeroOn := z.2.1, zeroFirst := zeroFirst }, out)

/-- The valley area after a tile of a NEW yelm, apart from the signature runs (Table 8.3). -/
def ValArea.posted (a : ValArea) (t : Tile) (missing : Bool) : ValArea :=
  if missing then { a with lastS := t.second % 2 ^ 32, pValid := false }
  else { a with lastS := t.second % 2 ^ 32, lastP := t.reading.p, pValid := true, tamper := bitsOf 4 2 t.reading.status }

/-- ΔP of a step record that a tile gives (R268). -/
def stepOf (g : SigConfig) (t : Tile) (a : ValArea) : Option Int :=
  let d := t.reading.p - a.lastP
  if a.pValid && a.lastS == (t.second - 1) % 2 ^ 32 && decide (g.stepW ≤ d.natAbs) then some d else none

/-- Adds a step record to a slot; the fifth is dropped (R268). -/
def State.addStep (s : State) (node second meter : Nat) (d : Int) : State :=
  let b := s.balance node second
  if b.steps.length < 4 then s.setBalance node second { b with steps := b.steps ++ [(meter, d)] }
  else
    let first := !b.stepOvf
    let s := (s.setBalance node second { b with stepOvf := true }).bump Fl.VAL_STEP_OVF_COUNT_COUNT
    if first then s.raise 304 (le 2 node) else s

/-- The posting stage takes a tile of a NEW or BACKFILL yelm (R256, R257, R267, R268). -/
def State.post (s : State) (t : Tile) (isNew : Bool) : State :=
  match s.val.tree.maps.find? fun m => m.meter == t.meter with
  | none => s
  | some m =>
    let missing := bitOf 0 t.flags
    let late := s.tileLate t.second
    let a := (s.meterRec t.meter).val
    let g := s.sigConfig
    let s := if late then s.bump Fl.VAL_LATE_TILE_COUNT_COUNT else
      let b := s.balance m.node t.second
      if missing then s.setBalance m.node t.second { b with nodata := b.nodata + 1 }
      else s.setBalance m.node t.second { b with cover := b.cover + 1, energy := b.energy.add (byPhase m.phase t.reading) }
    if !isNew then s else
    let s := if missing || late then s else
      match stepOf g t a with
      | some d => s.addStep m.node t.second t.meter d
      | none => s
    let sigOn := !m.noSig && (match s.val.tree.nodes[m.node]? with | some n => n.sigEn | none => false)
    let (a', out) := if missing || !sigOn then (a, []) else signatures g s.val.tree.epoch m t a (s.enabled 8) false
    let s := s.modMeter t.meter fun r => { r with val := a'.posted t missing }
    out.foldl (fun s o => ((s.bump Fl.VAL_SIG_COUNT_COUNT).journalVal o.2).raise 299 (le 4 t.meter ++ le 1 o.1)) s

/-! ### Measurements (R258, R259) -/

/-- The measurement of a node with eave metrology from the sums of its sets: none when it is invalid. -/
def eaveMeasure (n : ValNode) (x : MetroSum) : Option Measure :=
  if x.sets < 12160 || x.saturated then none else
  let e := fun (v : Int) => roundDiv (v * (n.vScale : Nat) * (n.iScale : Nat)) (1000000000000 * x.sets)
  let i := fun (v : Int) => ((roundSqrt (v.toNat * n.iScale * n.iScale) (10000000000 * x.sets) : Nat) : Int)
  some ⟨x.vi.map e, x.ii.map i, decide (x.sets < 12800)⟩

/-- The measurement of a node in a second, and MEAS_PARTIAL (R258, R259, R263; PARTIAL of station metrology is R486's). -/
def State.measureOf (s : State) (n : ValNode) (second : Nat) : Option Measure × Bool :=
  if n.source = 1 then
    let x := FMap.get {} s.val.metro (metroKey second n.eave)
    (if (s.plan.eave n.eave).isNone then none else eaveMeasure n x, decide (x.sets < 12800))
  else if n.source = 2 then
    let m := FMap.get none s.val.station second
    (m, match m with | some x => x.part | none => false)
  else (none, false)

/-! ### Evaluation (R260 to R264, R268) -/

/-- What an evaluation of one node uses. `missing` is MISSING_N; `children` holds each child's contribution with its
INCOMPLETE and DEGRADED. -/
structure NodeIn where
  number : Nat
  node : ValNode
  second : Nat
  epoch : Nat
  slot : BalanceSlot
  meas : Option Measure
  part : Bool
  missing : Nat
  waiting : Bool
  children : List (Three × Bool × Bool)
  change : Bool
  retro : Bool
deriving DecidableEq, Repr

/-- What the evaluation of one node gives: its state, its result record, an alarm record with CLEAR, its contribution, and the
step records that became signatures with ΔR. -/
structure NodeOut where
  state : NodeState
  result : Octets
  alarm : Option (Bool × Octets)
  contrib : Three × Bool × Bool
  steps : List (Nat × Int × Int)
  incomplete : Bool
deriving DecidableEq, Repr

/-- A node result record (Table 8.4). -/
def resultRecord (second node flags : Nat) (e s i : Three) (loss resid rho : Int) (cover missing pc : Nat) : Octets :=
  withCheck (le 8 second ++ le 4 (node + 2 ^ 20) ++ le 4 flags ++ e.octets 4 ++ s.octets 4 ++ le 4 (fitInt 4 loss)
    ++ le 2 (fitNat 2 i.a.toNat) ++ le 2 (fitNat 2 i.b.toNat) ++ le 2 (fitNat 2 i.c.toNat) ++ le 2 cover ++ le 2 missing
    ++ le 2 (min pc 0xFFFF) ++ le 4 (fitInt 4 resid) ++ le 2 (unsigned 16 (clampInt (-32767) 32767 rho)))

/-- A valley alarm record (Table 8.5). -/
def alarmRecord (second number : Nat) (n : ValNode) (x : NodeState) (epoch : Nat) (clear retro change : Bool) : Octets :=
  let mean := (x.sumResid * 100000).tdiv (max x.sumMeas ((x.seconds * n.floor : Nat) : Int))
  withCheck (le 8 second ++ le 4 (number + 2 * 2 ^ 20)
    ++ le 4 (b2n clear + 2 * b2n retro + 4 * b2n (decide (x.sumResid < 0)) + 8 * b2n x.degradedRun + 16 * b2n change)
    ++ le 8 x.firstS ++ le 4 x.seconds ++ le 8 (unsigned 64 x.sumResid) ++ le 8 (unsigned 64 x.sumMeas)
    ++ le 4 (fitInt 4 mean) ++ le 4 x.silentMax ++ le 4 epoch)

/-- The loss of a phase, mJ, at a current in 0.1 A (R260). -/
def ValNode.loss (n : ValNode) (i : Int) : Int := n.k0 + n.k1 * i / 10 + n.k2 * i * i / 100000

/-- The persistence counter and the run of a node after a result that is not INCOMPLETE (R262): the state, and 1 when it
becomes ALARMED, 2 when it clears. -/
def NodeState.persist (x : NodeState) (n : ValNode) (second : Nat) (beyond degraded : Bool) (r sumE : Int) (missing : Nat) :
    NodeState × Nat :=
  let x := if beyond && x.pc == 0 then
      { x with firstS := second, sumResid := 0, sumMeas := 0, seconds := 0, silentMax := 0, degradedRun := false } else x
  let x := if 0 < x.pc || beyond then { x with silentMax := max x.silentMax missing } else x
  let x := if beyond then { x with
      pc := min (x.pc + 1) n.persist, sumResid := x.sumResid + roundDiv r 1000, sumMeas := x.sumMeas + sumE.natAbs,
      seconds := x.seconds + 1, degradedRun := x.degradedRun || degraded }
    else { x with pc := x.pc - 1 }
  if !x.alarmed && decide (n.persist ≤ x.pc) then ({ x with alarmed := true }, 1)
  else if x.alarmed && x.pc == 0 then ({ x with alarmed := false }, 2)
  else (x, 0)

/-- An INCOMPLETE second leaves PC unchanged; it lies in a run in progress, whose largest MISSING_N it takes part in (R262, R264). -/
def NodeState.waits (x : NodeState) (missing : Nat) : NodeState :=
  if x.pc = 0 then x else { x with silentMax := max x.silentMax missing }

/-- Evaluates one node (R260 to R263, R268). -/
def evaluateNode (g : SigConfig) (i : NodeIn) (x : NodeState) : NodeOut :=
  let n := i.node
  let s := i.children.foldl (fun acc c => acc.add c.1) i.slot.energy
  let invalid := n.source != 0 && i.meas.isNone
  let incomplete := i.waiting || invalid || i.change || i.children.any (·.2.1)
  let degraded := decide (0 < i.missing) || i.children.any (·.2.2)
  let m := i.meas.getD ⟨{}, {}, false⟩
  let measured := i.meas.isSome
  let loss := if measured then (m.i.map n.loss).sum else 0
  let r := if measured then 1000 * (m.e.sum - s.sum) - loss else 0
  let rho := (r * 100000).tdiv ((max (1000 * m.e.sum.natAbs) (1000 * n.floor) : Nat) : Int)
  let beyond := n.alarmEn && measured && !incomplete && decide (10 * n.relThr ≤ rho.natAbs) && decide (1000 * n.absThr ≤ r.natAbs)
  let good := measured && !incomplete
  let steps := if good && x.okBefore && x.lastSecond + 1 == i.second then
      let dr := roundDiv (r - x.resid) 1000
      (i.slot.steps.filter fun t => decide (g.stepW ≤ dr.natAbs) && decide (100 * (dr + t.2).natAbs ≤ g.stepTol * t.2.natAbs)).map
        fun t => (t.1, t.2, dr)
    else []
  let (y, change) := if incomplete then (x.waits i.missing, 0) else x.persist n i.second beyond degraded r m.e.sum i.missing
  let y := { y with incomplete := incomplete, degraded := degraded, resid := r, okBefore := good, lastSecond := i.second }
  let flags := b2n incomplete + 2 * b2n degraded + 4 * b2n (n.source == 0) + 8 * b2n invalid + 16 * b2n i.part
    + 64 * b2n i.change + 128 * b2n beyond + 256 * b2n y.alarmed + 512 * b2n i.retro + 1024 * b2n i.slot.stepOvf
  { state := y
    result := resultRecord i.second i.number flags m.e s m.i (roundDiv loss 1000) (roundDiv r 1000) (rho.tdiv 10)
      i.slot.cover i.missing y.pc
    alarm := if change = 0 then none
      else some (change == 2, alarmRecord i.second i.number n y i.epoch (change == 2) i.retro false)
    contrib :=
      if measured then (m.e, incomplete, degraded)
      else if invalid then (s.map (· + roundDiv (n.loss 0) 1000), incomplete, true)
      else (s, incomplete, degraded)
    steps := steps
    incomplete := incomplete }

/-- Own meters of a node. -/
def ValTree.own (t : ValTree) (n : Nat) : List ValMap := t.maps.filter fun m => m.node == n

/-- MISSING_N and whether a meter is pending, of a node in a second (R261). -/
def State.uncovered (s : State) (t : ValTree) (n second : Nat) (b : BalanceSlot) : Nat × Bool :=
  let own := t.own n
  let u := own.length - (b.cover + b.nodata)
  if u = 0 then (b.nodata, false) else
  let sec := second % 2 ^ 32
  let pending := (own.filter fun m =>
    let l := (s.meterRec m.meter).val.lastS
    l != 0 && decide (l < sec) && decide (sec - l ≤ s.get Fl.VAL_CFG_SILENT_S)).length
  (b.nodata + (u - pending), decide (0 < pending))

/-- The state of a node. -/
def State.valNode (s : State) (n : Nat) : NodeState := FMap.get {} s.val.nodes n

/-- Writes the state of a node. -/
def State.setValNode (s : State) (n : Nat) (x : NodeState) : State :=
  { s with val := { s.val with nodes := FMap.set {} s.val.nodes n x } }

/-- Evaluates the next node of the evaluation in progress. -/
def State.evalNext (s : State) (e : Evaluation) (n : Nat) : Evaluation × State :=
  match e.tree.nodes[n]? with
  | none => (e, s)
  | some node =>
    let slot := s.balance n e.second
    let (meas, part) := s.measureOf node e.second
    let (missing, waiting) := s.uncovered e.tree n e.second slot
    let children := ((List.range e.tree.nodes.length).filter fun k =>
        match e.tree.nodes[k]? with | some c => c.parent == n | none => false).map fun k => FMap.get ({}, false, false) e.contrib k
    let change := decide (e.second ≤ s.val.changeUntil)
    let g := s.sigConfig
    let o := evaluateNode g ⟨n, node, e.second, e.tree.epoch, slot, meas, part, missing, waiting, children, change, false⟩ (s.valNode n)
    let s := s.setValNode n o.state
    let s := if o.incomplete then s.bump Fl.VAL_INCOMPLETE_COUNT_COUNT else s
    let s := match o.alarm with
      | none => s
      | some (true, _) => s.raise 298 (le 2 n)
      | some (false, _) => (s.bump Fl.VAL_ALARM_COUNT_COUNT).raise 297 (le 2 n)
    let (sigs, s) := o.steps.foldl (fun (acc : List (Nat × Octets) × State) t =>
        match e.tree.maps.find? fun m => m.meter == t.1 with
        | none => acc
        | some m =>
          if m.noSig || !node.sigEn || g.off then acc else
          let record := signatureRecord e.tree.epoch m 5 e.second 1 e.second t.2.1 t.2.2 false
          let s := acc.2.modMeter t.1 fun r => { r with val := { r.val with steps := min (r.val.steps + 1) 0xFFFF } }
          ((t.1, record) :: acc.1, (s.bump Fl.VAL_SIG_COUNT_COUNT).raise 299 (le 4 t.1 ++ le 1 5))) (e.sigs, s)
    ({ e with
        contrib := FMap.set ({}, false, false) e.contrib n o.contrib
        results := (n, o.result) :: e.results
        alarms := match o.alarm with | some (_, r) => (n, r) :: e.alarms | none => e.alarms
        sigs := sigs }, s)

/-- A node that its evaluation did not reach: LATE and INCOMPLETE, its PC unchanged (R269). A virtual node has no E, L, r or ρ
(R260), which read as in its other results. The rest of the result is left open. -/
def State.lateNode (s : State) (e : Evaluation) (n : Nat) : Evaluation × State :=
  let (open', s) := s.freshOctets 44
  let x := s.valNode n
  let virtual := (e.tree.nodes[n]?).map (·.source) == some 0
  let open' := if virtual then zeros 12 ++ slice open' 12 12 ++ zeros 10 ++ slice open' 34 4 ++ zeros 6 else open'
  let resid := signed 32 (leAt open' 38 4)
  let flags := 0x21 + 4 * b2n virtual + 256 * b2n x.alarmed
  let record := withCheck (le 8 e.second ++ le 4 (n + 2 ^ 20) ++ le 4 flags ++ slice open' 0 38
    ++ le 2 (min x.pc 0xFFFF) ++ slice open' 38 6)
  let s := s.setValNode n { x with incomplete := true, resid := 1000 * resid, okBefore := false, lastSecond := e.second }
  ({ e with results := (n, record) :: e.results }, s.bump Fl.VAL_INCOMPLETE_COUNT_COUNT)

/-- Sorts numbered records by their number. -/
def byNumber (l : List (Nat × Octets)) : List Octets :=
  (l.foldl (fun (acc : List (Nat × Octets)) p =>
    (acc.takeWhile fun q => decide (q.1 ≤ p.1)) ++ p :: (acc.dropWhile fun q => decide (q.1 ≤ p.1))) []).map (·.2)

/-- Clears the slots of the seconds after the last point up to `second` (R255, R271). -/
def State.clearSlots (s : State) (second : Nat) : State :=
  let gone := (List.range (min (250 - s.val.tree.lag) (second - s.val.lastPoint))).map fun k => (second - k) % 256
  { s with val := { s.val with
      ring := s.val.ring.filter fun p => !gone.contains (p.1 % 256)
      metro := s.val.metro.filter fun p => decide (second < p.1 / 8192)
      station := s.val.station.filter fun p => decide (second < p.1)
      lastPoint := max s.val.lastPoint second } }

/-- The records of an evaluation are written in the order of R266. -/
def State.endEvaluation (s : State) (e : Evaluation) : State :=
  let s := { s with val := { s.val with running := none } }
  let s := (byNumber e.sigs).foldl (fun s r => s.journalVal r) s
  let s := (byNumber e.results).foldl (fun s r =>
    let s := (s.stage e.second r).note 2 r
    if s.flag Fl.VAL_DELIVERY_RESULTS then s.deliverVal r else s) s
  (byNumber e.alarms).foldl (fun s r => s.journalVal r) s

/-- The evaluation in progress is late or abandoned: the nodes not evaluated get late results (R269, R271). -/
def State.abandonEvaluation (s : State) : State :=
  match s.val.running with
  | none => s
  | some e =>
    let (e, s) := e.left.foldl (fun (acc : Evaluation × State) n => acc.2.lateNode acc.1 n) ({ e with left := [] }, s)
    s.endEvaluation e

/-- A valley evaluation point (R59, R260, R269 to R271): `inTime` nodes are evaluated before the next point. -/
def State.valleyPoint (s : State) (inTime : Nat) : State :=
  let lateWork := s.val.running.isSome
  let s := if lateWork then
      (({ s with crs := { s.crs with lateClasses := 3 :: s.crs.lateClasses } }).abandonEvaluation).raise 300 else s
  let t := s.val.tree
  let second := s.second - t.lag
  if s.second < t.lag ∨ second ≤ s.val.lastPoint then s
  else if !s.enabled 8 then s.clearSlots second
  else
    let order := (List.range t.nodes.length).reverse
    let e : Evaluation := ⟨second, t, order.drop inTime, [], [], [], []⟩
    let (e, s) := (order.take inTime).foldl (fun (acc : Evaluation × State) n => acc.2.evalNext acc.1 n) (e, s)
    let s := (s.clearSlots second).put64 Reg.VAL_EVAL_LO second
    if e.left.isEmpty then s.endEvaluation e else { s with val := { s.val with running := some e } }

/-! ### Commits, abort (R254, R270, R271) -/

/-- The trees of the last 8 epochs, newest first, each epoch once (R254). -/
def keepTrees (l : List ValTree) : List ValTree :=
  (l.foldl (fun (acc : List ValTree) t => if acc.any fun u => u.epoch == t.epoch then acc else acc ++ [t]) []).take 8

/-- A commit reaches the valley engine: `tree` is the new tree of a replace, none for a carried one. -/
def State.valCommit (s : State) (tree : Option ValTree) : State :=
  let s := match tree with
    | none => s
    | some t =>
      let old := s.val.tree
      let s := (List.range old.nodes.length).foldl (fun s n =>
        match old.nodes[n]? with
        | none => s
        | some node =>
          let x := s.valNode n
          if !x.alarmed then s
          else (s.journalVal (alarmRecord s.second n node x old.epoch true false true)).raise 298 (le 2 n)) s
      ({ s with val := { s.val with tree := t, held := keepTrees (t :: s.val.held), nodes := [], changeUntil := s.second } }).raise 302
  (List.range s.val.tree.nodes.length).foldl (fun s n =>
    match s.val.tree.nodes[n]? with
    | some node => if node.source = 1 ∧ (s.plan.eave node.eave).isNone then s.raise 301 (le 2 n) else s
    | none => s) s

/-- What VAL_NODE_STATE shows for a node (R275). -/
def State.nodeStateWord (s : State) (n : Nat) : Word :=
  if s.val.tree.nodes.length ≤ n then 0 else
  let x := s.valNode n
  BitVec.ofNat 32 (2 ^ 31 + 2 ^ 30 * b2n x.alarmed + 2 ^ 29 * b2n x.incomplete + 2 ^ 28 * b2n x.degraded + x.pc)

/-- What VAL_NODE_RESID shows for a node. -/
def State.nodeResidWord (s : State) (n : Nat) : Word :=
  if s.val.tree.nodes.length ≤ n then 0 else BitVec.ofNat 32 (fitInt 4 (roundDiv (s.valNode n).resid 1000))

end Sys2Proof.Machine
end

