-- ==== Sys2Proof/Machine/Retro.lean ====
section
/-!
DEFINITION. Machine/Retro.lean: retrospective valley runs over archived seconds (R272 to R274).
-/

namespace Sys2Proof.Machine

/-- An undefined code, a reserved field or a DATA_LEN that VALLEY_RETRO does not take. -/
def retroIllegal (c : Cmd) (p : RetroParams) : Bool :=
  decide (1 < p.sig.toNat) || decide (3 < p.func.toNat) || p.reserved != 0 || c.len != 0

/-- VALLEY_RETRO (R272). -/
def valleyRetroEffect (c : Cmd) (p : RetroParams) (s : State) : State :=
  let op := 0x30
  let tree := s.val.held.find? fun t => t.epoch == p.epoch.toNat
  if retroIllegal c p || (s.ring p.func.toNat p.ring.toNat).type != 2 then
    s.complete op c .illegal
  else if s.val.retro.isSome then s.complete op c .busy
  else if !s.enabled 8 then s.complete op c .state
  else match tree with
    | none => s.complete op c .stale
    | some t =>
      if p.toS.toNat < p.fromS.toNat ∨ 2678400 < p.toS.toNat - p.fromS.toNat ∨ s.get64 Reg.VAL_EVAL_LO ≤ p.toS.toNat
          ∨ (p.root.toNat ≠ 0xFFFF ∧ t.nodes.length ≤ p.root.toNat) then s.complete op c .range
      else
        let number := (s.val.retroNumber + 1) % 2 ^ 32
        let run : RetroRun := ⟨c, number, p.fromS.toNat, p.toS.toNat, p.root.toNat, p.sig == 1, p.ring.toNat, p.func.toNat,
          p.epoch.toNat, t⟩
        (({ s with val := { s.val with retro := some run, retroNumber := number } }).put Fl.VAL_RETRO_STATUS_PROGRESS 0).putFlag
          Fl.VAL_RETRO_STATUS_RUNNING true

/-- The archived records of a second and kind, with their meter index or node number. -/
def State.archived (s : State) (kind second : Nat) : List (Nat × Octets) :=
  ((s.arc.supers.map fun x => (x.runs.map (·.records)).flatten).flatten.filter fun o =>
    leAt o 8 4 / 2 ^ 20 == kind && leAt o 0 8 == second).map fun o => (leAt o 8 4 % 2 ^ 20, o)

/-- The nodes of the subtree of `root`, FFFFh for the whole tree, in ascending number. -/
def ValTree.subtree (t : ValTree) (root : Nat) : List Nat :=
  if root = 0xFFFF then List.range t.nodes.length
  else (List.range t.nodes.length).foldl (fun acc n =>
    let under := match t.nodes[n]? with | some x => acc.contains x.parent | none => false
    if n = root ∨ under = true then acc ++ [n] else acc) []

/-- What a run keeps from second to second: valley areas, node states and the records in delivery order, newest first. -/
structure RetroAcc where
  areas : FMap ValArea := []
  nodes : FMap NodeState := []
  records : List Octets := []

/-- The archived measurement of a node: none with MEAS_INVALID or without a record (R273). -/
def archivedMeasure (records : List (Nat × Octets)) (n : Nat) : Option Measure × Bool :=
  match lastOf records n with
  | none => (none, false)
  | some o =>
    let three := fun (off k : Nat) (sgn : Bool) =>
      let v := fun (j : Nat) => if sgn then signed 32 (leAt o (off + k * j) k) else ((leAt o (off + k * j) k : Nat) : Int)
      (⟨v 0, v 1, v 2⟩ : Three)
    let flags := leAt o 12 4
    if bitOf 3 flags then (none, bitOf 4 flags)
    else (some ⟨three 16 4 true, three 44 2 false, bitOf 4 flags⟩, bitOf 4 flags)
where
  lastOf (l : List (Nat × Octets)) (n : Nat) : Option Octets := (l.reverse.find? fun p => p.1 == n).map (·.2)

/-- The posting of one archived tile: its slot, the valley area, its signature records (R256, R267, R268). -/
def retroPost (g : SigConfig) (tree : ValTree) (sig : Bool) (m : ValMap) (t : Tile) (acc : RetroAcc × FMap BalanceSlot) :
    RetroAcc × FMap BalanceSlot :=
  let b := FMap.get {} acc.2 m.node
  if bitOf 0 t.flags then (acc.1, FMap.set {} acc.2 m.node { b with nodata := b.nodata + 1 })
  else
    let a := FMap.get {} acc.1.areas m.meter
    let b := { b with cover := b.cover + 1, energy := b.energy.add (byPhase m.phase t.reading) }
    let b := match stepOf g t a with
      | none => b
      | some d => if b.steps.length < 4 then { b with steps := b.steps ++ [(m.meter, d)] } else { b with stepOvf := true }
    let on := sig && !m.noSig && (match tree.nodes[m.node]? with | some n => n.sigEn | none => false)
    let (a, out) := if on then signatures g tree.epoch m t a true true else (a, [])
    ({ acc.1 with
        areas := FMap.set {} acc.1.areas m.meter (a.posted t false)
        records := (out.map (·.2)).reverse ++ acc.1.records }, FMap.set {} acc.2 m.node b)

/-- One second of a run (R273). -/
def State.retroSecond (s : State) (r : RetroRun) (acc : RetroAcc) (second : Nat) : RetroAcc :=
  let g := s.sigConfig
  let tree := r.tree
  let tiles := s.archived 0 second
  let results := s.archived 1 second
  let sub := tree.subtree r.root
  let maps := tree.maps.filter fun m => sub.contains m.node
  let posted := maps.foldl (fun (x : RetroAcc × FMap BalanceSlot) m =>
    let mine := tiles.filter fun p => p.1 == m.meter
    match (mine.reverse.find? fun p => !bitOf 0 (leAt p.2 12 4)).orElse fun _ => mine.head? with
    | none => x
    | some p => retroPost g tree r.sig m (tileOf p.2) x) (acc, [])
  let step := fun (x : RetroAcc × FMap (Three × Bool × Bool) × List (Nat × Octets) × List (Nat × Octets) × List (Nat × Octets)) n =>
    match tree.nodes[n]? with
    | none => x
    | some node =>
      let b := FMap.get {} posted.2 n
      let (meas, part) := if node.source = 0 then (none, false) else archivedMeasure results n
      let missing := (tree.own n).length - b.cover
      let children := (sub.filter fun k => match tree.nodes[k]? with | some c => c.parent == n && k != n | none => false).map
        fun k => FMap.get ({}, false, false) x.2.1 k
      let o := evaluateNode g ⟨n, node, second, tree.epoch, b, meas, part, missing, false, children, false, true⟩
        (FMap.get {} x.1.nodes n)
      let sigs := (o.steps.filter fun t => r.sig && node.sigEn && !g.off &&
          (match tree.maps.find? fun m => m.meter == t.1 with | some m => !m.noSig | none => false)).map fun t =>
        let m := (tree.maps.find? fun m => m.meter == t.1).getD ⟨t.1, n, 0, false, false⟩
        (t.1, signatureRecord tree.epoch m 5 second 1 second t.2.1 t.2.2 true)
      ({ x.1 with nodes := FMap.set {} x.1.nodes n o.state },
        FMap.set ({}, false, false) x.2.1 n o.contrib,
        sigs ++ x.2.2.1, (n, o.result) :: x.2.2.2.1,
        match o.alarm with | some (_, a) => (n, a) :: x.2.2.2.2 | none => x.2.2.2.2)
  let done := sub.reverse.foldl step (posted.1, [], [], [], [])
  let out := byNumber done.2.2.1 ++ byNumber done.2.2.2.1 ++ byNumber done.2.2.2.2
  { done.1 with records := out.reverse ++ done.1.records }

/-- The records of a run in delivery order. -/
def State.retroRecords (s : State) (r : RetroRun) : List Octets :=
  ((List.range (r.toS + 1 - r.fromS)).foldl (fun acc k => s.retroSecond r acc (r.fromS + k)) {}).records.reverse

/-- The run is over: RUNNING 0. -/
def State.retroClear (s : State) : State :=
  ({ s with val := { s.val with retro := none } }).putFlag Fl.VAL_RETRO_STATUS_RUNNING false

/-- An ABORT of VAL ends the run in progress: its command completes with ABORTED (R271). -/
def State.retroAbort (s : State) : State :=
  match s.val.retro with
  | none => s
  | some r => s.retroClear.complete 0x30 r.cmd .aborted

/-- The run summary of the valley journal (R274). -/
def RetroRun.summary (r : RetroRun) (records : Nat) (digest : Octets) : Octets :=
  le 4 r.number ++ le 8 r.fromS ++ le 8 r.toS ++ le 2 r.root ++ le 1 (b2n r.sig) ++ le 1 r.ring ++ le 1 r.func ++ zeros 3
    ++ le 4 r.epoch ++ le 4 records ++ digest

/-- RETRO_RUN_END: the run has evaluated its span; shed step 2 holds it (R273, R274, R292). -/
def retroRunEndEffect (s : State) : State :=
  match s.val.retro with
  | none => s
  | some r =>
    if 2 ≤ s.get Fl.SWC_SHED_LEVEL then s
    else
      let records := s.retroRecords r
      let s := records.foldl (fun s o => (s.deliverTile r.func r.ring o).2) s
      let digest := sha256 records.flatten
      let s := (s.journal (r.summary records.length digest)).put Fl.VAL_RETRO_STATUS_PROGRESS 100
      let result := le 4 r.number ++ le 4 records.length ++ zeros 8 ++ digest
      (s.retroClear.complete 0x30 r.cmd .ok 0 result).raise 303

/-- PARAMS of VALLEY_RETRO in its descriptor (Table 11.5). -/
def retroOctets (p : RetroParams) : Octets :=
  le 8 p.fromS.toNat ++ le 8 p.toS.toNat ++ le 2 p.root.toNat ++ ([p.sig, p.ring, p.func] : Octets) ++ le 3 p.reserved.toNat
    ++ le 4 p.epoch.toNat

def execValleyRetro (c : Cmd) (p : RetroParams) (s : State) : Answer :=
  .next (s.writeCommand 0x30 c (retroOctets p) [] (retroIllegal c p) (valleyRetroEffect c p))
def execRetroRunEnd (s : State) : Answer := .next (retroRunEndEffect s)

end Sys2Proof.Machine
end

