-- ==== Sys2Proof/Machine/Key.lean ====
section
/-!
DEFINITION. Machine/Key.lean: the key engine (chapter 13): key slots and the verification list, life-cycle roots, per-meter
derivation, attestation, the entropy source and the DRBG.
-/

namespace Sys2Proof.Machine

/-- A key slot. -/
def State.keySlot (s : State) (k : Nat) : KeySlot := FMap.get {} s.key.slots k

/-- The slot bound to a purpose, if any. -/
def State.boundSlot (s : State) (purpose : Nat) : Option Nat :=
  match FMap.get 0 s.key.bindings purpose with
  | 0 => none
  | k + 1 => some k

/-- The purpose bound to a slot, 00h for none. -/
def State.purposeOf (s : State) (slot : Nat) : Nat :=
  ([1, 2, 3, 4].find? fun p => s.boundSlot p == some slot).getD 0

/-- The key check value of R390. -/
def keyCheckValue (key : Octets) : Octets := (cmac key (ascii "WG20-KEY-CHECK-V")).take 8

/-- The KEY registers that show slots, bindings and the verification list follow the engine (R413). -/
def State.keySync (s : State) : State :=
  let s := s.put Fl.KEY_SLOTS_USED_COUNT ((s.key.slots.filter fun p => p.2.loaded).length)
  let s := [1, 2, 3, 4].foldl (fun s p =>
    let k := FMap.get 0 s.key.bindings p
    (s.putFlag (Fl.KEY_PURPOSE_BOUND p) (k != 0)).put (Fl.KEY_PURPOSE_SLOT p) (k - 1)) s
  (List.range 8).foldl (fun s v =>
    let id := (FMap.get ({} : VKey) s.key.vlist v).keyId
    (s.put (Fl.KEY_VKEY_ID_LO_KEY_ID v) id).put (Fl.KEY_VKEY_ID_HI_KEY_ID v) (id / 2 ^ 32)) s

/-- The slots and bindings now in force are those that work of the next course uses (R398). -/
def State.keyCourseStart (s : State) : State :=
  { s with key := { s.key with courseSlots := s.key.slots, courseBindings := s.key.bindings } }

/-- The key image of the present slots, bindings, list and life-cycle code (R406). -/
def State.keyImage (s : State) : KeyImage :=
  { slots := s.key.slots, bindings := s.key.bindings, vlist := s.key.vlist, lc := s.get Fl.OTP_LIFECYCLE_CODE }

/-- The unit of region STORE that holds the key image. Its place there is the model's. -/
def keyUnit : Nat := 65535

/-- Stores the key image after a slot change, or notes that it is not yet stored (R406). -/
def State.keyStore (s : State) : State :=
  if s.flag Fl.ARC_STATE_MOUNTED then
    { s with
      key := { s.key with stored := some s.keyImage }
      arc := { s.arc with hotOwed := s.arc.hotOwed.filter (· != keyUnit) ++ [keyUnit] } }
  else s.putFlag Fl.KEY_ENGINE_STATE_UNSTORED true

/-- A command that changed the key image ends OK and raises its event: at once while the archive is not mounted, else once the image is
written (R394, R406). -/
def State.keyDone (s : State) (op : Nat) (c : Cmd) (result : Octets) (event index : Nat) : State :=
  if s.flag Fl.ARC_STATE_MOUNTED && !s.rdg.applying then
    { s with arc := { s.arc with hostWrites := s.arc.hostWrites ++ [⟨op, c, [keyUnit], result, some (event, index)⟩] } }
  else (s.complete op c .ok 0 result).raise event (le 1 index)

/-- Loads a slot: its binding ends unless this change names it again, then `purpose` is bound (R394). -/
def State.keyLoad (s : State) (slot attr : Nat) (key : Octets) (origin purpose : Nat) : State :=
  let cleared := FMap.mapVals 0 (fun _ k => if k = slot + 1 then 0 else k) s.key.bindings
  let bound := if purpose = 0 then cleared else FMap.set 0 cleared purpose (slot + 1)
  let entry : KeySlot :=
    { loaded := true, attr := attr, key := key, origin := origin, kcv := keyCheckValue key, loadCourse := s.course }
  let s := { s with key := { s.key with slots := FMap.set {} s.key.slots slot entry, bindings := bound } }
  (s.keySync.keyCourseStart).keyStore

/-- Attribute codes of Table 13.1. -/
def attrDefined (a : Nat) : Bool := decide (1 ≤ a) && decide (a ≤ 4)

/-- Row 1 of Table 13.2 for KEY_WRITE, with the fields R392 reserves for each variant. -/
def keyWriteIllegal (p : KeyWriteParams) (dataLen : Nat) : Bool :=
  let purposeBad := p.purpose != 0 && (p.attr != 4 || decide (4 < p.purpose.toNat))
  if p.target = 0 then
    p.keyId != 0 || !attrDefined p.attr.toNat || (p.len != 0x10 && p.len != 0x20) || decide (1 < p.replace.toNat)
      || purposeBad
      || (if p.format = 1 then p.wrapSlot != 0 || dataLen != p.len.toNat
          else if p.format = 2 then dataLen != p.len.toNat + 8 else true)
  else if p.target = 1 then
    p.attr != 0 || p.format != 0 || p.len != 0 || p.wrapSlot != 0 || p.purpose != 0 || decide (1 < p.replace.toNat)
      || dataLen != 64
  else true

/-- Row 2 of Table 13.2 for a slot. -/
def State.slotStateBad (s : State) (slot attr replace purpose : Nat) : Bool :=
  let k := s.keySlot slot
  (k.loaded && replace == 0) || (k.loaded && replace == 1 && k.attr != attr)
    || (purpose != 0 && (match s.boundSlot purpose with | some b => b != slot | none => false))

/-- KEY_WRITE takes effect (R392 to R394). -/
def keyWriteEffect (c : Cmd) (p : KeyWriteParams) (data : Octets) (s : State) : State :=
  let op := 0x40
  let slot := p.index.toNat
  if keyWriteIllegal p data.length then s.complete op c .illegal
  else if p.target = 0 then
    let wrap := s.keySlot p.wrapSlot.toNat
    if s.slotStateBad slot p.attr.toNat p.replace.toNat p.purpose.toNat
        || (p.format == 2 && !(wrap.loaded && wrap.attr == 3)) then s.complete op c .state
    else
      match (if p.format = 2 then kwUnwrap wrap.key data else some data) with
      | none =>
        let s := s.bump Fl.KEY_UNWRAP_FAIL_COUNT_COUNT
        (s.raise 479 (le 1 slot)).complete op c .auth
      | some key =>
        let s := s.keyLoad slot p.attr.toNat key (if p.format = 2 then 1 else 0) p.purpose.toNat
        s.keyDone op c (keyCheckValue key) 475 slot
  else
    let e := FMap.get ({} : VKey) s.key.vlist slot
    let x := beAt data 0 32
    let y := beAt data 32 32
    if e.keyId != 0 && p.replace == 0 then s.complete op c .state
    else if decide (7 < slot) || p.keyId == 0
        || s.key.vlist.any (fun q => q.1 != slot && q.2.keyId == p.keyId.toNat)
        || !onCurve x y then s.complete op c .range
    else
      let s := { s with key := { s.key with vlist := FMap.set {} s.key.vlist slot ⟨p.keyId.toNat, x, y⟩ } }
      let s := s.keySync.keyStore
      s.keyDone op c (zeros 8) 475 slot

/-- The key that a DEVICE generation derives from the life-cycle root in force (R395). -/
def State.deviceKey (s : State) (label : Octets) (attr len : Nat) : Octets :=
  kdf s.key.lcRoot (ascii "WG20-DEVKEY") (label ++ be 1 attr) (8 * len)

/-- Row 1 of Table 13.2 for KEY_GENERATE, with the fields R395 reserves. -/
def keyGenerateIllegal (p : KeyGenParams) : Bool :=
  !attrDefined p.attr.toNat || (p.len != 0x10 && p.len != 0x20) || (p.mode != 1 && p.mode != 2)
    || decide (1 < p.replace.toNat) || (p.purpose != 0 && (p.attr != 4 || decide (4 < p.purpose.toNat)))
    || p.label.length != 16 || (p.mode == 1 && !allZero p.label)

/-- Draws `k` octets from the DRBG: free octets (R409, R410). -/
def State.drbg (s : State) (k : Nat) : Octets × State :=
  State.freshOctets k { s with key := { s.key with requests := s.key.requests + 1 } }

/-- KEY_GENERATE takes effect (R394 to R396, R412). Octets held with the command are loaded; where none are held, MODE
RANDOM draws them here and MODE DEVICE derives them. -/
def keyGenerateEffect (c : Cmd) (p : KeyGenParams) (s : State) : State :=
  let op := 0x41
  let slot := p.slot.toNat
  let held := p.drawn.length == p.len.toNat
  if keyGenerateIllegal p then s.complete op c .illegal
  else if s.slotStateBad slot p.attr.toNat p.replace.toNat p.purpose.toNat then s.complete op c .state
  else if p.mode = 1 && !held && s.get Fl.KEY_ENGINE_STATE_RNG == 3 then s.complete op c .hwFault
  else if p.mode = 2 && !held && !(s.otp.identValid && s.otp.rootseedValid) then s.complete op c .hwFault
  else
    let (key, s) :=
      if held then (p.drawn, s)
      else if p.mode = 1 then s.drbg p.len.toNat
      else (s.deviceKey p.label p.attr.toNat p.len.toNat, s)
    let s := s.keyLoad slot p.attr.toNat key (if p.mode = 1 then 2 else 3) p.purpose.toNat
    s.keyDone op c (keyCheckValue key) 476 slot

/-- KEY_DESTROY takes effect (R397). -/
def keyDestroyEffect (c : Cmd) (target index : Byte) (s : State) : State :=
  let op := 0x42
  let i := index.toNat
  if 1 < target.toNat then s.complete op c .illegal
  else if target = 1 then
    if 7 < i then s.complete op c .range
    else if (FMap.get ({} : VKey) s.key.vlist i).keyId = 0 then s.complete op c .ok
    else
      let s := { s with key := { s.key with vlist := FMap.set {} s.key.vlist i {} } }
      s.keySync.keyStore.keyDone op c [] 477 i
  else if !(s.keySlot i).loaded then s.complete op c .ok
  else
    let s := { s with key := { s.key with
      slots := FMap.set {} s.key.slots i {},
      bindings := FMap.mapVals 0 (fun _ k => if k = i + 1 then 0 else k) s.key.bindings } }
    s.keySync.keyCourseStart.keyStore.keyDone op c [] 477 i

/-- The identity private key of R401 from a ROOTSEED and a serial. -/
def identityKey (rootseed : Octets) (serial : Nat) : Nat :=
  unBe (kdf rootseed (ascii "WG20-IDENTITY") (be 8 serial) 320) % (p256N - 1) + 1

/-- The life-cycle root of Table 13.4 for a life-cycle code and a measurement. -/
def lifecycleRoot (rootseed : Octets) (code : Nat) (m : Octets) : Octets :=
  kdf rootseed (ascii "WG20-LCROOT") (be 1 code ++ (if code = 1 ∨ code = 4 then m else zeros 32)) 256

/-- Octets 0 to 127 of the attestation statement (Table 13.5). -/
def State.statement (s : State) (slot : Nat) (nonce : Octets) : Octets :=
  let k := s.keySlot slot
  let lc := s.get Fl.OTP_LIFECYCLE_CODE
  let flags := b2n (k.origin == 2 || k.origin == 3) + 2 + 4 * b2n s.paired + 8 * b2n (lc == 1 || lc == 4)
  [0x57#8, 0x47#8, 0x41#8, 0x54#8] ++ le 2 1 ++ le 1 lc ++ le 1 (s.get Fl.GLB_DEVICE_ID_STEPPING)
    ++ le 8 s.otp.serial ++ le 8 s.course ++ le 1 slot ++ le 1 k.attr ++ le 1 k.key.length ++ le 1 k.origin
    ++ le 1 (s.purposeOf slot) ++ le 1 flags ++ zeros 2 ++ padTo 8 k.kcv
    ++ le 8 (if s.paired then s.get64 Reg.RDG_PARTNER_LO else 0) ++ padTo 32 s.key.measure ++ padTo 32 nonce
    ++ le 8 k.loadCourse ++ zeros 8

/-- KEY_ATTEST runs at its acceptance (R405). -/
def keyAttestEffect (c : Cmd) (slot : Byte) (nonce : Octets) (s : State) : State :=
  let op := 0x43
  let k := s.keySlot slot.toNat
  if c.len ≠ 192 ∨ nonce.length ≠ 32 then s.complete op c .illegal
  else if !k.loaded then s.complete op c .state
  else if !(s.otp.identValid && s.otp.rootseedValid) then s.complete op c .hwFault
  else
    let m := s.statement slot.toNat nonce
    let sig := ecdsaSign (identityKey s.otp.rootseed s.otp.serial) m
    (s.returnData c (m ++ be 32 sig.1 ++ be 32 sig.2)).complete op c .ok 0 k.kcv

/-- RANDOM_READ runs at its acceptance (R410, R411). -/
def randomReadEffect (c : Cmd) (s : State) : State :=
  let op := 0x44
  let n := c.len.toNat
  if n = 0 ∨ 4096 < n then s.complete op c .illegal
  else if s.get Fl.KEY_ENGINE_STATE_RNG = 3 then s.complete op c .hwFault
  else if s.get Fl.KEY_ENGINE_STATE_RNG ≠ 1 ∨ s.key.reseedWaiting then
    (s.returnData c (zeros n)).complete op c .notReady
  else
    let (bs, s) := s.drbg n
    (s.returnData c bs).complete op c .ok

/-- A health test fails (R408): counted, raised, and the state moves on as Table 13.6 gives. -/
def State.rngFail (s : State) : State :=
  let clear := { s.key with passing := 0, rctLast := 256, rctRun := 0, aptFirst := 0, aptMatches := 0, aptSeen := 0 }
  let s := ({ s with key := clear }).raise 473
  if s.get Fl.KEY_ENGINE_STATE_RNG = 1 then s.put Fl.KEY_ENGINE_STATE_RNG 2
  else
    let n := s.key.failedStarts + 1
    let s := { s with key := { s.key with failedStarts := n } }
    if 3 ≤ n then (s.put Fl.KEY_ENGINE_STATE_RNG 3).raise 474 else s

/-- 1,024 consecutive samples passed: the DRBG is instantiated and the state is READY (R408, R409). -/
def State.rngReady (s : State) : State :=
  let s := { s with key := { s.key with passing := 0, failedStarts := 0, requests := 0, reseedWaiting := false } }
  (s.put Fl.KEY_ENGINE_STATE_RNG 1).raise 472

/-- A noise sample arrives and passes through both health tests (R408). In FAILED it has no effect until the next reset. -/
def entropySampleEffect (sample : Byte) (s : State) : State :=
  let v := sample.toNat
  let rng := s.get Fl.KEY_ENGINE_STATE_RNG
  let s := if s.get Fl.OTP_LIFECYCLE_CODE = 1 then { s with key := { s.key with noise := s.key.noise ++ [sample] } } else s
  if rng = 3 then s else
  let run := if v = s.key.rctLast then s.key.rctRun + 1 else 1
  let seen := if s.key.aptSeen = 512 then 0 else s.key.aptSeen
  let first := if seen = 0 then v else s.key.aptFirst
  let matched := if seen = 0 then 1 else if v = first then s.key.aptMatches + 1 else s.key.aptMatches
  let s := { s with key := { s.key with
    rctLast := v, rctRun := run, aptFirst := first, aptMatches := matched, aptSeen := seen + 1 } }
  if 81 ≤ run then (s.bump Fl.KEY_RCT_FAIL_COUNT_COUNT).rngFail
  else if 460 ≤ matched then (s.bump Fl.KEY_APT_FAIL_COUNT_COUNT).rngFail
  else if rng = 1 then s
  else
    let s := { s with key := { s.key with passing := s.key.passing + 1 } }
    if s.key.passing = 1024 then s.rngReady else s

/-- The DRBG reseeds after 2^20 requests or 1 s (R409); it waits while the source is not READY. -/
def drbgReseedEffect (s : State) : State :=
  if s.get Fl.KEY_ENGINE_STATE_RNG = 1 then
    { s with key := { s.key with requests := 0, reseedWaiting := false } }
  else { s with key := { s.key with reseedWaiting := true } }

/-- Context of a derivation purpose (Table 13.3). -/
def purposeLabel : Nat → Octets
  | 1 => ascii "G3PSK"
  | 2 => ascii "G3GMK"
  | 3 => ascii "RCCM"
  | _ => ascii "YELM"

/-- Derives the 128-bit key of a purpose from the slot bound at the start of the course (R398, R402). With no binding it
answers none and raises KEY_ROOT_MISSING at most once per purpose per second (R403). -/
def State.deriveKey (s : State) (purpose : Nat) (context : Octets) : Option Octets × State :=
  match FMap.get 0 s.key.courseBindings purpose with
  | 0 =>
    let sec := s.second + 1
    if FMap.get 0 s.key.rootMissing purpose = sec then (none, s)
    else
      let s := { s with key := { s.key with rootMissing := FMap.set 0 s.key.rootMissing purpose sec } }
      (none, s.raise 480 (le 1 purpose))
  | k + 1 =>
    let root := (FMap.get ({} : KeySlot) s.key.courseSlots k).key
    let n := s.key.derivations + 1
    let s := { s with key := { s.key with derivations := n % 1000 } }
    let s := if n = 1000 then s.bump Fl.KEY_DERIVE_COUNT_COUNT else s
    (some (kdf root (purposeLabel purpose) context 128), s)

/-- All 256 slots are overwritten, every binding ends, and the emptied image is written (R407). -/
def State.keyZeroise (s : State) : State :=
  let s := { s with key := { s.key with slots := [], bindings := [] } }
  s.keySync.keyCourseStart.keyStore.raise 478

/-- The key image at a mount (R406): the slots of SRAM are written, or the image is read back or discarded. -/
def State.keyAtMount (s : State) : State :=
  if s.flag Fl.KEY_ENGINE_STATE_UNSTORED then
    ({ s with key := { s.key with stored := some s.keyImage } }).putFlag Fl.KEY_ENGINE_STATE_UNSTORED false
  else
    match s.key.stored with
    | none => s
    | some im =>
      if !im.digestOk then s.raise 482
      else if im.lc ≠ s.get Fl.OTP_LIFECYCLE_CODE then
        (({ s with key := { s.key with vlist := im.vlist } }).keySync).raise 482
      else
        (({ s with key := { s.key with slots := im.slots, bindings := im.bindings, vlist := im.vlist } }).keySync).raise 481

/-- The life-cycle root of the state in force, and KEY_ENGINE_STATE.LC (R395, R407). -/
def State.lcRootSync (s : State) : State :=
  let code := s.get Fl.OTP_LIFECYCLE_CODE
  let root := if s.otp.rootseedValid then lifecycleRoot s.otp.rootseed code s.key.measure else []
  ({ s with key := { s.key with lcRoot := root } }).put Fl.KEY_ENGINE_STATE_LC code

/-- Start-up ends: the life-cycle root in force, the identity public key and the final M become visible (R399, R401). -/
def State.keyStart (s : State) : State :=
  let q := if s.otp.identValid && s.otp.rootseedValid then p256Public (identityKey s.otp.rootseed s.otp.serial) else (0, 0)
  let s := (s.lcRootSync).putFlag Fl.KEY_ENGINE_STATE_START_DONE true
  (List.range 8).foldl (fun s w =>
    ((s.put (Fl.KEY_IDPUB_X_VALUE w) (beAt (be 32 q.1) (4 * w) 4)).put (Fl.KEY_IDPUB_Y_VALUE w)
      (beAt (be 32 q.2) (4 * w) 4)).put (Fl.KEY_MEASURE_VALUE w) (beAt s.key.measure (4 * w) 4)) s

/-- PARAMS of KEY_WRITE in its descriptor (Table 11.5). -/
def keyWriteOctets (p : KeyWriteParams) : Octets :=
  ([p.target, p.index, p.attr, p.format, p.len, p.wrapSlot, p.purpose, p.replace] : Octets) ++ le 8 p.keyId.toNat

/-- PARAMS of KEY_GENERATE in its descriptor (Table 11.5). -/
def keyGenOctets (p : KeyGenParams) : Octets :=
  ([p.slot, p.attr, p.len, p.mode, p.purpose, p.replace] : Octets) ++ zeros 2 ++ padTo 16 p.label

def execKeyWrite (c : Cmd) (p : KeyWriteParams) (data : Octets) (s : State) : Answer :=
  .next (s.writeCommand 0x40 c (keyWriteOctets p) data (keyWriteIllegal p data.length) (keyWriteEffect c p data))

/-- A KEY_GENERATE with MODE RANDOM waits at the head of its ring's cache in STARTUP and RESTART (R396). -/
def State.waitsForRandom (s : State) (p : KeyGenParams) : Bool :=
  p.mode == 1 && p.drawn.length != p.len.toNat && (s.get Fl.KEY_ENGINE_STATE_RNG == 0 || s.get Fl.KEY_ENGINE_STATE_RNG == 2)

def execKeyGenerate (c : Cmd) (p : KeyGenParams) (s : State) : Answer :=
  .next (s.writeCommand 0x41 c (keyGenOctets p) [] (keyGenerateIllegal p || c.len != 0) (fun t =>
    if t.waitsForRandom p then s.cacheCommand 0x41 c (keyGenOctets p) [] else keyGenerateEffect c p t))

def execKeyDestroy (c : Cmd) (target index : Byte) (s : State) : Answer :=
  .next (s.writeCommand 0x42 c (le 1 target.toNat ++ le 1 index.toNat) [] (decide (1 < target.toNat) || c.len != 0) (keyDestroyEffect c target index))

def execKeyAttest (c : Cmd) (slot : Byte) (nonce : Octets) (s : State) : Answer :=
  .next (s.readCommand 0x43 c (keyAttestEffect c slot nonce))

def execRandomRead (c : Cmd) (s : State) : Answer := .next (s.readCommand 0x44 c (randomReadEffect c))

def execDrbgReseed (s : State) : Answer := .next (drbgReseedEffect s)

end Sys2Proof.Machine
end

