-- ==== Sys2Proof/Machine/Arc.lean ====
section
/-!
DEFINITION. Machine/Arc.lean: the archive and its slate hubs (chapter 10): links, credits, revocation, the format, the cold and
the hot stream, parity and verification, retention, scans.
-/

namespace Sys2Proof.Machine

/-! ### Places: hubs, dies, stripes, bands (R300, R301, R303) -/

/-- A hub position. -/
def State.hub (s : State) (h : Nat) : Hub := FMap.get {} s.arc.hubs h

/-- Replaces a hub position. -/
def State.setHub (s : State) (h : Nat) (x : Hub) : State := { s with arc := { s.arc with hubs := FMap.set {} s.arc.hubs h x } }

/-- Changes a hub position. -/
def State.modHub (s : State) (h : Nat) (f : Hub → Hub) : State := s.setHub h (f (s.hub h))

/-- A band. -/
def State.band (s : State) (b : Nat) : Band := FMap.get {} s.arc.bands b

/-- Changes a band. -/
def State.modBand (s : State) (b : Nat) (f : Band → Band) : State :=
  { s with arc := { s.arc with bands := FMap.set {} s.arc.bands b (f (s.band b)) } }

/-- The Media groups of a plan in ascending order, with their lane masks. -/
def Plan.media (p : Plan) : List (Nat × Nat) :=
  ((List.range p.roles.length).zip p.roles).filterMap fun x => if x.2.1 = 2 then some (x.1, x.2.2) else none

/-- The hubs that a plan's Media groups number, with their group and lane (R300). -/
def Plan.hubs (p : Plan) : List (Nat × Nat × Nat) :=
  let m := p.media
  (((List.range m.length).zip m).map fun x =>
    ((List.range 8).filter fun i => bitOf i x.2.2).map fun i => (8 * x.1 + i, x.2.1, 8 * x.2.1 + i)).flatten

/-- The lane carries a role: its group's lane mask has its bit set and the role's code is `role`. -/
def Plan.laneHas (p : Plan) (lane role : Nat) : Bool :=
  let r := p.roles.getD (lane / 8) (0, 0)
  r.1 == role && bitOf (lane % 8) r.2

/-- What the format records of a hub. -/
def Format.hub (f : Format) (h : Nat) : Option HubFmt := FMap.get none f.hubs h

/-- Where hub `h` sits: as the format records, or as the plan in force numbers it while nothing is formatted. -/
def State.hubLane (s : State) (h : Nat) : Option Nat :=
  match s.arc.format with
  | some f => (f.hub h).map (·.lane)
  | none => ((s.plan.hubs.find? fun x => x.1 == h).map fun x => x.2.2)

/-- The hub is present and its group is trained (R300, R34). -/
def State.hubPresent (s : State) (h : Nat) : Bool :=
  match s.hubLane h with
  | some l => s.plan.laneHas l 2 && s.flag (Fl.LANE_GRP_STATUS_TRAINED (l / 8))
  | none => false

/-- The hubs of group ordinal `k` in ascending order, with what the format records of them. -/
def Format.members (f : Format) (k : Nat) : List (Nat × HubFmt) :=
  (List.range 8).filterMap fun i => (f.hub (8 * k + i)).map fun x => (8 * k + i, x)

/-- The geometry of the stripe, that of its first member (R301). -/
def Format.geom (f : Format) (stripe : Nat) : Option Geometry := (f.members (stripe / 128)).head?.map (·.2.geom)

/-- W of a stripe. -/
def Format.width (f : Format) (stripe : Nat) : Nat := (f.members (stripe / 128)).length

/-- Octets of a page of a stripe. -/
def Format.pageSize (f : Format) (stripe : Nat) : Nat := match f.geom stripe with | some g => 1024 * g.pageKib | none => 0

/-- Pages per block of a stripe in the cell mode of the format. -/
def Format.pages (f : Format) (stripe : Nat) : Nat :=
  match f.geom stripe with | some g => g.pages.getD (f.mode - 1) 0 | none => 0

/-- Octets of a band of a stripe: W × PAGES × PAGE. -/
def Format.bandSize (f : Format) (stripe : Nat) : Nat := f.width stripe * f.pages stripe * f.pageSize stripe

/-- Stripe of a band number (Table 10.9). -/
def stripeOf (b : Nat) : Nat := b % 2048

/-- A die by its number D = 128 h + 8 c + d. -/
def State.die (s : State) (d : Nat) : Die := FMap.get {} s.arc.dies d

/-- Changes a die. -/
def State.modDie (s : State) (d : Nat) (f : Die → Die) : State :=
  { s with arc := { s.arc with dies := FMap.set {} s.arc.dies d (f (s.die d)) } }

/-- The good blocks of die D: without the anchor blocks on channel 0, die 0, and without bad ones (R303). -/
def State.goodBlocks (s : State) (g : Geometry) (d : Nat) : List Nat :=
  (List.range g.blocks).filter fun b => !(d % 128 == 0 && decide (b < 2)) && !(s.die d).bad.contains b

/-- Blocks of a die held as spares when `n` blocks were good: the last SPARE % of them. -/
def spareCount (spare n : Nat) : Nat := n * spare / 100

/-- The die number of channel and die `s mod 128` on hub `h`. -/
def dieNumber (h stripe : Nat) : Nat := 128 * h + stripe % 128

/-- The physical block of logical block `b` of a die (R303, R324). -/
def State.physical (s : State) (g : Geometry) (d b : Nat) : Nat :=
  match FMap.get 0 (s.die d).moved b with
  | 0 => (s.goodBlocks g d).getD b 0
  | p + 1 => p

/-- Bands of a stripe: the fewest non-spare good blocks of its members. -/
def State.bandsOf (s : State) (f : Format) (stripe : Nat) : Nat :=
  let counts := (f.members (stripe / 128)).map fun m =>
    let n := (s.goodBlocks m.2.geom (dieNumber m.1 stripe)).length
    n - spareCount f.spare n
  match counts with
  | [] => 0
  | c :: cs => cs.foldl min c

/-- The stripes of a format. -/
def Format.stripes (f : Format) : List Nat :=
  (List.range 2048).filter fun x =>
    match f.geom x with
    | some g => decide (x % 128 / 8 < g.channels) && decide (x % 8 < g.dies)
    | none => false

/-- The band exists. -/
def State.bandExists (s : State) (f : Format) (b : Nat) : Bool :=
  f.stripes.contains (stripeOf b) && decide (b / 2048 < s.bandsOf f (stripeOf b))

/-- One more than the greatest band number. -/
def State.bandLimit (s : State) (f : Format) : Nat := 2048 * (f.stripes.map fun x => s.bandsOf f x).foldl max 0

/-- The band belongs to the hot stream (R312). -/
def Format.isHot (f : Format) (b : Nat) : Bool := decide (b < f.hotLast)

/-- The lowest-numbered free band of a stream. -/
def State.freeBand (s : State) (f : Format) (hot : Bool) : Option Nat :=
  (List.range (s.bandLimit f)).find? fun b => s.bandExists f b && f.isHot b == hot && (s.band b).use == .free

/-- Bands of a stream in a given use. -/
def State.countBands (s : State) (f : Format) (hot : Bool) (p : Band → Bool) : Nat :=
  ((List.range (s.bandLimit f)).filter fun b => s.bandExists f b && f.isHot b == hot && p (s.band b)).length

/-- The archive registers that count bands and parity slots (R334). -/
def State.arcSync (s : State) : State :=
  match s.arc.format with
  | none => s
  | some f =>
    let s := s.put Fl.ARC_COLD_TOTAL_BANDS (s.countBands f false fun _ => true)
    let s := s.put Fl.ARC_COLD_FREE_BANDS (s.countBands f false fun b => b.use == .free)
    let s := s.put Fl.ARC_HOT_FREE_BANDS (s.countBands f true fun b => b.use == .free)
    let v := (s.arc.bands.filter fun p => p.2.verifying).length
    let o := (s.arc.bands.filter fun p => p.2.isOpen).length
    (s.put Fl.ARC_OPEN_VERIFYING v).put Fl.ARC_OPEN_PARITY (o + v)

/-! ### The slate link (R304 to R307) -/

/-- The octets of a slate link frame between its start and terminate blocks: header, payload, FCS (Table 10.1, R304). -/
def slateFrame (epoch type flags seq ack : Nat) (payload : Octets) : Octets :=
  let body := be 1 1 ++ be 1 type ++ be 1 epoch ++ be 1 flags ++ be 4 seq ++ be 4 ack ++ be 2 payload.length ++ zeros 2 ++ payload
  body ++ be 4 (crc32 body)

/-- Puts out a frame to a hub; it carries ACK, so none is owed any more. -/
def State.slateOut (s : State) (h type flags seq : Nat) (payload : Octets) : State :=
  let x := s.hub h
  (s.setHub h { x with ackOwed := false }).emit (.slate h (wireFrame 0x5D#8 (slateFrame x.epoch type flags seq x.rxSeq payload)))

/-- Sends an unsequenced frame. -/
def State.slateBare (s : State) (h type : Nat) (payload : Octets) : State := s.slateOut h type 0 (s.hub h).txSeq payload

/-- Sends a sequenced frame, or queues it while 64 are unacknowledged (R306). -/
def State.slateSend (s : State) (h type : Nat) (payload : Octets) : State :=
  let x := s.hub h
  if 64 ≤ x.unacked.length then s.setHub h { x with backlog := x.backlog ++ [(type, payload)] }
  else
    (s.setHub h { x with txSeq := nextSeq x.txSeq, unacked := x.unacked ++ [⟨x.txSeq, type, payload, 0⟩] }).slateOut h type 0 x.txSeq
      payload

/-- Queued frames go out while fewer than 64 are unacknowledged. -/
def State.slateDrain (s : State) (h : Nat) : State :=
  let l := (s.hub h).backlog
  l.foldl (fun s f => s.slateSend h f.1 f.2) (s.modHub h fun x => { x with backlog := [] })

/-- ACK of a received frame: frames below it are done (R306). -/
def State.slateAck (s : State) (h ack : Nat) : State :=
  (s.modHub h fun x => { x with unacked := x.unacked.filter fun f => notAcked ack f.seq }).slateDrain h

/-- Priority of a die operation on its hub (R332). -/
def DieOp.rank (o : DieOp) : Nat :=
  match o.purpose with
  | .badMap => 1
  | .format => 2
  | .page _ _ => 2
  | .erase _ _ => 2
  | .host _ => 4
  | .scan _ _ _ => 5

/-- The first waiting operation of the best rank. -/
def bestOp (l : List DieOp) : Option DieOp :=
  (List.range 6).findSome? fun r => l.find? fun o => o.rank == r

/-- The lowest TAG that no outstanding command of the hub has (R305). -/
def freeTag (l : List DieOp) : Nat := ((List.range (l.length + 1)).find? fun t => !l.any fun o => o.tag == t).getD 0

/-- The payload of a CMD (Table 10.2). -/
def DieOp.payload (o : DieOp) : Octets :=
  be 2 o.tag ++ be 1 o.op ++ zeros 1 ++ be 1 o.channel ++ be 1 o.die ++ zeros 2 ++ be 4 o.block ++ be 4 o.page
    ++ (if o.op = 2 then o.data else [])

/-- Write-buffer units that an operation uses (R307). -/
def DieOp.units (o : DieOp) : Nat := if o.op = 2 then o.data.length / 4096 else 0

/-- Waiting operations go to an UP hub while its credit lasts (R307); none goes during a power-safe stop (R328). -/
def State.pump : Nat → Nat → State → State
  | 0, _, s => s
  | n + 1, h, s =>
    let x := s.hub h
    if x.state ≠ 2 ∨ s.arc.stopping.isSome = true then s else
    match bestOp x.waiting with
    | none => s
    | some o =>
      if x.cmdLimit ≤ x.cmdSent ∨ x.wbufLimit < x.wbufSent + o.units then s
      else
        let sent := { o with tag := freeTag x.outstanding }
        let s := s.setHub h { x with
          waiting := x.waiting.erase o, outstanding := x.outstanding ++ [sent],
          cmdSent := x.cmdSent + 1, wbufSent := x.wbufSent + o.units }
        State.pump n h (s.slateSend h 0x10 sent.payload)

/-- Lets waiting operations of a hub go. -/
def State.pumpAll (s : State) (h : Nat) : State := State.pump (s.hub h).waiting.length h s

/-- An operation waits on its hub, and goes when credit allows. -/
def State.dieOp (s : State) (h : Nat) (o : DieOp) : State :=
  (s.modHub h fun x => { x with waiting := x.waiting ++ [o] }).pumpAll h

/-- The operation on page `page` of a band, as READ or PROGRAM: row r is page r of each member in turn (R303). -/
def State.pageOp (s : State) (f : Format) (b page op : Nat) (data : Octets) (why : Purpose) : Option (Nat × DieOp) :=
  let x := stripeOf b
  match (f.members (x / 128))[page % max 1 (f.width x)]? with
  | none => none
  | some (h, m) =>
    some (h, ⟨0, op, x % 128 / 8, x % 8, s.physical m.geom (dieNumber h x) (b / 2048), page / max 1 (f.width x), data, why⟩)

/-- Pages of the data of a band that are whole are programmed. -/
def State.programPages : Nat → Format → Nat → State → State
  | 0, _, _, s => s
  | n + 1, f, b, s =>
    let size := f.pageSize (stripeOf b)
    let x := s.band b
    if size = 0 ∨ x.fill.length < size then s
    else
      let page := (x.bytes - x.fill.length) / size
      let s := s.modBand b fun x => { x with fill := x.fill.drop size }
      match s.pageOp f b page 2 (x.fill.take size) (.page b page) with
      | none => s
      | some (h, o) => State.programPages n f b (s.dieOp h o)

/-- Appends octets to the data sequence of an open band. -/
def State.bandAppend (s : State) (f : Format) (b : Nat) (bs : Octets) : State :=
  let s := s.modBand b fun x => { x with bytes := x.bytes + bs.length, fill := x.fill ++ bs }
  State.programPages ((s.band b).fill.length) f b s

/-! ### Bands open, close, are verified and erased (R319, R322 to R326) -/

/-- Hub events carry the hub number (R335). -/
def State.hubEvent (s : State) (source h : Nat) : State := s.raise source (le 1 h)

/-- A spare takes the place of a block of a die; none is left when every spare is used (R324). -/
def State.takeSpare (s : State) (f : Format) (g : Geometry) (d b : Nat) : Bool × State :=
  let good := s.goodBlocks g d
  let n := spareCount f.spare good.length
  if n ≤ (s.die d).used then (false, s)
  else
    let p := good.getD (good.length - n + (s.die d).used) 0
    (true, s.modDie d fun x =>
      { x with moved := FMap.set 0 x.moved b (p + 1), used := x.used + 1, failed := x.failed.filter fun k => k != b })

/-- The band number is retired on its stripe: a die of hub `h` has no spare left (R324). -/
def State.retireBand (s : State) (b h : Nat) : State :=
  ((s.modBand b fun _ => { use := .retired }).arcSync).hubEvent 381 h

/-- Erases the members of a band that a test picks; the band is free once all have completed (R318, R324). -/
def State.eraseMembers (s : State) (f : Format) (b : Nat) (p : Nat → Bool) : State :=
  let x := stripeOf b
  let ms := ((List.range 8).zip (f.members (x / 128))).filter fun m => p m.2.1
  let s := s.modBand b fun _ => { use := .erasing, erases := ms.map (·.1) }
  ms.foldl (fun s m =>
    s.dieOp m.2.1 ⟨0, 3, x % 128 / 8, x % 8, s.physical m.2.2.geom (dieNumber m.2.1 x) (b / 2048), 0, [], .erase b m.1⟩) s

/-- Erases a band. A spare takes the place of a block that failed a PROGRAM; without one the band is retired (R324). -/
def State.eraseBand (s : State) (f : Format) (b : Nat) : State :=
  let x := stripeOf b
  let failed := (f.members (x / 128)).filter fun m => (s.die (dieNumber m.1 x)).failed.contains (b / 2048)
  let r : Option Nat × State := failed.foldl (fun acc m =>
    match acc.1, acc.2.takeSpare f m.2.geom (dieNumber m.1 x) (b / 2048) with
    | some h, _ => (some h, acc.2)
    | none, (true, s) => (none, s)
    | none, (false, _) => (some m.1, acc.2)) (none, s)
  match r.1 with
  | some h => r.2.retireBand b h
  | none => r.2.eraseMembers f b fun _ => true

/-- The superblocks of a closed cold band leave the index, and the band is erased (R318, R319). -/
def State.dropBand (s : State) (f : Format) (b : Nat) : State :=
  ({ s with arc := { s.arc with supers := s.arc.supers.filter fun x => x.band != b } }).eraseBand f b

/-- Highest second that a superblock holds. -/
def Superblock.lastS (x : Superblock) : Nat :=
  (x.runs.map fun r => (r.records.map fun o => leAt o 0 8).foldl max 0).foldl max 0

/-- Lowest second that a superblock holds. -/
def Superblock.firstS (x : Superblock) : Nat :=
  match (x.runs.map fun r => r.records.map fun o => leAt o 0 8).flatten with
  | [] => 0
  | a :: l => l.foldl min a

/-- The closed cold band whose newest LAST_S is oldest (R319). -/
def State.oldestBand (s : State) : Option Nat :=
  let bands := (s.arc.bands.filter fun p => p.2.use == .cold && !p.2.isOpen && !p.2.verifying).map fun p =>
    (p.1, ((s.arc.supers.filter fun x => x.band == p.1).map Superblock.lastS).foldl max 0)
  match bands with
  | [] => none
  | a :: l => some (l.foldl (fun m x => if x.2 < m.2 then x else m) a).1

/-- Octets of the cold bands of a format (R312). -/
def State.coldOctets (s : State) (f : Format) : Nat :=
  let sum := fun (p : Nat → Nat) => (f.stripes.map p).foldl (· + ·) 0
  let hot := ((List.range f.hotLast).filter fun b => s.bandExists f b).map fun b => f.bandSize (stripeOf b)
  sum (fun x => s.bandsOf f x * f.bandSize x) - hot.foldl (· + ·) 0

/-- Entries that the cold index has room for, one for each 32 MiB of cold capacity (R313). -/
def State.indexRoom (s : State) (f : Format) : Nat := (s.coldOctets f + 33554431) / 33554432

/-- The cold index holds as many entries as it has room for (R316, R319). -/
def State.indexFull (s : State) (f : Format) : Bool := decide (s.indexRoom f ≤ s.arc.supers.length)

/-- What ARC_RETAIN.FULL decides when the cold stream finds no free band or no room in its index (R319): the band whose newest
LAST_S is oldest expires, or cold writes stop. Writes that have stopped need no band, so ARC_FULL comes once for a stop. -/
def State.coldFull (s : State) (f : Format) : State :=
  let stop := fun (s : State) =>
    if s.flag Fl.ARC_STATE_COLD_FULL then s else (s.raise 383).putFlag Fl.ARC_STATE_COLD_FULL true
  if s.flag Fl.ARC_RETAIN_FULL then
    match s.oldestBand with
    | some b => (s.raise 383).dropBand f b
    | none => stop s
  else stop s

/-- A free band of a stream opens for writing; for the cold stream, the policy of R319 applies when none is free, and waits
while a band that it expired is still being erased. A parity slot must be free (R322). -/
def State.openBand (s : State) (f : Format) (hot : Bool) : Option Nat × State :=
  if f.coldOpen + 7 ≤ s.get Fl.ARC_OPEN_PARITY then (none, s) else
  match s.freeBand f hot with
  | some b =>
    let before := s.countBands f hot fun x => x.use == .free
    let s := (s.modBand b fun _ => { use := if hot then .hot else .cold, isOpen := true }).arcSync
    let after := s.countBands f hot fun x => x.use == .free
    let total := s.countBands f hot fun _ => true
    let s := if hot && after == 1 then s.raise 385
      else if !hot && decide (20 * after < total) && decide (total ≤ 20 * before) then s.raise 382 else s
    (some b, if hot then s else s.putFlag Fl.ARC_STATE_COLD_FULL false)
  | none =>
    if hot || (s.flag Fl.ARC_RETAIN_FULL && decide (0 < s.countBands f false fun b => b.use == .erasing)) then (none, s)
    else (none, s.coldFull f)

/-- Places of the staged records on pages of a band that a test picks are withdrawn: they are written again (R324 to R326). -/
def State.unplace (s : State) (b : Nat) (p : Nat → Bool) : State :=
  let back := fun (r : Staged) =>
    match r.place with
    | some (b', k) => if b' = b ∧ p k = true then { r with place := none } else r
    | none => r
  { s with arc := { s.arc with staging := s.arc.staging.map back } }

/-- A superblock with its records on the pages of its band that a test picks. -/
def Superblock.keeping (x : Superblock) (size : Nat) (p : Nat → Bool) : Superblock :=
  let held := fun (r : Run) =>
    { r with records := (((List.range r.records.length).zip r.records).filter fun q =>
        p ((65536 * x.start + 64 * (r.first + q.1)) / max 1 size)).map (·.2) }
  { x with runs := (x.runs.map held).filter fun r => !r.records.isEmpty }

/-- The open superblocks of a band close, with a cause of Table 10.8. -/
def State.closeSupers (s : State) (b cause : Nat) : State :=
  let go := fun (acc : List Superblock × Nat) (x : Superblock) =>
    if x.band = b ∧ x.seq = 0 then (acc.1 ++ [{ x with seq := acc.2, cause := cause, closeS := s.second }], acc.2 + 1)
    else (acc.1 ++ [x], acc.2)
  let r := s.arc.supers.foldl go ([], s.arc.nextSb)
  { s with arc := { s.arc with supers := r.1, nextSb := r.2 } }

/-- A band closes and awaits verification; early, its unwritten pages are never written (R322). -/
def State.closeBand (s : State) (f : Format) (b : Nat) (early : Bool) : State :=
  let size := f.pageSize (stripeOf b)
  let done := (s.band b).done
  let s := if early then (s.unplace b fun k => !done.contains k).closeSupers b 5 else s
  let cut := fun (x : Superblock) => if x.band = b ∧ early = true then x.keeping size (fun k => done.contains k) else x
  let s := { s with arc := { s.arc with
    supers := (s.arc.supers.map cut).filter fun x => !(x.band == b && x.runs.isEmpty)
    slots := FMap.mapVals 0 (fun _ k => if k = b + 1 then 0 else k) s.arc.slots
    hotOpen := if s.arc.hotOpen = b + 1 then 0 else s.arc.hotOpen
    gcOpen := if s.arc.gcOpen = b + 1 then 0 else s.arc.gcOpen
    metaOpen := if s.arc.metaOpen = b + 1 then 0 else s.arc.metaOpen } }
  (s.modBand b fun x => { x with isOpen := false, verifying := true, fill := if early then [] else x.fill }).arcSync

/-- A band closes when it takes no more: no further hot unit, or no further superblock with its trailer (R315, R322). -/
def State.closeIfFull (s : State) (f : Format) (b : Nat) : State :=
  let need := if (s.band b).use == .hot then 65536 else 131072
  if (s.band b).isOpen && decide (f.bandSize (stripeOf b) < (s.band b).bytes + need) then s.closeBand f b false else s

/-! ### The cold stream (R314 to R317) -/

/-- The group of a record: meter index div 4,096, and 256 for records that carry a kind (R314, R516). -/
def groupOf (o : Octets) : Nat := if leAt o 8 4 / 2 ^ 20 = 0 then leAt o 8 4 % 2 ^ 20 / 4096 else 256

/-- The meter index or node number of a record. -/
def memberOf (o : Octets) : Nat := leAt o 8 4 % 2 ^ 20

/-- The order of R314: group, then second, then meter index or node number. -/
def recordKey (o : Octets) : Nat := (groupOf o * 2 ^ 64 + leAt o 0 8) * 2 ^ 20 + memberOf o

/-- Inserts a record in the order of R314, after equal ones. -/
def insertRecord (o : Octets) : List Octets → List Octets
  | [] => [o]
  | x :: l => if recordKey o < recordKey x then o :: x :: l else x :: insertRecord o l

/-- The 64 KiB trailer of a superblock (Table 10.8). -/
def Superblock.trailer (x : Superblock) : Octets :=
  let groups := x.runs.map (·.group)
  let seconds := fun (r : Run) => r.records.map fun o => leAt o 0 8
  let least := fun (l : List Nat) => match l with | [] => 0 | a :: t => t.foldl min a
  let entry := fun (r : Run) =>
    le 4 r.first ++ le 4 r.records.length ++ le 2 r.group ++ le 2 (b2n (r.records.any fun o => bitOf 1 (leAt o 12 2))) ++ zeros 4
      ++ le 8 (least (seconds r)) ++ le 8 ((seconds r).foldl max 0)
  let head := [0x53#8, 0x42#8, 0x54#8, 0x52#8] ++ le 2 1 ++ le 2 x.runs.length ++ le 8 x.seq ++ le 8 x.firstS ++ le 8 x.lastS
    ++ le 4 ((x.runs.map fun r => r.records.length).foldl (· + ·) 0) ++ le 2 (least groups) ++ le 2 (groups.foldl max 0)
    ++ le 8 x.closeS ++ le 1 x.cause ++ zeros 15
  let body := padTo 65532 (head ++ (x.runs.map entry).flatten)
  body ++ le 4 (crc32c body)

/-- The cold index entry of a superblock (Table 10.9). -/
def Superblock.entry (x : Superblock) : Octets :=
  let groups := x.runs.map (·.group)
  let flags := b2n (x.seq == 0) + 2 * b2n (x.runs.any fun r => r.records.any fun o => bitOf 1 (leAt o 12 2)) + 4 * b2n x.rewritten
  le 4 x.band ++ le 2 x.start ++ le 2 x.length ++ le 2 (match groups with | [] => 0 | a :: t => t.foldl min a)
    ++ le 2 (groups.foldl max 0) ++ le 4 flags ++ le 8 x.firstS ++ le 8 x.lastS

/-- Inserts a superblock in close order; an open one stands after every closed one. -/
def insertSuper (x : Superblock) : List Superblock → List Superblock
  | [] => [x]
  | y :: l => if x.seq ≠ 0 ∧ (y.seq = 0 ∨ x.seq < y.seq) then x :: y :: l else y :: insertSuper x l

/-- The cold index in its order: closed superblocks in close order, then the open ones (R316). -/
def State.coldIndex (s : State) : List Superblock := s.arc.supers.foldl (fun l x => insertSuper x l) []

/-- What names a superblock: its band and its first unit. -/
def Superblock.place (x : Superblock) : Nat := 65536 * x.band + x.start

/-- 64 KiB units of a superblock with `slots` slots, trailer included. -/
def superUnits (slots : Nat) : Nat := (slots + 1023) / 1024 + 1

/-- Replaces an open superblock. -/
def State.setSuper (s : State) (b : Nat) (g : Superblock → Superblock) : State :=
  let one := fun (x : Superblock) => if x.band = b ∧ x.seq = 0 then g x else x
  { s with arc := { s.arc with supers := s.arc.supers.map one } }

/-- The open superblock of a band, if any. -/
def State.openSuper (s : State) (b : Nat) : Option Superblock := s.arc.supers.find? fun x => x.band == b && x.seq == 0

/-- The open superblock of a band closes: zero slots to a 64 KiB boundary, then the trailer (R315). -/
def State.closeSuper (s : State) (f : Format) (b cause : Nat) : State :=
  match s.openSuper b with
  | none => s
  | some x =>
    let s := s.closeSupers b cause
    let x := { x with seq := s.arc.nextSb - 1, cause := cause, closeS := s.second, length := superUnits x.slots }
    let pad := zeros (64 * ((x.slots + 1023) / 1024 * 1024 - x.slots))
    let keep := fun (y : Superblock) => if y.seq = x.seq then x else y
    let s := { s with arc := { s.arc with supers := s.arc.supers.map keep } }
    (s.bandAppend f b (pad ++ x.trailer)).closeIfFull f b

/-- The band that cold slot `k` writes to, opened when needed. -/
def State.slotBand (s : State) (f : Format) (k : Nat) : Option Nat × State :=
  match FMap.get 0 s.arc.slots k with
  | b + 1 => (some b, s)
  | 0 =>
    match s.openBand f false with
    | (some b, s) => (some b, { s with arc := { s.arc with slots := FMap.set 0 s.arc.slots k (b + 1) } })
    | (none, s) => (none, s)

/-- Records that an open superblock takes before it closes by its size or by the end of its band, of which `left` octets are not
filled (R315). -/
def Superblock.room (x : Superblock) (left : Nat) : Nat :=
  min (1023 * 1024 - x.slots) (if left < 131072 then 0 else (left - 131072) / 64 + 1)

/-- A superblock closes at once when its trailer holds 2,045 runs, or its band has less than 128 KiB left (R315). -/
def State.closeIfDone (s : State) (f : Format) (b : Nat) : State :=
  match s.openSuper b with
  | none => s
  | some x =>
    if 2045 ≤ x.runs.length then s.closeSuper f b 2
    else if f.bandSize (stripeOf b) < (s.band b).bytes + 131072 then s.closeSuper f b 3
    else s

/-- Marks where records were placed: page by page of the data sequence. -/
def State.placeRecords (s : State) (f : Format) (b firstByte : Nat) (records : List Octets) : State :=
  let size := max 1 (f.pageSize (stripeOf b))
  let spots := ((List.range records.length).zip records).map fun p => (p.2, (firstByte + 64 * p.1) / size)
  let one := fun (acc : List Staged × List (Octets × Nat)) (r : Staged) =>
    match r.place, acc.2.find? fun x => x.1 == r.octets && r.released with
    | none, some x => (acc.1 ++ [{ r with place := some (b, x.2) }], acc.2.erase x)
    | _, _ => (acc.1 ++ [r], acc.2)
  { s with arc := { s.arc with staging := (s.arc.staging.foldl one ([], spots)).1 } }

/-- Appends one run of a group to cold slot `k` (R315). What finds no free band or no room in the index is left staged
(R319). -/
def State.appendRun : Nat → Format → Nat → Nat → List Octets → State → State
  | 0, _, _, _, _, s => s
  | n + 1, f, k, group, records, s =>
    if records.isEmpty then s else
    match s.slotBand f k with
    | (none, s) => s
    | (some b, s) =>
      let left := f.bandSize (stripeOf b) - (s.band b).bytes
      match s.openSuper b with
      | none =>
        if left < 131072 then State.appendRun n f k group records (s.closeBand f b false)
        else
          let s := if s.indexFull f then s.coldFull f else s
          if s.indexFull f then s else
          let s := s.putFlag Fl.ARC_STATE_COLD_FULL false
          let x : Superblock := ⟨0, b, (s.band b).bytes / 65536, 2, 0, [], 0, 0, false⟩
          State.appendRun n f k group records { s with arc := { s.arc with supers := s.arc.supers ++ [x] } }
      | some x =>
        let room := x.room left
        let tooLong := decide (0 < x.slots) && decide (1023 * 1024 < x.slots + records.length)
        if room = 0 ∨ tooLong = true then State.appendRun n f k group records (s.closeSuper f b 1)
        else
          let now := records.take room
          let at' := (s.band b).bytes
          let s := s.setSuper b fun y =>
            { y with runs := y.runs ++ [⟨group, y.slots, now⟩], slots := y.slots + now.length,
                     length := superUnits (y.slots + now.length) }
          let s := ((s.placeRecords f b at' now).bandAppend f b now.flatten).closeIfDone f b
          let last := (now.map fun o => leAt o 0 8).foldl max s.arc.lastSecond
          State.appendRun n f k group (records.drop room) { s with arc := { s.arc with lastSecond := last } }

/-- Splits records, already in order, into runs by group. -/
def runsOf : List Octets → List (Nat × List Octets)
  | [] => []
  | o :: l =>
    match runsOf l with
    | (g, r) :: t => if g = groupOf o then (g, o :: r) :: t else (groupOf o, [o]) :: (g, r) :: t
    | [] => [(groupOf o, [o])]

/-- Released records that are not placed yet are appended (R314). Nothing is written during a format or while not mounted. -/
def State.writeReleased (s : State) : State :=
  match s.arc.format with
  | none => s
  | some f =>
    if !s.flag Fl.ARC_STATE_MOUNTED || s.flag Fl.ARC_STATE_FORMATTING || s.arc.stopping.isSome then s else
    let new := (s.arc.staging.filter fun r => r.released && r.place.isNone).map (·.octets)
    (runsOf (new.foldl (fun l o => insertRecord o l) [])).foldl
      (fun s r => State.appendRun (4 * r.2.length + 8) f (r.1 % max 1 f.coldOpen) r.1 r.2 s) s

/-- An archive flush point releases what was staged before it (R59), and the archive takes what is released (R314). A new day
closes every open superblock (R315). -/
def State.flushPoint (s : State) : State :=
  let release := fun (r : Staged) => { r with released := true }
  let s := { s with arc := { s.arc with staging := s.arc.staging.map release } }
  match s.arc.format with
  | none => s
  | some f =>
    if !s.flag Fl.ARC_STATE_MOUNTED || s.flag Fl.ARC_STATE_FORMATTING || s.arc.stopping.isSome then s else
    let day := s.second / 86400
    let stale := if s.arc.flushDay = day then [] else s.arc.supers.filter fun x => x.seq == 0 && !x.runs.isEmpty
    let s := { s with arc := { s.arc with flushDay := day } }
    (stale.foldl (fun s x => s.closeSuper f x.band 4) s).writeReleased

/-! ### The hot stream (R320, R321) -/

/-- First unit of the HOST region (Table 10.10). -/
def hostFirst : Nat := 262144

/-- The octets of a unit of the hot region: HOST units as the host wrote them; CKPT, SNAP and EVENT
units from the records they copy; the other regions have no layout in the spec, and their octets are free. -/
def State.unitOctets (s : State) (u : Nat) : Octets :=
  if hostFirst ≤ u then padTo 65536 (FMap.get [] s.arc.hostUnits (u - hostFirst))
  else if 65536 ≤ u ∧ u < 73728 then
    ((List.range 256).map fun i => (FMap.get {} s.arc.ckpt (256 * ((u - 65536) % 4096) + i)).octets).flatten
  else if 73728 ≤ u ∧ u < 204800 then
    match s.arc.snaps.find? fun p => p.1 % 64 == (u - 73728) / 2048 with
    | some p => ((List.range 512).map fun i =>
        padTo 128 (FMap.get {} p.2 (512 * ((u - 73728) % 2048) + i)).bill.octets).flatten
    | none => zeros 65536
  else if 204800 ≤ u ∧ u < 221184 then
    padTo 65536 ((s.evt.spilled.filter fun e => (e.seq - 1) / 2048 % 16384 == u - 204800).reverse.map EvRec.octets).flatten
  else (List.range 65536).map fun i => Config.freeOctet (s.free + i)

/-- The band that hot writes go to, opened when needed. -/
def State.hotBand (s : State) (f : Format) (gc : Bool) : Option Nat × State :=
  match (if gc then s.arc.gcOpen else s.arc.hotOpen) with
  | b + 1 => (some b, s)
  | 0 =>
    match s.openBand f true with
    | (some b, s) =>
      (some b, { s with arc := if gc then { s.arc with gcOpen := b + 1 } else { s.arc with hotOpen := b + 1 } })
    | (none, s) => (none, s)

/-- The hot band for the archive's own meta data, opened when none is open (R322). The spec gives the volume of that data no figure,
so none of the band is filled (log entry 147). -/
def State.metaBand (s : State) : State :=
  match s.arc.format with
  | none => s
  | some f =>
    if s.arc.metaOpen ≠ 0 then s else
    match s.openBand f true with
    | (some b, s) => { s with arc := { s.arc with metaOpen := b + 1 } }
    | (none, s) => s

/-- Writes one unit to the next free place of the open hot band, or of the collection band (R320, R321). Without a band the unit stays
owed. -/
def State.hotWrite (s : State) (f : Format) (gc : Bool) (u : Nat) : State :=
  match s.hotBand f gc with
  | (none, s) => { s with arc := { s.arc with hotOwed := s.arc.hotOwed.filter (· != u) ++ [u] } }
  | (some b, s) =>
    let place := (s.band b).bytes / 65536
    let s := { s with arc := { s.arc with
      hotMap := FMap.set 0 s.arc.hotMap u (1 + 65536 * b + place), hotOwed := s.arc.hotOwed.filter (· != u) } }
    let s := s.modBand b fun x => { x with units := x.units ++ [u] }
    (s.bandAppend f b (s.unitOctets u)).closeIfFull f b

/-- Writes units of the hot region while the archive is mounted. -/
def State.hotWrites (s : State) (us : List Nat) : State :=
  match s.arc.format with
  | none => s
  | some f => if s.flag Fl.ARC_STATE_MOUNTED then us.foldl (fun s u => s.hotWrite f false u) s else s

/-- Units of a hot band that are still valid: the map names their place in it. -/
def State.validUnits (s : State) (b : Nat) : List Nat :=
  let l := (s.band b).units
  (((List.range l.length).zip l).filter fun p => FMap.get 0 s.arc.hotMap p.2 == 1 + 65536 * b + p.1).map (·.2)

/-- Units of one of the 8 places for valley trees, which lie first in region VALLEY. The largest tree image takes 145. -/
def treeUnits : Nat := 160

/-- The units that a valley tree takes in its place of region VALLEY, by its image of Table 8.1. -/
def treeWrites (written : Nat) (t : ValTree) : List Nat :=
  (List.range ((32 + 64 * t.nodes.length + 8 * t.maps.length + 65535) / 65536)).map fun k => 222208 + treeUnits * (written % 8) + k

/-- What the WG20 keeps in STORE, EVENT, RSV and VALLEY and has changed since it was last written goes to the hot stream: event runs
that were spilled, reservations, valley trees, journal records; so do the units that are owed. Places within RSV and VALLEY are the model's. -/
def State.hotSync (s : State) : State :=
  if !s.flag Fl.ARC_STATE_MOUNTED then s else
  let runs := (s.evt.seq - 1) / 2048
  let records := s.arc.journal.length
  let events := ((List.range runs).drop s.arc.runsNoted).map fun k => 204800 + k % 16384
  let rsv := if s.arc.rsv = s.arc.rsvNoted then [] else [221184]
  let fresh := (s.val.held.filter fun t => !s.arc.trees.contains t).reverse
  let trees := (((List.range fresh.length).zip fresh).map fun p => treeWrites (s.arc.treesWritten + p.1) p.2).flatten
  let places := 8 * treeUnits
  let valley := if records = s.arc.journalNoted then []
    else [222208 + places + s.arc.journalNoted / 1024 % (39936 - places)]
  { s with arc := { s.arc with
      runsNoted := runs, journalNoted := records, rsvNoted := s.arc.rsv, trees := s.val.held
      treesWritten := s.arc.treesWritten + fresh.length } }.hotWrites (s.arc.hotOwed ++ events ++ rsv ++ trees ++ valley)

/-- HOT_GC: with fewer than 3 free hot bands, the closed hot band with the fewest valid units is collected and erased (R321). -/
def hotGcEffect (s : State) : State :=
  match s.arc.format with
  | none => s
  | some f =>
    if 3 ≤ s.countBands f true (fun b => b.use == .free) ∨ s.flag Fl.ARC_STATE_MOUNTED = false then s else
    let closed := (s.arc.bands.filter fun p => p.2.use == .hot && !p.2.isOpen && !p.2.verifying).map fun p =>
      (p.1, (s.validUnits p.1).length)
    match closed with
    | [] => s
    | a :: l =>
      let b := (l.foldl (fun m x => if x.2 < m.2 then x else m) a).1
      ((s.validUnits b).foldl (fun s u => s.hotWrite f true u) s).eraseBand f b

/-- CHECKPOINT_TIMER: the per-meter checkpoint goes to the CKPT copy that does not hold the last one, and an anchor is written
(R321, R329). -/
def checkpointTimerEffect (s : State) : State :=
  if !s.flag Fl.ARC_STATE_MOUNTED || s.flag Fl.ARC_STATE_FORMATTING then s else
  let copy := 1 - s.arc.ckptCopy
  let s := { s with arc := { s.arc with ckpt := s.meters, ckptCopy := copy, anchorSeq := s.arc.anchorSeq + 1 } }
  s.metaBand.hotWrites ((List.range 4096).map fun k => 65536 + 4096 * copy + k)

/-- The billing snapshot of a day boundary goes to SNAP, which holds 64 days (Table 10.10). -/
def State.snapshotDay (s : State) : State :=
  let day := s.second / 86400
  if !s.flag Fl.ARC_STATE_MOUNTED || s.arc.snaps.any (fun p => p.1 == day) then s else
  ({ s with arc := { s.arc with snaps := ((day, s.meters) :: s.arc.snaps).take 64 } }).hotWrites
    ((List.range 2048).map fun k => 73728 + 2048 * (day % 64) + k)

/-- At the first course of a day, superblocks older than DAYS expire; a band without any is erased (R318). -/
def State.expire (s : State) : State :=
  let day := s.second / 86400
  match s.arc.format with
  | none => s
  | some f =>
    let days := s.get Fl.ARC_RETAIN_DAYS
    if s.arc.expiredDay = day ∨ s.flag Fl.ARC_STATE_MOUNTED = false then s else
    let s := { s with arc := { s.arc with expiredDay := day } }
    if days = 0 ∨ day < days then s else
    let old := fun (x : Superblock) => x.seq != 0 && decide (x.lastS < (day - days) * 86400)
    let s := { s with arc := { s.arc with supers := s.arc.supers.filter fun x => !old x } }
    let empty := (s.arc.bands.filter fun p =>
      p.2.use == .cold && !p.2.isOpen && !p.2.verifying && !s.arc.supers.any fun x => x.band == p.1).map (·.1)
    let s := empty.foldl (fun s b => s.eraseBand f b) s
    if empty.isEmpty then s else s.raise 384

/-! ### Completions (R305, R317, R324, R327) -/

/-- Every unit that a command waits for and that is now whole counts; the command completes once none is left (R321, R406). -/
def State.hostWriteCheck (s : State) (f : Format) : State :=
  let written := fun (u : Nat) =>
    match FMap.get 0 s.arc.hotMap u with
    | 0 => false
    | m + 1 => if s.arc.hotOwed.contains u then false else
      let b := m / 65536
      let size := max 1 (f.pageSize (stripeOf b))
      let pages := (List.range (65536 / size)).map fun i => m % 65536 * (65536 / size) + i
      pages.all fun p => (s.band b).done.contains p
  let next := s.arc.hostWrites.map fun w => { w with left := w.left.filter fun u => !written u }
  let s := { s with arc := { s.arc with hostWrites := next.filter fun w => !w.left.isEmpty } }
  (next.filter fun w => w.left.isEmpty).foldl (fun s w =>
    let s := s.complete w.op w.cmd .ok 0 w.result
    match w.event with | some (e, i) => s.raise e (le 1 i) | none => s) s

/-- A page of a band counts as written; staging releases the records it holds (R317). -/
def State.pageWritten (s : State) (f : Format) (b page : Nat) : State :=
  let s := s.modBand b fun x => { x with done := x.done ++ [page] }
  let s := { s with arc := { s.arc with staging := s.arc.staging.filter fun r => r.place != some (b, page) } }
  if (s.band b).use = .hot then s.hostWriteCheck f else s

/-- The cold band of slot `k`, between superblocks and with room for `units` more 64 KiB units. -/
def State.bandFor (s : State) (f : Format) (k units : Nat) : Option Nat × State :=
  match s.slotBand f k with
  | (none, s) => (none, s)
  | (some b, s) =>
    let s := s.closeSuper f b 5
    if (s.band b).isOpen && decide (f.bandSize (stripeOf b) < (s.band b).bytes + 65536 * units) then
      (s.closeBand f b false).slotBand f k
    else s.slotBand f k

/-- A superblock is written again whole into an open cold band, with CAUSE 06h; its index entry moves there and keeps its sequence
number (R323). Scans that have still to read it follow. -/
def State.moveSuper (s : State) (f : Format) (x : Superblock) : State :=
  match s.bandFor f ((match x.runs with | r :: _ => r.group | [] => 0) % max 1 f.coldOpen) (superUnits x.slots) with
  | (none, s) => s
  | (some b, s) =>
    let renumber := x.runs.foldl (fun (acc : List Run × Nat) r =>
      (acc.1 ++ [{ r with first := acc.2 }], acc.2 + r.records.length)) ([], 0)
    let y : Superblock := { x with band := b, start := (s.band b).bytes / 65536, runs := renumber.1, slots := renumber.2,
                                   length := superUnits renumber.2, cause := 6, closeS := s.second, rewritten := true }
    let follow := fun (k : Option Scan) => k.map fun c =>
      { c with left := c.left.map fun p => if p = x.place then y.place else p }
    let s := { s with arc := { s.arc with
      supers := (s.arc.supers.filter fun (z : Superblock) => z.seq != x.seq) ++ [y]
      scans := FMap.mapVals none (fun _ k => follow k) s.arc.scans } }
    let pad := zeros (64 * ((y.slots + 1023) / 1024 * 1024 - y.slots))
    (s.bandAppend f b ((y.runs.map fun (r : Run) => r.records.flatten).flatten ++ pad ++ y.trailer)).closeIfFull f b

/-- The pages of its band that a superblock takes, trailer included. -/
def Superblock.pages (x : Superblock) (size : Nat) : List Nat :=
  (List.range (65536 * x.length / max 1 size)).map fun k => 65536 * x.start / max 1 size + k

/-- Pages of a band that could not be written: an open band closes early, and the data is written again elsewhere (R324, R325). A
superblock that was being written again, whose records staging no longer holds, moves once more. -/
def State.rewrite (s : State) (f : Format) (b : Nat) (pages : List Nat) : State :=
  let x := s.band b
  let size := f.pageSize (stripeOf b)
  let per := 65536 / max 1 size
  let again := if x.use = .hot then
      (s.validUnits b).filter fun u =>
        let first := (FMap.get 0 s.arc.hotMap u - 1) % 65536 * per
        (List.range per).any fun i => pages.contains (first + i) || (x.isOpen && !x.done.contains (first + i))
    else []
  let moving := s.arc.supers.filter fun y => y.band == b && y.rewritten && (y.pages size).any fun k =>
    pages.contains k || (x.isOpen && !x.done.contains k)
  let cut := fun (y : Superblock) => if y.band = b then y.keeping size (fun k => !pages.contains k) else y
  let s := if x.isOpen then s.closeBand f b true
    else ({ s with arc := { s.arc with supers := s.arc.supers.map cut } }).unplace b fun k => pages.contains k
  ((moving.foldl (fun s y => s.moveSuper f y) s).hotWrites again).writeReleased

/-- The records of a superblock on a page of its band that a scan asks for, in run order (R330). -/
def Superblock.onPage (x : Superblock) (size page : Nat) (p : Octets → Bool) : List Octets :=
  (x.runs.map fun r => (((List.range r.records.length).zip r.records).filter fun q =>
    (65536 * x.start + 64 * (r.first + q.1)) / max 1 size == page && p q.2).map (·.2)).flatten

/-- A scan asks for the record (R330): meter or node in range, second in range, and its flags meet the mask. -/
def Scan.wants (c : Scan) (o : Octets) : Bool :=
  let kind := leAt o 8 4 / 2 ^ 20
  (if c.valley then kind == 1 else kind == 0) && decide (c.first ≤ memberOf o) && decide (memberOf o ≤ c.last)
    && decide (c.fromS ≤ leAt o 0 8) && decide (leAt o 0 8 ≤ c.toS) && (c.mask == 0 || leAt o 12 2 &&& c.mask != 0)

/-- A scan in progress. -/
def State.scan (s : State) (k : Nat) : Option Scan := FMap.get none s.arc.scans k

/-- Replaces a scan; ARC_OPEN.SCANS follows. -/
def State.setScan (s : State) (k : Nat) (x : Option Scan) : State :=
  let s := { s with arc := { s.arc with scans := FMap.set none s.arc.scans k x } }
  s.put Fl.ARC_OPEN_SCANS s.arc.scans.length

/-- The superblock at a place. -/
def State.superAt (s : State) (place : Nat) : Option Superblock := s.arc.supers.find? fun x => x.place == place

/-- A READ of a closed band that ends UNCORRECTABLE, ERASED or DIE_FAULT is counted and reported once a second (R327). -/
def State.uncorrectable (s : State) (status : Nat) : State :=
  if status = 3 ∨ status = 4 ∨ status = 7 then
    let s := s.bump Fl.ARC_UNCORR_COUNT_COUNT
    if s.arc.uncorrRaised = s.second + 1 then s
    else ({ s with arc := { s.arc with uncorrRaised := s.second + 1 } }).raise 378
  else s

/-- A page read for a scan ends (R327, R330). -/
def State.scanRead (s : State) (f : Format) (k sup page status : Nat) : State :=
  match s.scan k with
  | none => s
  | some c =>
    if status = 0 then
      match s.superAt sup with
      | none => s.setScan k (some { c with reading := false })
      | some x =>
        s.setScan k (some { c with reading := false, batch := x.onPage (f.pageSize (stripeOf x.band)) page c.wants })
    else (s.setScan k (some { c with reading := false, unreadable := c.unreadable + 1 })).uncorrectable status

/-- A page read for a host read ends: after the last one the data is returned, after a failed one the command ends HW_FAULT
(R327, R347). -/
def State.hostReadDone (s : State) (number status : Nat) : State :=
  match s.arc.hostReads.find? fun r => r.number == number with
  | none => s
  | some r =>
    let others := s.arc.hostReads.filter fun x => x.number != number
    if status ≠ 0 then
      (({ s with arc := { s.arc with hostReads := others } }).uncorrectable status).complete 0x3B r.cmd .hwFault
    else if r.left ≤ 1 then
      (({ s with arc := { s.arc with hostReads := others } }).returnData r.cmd r.data).complete 0x3B r.cmd .ok
    else { s with arc := { s.arc with hostReads := others ++ [{ r with left := r.left - 1 }] } }

/-- A READ ends. One that the hub discarded is sent again (R325). -/
def State.readDone (s : State) (f : Format) (h : Nat) (o : DieOp) (status : Nat) : State :=
  if status = 5 then s.dieOp h o else
  match o.purpose with
  | .scan k sup p => s.scanRead f k sup p status
  | .host n => s.hostReadDone n status
  | _ => s

/-- The READs that wait for a hub which cannot be reached fail: the pages are unreadable (R326). -/
def State.failReads (s : State) (h : Nat) : State :=
  match s.arc.format with
  | none => s
  | some f =>
    let x := s.hub h
    let s := s.setHub h { x with waiting := x.waiting.filter fun o => o.op != 1 }
    (x.waiting.filter fun o => o.op == 1).foldl (fun s o => s.readDone f h o 8) s

/-- An erase of a member of a band ends (R318, R324). -/
def State.eraseDone (s : State) (f : Format) (h b m status : Nat) : State :=
  let x := stripeOf b
  match (f.members (x / 128))[m]? with
  | none => s
  | some (_, fm) =>
    if status = 0 then
      let left := (s.band b).erases.erase m
      (s.modBand b fun y => if left.isEmpty then {} else { y with erases := left }).arcSync
    else
      let s := if status = 2 then (s.bump Fl.ARC_ERASE_FAIL_COUNT_COUNT).hubEvent 377 h else s
      match s.takeSpare f fm.geom (dieNumber h x) (b / 2048) with
      | (true, s) =>
        s.dieOp h ⟨0, 3, x % 128 / 8, x % 8, s.physical fm.geom (dieNumber h x) (b / 2048), 0, [], .erase b m⟩
      | (false, s) => s.retireBand b h

/-! ### The format (R312, R313) -/

/-- Fitted DRAM in MiB. -/
def State.dramMib (s : State) : Nat := 1024 * s.get Fl.DDR_INFO_CAPACITY

/-- The numbers of R313 for a format, in MiB: the cold index, hot map, band table, remap, parity and buffers. -/
def State.archiveDram (s : State) (f : Format) : Nat :=
  let sum := fun (p : Nat → Nat) => (f.stripes.map p).foldl (· + ·) 0
  let index := 32 * s.indexRoom f
  let map := 4 * (f.hotGib * 16384)
  let table := 32 * sum fun x => s.bandsOf f x
  let remap := 4 * (f.hubs.map fun p => match p.2 with | some m => m.geom.blocks * m.geom.channels * m.geom.dies | none => 0).foldl
    (· + ·) 0
  let parity := (f.coldOpen + 7) * (f.stripes.map fun x => f.pages x * f.pageSize x).foldl max 0
  (index + map + table + remap + parity + 1048575) / 1048576 + 512

/-- The number of bands, from the lowest number, that hold 1.25 × HOT_GIB: one more than the last hot band. -/
def State.hotBound (s : State) (f : Format) (need : Nat) : Nat :=
  let step := fun (acc : Nat × Nat) (b : Nat) =>
    if need ≤ acc.1 || !s.bandExists f b then acc else (acc.1 + f.bandSize (stripeOf b), b + 1)
  ((List.range (s.bandLimit f)).foldl step (0, 0)).2

/-- The present hubs of the plan in force, each with what it last reported. -/
def State.formatHubs (s : State) : List (Nat × Nat × Nat × Option (Nat × Geometry)) :=
  (s.plan.hubs.filter fun x => s.flag (Fl.LANE_GRP_STATUS_TRAINED x.2.1)).map fun x =>
    let h := s.hub x.1
    (x.1, x.2.1, x.2.2, if h.state = 2 ∨ h.state = 5 then h.geom.map fun g => (h.seenId, g) else none)

/-- A format of the present hubs with the job's parameters. -/
def FormatJob.format (j : FormatJob) (id hotLast : Nat) : Format :=
  ⟨id, j.mode, j.hotGib, j.coldOpen, j.spare, j.hubs, hotLast⟩

/-- A parameter or a hub breaks Table 10.7, the cell mode, R301 or R303. -/
def State.formatRange (s : State) (f : Format) : Bool :=
  let hs := f.hubs.filterMap fun p => p.2.map fun m => (p.1, m)
  let shape := fun (g : Geometry) => (g.channels, g.dies, g.pageKib, g.blocks, g.pages)
  hs.any (fun x => !bitOf (f.mode - 1) x.2.geom.modes || x.2.geom.pages.getD (f.mode - 1) 0 == 0)
    || hs.any (fun x => hs.any fun y => x.1 / 8 == y.1 / 8 && shape x.2.geom != shape y.2.geom)
    || f.stripes.any fun x => decide (4294901760 < f.bandSize x) || s.bandsOf f x == 0

/-- The pieces of a format on a hub: every die in turn, first its bad-block map, then the erase of its blocks. -/
def State.formatStep (s : State) (h : Nat) : State :=
  match s.arc.job with
  | none => s
  | some j =>
    match FMap.get none j.hubs h with
    | none => s
    | some m =>
      let x := s.hub h
      match x.formatLeft with
      | b :: l =>
        (s.setHub h { x with formatLeft := l }).dieOp h
          ⟨0, 3, x.formatDie / 8 % 16, x.formatDie % 8, b, 0, [], .format⟩
      | [] => if 16 * 8 ≤ x.formatDie ∨ x.formatDie / 8 ≥ m.geom.channels then s.setHub h { x with formatting := false }
        else s.dieOp h ⟨0, 4, x.formatDie / 8, x.formatDie % 8, 0, 0, [], .badMap⟩

/-- The die after `d` on a hub: the next die of the channel, or the first of the next channel. -/
def nextDie (g : Geometry) (d : Nat) : Nat := if d % 8 + 1 < g.dies then d + 1 else (d / 8 + 1) * 8

/-- At a mount, provisional records are numbered on from the last reservation, 1 where none was ever recorded, and a new
reservation is recorded (R523). -/
def State.evtAtMount (s : State) : State :=
  let r := max 1 s.evt.reservation
  let renumber := fun (e : EvRec) => { e with seq := e.seq + r - 1, unit := e.unit % 8 }
  let s := if !s.evt.provisional then s else
    { s with evt := { s.evt with
      seq := s.evt.seq + r - 1, records := s.evt.records.map renumber, provisional := false } }
  { s with evt := { s.evt with reservation := s.evt.seq + 2 ^ 24 } }

/-- The format has erased every block of every present hub: the new archive is written and mounted (R312). Host writes that the
format overtook end HW_FAULT (log entry 147). -/
def State.formatEnd (s : State) : State :=
  match s.arc.job with
  | none => s
  | some j =>
    let id := s.arc.anchorSeq + 1
    let s := (s.arc.hostWrites).foldl (fun s w => s.complete w.op w.cmd .hwFault) s
    let f0 := j.format id 0
    let f := { f0 with hotLast := s.hotBound f0 (j.hotGib * 1342177280) }
    let s := { s with
      arc := { s.arc with
        format := some f, job := none, bands := [], supers := [], slots := [], hotOpen := 0, gcOpen := 0, metaOpen := 0,
        hotMap := [], hotOwed := [], hostUnits := [], nextSb := 1, hostWrites := [],
        staging := s.arc.staging.map (fun (r : Staged) => { r with place := none })
        anchorSeq := id, ckpt := s.meters, snaps := [], journal := [], stored := none, settings := none,
        settingsDirty := true, rsv := [], runsNoted := 0, journalNoted := 0, rsvNoted := [], trees := [],
        treesWritten := 0 } }
    let s := { s with
      key := { s.key with stored := none }
      evt := { s.evt with spilled := [], reservation := if s.evt.provisional then 0 else s.evt.reservation } }
    let s := (s.putFlag Fl.ARC_STATE_FORMATTING false).put Fl.ARC_STATE_CELL_MODE j.mode
    let s := ((s.put Fl.ARC_DRAM_MIB (s.archiveDram f)).putFlag Fl.ARC_STATE_MOUNTED true).arcSync
    let s := f.hubs.foldl (fun s p => s.modHub p.1 fun h => { h with state := 2 }) s
    ((s.metaBand.evtAtMount.raise 388).raise 369).keyAtMount.complete 0x38 j.cmd .ok

/-- The format goes on when a hub has nothing left, and ends when none has. -/
def State.formatNext (s : State) (h : Nat) : State :=
  let s := s.formatStep h
  match s.arc.job with
  | none => s
  | some j =>
    if j.started && !j.hubs.any (fun p => (s.hub p.1).formatting) then s.formatEnd else s

/-- A format is refused, or ends without success. -/
def State.formatFail (s : State) (st : Status) : State :=
  match s.arc.job with
  | none => s
  | some j =>
    let s := { s with arc := { s.arc with job := none } }
    (s.putFlag Fl.ARC_STATE_FORMATTING false).complete 0x38 j.cmd st

/-- Once every present hub has answered, a format is checked and its erases start (R312). -/
def State.formatReady (s : State) : State :=
  match s.arc.job with
  | none => s
  | some j =>
    let hs := s.formatHubs
    if j.started || hs.any (fun x => x.2.2.2.isNone) then s else
    let hubs : FMap (Option HubFmt) := hs.foldl (fun m x =>
      match x.2.2.2 with
      | some (id, g) => FMap.set none m x.1 (some ⟨x.2.1, x.2.2.1, id, g⟩)
      | none => m) []
    let s := { s with arc := { s.arc with dies := [], job := some { j with hubs := hubs } } }
    let f0 := ({ j with hubs := hubs } : FormatJob).format 0 0
    let f := { f0 with hotLast := s.hotBound f0 (j.hotGib * 1342177280) }
    let total := ((List.range (s.bandLimit f)).filter fun b => s.bandExists f b).length
    let hot := ((List.range f.hotLast).filter fun b => s.bandExists f b).length
    if hs.isEmpty || s.formatRange f then s.formatFail .range
    else if s.dramMib < s.archiveDram f + 19456 || decide (total < 2 * hot) then s.formatFail .noSpace
    else
      let s := { s with arc := { s.arc with job := some { j with hubs := hubs, started := true } } }
      let s := (s.putFlag Fl.ARC_STATE_FORMATTING true).putFlag Fl.ARC_STATE_MOUNTED false
      hubs.foldl (fun s p =>
        let s := s.modHub p.1 fun h => { h with state := 2, formatting := true, formatDie := 0, formatLeft := [] }
        (s.slateSend p.1 0x13 (be 1 j.mode ++ zeros 7)).formatNext p.1) s

/-- A bad-block map arrives: its good blocks, without the anchor blocks of die 0, are erased (R303, R312). -/
def State.formatMap (s : State) (h slice : Nat) (data : Octets) : State :=
  match s.arc.job with
  | none => s
  | some j =>
    match FMap.get none j.hubs h with
    | none => s
    | some m =>
      let g := m.geom
      let per := g.pageKib * 8192
      let d := (s.hub h).formatDie
      let marked := (List.range (min per (g.blocks - slice * per))).filter fun i => bitOf (i % 8) (leAt data (i / 8) 1)
      let s := s.modDie (128 * h + d) fun x => { x with bad := x.bad ++ marked.map (· + slice * per) }
      if (slice + 1) * per < g.blocks then
        s.dieOp h ⟨0, 4, d / 8, d % 8, 0, slice + 1, [], .badMap⟩
      else
        let good := s.goodBlocks g (128 * h + d)
        (s.modHub h fun x => { x with formatLeft := good, formatDie := if good.isEmpty then nextDie g d else d }).formatNext h

/-- An erase of a format ends: a block that does not erase is bad (R312, R324). -/
def State.formatErased (s : State) (h : Nat) (o : DieOp) (status : Nat) : State :=
  match s.arc.job with
  | none => s
  | some j =>
    match FMap.get none j.hubs h with
    | none => s
    | some m =>
      let d := (s.hub h).formatDie
      let s := if status = 0 then s else
        ((s.bump Fl.ARC_ERASE_FAIL_COUNT_COUNT).hubEvent 377 h).modDie (128 * h + d) fun x => { x with bad := x.bad ++ [o.block] }
      let s := if (s.hub h).formatLeft.isEmpty then s.modHub h fun x => { x with formatDie := nextDie m.geom d } else s
      s.formatNext h

/-- ARCHIVE_FORMAT takes effect (R312). -/
def archiveFormatEffect (c : Cmd) (mode coldOpen spare reserved : Byte) (hotGib : BitVec 32) (s : State) : State :=
  let lc := s.get Fl.OTP_LIFECYCLE_CODE
  if reserved ≠ 0#8 then s.complete 0x38 c .illegal
  else if lc == 3 || lc == 5 || !s.arc.scans.isEmpty || s.val.retro.isSome || s.arc.job.isSome then s.complete 0x38 c .state
  else if mode.toNat = 0 ∨ 4 < mode.toNat ∨ hotGib.toNat < 32 ∨ 65536 < hotGib.toNat ∨ coldOpen.toNat < 4 ∨ 32 < coldOpen.toNat
      ∨ spare.toNat = 0 ∨ 10 < spare.toNat then s.complete 0x38 c .range
  else
    let j : FormatJob := ⟨c, mode.toNat, hotGib.toNat, coldOpen.toNat, spare.toNat, [], false⟩
    ({ s with arc := { s.arc with job := some j } }).formatReady

/-- FORMAT_HUB_TIMEOUT: 10 s have passed and a present hub is not UP (R312). -/
def formatHubTimeoutEffect (s : State) : State :=
  match s.arc.job with
  | some j => if j.started then s else s.formatFail .hwFault
  | none => s

/-! ### Hub states, revocation and stops (R308 to R311, R325, R326, R328) -/

/-- Bands that are open and have a member on a hub. -/
def State.openOn (s : State) (f : Format) (h : Nat) : List Nat :=
  (s.arc.bands.filter fun p => p.2.isOpen && (f.members (stripeOf p.1 / 128)).any fun m => m.1 == h).map (·.1)

/-- Commands of a hub fail: PROGRAMs make their bands close early and are written again; the others wait until the hub is UP
(R325). -/
def State.failCommands (s : State) (h : Nat) : State :=
  let x := s.hub h
  let all := x.outstanding ++ x.waiting
  let progs := all.filter fun o => o.op == 2
  let s := s.setHub h { x with outstanding := [], waiting := all.filter fun o => o.op != 2 }
  match s.arc.format with
  | none => s
  | some f =>
    let pages := progs.filterMap fun o => match o.purpose with | .page b p => some (b, p) | _ => none
    let bands := (pages.map (·.1)).eraseDups
    bands.foldl (fun s b => s.rewrite f b ((pages.filter fun x => x.1 == b).map (·.2))) s

/-- The link of a hub starts a new epoch with no credit (R309). -/
def State.newEpoch (s : State) (h : Nat) : State :=
  s.modHub h fun x =>
    { x with epoch := (x.epoch + 1) % 256, hello := false, cmdLimit := 0, wbufLimit := 0, cmdSent := 0, wbufSent := 0,
             unacked := [], backlog := [], txSeq := 0, rxSeq := 0, ackOwed := false }

/-- A hub's credits are revoked (R309). -/
def State.revoke (s : State) (h : Nat) : State :=
  if (s.hub h).state ≠ 2 then s else
  let s := (s.newEpoch h).modHub h fun x => { x with state := 3 }
  let s := ((s.failCommands h).bump Fl.ARC_REVOKE_COUNT_COUNT).hubEvent 372 h
  match s.hubLane h with
  | some l => s.emit (.laneIdle l 1)
  | none => s

/-- Hub positions become ABSENT or DOWN as the plan carries their lanes (R310, Table 10.6). -/
def State.hubPresence (s : State) : State :=
  (List.range 128).foldl (fun s h =>
    let x := s.hub h
    if s.hubPresent h then (if x.state = 0 then s.setHub h { x with state := 1 } else s)
    else if x.state = 0 then s
    else (((s.newEpoch h).modHub h fun x => { x with state := 0 }).failCommands h).failReads h) s

/-- A frame of a hub is taken: its epoch is the link's, and its ACK counts. A sequenced frame counts only in order (R306). -/
def State.slateTake (s : State) (hdr : SlateHdr) (sequenced : Bool) (act : State → State) : State :=
  let h := hdr.hub.val
  if (s.hub h).epoch ≠ hdr.epoch.toNat ∨ (s.hub h).state = 0 then s else
  let s := s.slateAck h hdr.ack.toNat
  if !sequenced then act s
  else if hdr.seq.toNat ≠ (s.hub h).rxSeq then s.modHub h fun x => { x with ackOwed := true }
  else act (s.modHub h fun x => { x with rxSeq := nextSeq x.rxSeq, ackOwed := true })

/-- SLATE_HELLO_RX: a HELLO of the current epoch (R308, R309). -/
def slateHelloRxEffect (hdr : SlateHdr) (s : State) : State :=
  s.slateTake hdr false fun s => s.modHub hdr.hub.val fun x => { x with hello := true }

/-- A GEOMETRY payload (Table 10.3). -/
def geometryOf (b : Octets) : Nat × Geometry :=
  (beAt b 0 8, ⟨beAt b 8 1, beAt b 9 1, beAt b 10 1, beAt b 11 1, beAt b 12 4,
    [beAt b 16 2, beAt b 18 2, beAt b 20 2, beAt b 22 2], beAt b 24 2, beAt b 26 2, beAt b 28 4⟩)

/-- The part of a geometry that must match the format: all but the times and the firmware version. -/
def Geometry.shape (g : Geometry) : List Nat := [g.channels, g.dies, g.pageKib, g.modes, g.blocks] ++ g.pages

/-- The hub is UP, or back UP: operations that waited go (R309, R310). -/
def State.hubUp (s : State) (h : Nat) : State :=
  let s := (s.modHub h fun x => { x with state := 2 }).hubEvent 371 h
  let s := match s.arc.format with
    | some f => s.slateSend h 0x13 (be 1 f.mode ++ zeros 7)
    | none => s
  s.pumpAll h

/-- SLATE_GEOMETRY_RX: a hub's geometry is checked against the format (R309, R310). Without a format there is nothing to differ
from. -/
def slateGeometryRxEffect (hdr : SlateHdr) (payload : Octets) (s : State) : State :=
  let h := hdr.hub.val
  s.slateTake hdr true fun s =>
    let x := s.hub h
    if !x.hello then s else
    let (id, g) := geometryOf payload
    let s := s.setHub h { x with seenId := id, geom := some g }
    let known := s.arc.format.bind fun f => f.hub h
    let same := match known with
      | some m => m.hubId == id && m.geom.shape == g.shape
      | none => s.arc.format.isNone
    let s :=
      if same then
        if x.state = 5 then s.modHub h fun y => { y with state := 1 }
        else if x.state = 2 then s else s.hubUp h
      else if x.state = 1 then (s.modHub h fun y => { y with state := 5 }).hubEvent 374 h
      else s
    s.formatReady

/-- SLATE_CREDIT_RX: a CREDIT raises the limits; it never lowers one (R307). -/
def slateCreditRxEffect (hdr : SlateHdr) (cmdLimit wbufLimit : BitVec 32) (s : State) : State :=
  let h := hdr.hub.val
  s.slateTake hdr true fun s =>
    (s.modHub h fun x =>
      { x with cmdLimit := max x.cmdLimit cmdLimit.toNat, wbufLimit := max x.wbufLimit wbufLimit.toNat }).pumpAll h

/-- A PROGRAM of a page ends. The block of a PROG_FAIL is bad, and a spare takes its place at the band's next erase (R317, R324). -/
def State.programDone (s : State) (f : Format) (h b page status : Nat) : State :=
  if status = 0 then s.pageWritten f b page
  else if status = 5 ∧ s.arc.stopping.isSome = true then s
  else
    let s := if status = 1 then
        ((s.bump Fl.ARC_PROG_FAIL_COUNT_COUNT).hubEvent 376 h).modDie (dieNumber h (stripeOf b)) fun x =>
          { x with failed := x.failed.filter (fun k => k != b / 2048) ++ [b / 2048] }
      else s
    s.rewrite f b [page]

/-- SLATE_CPL_RX: a completion of a die operation (R305, R309). -/
def slateCplRxEffect (hdr : SlateHdr) (tag : BitVec 16) (status : Byte) (data : Octets) (s : State) : State :=
  let h := hdr.hub.val
  s.slateTake hdr true fun s =>
    let x := s.hub h
    match x.outstanding.find? fun o => o.tag == tag.toNat with
    | none => s.revoke h
    | some o =>
      let s := s.setHub h { x with outstanding := x.outstanding.erase o }
      let st := status.toNat
      let s := match o.purpose, s.arc.format with
        | .page b p, some f => s.programDone f h b p st
        | .erase b m, some f => s.eraseDone f h b m st
        | .scan _ _ _, some f => s.readDone f h o st
        | .host _, some f => s.readDone f h o st
        | .badMap, _ => s.formatMap h o.page data
        | .format, _ => s.formatErased h o st
        | _, none => s
      s.pumpAll h

/-- SLATE_STOP_DONE_RX: a hub has stopped (R308, R328). -/
def slateStopDoneRxEffect (hdr : SlateHdr) (s : State) : State :=
  let h := hdr.hub.val
  s.slateTake hdr true fun s =>
    match s.arc.stopping with
    | some l => { s with arc := { s.arc with stopping := some (l.filter fun k => k != h) } }
    | none => s

/-- The TYPE codes of Table 10.2. -/
def slateType (t : Nat) : Bool := t == 0 || t == 1 || (decide (0x10 ≤ t) && decide (t ≤ 0x16))

/-- SLATE_NOP_RX: a NOP, or a frame that is discarded: its FCS fails, its EPOCH differs, or its TYPE is reserved (R304, R306,
R309). -/
def slateNopRxEffect (hdr : SlateHdr) (type : Byte) (fcsBad : Bool) (s : State) : State :=
  if fcsBad then ({ s with arc := { s.arc with fcsErr := true } }).bump Fl.ARC_FCS_ERR_COUNT_COUNT
  else if (s.hub hdr.hub.val).epoch ≠ hdr.epoch.toNat then s
  else if !slateType type.toNat then s.revoke hdr.hub.val
  else s.slateTake hdr false fun s => s

/-- SLATE_RESEND_TIMER: ACK has not advanced for 100 µs: unacknowledged frames are resent, and the eighth resend of a frame
revokes the hub (R306, R309). -/
def slateResendTimerEffect (hub : Fin 128) (s : State) : State :=
  let h := hub.val
  let x := s.hub h
  if x.unacked.isEmpty then s
  else if x.unacked.any fun f => decide (8 ≤ f.resends) then s.revoke h
  else
    let s := s.setHub h { x with unacked := x.unacked.map fun f => { f with resends := f.resends + 1 } }
    let s := s.bumpBy Fl.ARC_RETX_COUNT_COUNT x.unacked.length
    x.unacked.foldl (fun s f => s.slateOut h f.type 1 f.seq f.payload) s

/-- CREDIT_TIMEOUT: a command has waited CREDIT_TO for credit (R309). -/
def creditTimeoutEffect (hub : Fin 128) (s : State) : State :=
  if (s.hub hub.val).waiting.isEmpty then s else s.revoke hub.val

/-- CMD_TIMEOUT: a command has been outstanding for CMD_TO (R309). -/
def cmdTimeoutEffect (hub : Fin 128) (s : State) : State :=
  if (s.hub hub.val).outstanding.isEmpty then s else s.revoke hub.val

/-- HUB_LINK_LOST: no block lock for 100 µs (R309). -/
def hubLinkLostEffect (hub : Fin 128) (s : State) : State := s.revoke hub.val

/-- HUB_HELLO_TIMER: a hub that has not answered is sent HELLO every 1 ms (R309). -/
def hubHelloTimerEffect (hub : Fin 128) (s : State) : State :=
  let x := (s.hub hub.val).state
  if x = 0 ∨ x = 2 then s else s.slateBare hub.val 1 (be 1 1 ++ be 1 1 ++ zeros 6)

/-- HUB_LOST_TIMEOUT: a revoked hub has not answered within LOST_S: open bands with a member on it close early (R310, R326). -/
def hubLostTimeoutEffect (hub : Fin 128) (s : State) : State :=
  let h := hub.val
  if (s.hub h).state ≠ 3 then s else
  let s := ((s.modHub h fun x => { x with state := 4 }).failReads h).hubEvent 373 h
  match s.arc.format with
  | none => s
  | some f =>
    (s.openOn f h).foldl (fun s b => s.rewrite f b []) s

/-- A unit of the hot region is lost with its band: its map entry and what it held go (R311). Places within STORE, RSV and VALLEY
are the model's. -/
def State.loseUnit (s : State) (u : Nat) : State :=
  let a := { s.arc with hotMap := FMap.set 0 s.arc.hotMap u 0 }
  let without := fun (m : FMap MeterRec) (first n : Nat) => m.filter fun p => !(decide (first ≤ p.1) && decide (p.1 < first + n))
  if hostFirst ≤ u then { s with arc := { a with hostUnits := FMap.set [] a.hostUnits (u - hostFirst) [] } }
  else if u < 65536 then { s with arc := { a with stored := none, settings := none } }
  else if u < 73728 then
    if (u - 65536) / 4096 = a.ckptCopy then { s with arc := { a with ckpt := without a.ckpt (256 * ((u - 65536) % 4096)) 256 } }
    else { s with arc := a }
  else if u < 204800 then
    let one := fun (p : Nat × FMap MeterRec) =>
      if p.1 % 64 = (u - 73728) / 2048 then (p.1, without p.2 (512 * ((u - 73728) % 2048)) 512) else p
    { s with arc := { a with snaps := a.snaps.map one } }
  else if u < 221184 then
    let rest := s.evt.spilled.filter fun e => (e.seq - 1) / 2048 % 16384 != u - 204800
    { s with arc := a, evt := { s.evt with spilled := rest } }
  else if u < 222208 then { s with arc := { a with rsv := [], rsvNoted := [] } }
  else if u < 222208 + 8 * treeUnits then { s with arc := { a with trees := [] } }
  else { s with arc := { a with journal := [] } }

/-- A band is lost with a hub: its superblocks and hot units go, what staging still holds of it is written again, and it is erased
(R311). -/
def State.loseBand (s : State) (f : Format) (b : Nat) : State :=
  let units := if (s.band b).use = .hot then s.validUnits b else []
  let s := s.unplace b fun _ => true
  let s := { s with arc := { s.arc with
    slots := FMap.mapVals 0 (fun _ k => if k = b + 1 then 0 else k) s.arc.slots
    hotOpen := if s.arc.hotOpen = b + 1 then 0 else s.arc.hotOpen
    gcOpen := if s.arc.gcOpen = b + 1 then 0 else s.arc.gcOpen
    metaOpen := if s.arc.metaOpen = b + 1 then 0 else s.arc.metaOpen } }
  (units.foldl State.loseUnit s).dropBand f b

/-- ARCHIVE_ADOPT takes effect (R311): the hub's dies are erased, in bands that held something and in free ones. -/
def archiveAdoptEffect (c : Cmd) (hub : Byte) (s : State) : State :=
  let h := hub.toNat
  let x := s.hub h
  match s.arc.format, x.geom with
  | some f, some g =>
    match f.hub h with
    | none => s.complete 0x39 c .state
    | some m =>
      if x.state ≠ 5 then s.complete 0x39 c .state
      else if m.geom.shape ≠ g.shape then s.complete 0x39 c .range
      else
        let f' := { f with hubs := FMap.set none f.hubs h (some { m with hubId := x.seenId }) }
        let s := { s with arc := { s.arc with
          dies := s.arc.dies.filter fun (p : Nat × Die) => p.1 / 128 != h, format := some f' } }
        let on := (List.range (s.bandLimit f')).filter fun b =>
          s.bandExists f' b && (f'.members (stripeOf b / 128)).any fun k => k.1 == h
        let s := on.foldl (fun s b => match (s.band b).use with
          | .free => s.eraseMembers f' b fun k => k == h
          | .retired => s
          | _ => s.loseBand f' b) s
        (s.modHub h fun y => { y with state := 1 }).writeReleased.complete 0x39 c .ok
  | _, _ => s.complete 0x39 c .state

/-! ### Verification (R323) -/

/-- Records of a band whose page is among `pages`, with their group. -/
def State.recordsOn (s : State) (b size : Nat) (pages : List Nat) : List Octets :=
  ((s.arc.supers.filter fun x => x.band == b).map fun x =>
    (pages.map fun p => x.onPage size p fun _ => true).flatten).flatten

/-- The member of a page of a band is on a LOST hub (R326). -/
def State.pageLost (s : State) (f : Format) (b page : Nat) : Bool :=
  match (f.members (stripeOf b / 128))[page % max 1 (f.width (stripeOf b))]? with
  | some (h, _) => (s.hub h).state == 4
  | none => false

/-- The failed pages of a band that stand alone in their row, and can be rebuilt, and those that do not (R323). -/
def splitFailed (width : Nat) (bad : List Nat) : List Nat × List Nat :=
  bad.partition fun p => (bad.filter fun q => q / width == p / width).length == 1

/-- Records on lost pages are counted and reported with the group and second range (R323). -/
def State.reportLost (s : State) (gone : List Octets) : State :=
  match gone with
  | [] => s
  | o :: l =>
    let first := (l.map fun x => leAt x 0 8).foldl min (leAt o 0 8)
    let last := (l.map fun x => leAt x 0 8).foldl max (leAt o 0 8)
    (s.bumpBy Fl.ARC_LOST_TILE_COUNT_COUNT gone.length).raise 380 (le 2 (groupOf o) ++ le 6 first ++ le 6 last)

/-- The superblocks of a band that hold a page of a list. -/
def State.supersOn (s : State) (b size : Nat) (pages : List Nat) : List Superblock :=
  s.arc.supers.filter fun x => x.band == b && pages.any fun p => !(x.onPage size p fun _ => true).isEmpty

/-- The valid hot units of a band that hold a page of a list. -/
def State.unitsOn (s : State) (b size : Nat) (pages : List Nat) : List Nat :=
  (s.validUnits b).filter fun u =>
    let first := (FMap.get 0 s.arc.hotMap u - 1) % 65536 * (65536 / max 1 size)
    (List.range (65536 / max 1 size)).any fun i => pages.contains (first + i)

/-- The verification of a band ends: rebuilt pages are counted and what they hold is written again; lost records leave the index;
the parity slot is free (R323). -/
def State.verified (s : State) (f : Format) (b : Nat) (bad : List Nat) : State :=
  let size := f.pageSize (stripeOf b)
  let (alone, lost) := splitFailed (max 1 (f.width (stripeOf b))) bad
  let s := alone.foldl (fun (s : State) p => (s.bump Fl.ARC_RECON_COUNT_COUNT).raise 379 (le 4 b ++ le 4 p)) s
  let s := s.reportLost (s.recordsOn b size lost)
  let rewrites := s.supersOn b size alone
  let cut := fun (x : Superblock) => if x.band = b then x.keeping size (fun k => !lost.contains k) else x
  let s := { s with arc := { s.arc with supers := s.arc.supers.map cut } }
  let s := (s.modBand b fun (x : Band) => { x with verifying := false }).arcSync
  let s := rewrites.foldl (fun (s : State) x => s.moveSuper f (x.keeping size fun k => !lost.contains k)) s
  let units := if (s.band b).use = .hot then s.unitsOn b size alone else []
  (s.hotWrites units).writeReleased

/-- BAND_VERIFY_DONE: the read-back of a closed band ends; `failed` lists its failed pages. Pages of a LOST hub count as failed
(R323, R326). -/
def bandVerifyDoneEffect (band : BitVec 32) (failed : List Nat) (s : State) : State :=
  let b := band.toNat
  match s.arc.format with
  | none => s
  | some f =>
    if !(s.band b).verifying then s
    else s.verified f b ((s.band b).done.filter fun p => failed.contains p || s.pageLost f b p)

/-! ### Scans and host units (R330, R331, R347) -/

/-- ARCHIVE_SCAN runs at its acceptance (R330). -/
def archiveScanEffect (c : Cmd) (p : ScanParams) (s : State) : State :=
  let op := 0x3A
  let ring := s.ring c.func.val p.ring.val
  if 1 < p.valley.toNat ∨ ring.type ≠ 2 ∨ c.len ≠ 0 then s.complete op c .illegal
  else if !s.flag Fl.ARC_STATE_MOUNTED then s.complete op c .notReady
  else if !s.enabled 10 then s.complete op c .state
  else match (List.range 8).find? fun k => (s.scan k).isNone with
    | none => s.complete op c .busy
    | some k =>
      let most := if p.valley = 1 then 2 ^ 14 else 2 ^ 20
      if p.toS.toNat < p.fromS.toNat ∨ p.last.toNat < p.first.toNat ∨ most ≤ p.last.toNat then s.complete op c .range
      else
        s.setScan k (some { cmd := c, fromS := p.fromS.toNat, toS := p.toS.toNat, first := p.first.toNat, last := p.last.toNat,
                            mask := p.mask.toNat, valley := p.valley == 1, ring := p.ring.val,
                            left := s.coldIndex.map Superblock.place })

/-- The RESULT of a scan (Table 11.5). -/
def Scan.result (c : Scan) : Octets := le 8 c.delivered ++ le 8 c.dropped ++ le 4 c.unreadable

/-- A scan ends with a status (R330, R333). -/
def State.endScan (s : State) (k : Nat) (st : Status) : State :=
  match s.scan k with
  | none => s
  | some c => ((s.setScan k none).complete 0x3A c.cmd st 0 c.result).raise 387

/-- The next page, at or after page `page` of the first superblock of a list, that holds a record a scan asks for: the superblocks
from the one that holds it on, and its page there. -/
def State.scanFrom (s : State) (f : Format) (c : Scan) : Nat → List Nat → Option (List Nat × Nat)
  | _, [] => none
  | page, p :: l =>
    let found := match s.superAt p with
      | none => none
      | some x =>
        let size := max 1 (f.pageSize (stripeOf x.band))
        ((List.range ((64 * x.slots + size - 1) / size)).drop page).find? fun k =>
          !(x.onPage size (65536 * x.start / size + k) c.wants).isEmpty
    match found with
    | some k => some (p :: l, k)
    | none => State.scanFrom s f c 0 l

/-- The next page of a scan. -/
def State.scanNext (s : State) (f : Format) (c : Scan) : Option (List Nat × Nat) := s.scanFrom f c c.page c.left

/-- A hub that does not answer: its pages cannot be read (R326). -/
def State.unreachable (s : State) (h : Nat) : Bool :=
  let st := (s.hub h).state
  st == 0 || st == 4 || st == 5

/-- SCAN_BATCH: a scan delivers as much of the page it has read as its ring takes, or reads its next page, or ends (R330, R331). -/
def scanBatchEffect (scan : Fin 8) (s : State) : State :=
  let k := scan.val
  match s.scan k, s.arc.format with
  | some c, some f =>
    if 2 ≤ s.get Fl.SWC_SHED_LEVEL ∨ c.reading = true then s
    else if !c.batch.isEmpty then
      let fn := c.cmd.func.val
      let r := s.ring fn c.ring
      let now := c.batch.take (max 1 r.size)
      if s.ringAdmits fn c.ring 2 && decide (r.size < r.held + now.length) then s
      else
        let r := now.foldl (fun (acc : Nat × State) o =>
          let d := acc.2.deliverTile fn c.ring o
          (acc.1 + b2n d.1, d.2)) (0, s)
        let lost := now.length - r.1
        let s := if lost = 0 then r.2 else r.2.bump Fl.ARC_SCAN_DROP_COUNT_COUNT
        s.setScan k (some { c with batch := c.batch.drop now.length, delivered := c.delivered + r.1, dropped := c.dropped + lost })
    else
      match s.scanNext f c with
      | none => s.endScan k .ok
      | some (left, p) =>
        let next := { c with left := left, page := p + 1, reading := true }
        match s.superAt (left.headD 0) with
        | none => s
        | some x =>
          let size := max 1 (f.pageSize (stripeOf x.band))
          let page := 65536 * x.start / size + p
          if !(s.band x.band).done.contains page then
            s.setScan k (some { next with reading := false, batch := x.onPage size page c.wants })
          else
          match s.pageOp f x.band page 1 [] (.scan k x.place page) with
          | none => s
          | some (h, o) =>
            if s.unreachable h then s.setScan k (some { next with reading := false, unreadable := c.unreadable + 1 })
            else (s.setScan k (some next)).dieOp h o
  | _, _ => s

/-- Units of the HOST region. -/
def State.hostUnitCount (s : State) : Nat := match s.arc.format with | some f => f.hotGib * 16384 - hostFirst | none => 0

/-- The die operations that read the written pages of a unit of the hot region (R332). What is not yet written is still held. -/
def State.unitReads (s : State) (f : Format) (u : Nat) (why : Purpose) : List (Nat × DieOp) :=
  match FMap.get 0 s.arc.hotMap u with
  | 0 => []
  | m + 1 =>
    let b := m / 65536
    let per := 65536 / max 1 (f.pageSize (stripeOf b))
    (((List.range per).map fun i => m % 65536 * per + i).filter fun p => (s.band b).done.contains p).filterMap fun p =>
      s.pageOp f b p 1 [] why

/-- The octets that a host read returns; a unit that was never written has no stated content. -/
def State.hostOctets (s : State) (us : List Nat) : Octets × State :=
  us.foldl (fun (acc : Octets × State) u =>
    if FMap.get 0 acc.2.arc.hotMap (hostFirst + u) = 0 then
      let (bs, s) := State.freshOctets 65536 acc.2
      (acc.1 ++ bs, s)
    else (acc.1 ++ acc.2.unitOctets (hostFirst + u), acc.2)) ([], s)

/-- ARCHIVE_HOST_READ runs at its acceptance: its pages are read from the hubs; one on a hub that cannot be reached ends it HW_FAULT
(R327, R332, R347). -/
def archiveHostReadEffect (c : Cmd) (unit count : BitVec 32) (s : State) : State :=
  let op := 0x3B
  if c.len.toNat ≠ 65536 * count.toNat then s.complete op c .illegal
  else if !s.flag Fl.ARC_STATE_MOUNTED then s.complete op c .notReady
  else if count.toNat = 0 ∨ 256 < count.toNat ∨ s.hostUnitCount < unit.toNat + count.toNat then s.complete op c .range
  else
    let us := (List.range count.toNat).map fun i => unit.toNat + i
    let n := s.arc.readNumber
    let ops := match s.arc.format with
      | some f => (us.map fun u => s.unitReads f (hostFirst + u) (.host n)).flatten
      | none => []
    if ops.any fun o => s.unreachable o.1 then s.complete op c .hwFault
    else
      let r := s.hostOctets us
      if ops.isEmpty then (r.2.returnData c r.1).complete op c .ok
      else
        let s := { r.2 with arc := { r.2.arc with
          readNumber := n + 1, hostReads := r.2.arc.hostReads ++ [⟨c, n, ops.length, r.1⟩] } }
        ops.foldl (fun s o => s.dieOp o.1 o.2) s

/-- ARCHIVE_HOST_WRITE takes effect (R321, R347). -/
def archiveHostWriteEffect (c : Cmd) (unit count : BitVec 32) (data : Octets) (s : State) : State :=
  let op := 0x3C
  if data.length ≠ 65536 * count.toNat then s.complete op c .illegal
  else if !s.flag Fl.ARC_STATE_MOUNTED then s.complete op c .notReady
  else if count.toNat = 0 ∨ 256 < count.toNat ∨ s.hostUnitCount < unit.toNat + count.toNat then s.complete op c .range
  else if s.get Fl.ARC_HOT_FREE_BANDS ≤ 1 then s.complete op c .busy
  else
    let us := (List.range count.toNat).map fun i => unit.toNat + i
    let held := us.foldl (fun m u => FMap.set [] m u (slice data (65536 * (u - unit.toNat)) 65536)) s.arc.hostUnits
    let w : HostWrite := { op := op, cmd := c, left := us.map fun u => hostFirst + u }
    let s := { s with arc := { s.arc with hostUnits := held, hostWrites := s.arc.hostWrites ++ [w] } }
    s.hotWrites w.left

/-- An ABORT of ARC ends every scan with ABORTED (R333). -/
def State.abortScans (s : State) : State := (List.range 8).foldl (fun s k => s.endScan k .aborted) s

/-- The scans of a fenced function end as under ABORT (R358). -/
def State.abortScansOf (s : State) (fn : Nat) : State :=
  (List.range 8).foldl (fun s k => match s.scan k with
    | some c => if c.cmd.func.val = fn then s.endScan k .aborted else s
    | none => s) s

/-! ### The power-safe stop (R328) -/

/-- The power-safe stop begins: STOP goes to every UP hub, and no CMD is sent from now on. -/
def State.stopArchive (s : State) : State :=
  let up := (List.range 128).filter fun h => (s.hub h).state == 2
  let s := up.foldl (fun s h => s.slateSend h 0x15 (zeros 8)) s
  { s with arc := { s.arc with stopping := some up } }

/-- The stop is complete: the marker is written to DRAM, DRAM enters self-refresh, ARC_STOPPED is raised. The incomplete event
unit is written as well (R524). -/
def State.stopArchiveDone (s : State) : State :=
  let spilled := (s.evt.records.filter fun e => !(s.evt.spilled.any fun x => x.seq == e.seq)) ++ s.evt.spilled
  let s := if s.evt.provisional then s else { s with evt := { s.evt with spilled := spilled } }
  let s := { s with arc := { s.arc with stopping := none, marker := true } }
  ((s.putFlag Fl.ARC_STATE_STOPPED true).putFlag Fl.DDR_INFO_SELF_REFRESH true).raise 386

def execArchiveFormat (c : Cmd) (mode coldOpen spare reserved : Byte) (hotGib : BitVec 32) (s : State) : Answer :=
  .next (s.writeCommand 0x38 c (le 1 mode.toNat ++ le 1 coldOpen.toNat ++ le 1 spare.toNat ++ le 1 reserved.toNat ++ le 4 hotGib.toNat) [] (c.len != 0 || reserved != 0) (archiveFormatEffect c mode coldOpen spare reserved hotGib))
def execFormatHubTimeout (s : State) : Answer := .next (formatHubTimeoutEffect s)
def execArchiveAdopt (c : Cmd) (hub : Byte) (s : State) : Answer := .next (s.writeCommand 0x39 c (le 1 hub.toNat) [] (c.len != 0) (archiveAdoptEffect c hub))
def execArchiveScan (c : Cmd) (p : ScanParams) (s : State) : Answer := .next (s.readCommand 0x3A c (archiveScanEffect c p))
def execScanBatch (scan : Fin 8) (s : State) : Answer := .next (scanBatchEffect scan s)
def execArchiveHostRead (c : Cmd) (unit count : BitVec 32) (s : State) : Answer :=
  .next (s.readCommand 0x3B c (archiveHostReadEffect c unit count))
def execArchiveHostWrite (c : Cmd) (unit count : BitVec 32) (data : Octets) (s : State) : Answer :=
  .next (s.writeCommand 0x3C c (le 4 unit.toNat ++ le 4 count.toNat) data (data.length != 65536 * count.toNat) (archiveHostWriteEffect c unit count data))
def execSlateHelloRx (h : SlateHdr) (s : State) : Answer := .next (slateHelloRxEffect h s)
def execSlateGeometryRx (h : SlateHdr) (payload : Octets) (s : State) : Answer := .next (slateGeometryRxEffect h payload s)
def execSlateCreditRx (h : SlateHdr) (cmdLimit wbufLimit : BitVec 32) (s : State) : Answer :=
  .next (slateCreditRxEffect h cmdLimit wbufLimit s)
def execSlateCplRx (h : SlateHdr) (tag : BitVec 16) (status : Byte) (data : Octets) (s : State) : Answer :=
  .next (slateCplRxEffect h tag status data s)
def execSlateStopDoneRx (h : SlateHdr) (s : State) : Answer := .next (slateStopDoneRxEffect h s)
def execSlateNopRx (h : SlateHdr) (type : Byte) (fcsBad : Bool) (s : State) : Answer := .next (slateNopRxEffect h type fcsBad s)
def execSlateResendTimer (hub : Fin 128) (s : State) : Answer := .next (slateResendTimerEffect hub s)
def execBandVerifyDone (band : BitVec 32) (failed : List Nat) (s : State) : Answer := .next (bandVerifyDoneEffect band failed s)
def execCreditTimeout (hub : Fin 128) (s : State) : Answer := .next (creditTimeoutEffect hub s)
def execCmdTimeout (hub : Fin 128) (s : State) : Answer := .next (cmdTimeoutEffect hub s)
def execHubLinkLost (hub : Fin 128) (s : State) : Answer := .next (hubLinkLostEffect hub s)
def execHubHelloTimer (hub : Fin 128) (s : State) : Answer := .next (hubHelloTimerEffect hub s)
def execHubLostTimeout (hub : Fin 128) (s : State) : Answer := .next (hubLostTimeoutEffect hub s)
def execCheckpointTimer (s : State) : Answer := .next (checkpointTimerEffect s)
def execHotGc (s : State) : Answer := .next (hotGcEffect s)

end Sys2Proof.Machine
end

