-- ==== Sys2Proof/Machine/Met.lean ====
section
/-!
DEFINITION. Machine/Met.lean: station metrology and the soffit domain (chapter 16). CAL_WRITE is in Otp.lean with the
other OTP programming.
-/

namespace Sys2Proof.Machine

/-! ### Calibration (R482, R483) -/

/-- The VALID slot with the highest number, with its octets (R509). -/
def slotInForce (l : List OtpSlot) : Option (Nat × Octets) :=
  (((List.range l.length).zip l).reverse.find? fun p => p.2.state == 2).map fun p => (p.1, p.2.octets)

/-- A field of the calibration generation in force, 0 when none is (R483). -/
def State.calField (s : State) (o k : Nat) : Nat := match s.met.gen with | some g => leAt g.2 o k | none => 0

/-- GAIN, OFFSET and PHASE of channel `c` (Table 16.4). -/
def State.calGain (s : State) (c : Nat) : Int := signed 32 (s.calField (8 + 12 * c) 4)
/-- OFFSET of channel `c`. -/
def State.calOffset (s : State) (c : Nat) : Int := signed 32 (s.calField (12 + 12 * c) 4)
/-- PHASE of channel `c`. -/
def State.calPhase (s : State) (c : Nat) : Int := signed 16 (s.calField (16 + 12 * c) 2)

/-- The calibrated value of channel `c` from its code (R482). -/
def State.calibrated (s : State) (c : Nat) (code : Int) : Int :=
  let x := if s.calPhase c = 0 then code else Config.phaseDelayed (s.free + c) (s.calPhase c) code
  clampInt (-(2 ^ 31 - 1 : Nat)) (2 ^ 31 - 1 : Nat) (roundDiv ((x - s.calOffset c) * s.calGain c) (2 ^ 24))

/-! ### Conversions (R477 to R481, R488) -/

/-- A code outside the 24-bit range, or of an overloaded modulator, is clamped (Table 16.3). -/
def clampCode (beyond : Bool) (x : Int) : Int :=
  if beyond then (if x < 0 then -0x800000 else 0x7FFFFF) else clampInt (-0x800000) 0x7FFFFF x

/-- The sample has OVR. -/
def overRange (beyond : Bool) (x : Int) : Bool := beyond || decide (x < -0x800000) || decide (0x7FFFFF < x)

/-- Flags of channel `c` from the OVR masks of this conversion and the one before it, and its settling (Table 16.3). -/
def sampleFlags (now before settle c : Nat) : Nat :=
  let others := (now ||| before) &&& (255 - 2 ^ c)
  b2n (bitOf c now) + 2 * b2n (others != 0) + 4 * b2n (settle != 0)

/-- Adds a conversion to the sums of a second. -/
def MetSum.add (m : MetSum) (y : List Int) (flags : Nat) : MetSum :=
  let v := fun (k : Nat) => y.getD k 0
  let sq := fun (k : Nat) => (v k * v k).toNat
  { m with
    count := m.count + 1
    energy := m.energy.add ⟨v 0 * v 3, v 1 * v 4, v 2 * v 5⟩
    squares := List.zipWith (· + ·) m.squares [sq 3, sq 4, sq 5, sq 6, sq 0, sq 1, sq 2]
    flags := m.flags ||| flags }

/-- Changes the sums of a second, opening them when they are not yet there. -/
def State.metSum (s : State) (second : Nat) (f : MetSum → MetSum) : State :=
  let g := fun (m : MetSum) => if m.second = second then f m else m
  let l := if s.met.sums.any fun m => m.second == second then s.met.sums.map g else s.met.sums ++ [f { second := second }]
  { s with met := { s.met with sums := l } }

/-- A conversion that did not take place (R480). -/
def State.metMissing (s : State) (second : Nat) : State :=
  let s := (List.range 8).foldl (fun s c => s.put (Fl.MET_SAMPLE_FLAGS c) 8) s
  s.metSum second fun m => { m with flags := m.flags ||| 8 }

/-- MET_CONVERSION: all eight channels convert at one instant (R477, R478, R480 to R482). -/
def metConversionEffect (second : BitVec 64) (codes : List Int) (beyond : BitVec 8) (missed : Bool) (s : State) : State :=
  let t := second.toNat
  if missed || !s.enabled 16 then s.metMissing t else
  let raw := fun (c : Nat) => codes.getD c 0
  let ov := fun (c : Nat) => bitOf c beyond.toNat
  let now := (List.range 8).foldl (fun n c => if overRange (ov c) (raw c) then n + 2 ^ c else n) 0
  let code := fun (c : Nat) => clampCode (ov c) (raw c)
  let flag := fun (c : Nat) => sampleFlags now s.met.lastOvr (s.met.settle.getD c 0) c
  let y := (List.range 8).map fun c => s.calibrated c (code c)
  let gathered := (List.range 6).foldl (fun n c => n ||| flag c) 0
  let unsettled := (s.met.settle.filter fun n => n != 0).length
  let s := (List.range 8).foldl (fun s c =>
    (s.put (Fl.MET_SAMPLE_CODE c) (unsigned 24 (code c))).put (Fl.MET_SAMPLE_FLAGS c) (flag c)) s
  let s := s.metSum t fun m => m.add y gathered
  let s := (s.bumpBy Fl.MET_OVR_COUNT_COUNT ((List.range 8).filter fun c => bitOf c now).length).bumpBy
    Fl.MET_SETTLE_COUNT_COUNT unsettled
  let s := { s with
    free := s.free + 8
    met := { s.met with lastOvr := now, settle := s.met.settle.map fun n => n - 1 } }
  if now = 0 ∨ s.met.ovrRaised = t + 1 then s
  else
    let s := { s with met := { s.met with ovrRaised := t + 1 } }
    s.raise 545 (le 1 (((List.range 8).find? fun c => bitOf c now).getD 0))

/-- Every channel settles for at least `n` more samples (R481). -/
def State.metSettle (s : State) (n : Nat) : State :=
  { s with met := { s.met with settle := s.met.settle.map fun k => max k n } }

/-! ### Generations come into force (R483, R484) -/

/-- MET_CAL_ID and MET_CAL_STATE follow the generation in force and the free slots. -/
def State.calSync (s : State) : State :=
  let s := s.put Fl.MET_CAL_STATE_FREE ((s.otp.cal.filter fun x => x.state == 0).length)
  let s := (s.put Fl.MET_CAL_ID_CAL_ID (s.calField 0 4)).put Fl.MET_CAL_STATE_FILTER (s.calField 4 1 % 4)
  let s := s.putFlag Fl.MET_CAL_STATE_VALID s.met.gen.isSome
  s.put Fl.MET_CAL_STATE_SLOT (match s.met.gen with | some g => g.1 | none => 0)

/-- The generation with the highest VALID slot comes into force: channels settle where the filter or their gain changes. -/
def State.calAdopt (s : State) : State :=
  let filter := s.calField 4 1
  let pga := (List.range 8).map fun c => s.calField (18 + 12 * c) 1
  let s := { s with met := { s.met with gen := slotInForce s.otp.cal, due := false } }
  let s := if s.calField 4 1 = filter then s else s.metSettle 12
  let one := fun (p : Nat × Nat) => if pga.getD p.1 0 = s.calField (18 + 12 * p.1) 1 then p.2 else max p.2 6
  ({ s with met := { s.met with settle := ((List.range 8).zip s.met.settle).map one } }).calSync

/-- CAL_IN_FORCE: the first whole second after a CAL_WRITE has completed begins (R484). -/
def calInForceEffect (s : State) : State :=
  if !s.met.due then s
  else (s.calAdopt.metSum s.second fun m => { m with calChange := true }).raise 547

/-! ### The station second record (R485 to R487) -/

/-- The measured values of a second whose 8,000 conversions all took place: E_1 to E_3, I_1 to I_N, V_1 to V_3. -/
def MetSum.values (m : MetSum) : List Nat × List Nat :=
  let e := m.energy.map fun v => roundDiv v 80000000000
  let sq := fun (k : Nat) => m.squares.getD k 0
  let i := (List.range 4).map fun k => min 0xFFFF (roundSqrt (sq k) 8000000000)
  let v := (List.range 3).map fun k => min 0xFFFF (roundSqrt (sq (4 + k)) 80000000)
  ([fitInt 4 e.a, fitInt 4 e.b, fitInt 4 e.c], i ++ v)

/-- `n` free numbers below `m`. -/
def State.freshNats : Nat → Nat → State → List Nat × State
  | 0, _, s => ([], s)
  | n + 1, m, s =>
    let (x, s) := s.freshNat m
    let (l, s) := State.freshNats n m s
    (x :: l, s)

/-- The values of a second: where a conversion did not take place the spec states none, and they are free. -/
def State.metValues (s : State) (m : MetSum) (whole : Bool) : List Nat × List Nat × State :=
  if whole then (m.values.1, m.values.2, s)
  else
    let (e, s) := State.freshNats 3 (2 ^ 32) s
    let (iv, s) := State.freshNats 7 (2 ^ 16) s
    (e, iv, s)

/-- MET_SECOND_RECORD: the record of the oldest second that has ended is formed (R485 to R487, Table 16.6). -/
def metSecondRecordEffect (s : State) : State :=
  let ended := s.met.sums.filter fun m => decide (m.second < s.second)
  let m : MetSum := match ended with | m :: _ => m | [] => { second := s.second - 1 }
  let whole := m.count == 8000 && !bitOf 3 m.flags
  let (e, iv, s) := s.metValues m whole
  let ovr := bitOf 0 m.flags
  let settle := bitOf 2 m.flags
  let valid := whole && !ovr && !settle && s.met.gen.isSome
  let part := bitOf 1 m.flags
  let flags := b2n valid + 2 * b2n part + 4 * b2n (!whole) + 8 * b2n ovr + 16 * b2n settle + 32 * b2n s.met.gen.isNone
    + 64 * b2n m.calChange
  let at' := fun (l : List Nat) (k : Nat) => l.getD k 0
  let slot := match s.met.gen with | some g => g.1 | none => 255
  let body := le 8 m.second ++ (e.map (le 4)).flatten ++ (iv.map (le 2)).flatten ++ le 2 flags ++ le 1 slot ++ zeros 1
  let s := { s with met := { s.met with
    sums := s.met.sums.filter fun x => x.second != m.second, last := body ++ le 2 (crc16 body) } }
  let s := (s.put64 Reg.MET_SEC_LO m.second).put Fl.MET_SEC_FLAGS_FLAGS flags
  let s := (List.range 3).foldl (fun s k => s.put (Fl.MET_SEC_E_E k) (at' e k)) s
  let s : State := (List.range 4).foldl (fun s k =>
    (s.put (Fl.MET_SEC_I_I k) (at' iv k)).put (Fl.MET_SEC_I_V k) (if k = 3 then 0 else at' iv (4 + k))) s
  let three := fun (l : List Nat) => (⟨at' l 0, at' l 1, at' l 2⟩ : Three)
  let measure : Measure := ⟨(three e).map fun v => signed 32 v.toNat, three iv, part⟩
  let s := if s.get Fl.RDG_STATE_STATE = 0 ∨ s.get Fl.RDG_STATE_STATE = 1 then
      s.setStation m.second (if valid then some measure else none)
    else s
  let s := if s.get Fl.RDG_STATE_STATE = 1 then
      { s with hst := { s.hst with inputLog := s.hst.inputLog ++ [.metro m.second] } } else s
  if valid then s
  else
    let s := s.bump Fl.MET_INVALID_COUNT_COUNT
    if s.met.invalidRaised ≠ 0 ∧ m.second < s.met.invalidRaised + 59 then s
    else ({ s with met := { s.met with invalidRaised := m.second + 1 } }).raise 549

/-! ### The soffit domain (R490 to R493) -/

/-- The STATE octet of a tamper record (R492). -/
def State.soffitState (s : State) : Nat :=
  s.get Fl.TMP_SOFFIT_STATE_TAMPER + 16 * b2n s.tmp.mainPower + 32 * b2n (s.tmp.mainPower && s.tmp.sealOpen)

/-- Raises a TMP event; without main power nothing is raised. -/
def State.soffitRaise (s : State) (source seq : Nat) : State := if s.tmp.mainPower then s.raise source (le 4 seq) else s

/-- Writes a record to the tamper log (R492, R493). -/
def State.soffitRecord (s : State) (kind arg : Nat) : State :=
  if s.flag Fl.TMP_SOFFIT_STATE_SEQ_END then s else
  let seq := s.get Fl.TMP_LOG_HEAD_SEQ + 1
  let lost := s.tmp.log.drop 31
  let s := { s with tmp := { s.tmp with log := ⟨seq, kind, arg, s.soffitState⟩ :: s.tmp.log.take 31 } }
  let s := (s.put Fl.TMP_LOG_HEAD_SEQ seq).putFlag Fl.TMP_SOFFIT_STATE_SEQ_END (seq == 0xFFFFFFFF)
  let s := lost.foldl (fun s r => s.soffitRaise 563 r.seq) s
  if kind = 1 then s.soffitRaise 560 seq else if kind = 5 then s.soffitRaise 562 seq else s

/-- A record of the kinds that need main power (Table 16.7). -/
def State.soffitPowered (s : State) (kind arg : Nat) : State := if s.tmp.mainPower then s.soffitRecord kind arg else s

/-- Input `k` after a sample (R491). -/
def State.tamperInput (s : State) (levels k : Nat) : State :=
  let run := s.tmp.runs.getD k 0
  let setRun := fun (n : Nat) => { s with tmp := { s.tmp with runs := s.tmp.runs.set k n } }
  let now := bitOf k levels != bitOf k (s.get Fl.TMP_CFG_POL)
  let was := s.get Fl.TMP_SOFFIT_STATE_TAMPER
  if !bitOf k (s.get Fl.TMP_CFG_EN) || now == bitOf k was then setRun 0
  else if run + 1 < 8 then setRun (run + 1)
  else
    let s := (setRun 0).put Fl.TMP_SOFFIT_STATE_TAMPER (putBits k k was (b2n now))
    s.soffitRecord (if now then 1 else 2) k

/-- TAMPER_SAMPLE: the soffit domain samples the TAMP inputs, bit k high for a high level, and records seal changes (R489,
R491). -/
def tamperSampleEffect (levels : BitVec 4) (s : State) : State :=
  let s := (List.range 4).foldl (fun s k => s.tamperInput levels.toNat k) s
  let is := s.flag Fl.SAF_PINS_SEAL_OPEN
  if !s.tmp.mainPower || is == s.tmp.sealOpen then s
  else ({ s with tmp := { s.tmp with sealOpen := is } }).soffitRecord (if is then 6 else 7) 0

/-- MAIN_POWER_OFF as the soffit domain sees it (R492). -/
def State.soffitOff (s : State) : State :=
  if !s.tmp.mainPower then s else ({ s with tmp := { s.tmp with mainPower := false } }).soffitRecord 3 0

/-- MAIN_POWER_ON: main power returns (R492). -/
def mainPowerOnEffect (s : State) : State :=
  if s.tmp.mainPower then s else ({ s with tmp := { s.tmp with mainPower := true } }).soffitRecord 4 0

/-- VBAT_CHECK: VBAT is checked once per second (R492). -/
def vbatCheckEffect (low : Bool) (s : State) : State :=
  let was := s.flag Fl.TMP_SOFFIT_STATE_VBAT_LOW
  let s := s.putFlag Fl.TMP_SOFFIT_STATE_VBAT_LOW low
  if low && !was then s.soffitRecord 5 0 else s

/-- SOFFIT_START: the soffit domain starts without retained content (R490, R491). -/
def soffitStartEffect (s : State) : State :=
  let s := { s with tmp := { s.tmp with log := [], runs := [0, 0, 0, 0] } }
  let s := ((s.setWord Reg.TMP_SOFFIT_STATE 0).put Fl.TMP_CFG_EN 15).put Fl.TMP_CFG_POL 0
  (s.put Fl.TMP_LOG_HEAD_SEQ 0).soffitRecord 11 0

/-- What a boot reads in the tamper log (R493): a TAMP_OPEN between the last MAIN_OFF and the last MAIN_ON, and SOFFIT_START. -/
def State.soffitAtBoot (s : State) : State :=
  let l := s.tmp.log
  let on := (l.find? fun r => r.kind == 4).map (·.seq)
  let off := (l.find? fun r => r.kind == 3).map (·.seq)
  let s := match on, off with
    | some b, some a =>
      match l.find? fun r => r.kind == 1 && decide (a < r.seq) && decide (r.seq < b) with
      | some r => s.soffitRaise 561 r.seq
      | none => s
    | _, _ => s
  match l.find? fun r => r.kind == 11 with
  | some r => s.soffitRaise 564 r.seq
  | none => s

def execMetConversion (second : BitVec 64) (codes : List Int) (beyond : BitVec 8) (missed : Bool) (s : State) : Answer :=
  .next (metConversionEffect second codes beyond missed s)
def execMetSecondRecord (s : State) : Answer := .next (metSecondRecordEffect s)
def execCalInForce (s : State) : Answer := .next (calInForceEffect s)
def execTamperSample (levels : BitVec 4) (s : State) : Answer := .next (tamperSampleEffect levels s)
def execMainPowerOn (s : State) : Answer := .next (mainPowerOnEffect s)
def execVbatCheck (low : Bool) (s : State) : Answer := .next (vbatCheckEffect low s)
def execSoffitStart (s : State) : Answer := .next (soffitStartEffect s)

end Sys2Proof.Machine
end

