-- ==== Sys2Proof/Machine/PlanImage.lean ====
section
/-!
DEFINITION. Machine/PlanImage.lean: the plan image (R54 to R70), the checks of Table 2.13 on it (R53, R66, R67, R71, R119, R158,
R159), and the images of the route tables and tone-map defaults (R139, R143).
-/

namespace Sys2Proof.Machine

/-- Records of `k` octets that fill an octet string. -/
def recordsIn (k : Nat) (bs : Octets) : List Octets := (List.range (bs.length / k)).map fun i => slice bs (k * i) k

/-- The course period code of an image, and what Table 2.1 gives for it: cluster limit and record quota limit. -/
def clusterLimit (code : Nat) : Nat := [7812, 15625, 31250, 62500].getD code 0
/-- Record quota limit per batten (Table 2.1). -/
def quotaLimit (code : Nat) : Nat := [131, 262, 524, 1048].getD code 0

/-- A directory entry (R56): type, offset, length. -/
structure Section where
  type : Nat
  offset : Nat
  length : Nat
deriving DecidableEq, Repr

/-- Octets of an image that lie in no section are 00h, sections lie apart (R54): walks the sections in order of offset. -/
def sectionsApart (bs : Octets) (last : Nat) : Nat → List Section → Bool
  | pos, [] => decide (pos ≤ last) && allZero (slice bs pos (last - pos))
  | pos, x :: l =>
    decide (pos ≤ x.offset) && x.offset % 64 == 0 && allZero (slice bs pos (x.offset - pos))
      && sectionsApart bs last (x.offset + x.length) l

/-- Places a section in order of offset; of two at one offset the shorter comes first, so that an empty one overlaps nothing. -/
def insertSection (x : Section) : List Section → List Section
  | [] => [x]
  | y :: l =>
    if x.offset < y.offset ∨ (x.offset = y.offset ∧ x.length < y.length) then x :: y :: l else y :: insertSection x l

/-- The section directory (R54, R56): each type of Table 2.3 exactly once; none for a breach. -/
def planSections (bs : Octets) : Option (List Section) :=
  let n := leAt bs 32 2
  let last := bs.length - 96
  let raw := recordsOf' 16 n (bs.drop 128)
  let secs := raw.map fun r => (⟨leAt r 0 2, leAt r 8 4, leAt r 12 4⟩ : Section)
  if n = 12 ∧ 320 + 96 ≤ bs.length ∧ (raw.all fun r => leAt r 2 2 == 1 && leAt r 4 4 == 0) = true
      ∧ ((List.range 12).all fun t => secs.any fun x => x.type == t + 1) = true
      ∧ sectionsApart bs last 320 (secs.foldl (fun l x => insertSection x l) []) = true then some secs
  else none
where
  /-- `n` records of `k` octets. -/
  recordsOf' (k n : Nat) (b : Octets) : List Octets := (List.range n).map fun i => slice b (k * i) k

/-- The octets of a section type. -/
def sectionOctets (bs : Octets) (secs : List Section) (t : Nat) : Octets :=
  match secs.find? fun x => x.type == t with
  | some x => slice bs x.offset x.length
  | none => []

/-- GROUPS (R57): role code in bits [2:0] of byte 0, whose other bits are reserved. The role and mask of an entry of a group that is not
present are left to check 6 where its role is not Unused. -/
def groupsOk (grade : Nat) (b : Octets) : Bool :=
  b.length == 320 && ((List.range 40).zip (recordsIn 8 b)).all fun p =>
    let role := leAt p.2 0 1 % 8
    let mask := leAt p.2 1 1
    allZero (slice p.2 2 6) && decide (leAt p.2 0 1 < 8) &&
      ((grade == 1 && decide (20 ≤ p.1) && role != 0) ||
        (decide (role ≤ 4) && (role != 0 || mask == 0) && (role != 4 || mask == 255)))

/-- Role code and lane mask of each group. -/
def groupsOf (b : Octets) : List (Nat × Nat) := (recordsIn 8 b).map fun r => (leAt r 0 1 % 8, leAt r 1 1)

/-- Where the override rules of CYCLE stand (Table 2.4). -/
def rulesAt (code : Nat) : Nat := (8 + coursesPerSecond code + 7) / 8 * 8

/-- CYCLE (R58). -/
def cycleOk (code types : Nat) (b : Octets) : Bool :=
  let l := coursesPerSecond code
  let n := leAt b 2 2
  leAt b 0 2 == l && decide (n ≤ 32) && leAt b 4 4 == 0 && b.length == rulesAt code + 16 * n
    && (slice b 8 l).all (fun x => decide (x.toNat < types)) && allZero (slice b (8 + l) (rulesAt code - 8 - l))
    && (recordsIn 16 (b.drop (rulesAt code))).all fun r =>
      decide (1 ≤ leAt r 0 4) && decide (leAt r 0 4 ≤ 86400) && decide (leAt r 4 4 < leAt r 0 4) && decide (leAt r 8 2 < l)
        && decide (leAt r 10 1 < types) && allZero (slice r 11 5)

/-- The override rules. -/
def cycleRules (code : Nat) (b : Octets) : List CycleRule :=
  (recordsIn 16 (b.drop (rulesAt code))).map fun r => ⟨leAt r 0 4, leAt r 4 4, leAt r 8 2, leAt r 10 1⟩

/-- A batten record (Table 2.5). -/
def battenOf (r : Octets) : BattenRec :=
  let f := leAt r 4 2
  ⟨leAt r 0 2, leAt r 2 2, bitOf 0 f, bitOf 1 f, bitOf 2 f⟩

/-- COURSE_TYPES (R59). -/
def typesOk (types sets : Nat) (b : Octets) : Bool :=
  b.length == 128 * types && (recordsIn 8 b).all fun r =>
    decide (leAt r 0 2 < sets) && decide (leAt r 4 2 < 8) && leAt r 6 2 == 0

/-- A work set's entries (R60): first item and count of each cluster. -/
def workSetOf (r : Octets) : List (Nat × Nat) := (recordsIn 4 r).map fun e => (leAt e 0 3, leAt e 3 1)

/-- A work item (Table 2.6). -/
def workItemOf (r : Octets) : WorkItem := ⟨leAt r 0 1, leAt r 1 1, leAt r 2 2, leAt r 4 2, leAt r 6 1⟩

/-- A work item's own fields (Tables 2.6 and 2.7). -/
def workItemOk (code : Nat) (r : Octets) : Bool :=
  let i := workItemOf r
  decide (1 ≤ i.op) && decide (i.op ≤ 10) && decide (i.cond ≤ 4) && (decide (i.cell < 32768) || i.cell == 0xFFFF)
    && decide (4 * i.cost ≤ clusterLimit code)
    && (if i.cond = 1 ∨ i.cond = 2 then decide (i.param ≤ 3) else i.param == 0) && leAt r 7 1 == 0

/-- The operation and cell of an item that a cluster's entry names (R60). -/
def namedItemOk (p : Plan) (cluster : Nat) (i : WorkItem) : Bool :=
  if i.op = 9 ∨ i.op = 10 then i.cell == 0xFFFF
  else match p.cell i.cell with
    | none => false
    | some c => c.cluster == cluster &&
      (if i.op ≤ 3 then decide (c.kind ≤ 4) else if i.op ≤ 6 then c.kind == 5 else true)

/-- A chain with its eaves (R64) from the front of the octets, and the rest. -/
def chainOf (p : Plan) (b : Octets) : Option (Chain × Octets) :=
  let lane := leAt b 0 2
  let n := leAt b 2 1
  let g := p.roles.getD (lane / 8) (0, 0)
  let raw := recordsIn 16 (slice b 8 (16 * n))
  let eaves := raw.map fun r => (⟨leAt r 0 8, leAt r 8 2, leAt r 10 1, leAt r 11 1, leAt r 12 2⟩ : EaveRec)
  if decide (b.length < 8 + 16 * n) || decide (320 ≤ lane) || g.1 != 1 || !bitOf (lane % 8) g.2 || decide (n = 0)
      || decide (32 < n) || decide (leAt b 3 1 < 2) || decide (8 < leAt b 3 1) || decide (leAt b 4 1 < 2)
      || decide (8 < leAt b 4 1) || leAt b 5 3 != 0
      || raw.any (fun r => leAt r 14 2 != 0 || decide (8192 ≤ leAt r 8 2) || decide (n ≤ leAt r 10 1)
        || decide (32 ≤ leAt r 11 1) || (bitOf 3 (leAt r 11 1) && leAt r 11 1 % 8 != 0))
      || !((eaves.map (·.position)).eraseDups.length == eaves.length) then none
  else some (⟨lane, leAt b 3 1, leAt b 4 1, eaves⟩, b.drop (8 + 16 * n))

/-- The chains of CHAINS (R64); none for a breach. -/
def chainsOf (p : Plan) : Nat → Octets → Option (List Chain)
  | 0, b => if b.isEmpty then some [] else none
  | k + 1, b =>
    match chainOf p b with
    | none => none
    | some (c, rest) => (chainsOf p k rest).map (c :: ·)

/-- Cells that CHAINS names, each with its KIND (R64, R65). -/
def Plan.namedCells (p : Plan) : List (Nat × Nat) :=
  p.chains.flatMap fun c => c.eaves.flatMap fun e =>
    ((List.range 5).filter fun b => bitOf b e.config).map fun b => (p.cellAt e b, b + 1)

/-- CELLS (R65): one record per cell named in CHAINS, in ascending order. -/
def cellsOk (p : Plan) (b : Octets) : Bool :=
  let named := p.namedCells
  b.length == 8 * (named.map (·.1)).eraseDups.length && risingCells (p.cells.map (·.cell))
    && named.all fun x => decide (x.1 < 32768) && match p.cell x.1 with
      | none => false
      | some c => decide (c.cluster < 128) && c.kind == x.2 && decide (c.windowClass < p.windows.length)
        && decide (c.paramSet < p.params.length)
where
  /-- Strictly rising cell numbers. -/
  risingCells : List Nat → Bool
    | a :: b :: l => decide (a < b) && risingCells (b :: l)
    | _ => true

/-- A cell record (R65). -/
def cellRecOf (r : Octets) : CellRec := ⟨leAt r 0 2, leAt r 2 1, leAt r 3 1, leAt r 4 2, leAt r 6 2⟩

/-- `x` lies in `lo` to `hi`. -/
def within (lo hi x : Nat) : Bool := decide (lo ≤ x) && decide (x ≤ hi)

/-- A gain of −20 to +40 dB in one octet. -/
def gainOk (x : Nat) : Bool := decide (-20 ≤ signed 8 x) && decide (signed 8 x ≤ 40)

/-- A power-line parameter set (Table 4.4), its batten length in ns. -/
def plcParamsOk (battenNs : Nat) (r : Octets) : Bool :=
  let f := fun (o k : Nat) => leAt r o k
  within 1 2 (f 1 1) && decide (f 4 1 ≤ 31) && gainOk (f 5 1) && decide (f 6 1 < 16) && decide (f 7 1 < 4)
    && within (if f 1 1 = 1 then 700 else 240) 2000 (f 8 2) && within 64 250 (f 10 1) && within 20 90 (f 11 1)
    && decide (f 12 2 * 1000 + 4 * battenNs ≤ f 14 2 * 1000) && decide (f 18 1 ≤ 7) && decide (1 ≤ f 19 1)
    && decide (60 ≤ f 20 2) && within 1 14 (f 22 1) && within 64 400 (f 24 2) && within 100 5000 (f 26 2) && allZero (slice r 28 36)

/-- A radio parameter set (Table 5.3). -/
def radParamsOk (r : Octets) : Bool :=
  let f := fun (o k : Nat) => leAt r o k
  within 0x10 0x11 (f 1 1) && decide (f 4 1 ≤ 31) && gainOk (f 5 1) && decide (f 6 1 < 16) && decide (f 7 1 < 0x30)
    && within 1 3 (f 8 1) && within 5 7 (f 9 1) && within 100 5000 (f 12 2) && within 20 100 (f 14 1) && decide (4 ≤ f 15 1)
    && within 1000 10000 (f 16 2) && within 1000 20000 (f 18 2) && decide (f 20 1 ≤ 7) && decide (1 ≤ f 21 1)
    && within 64 2047 (f 22 2) && within 10 10000 (f 24 2) && within 500 20000 (f 26 2) && within 1 200 (f 28 1)
    && f 29 1 == 0 && decide (f 30 2 ≤ 1000) && allZero (slice r 40 24)

/-- CELL_PARAMS (R123, R159). -/
def paramsOk (battenNs : Nat) (b : Octets) : Bool :=
  b.length == 8 + 64 * leAt b 0 2 && allZero (slice b 2 6) && (recordsIn 64 (b.drop 8)).all fun r =>
    (leAt r 0 1 == 1 && plcParamsOk battenNs r) || (leAt r 0 1 == 2 && radParamsOk r)

/-- Channels of a BAND and MODE (Table 5.2). -/
def radChannels (rband mode : Nat) : Nat :=
  if rband = 0x10 then (if mode = 1 then 34 else 17) else if mode = 1 then 129 else 64

/-- A cell's parameter set suits it (R119, R123, R158, R159). -/
def cellParamsOk (p : Plan) (battenNs : Nat) (c : CellRec) : Bool :=
  if c.kind = 5 then
    p.param c.cell 0 1 == 2 && p.panId c.cell != 0xFFFF
      && decide (p.param c.cell 10 2 < radChannels (p.param c.cell 1 1) (p.param c.cell 8 1))
      && decide ((p.dRx c.cell + p.dTx c.cell + 2) * battenNs ≤ p.param c.cell 16 2 * 1000)
  else p.param c.cell 0 1 == 1 && p.panId c.cell != 0xFFFF

/-- A window class entry (Table 2.9). -/
def windowOf (r : Octets) : WindowEntry :=
  ⟨leAt r 0 2, leAt r 2 2, [leAt r 4 2, leAt r 6 2, leAt r 8 2, leAt r 10 2]⟩

/-- WINDOWS (R66). -/
def windowsOk (types : Nat) (b : Octets) : Bool :=
  within 1 1024 (leAt b 0 2) && allZero (slice b 2 6) && b.length == 8 + 16 * types * leAt b 0 2
    && (recordsIn 16 (b.drop 8)).all fun r => leAt r 12 4 == 0

/-- TOTALS (R67). -/
def totalsOk (b : Octets) : Bool :=
  let rs := recordsIn 8 b
  b.length == 112 && rs.all (fun r => leAt r 2 2 == 0) && (List.range 14).all fun k => rs.any fun r => leAt r 0 2 == k + 1

/-- TABLE_REFS (R68). -/
def refsOk (b : Octets) : Bool :=
  b.length == 640 && ((List.range 16).zip (recordsIn 40 b)).all fun p =>
    let mode := leAt p.2 0 1
    allZero (slice p.2 1 7) && (mode == 0 || (mode == 1 && decide (p.1 < 5)) || (mode == 2 && p.1 == 0))
      && (mode != 0 || allZero (slice p.2 8 32))

/-- The header's fields under check 5 (R55), and the trailer's reserved octets (R69). -/
def headerOk (bs : Octets) : Bool :=
  decide (leAt bs 12 4 < 2) && decide (leAt bs 28 1 < 4) && within 1 16 (leAt bs 31 1) && leAt bs 34 2 == 0
    && allZero (slice bs 64 64) && allZero (slice bs (bs.length - 88) 24)

/-- The plan of an image as its sections spell it, before they are checked; the chains are given. -/
def planRaw (bs : Octets) (secs : List Section) (chains : List Chain) : Plan :=
  let sec := sectionOctets bs secs
  let types := leAt bs 31 1
  let code := leAt bs 28 1
  { planId := leAt bs 16 8, epoch := leAt bs 24 4, period := code, expertRidge := bitOf 0 (leAt bs 12 4)
    roles := groupsOf (sec 1)
    cycleMap := (slice (sec 2) 8 (coursesPerSecond code)).map (·.toNat)
    rules := cycleRules code (sec 2)
    types := (recordsIn 128 (sec 3)).map fun t => (recordsIn 8 t).map battenOf
    work := (recordsIn 512 (sec 4)).map workSetOf
    pool := (recordsIn 8 (sec 5)).map workItemOf
    chains := chains
    cells := (recordsIn 8 (sec 7)).map cellRecOf
    params := recordsIn 64 ((sec 8).drop 8)
    windows := (recordsIn (16 * types) ((sec 9).drop 8)).map fun w => (recordsIn 16 w).map windowOf
    totals := (recordsIn 8 (sec 10)).foldl (fun m r => FMap.set 0 m (leAt r 0 2) (leAt r 4 4)) []
    dram := (recordsIn 4 (sec 11)).map unLe
    refs := (recordsIn 40 (sec 12)).map fun r => (leAt r 0 1, slice r 8 32) }

/-- Check 5 of Table 2.13: the plan of an image, none for a breach of R54 to R70. -/
def planOf (grade : Nat) (bs : Octets) : Option Plan :=
  match planSections bs with
  | none => none
  | some secs =>
    let sec := sectionOctets bs secs
    let types := leAt bs 31 1
    let code := leAt bs 28 1
    let ns := periodNs code / 16
    let p0 := planRaw bs secs []
    if !headerOk bs || !groupsOk grade (sec 1) || !cycleOk code types (sec 2) || (sec 4).length % 512 != 0
        || !typesOk types ((sec 4).length / 512) (sec 3) || (sec 5).length % 8 != 0
        || !(recordsIn 8 (sec 5)).all (workItemOk code) || !paramsOk ns (sec 8) || !windowsOk types (sec 9)
        || !totalsOk (sec 10) || (sec 11).length != 32 || !refsOk (sec 12) || slice (sec 6) 2 6 != zeros 6 then none
    else
      match chainsOf p0 (leAt (sec 6) 0 2) ((sec 6).drop 8) with
      | none => none
      | some chains =>
        let p := planRaw bs secs chains
        let eaves := chains.flatMap (·.eaves)
        if (chains.map (·.lane)).eraseDups.length != chains.length
            || (eaves.map (·.eave)).eraseDups.length != eaves.length || !cellsOk p (sec 7)
            || !p.cells.all (cellParamsOk p ns)
            || !(p.work.all fun w => ((List.range 128).zip w).all fun e =>
              e.2.2 == 0 || (decide (e.2.1 + e.2.2 ≤ p.pool.length) &&
                ((p.pool.drop e.2.1).take e.2.2).all (namedItemOk p e.1))) then none
        else some p

/-- Groups with a role. -/
def Plan.groups (p : Plan) (role : Nat) : Nat := (p.roles.filter fun r => r.1 == role).length

/-- Check 6: roles under R31 and R32, and EXPERT_RIDGE. -/
def State.rolesOk (s : State) (p : Plan) : Bool :=
  let small := s.get Fl.GLB_DEVICE_ID_GRADE == 1
  decide (p.groups 1 ≤ (if small then 18 else 32)) && decide (p.groups 2 ≤ 16) && decide (p.groups 3 ≤ 2)
    && decide (p.groups 4 ≤ 2) && (p.expertRidge == (p.groups 4 == 2))
    && ((List.range 40).zip p.roles).all fun x =>
      x.2.1 == 0 || (!(small && decide (20 ≤ x.1)) && s.flag (Fl.LANE_GRP_STATUS_REFCLK_OK x.1))

/-- Battens of a type that satisfy a test. -/
def Plan.battensWith (p : Plan) (t : Nat) (f : BattenRec → Bool) : List Nat :=
  (List.range 16).filter fun b => f (p.batten t b)

/-- Check 7: the course type conditions of R53. -/
def Plan.cycleSound (p : Plan) : Bool :=
  let valleys := fun t => (p.battensWith t (·.valley)).length
  let flushes := fun t => !(p.battensWith t (·.flush)).isEmpty
  ((List.range p.types.length).all fun t =>
      match p.battensWith t (·.ridgeCopy) with | [b] => decide (12 ≤ b) | _ => false)
    && (p.cycleMap.map valleys).foldl (· + ·) 0 == 1
    && p.rules.all (fun r => valleys r.type == valleys (p.cycleMap.getD r.position 0))
    && (p.cycleMap.any flushes || p.rules.any fun r => decide (r.modulus ≤ 240) && flushes r.type)

/-- The type that R52 gives second `t` at position `x`. -/
def Plan.typeAt (p : Plan) (t x : Nat) : Nat := p.typeOf (t * coursesPerSecond p.period + x)

/-- The (previous type, type) pairs that R52 can place one after the other, over one cycle of the rules that bear on the two
positions. -/
def Plan.successions (p : Plan) : List (Nat × Nat) :=
  let l := coursesPerSecond p.period
  let cycle := fun (x y : Nat) =>
    (p.rules.filter fun r => r.position == x || r.position == y).foldl (fun n r => Nat.lcm n r.modulus) 1
  ((List.range l).flatMap fun x =>
    if x = 0 then (List.range (cycle 0 (l - 1))).map fun t => (p.typeAt t (l - 1), p.typeAt (t + 1) 0)
    else (List.range (cycle x (x - 1))).map fun t => (p.typeAt t (x - 1), p.typeAt t x)).eraseDups

/-- A receive item of the cell stands in batten `b` of a type (R66). -/
def Plan.receives (p : Plan) (c : CellRec) (t b : Nat) : Bool :=
  (p.items (p.batten t b).workSet c.cluster).any fun i => (i.op == 1 || i.op == 4) && i.cell == c.cell

/-- A contention entry meets R66 under the offsets of the cell's chain. -/
def windowSound (dRx dTx e : Nat) : Bool :=
  e == 0xFFFF ||
    (decide (bitsOf 15 12 e + dRx + dTx ≤ bitsOf 11 8 e) && decide (bitsOf 7 4 e + dRx + dTx ≤ bitsOf 3 0 e)
      && decide (bitsOf 15 12 e < bitsOf 7 4 e))

/-- Check 8: the window constraints of R66 and the agreement of receive items with RX_MASK. -/
def Plan.windowsSound (p : Plan) : Bool :=
  let after := p.successions
  p.cells.all fun c =>
    let d := p.dRx c.cell
    let mask := fun t => (p.window c.cell t).rxMask
    (List.range p.types.length).all (fun t =>
      (p.window c.cell t).cw.all (windowSound d (p.dTx c.cell))
        && (List.range 16).all fun b => decide (b < d) || p.receives c t b == bitOf (b - d) (mask t))
      && after.all fun yx =>
        (List.range 16).all fun b => decide (d ≤ b) || p.receives c yx.2 b == bitOf (b + 16 - d) (mask yx.1)

/-- The greatest of a list. -/
def greatest (l : List Nat) : Nat := l.foldl max 0

/-- The sum of the costs of a cluster's items in a work set (Table 2.10). -/
def Plan.cost (p : Plan) (set cluster : Nat) : Nat := ((p.items set cluster).map (·.cost)).foldl (· + ·) 0

/-- A declared total (R67). -/
def Plan.total (p : Plan) (id : Nat) : Nat := FMap.get 0 p.totals id

/-- Check 9: recounted totals equal the declared ones (Table 2.10). -/
def Plan.totalsAgree (p : Plan) : Bool :=
  let sets := (p.types.flatMap fun t => t.map (·.workSet)).eraseDups
  p.total 1 == (p.chains.map fun c => c.eaves.length).foldl (· + ·) 0 && p.total 2 == p.cells.length
    && p.total 3 == greatest ((List.range 128).map fun k => (p.cells.filter fun c => c.cluster == k).length)
    && p.total 5 == greatest (sets.flatMap fun w => (List.range 128).map fun k => p.cost w k)
    && p.total 6 == greatest (p.types.flatMap fun t => t.map (·.quota))
    && p.total 7 == p.dram.foldl (· + ·) 0

/-- Lane mask bits of the groups that carry a role. -/
def Plan.lanes (p : Plan) (role : Nat) : Nat :=
  ((p.roles.filter fun r => r.1 == role).map fun r => ((List.range 8).filter fun b => bitOf b r.2).length).foldl (· + ·) 0

/-- Check 10 but for the staged tables: the limits of Table 2.10 and R71. -/
def State.totalsFit (s : State) (p : Plan) : Bool :=
  let regions := match s.arc.format with | some f => s.archiveDram f | none => 0
  decide (p.total 1 ≤ min 8192 (256 * p.groups 1)) && decide (p.total 2 ≤ 32768) && decide (p.total 3 ≤ 256)
    && decide (p.total 4 ≤ 1048576) && decide (p.total 5 ≤ clusterLimit p.period) && decide (p.total 6 ≤ quotaLimit p.period)
    && decide (p.total 7 * 10 ≤ 8 * 32 * s.dramRate) && decide (p.total 8 ≤ min 8192 (s.dramMib - 19456 - regions))
    && decide (p.total 9 ≤ 16384) && decide (p.total 10 ≤ 8) && decide (p.total 11 ≤ 64)
    && decide (p.total 12 ≤ min (8 * p.groups 2) (p.lanes 2)) && decide (p.total 13 ≤ min 16 (p.lanes 3))
    && decide (p.total 14 ≤ 8192)

/-- Check 1 of Table 2.13. -/
def planFramed (bs : Octets) : Bool :=
  decide (bs.length ≤ 3145728) && leAt bs 8 4 == bs.length
    && slice bs 0 4 == [0x57#8, 0x47#8, 0x42#8, 0x50#8] && leAt bs 4 2 == 1 && leAt bs 6 2 == 128 && leAt bs 36 4 == 128

/-- Check 2: the signature under R69 and R404. -/
def State.planSigned (s : State) (bs : Octets) : Bool :=
  let t := bs.length - 96
  decide (96 ≤ bs.length) && ((List.range 8).map fun i => FMap.get {} s.key.vlist i).any fun (k : VKey) =>
    k != {} && k.keyId == leAt bs t 8 && ecdsaVerify k.x k.y (bs.take t) (beAt bs (t + 32) 32) (beAt bs (t + 64) 32)

/-- Check 3: grade and stepping. -/
def State.planSuits (s : State) (bs : Octets) : Bool :=
  leAt bs 29 1 == s.get Fl.GLB_DEVICE_ID_GRADE && decide (leAt bs 30 1 ≤ s.get Fl.GLB_DEVICE_ID_STEPPING)

/-- The test of Table 2.13, order 4, on an epoch under the current epoch: none when it is E + 1. -/
def epochStatus (cur e : Nat) : Option Status :=
  let d := (cur + 1 + 2 ^ 32 - e % 2 ^ 32) % 2 ^ 32
  if d = 0 then none else if d ≤ 2 ^ 31 then some .stale else some .range

/-- Checks 5 to 10 but for the staged tables (Table 2.13, R514): the plan, or the status of the first failing check. -/
def State.planContent (s : State) (bs : Octets) : Except Status Plan :=
  match planOf (s.get Fl.GLB_DEVICE_ID_GRADE) bs with
  | none => .error .illegal
  | some p =>
    if !s.rolesOk p then .error .range
    else if !p.cycleSound || !p.windowsSound || !p.totalsAgree then .error .illegal
    else if !s.totalsFit p then .error .range
    else .ok p

/-! ### Tables of kinds 1 and 2 (R139, R143) -/

/-- Strictly rising numbers. -/
def strictlyRising : List Nat → Bool
  | a :: b :: l => decide (a < b) && strictlyRising (b :: l)
  | _ => true

/-- A tone-map defaults image (Table 4.6): cell and default, none for a breach of R139. -/
def tonesOf (epoch : Nat) (bs : Octets) : Option (List (Nat × ToneDefault)) :=
  let n := leAt bs 8 4
  let rs := recordsIn 8 (bs.drop 16)
  if slice bs 0 4 != [0x54#8, 0x4D#8, 0x44#8, 0x46#8] || leAt bs 4 4 != epoch || decide (32768 < n) || leAt bs 12 4 != 0
      || bs.length != 16 + 8 * n || !strictlyRising (rs.map fun r => leAt r 0 2)
      || rs.any (fun r => decide (32768 ≤ leAt r 0 2) || decide (4 ≤ leAt r 2 1) || decide (32 ≤ leAt r 3 1) || leAt r 4 3 == 0
        || leAt r 7 1 != 0) then none
  else some (rs.map fun r => (leAt r 0 2, ⟨leAt r 2 1, leAt r 3 1, leAt r 4 3⟩))

/-- A directory entry of a route table image: cell, entries, offset. -/
def routeDir (r : Octets) : Nat × Nat × Nat := (leAt r 0 2, leAt r 2 2, leAt r 4 4)

/-- An entry of a route table image (Table 4.8). -/
def routeEntryOf (r : Octets) : RouteEntry :=
  ⟨leAt r 0 4, leAt r 4 2, leAt r 6 2, leAt r 8 2, leAt r 10 1, leAt r 11 1⟩

/-- The entries of a cell keep R143. -/
def routeCellOk (es : List RouteEntry) (raw : List Octets) : Bool :=
  let near := fun (a : Nat) => es.any fun e => e.short == a && e.hops == 1
  strictlyRising (es.map (·.short)) && raw.all (fun r => leAt r 14 2 == 0) && es.all fun e =>
    decide (e.meter < 2 ^ 20) && within 1 0x7FFF e.short && within 1 14 e.hops && near e.next
      && (e.hops != 1 || e.next == e.short) && (if e.alt = 0 then e.altHops == 0 else near e.alt && within 1 14 e.altHops)

/-- Ranges (first octet, octets) in order of place do not overlap. -/
def rangesApart : List (Nat × Nat) → Bool
  | a :: b :: l => decide (a.1 + a.2 ≤ b.1) && rangesApart (b :: l)
  | _ => true

/-- Places a range in order. -/
def insertRange (x : Nat × Nat) : List (Nat × Nat) → List (Nat × Nat)
  | [] => [x]
  | y :: l => if x.1 < y.1 then x :: y :: l else y :: insertRange x l

/-- A route table image (Table 4.8): each cell with its entries, none for a breach of R143. -/
def routesOf (epoch : Nat) (bs : Octets) : Option (List (Nat × List RouteEntry)) :=
  let n := leAt bs 8 4
  if slice bs 0 4 != [0x52#8, 0x54#8, 0x42#8, 0x4C#8] || leAt bs 4 4 != epoch || leAt bs 12 4 != 0 || decide (32768 < n)
      || decide (bs.length < 16 + 8 * n) then none
  else
    let dir := (recordsIn 8 (slice bs 16 (8 * n))).map routeDir
    let parts := dir.map fun d => (d.1, recordsIn 16 (slice bs d.2.2 (16 * d.2.1)))
    let cells := parts.map fun x => (x.1, x.2.map routeEntryOf)
    let meters := cells.flatMap fun x => x.2.map (·.meter)
    let ranges := (dir.map fun d => (d.2.2, 16 * d.2.1)).foldl (fun l x => insertRange x l) []
    if dir.any (fun d => decide (32768 ≤ d.1) || !within 1 1024 d.2.1 || d.2.2 % 16 != 0
          || decide (bs.length < d.2.2 + 16 * d.2.1))
        || (dir.map (·.1)).eraseDups.length != n || !rangesApart ((0, 16 + 8 * n) :: ranges)
        || !((cells.zip parts).all fun x => routeCellOk x.1.2 x.2.2) || meters.eraseDups.length != meters.length
        || bs.length != greatest ((16 + 8 * n) :: ranges.map fun r => r.1 + r.2) then none
    else some cells

end Sys2Proof.Machine
end

