-- ==== Sys2Proof/Machine/Cells.lean ====
section
/-!
DEFINITION. Machine/Cells.lean: what power-line and radio cells share: the queue and transmit buffer, contention, deferral,
retries, frame counters, acknowledgements owed, delivery results and multicast copies (R125 to R133, R142, R148 to R151, R164,
R166, R168, R248, R291).
-/

namespace Sys2Proof.Machine

/-- The MAC of a cell. -/
def State.mac (s : State) (c : Nat) : CellMac := FMap.get {} s.cel.macs c

/-- Writes the MAC of a cell. -/
def State.setMac (s : State) (c : Nat) (m : CellMac) : State :=
  { s with cel := { s.cel with macs := FMap.set {} s.cel.macs c m } }

/-- Changes the MAC of a cell. -/
def State.modMac (s : State) (c : Nat) (f : CellMac → CellMac) : State := s.setMac c (f (s.mac c))

/-- The block of a cell: 4 PLC or 5 RAD (Table 1.8). -/
def State.cellBlock (s : State) (c : Nat) : Nat := if s.plan.isRad c then 5 else 4

/-- The cell's block listens only: profile 02h, and so under the resident plan (R153, R186, R515). -/
def State.listenOnly (s : State) (c : Nat) : Bool := s.resident || s.get (Fl.PROFILE_PROFILE (s.cellBlock c)) == 2

/-- The cell's block is enabled and not listen only (R148, R153, R183, R186). -/
def State.mayTransmit (s : State) (c : Nat) : Bool := s.enabled (s.cellBlock c) && !s.listenOnly c

/-! ### Delivery results (R151, R185, R244, R248, R291) -/

/-- The status of a delivery result (Tables 4.9 and 5.8). -/
def State.deliveryStatus (s : State) (code : Nat) : Status :=
  match code with
  | 0 | 1 => .ok
  | 5 => .notReady
  | 6 => .stale
  | 7 => .aborted
  | 8 | 0xB => .range
  | 9 => if s.get Fl.SAF_STATE_STATE = 3 then .lockout else .state
  | _ => .busy

/-- A telegram ends with a delivery result: it leaves the safety function, and the result goes to the host's command or back
to the record engine (R431). -/
def State.telegramEnd (s : State) (id code : Nat) : State :=
  match s.saf.telegrams.find? fun t => t.id == id with
  | none => s
  | some t =>
    let s := { s with saf := { s.saf with telegrams := s.saf.telegrams.filter fun x => x.id != id } }
    let s := if code = 9 then s.bump Fl.SAF_WITHDRAWN_COUNT_COUNT else s
    match t.host with
    | some c => s.complete 0x22 c (s.deliveryStatus code) code (le 8 t.deadline ++ le 2 t.seq ++ le 2 t.lane)
    | none => { s with bill := { s.bill with results := s.bill.results ++ [(t.meter, t.action, code)] } }

/-- Cuts a datagram into fragments of `n` octets. -/
def chunks (n : Nat) : Nat → Octets → List Octets
  | 0, _ => []
  | fuel + 1, bs => if bs.isEmpty then [] else bs.take n :: chunks n fuel (bs.drop n)

/-- Octets of the frame check sequence of a radio cell (Table 5.3). -/
def Plan.fcsOctets (p : Plan) (c : Nat) : Nat := if bitOf 1 (p.param c 7 1) then 4 else 2

/-- Octets of a radio frame's PSDU besides its payload: its MAC overhead is the standard's, left open. -/
def State.radOverhead (s : State) (c : Nat) (f : Frame) : Nat :=
  Config.macOverhead (if f.secured then s.plan.param c 9 1 else 0) + s.plan.fcsOctets c

/-- Octets of a datagram that one MAC frame takes (R144, R182): on a power-line cell at most MAX_FRAME, and what G.9903 allows with the
frame's modulation and tone map, left open; on a radio cell what MAX_FRAME leaves for the payload. -/
def State.frameTakes (s : State) (c : Nat) (f : Frame) : Nat :=
  if s.plan.isRad c then s.plan.maxFrame c - s.radOverhead c f
  else min (s.plan.maxFrame c) (Config.fragmentOctets f.toneMod f.toneMap)

/-- A frame with its datagram cut to the MAC frame size (R144, R182). -/
def State.fragmented (s : State) (c : Nat) (f : Frame) : Frame :=
  let n := max 1 (s.frameTakes c f)
  if f.payload.length ≤ n then f else
  match chunks n f.payload.length f.payload with
  | p :: ps => { f with payload := p, rest := ps }
  | [] => f

/-- A frame joins the queue of a cell under a new sequence number and tag. -/
def CellMac.push (m : CellMac) (f : Frame) : CellMac :=
  { m with queue := m.queue ++ [{ f with dsn := m.dsn, tag := m.nextTag }], dsn := (m.dsn + 1) % 256, nextTag := m.nextTag + 1 }

/-- A cell ends its last copy of a multicast packet: its reference is released, and the push completes when none is left
(R248, R291). -/
def State.pushRelease (s : State) (id c : Nat) (sent : Bool) : State :=
  match s.swc.mcasts.find? fun m => m.id == id with
  | none => s
  | some m =>
    let m := { m with targets := m.targets.filter fun t => t.1 != c, refs := m.refs - 1, sent := m.sent + b2n sent }
    if m.targets.isEmpty then
      let s := { s with swc := { s.swc with mcasts := s.swc.mcasts.filter fun x => x.id != id } }
      ((s.releasePacket id).complete 0x21 m.cmd .ok 0 (le 4 m.sent)).raise 269 (le 1 m.kind)
    else { s with swc := { s.swc with mcasts := s.swc.mcasts.map fun x => if x.id = id then m else x } }

/-- A copy of a multicast push ends in a cell: the next copy is queued, or the cell is done (R248). -/
def State.pushCopyEnd (s : State) (c : Nat) (f : Frame) (id code : Nat) : State :=
  match s.swc.mcasts.find? fun m => m.id == id with
  | none => s
  | some m =>
    match m.targets.find? fun t => t.1 == c with
    | none => s
    | some (_, left, ok) =>
      let ok := ok && code == 1
      if code = 6 ∨ code = 7 ∨ left ≤ 1 then s.pushRelease id c ok
      else
        let m : Mcast := { m with targets := m.targets.map fun (t : Nat × Nat × Bool) => if t.1 = c then (c, left - 1, ok) else t }
        let s := { s with swc := { s.swc with mcasts := s.swc.mcasts.map fun (x : Mcast) => if x.id = id then m else x } }
        let next := s.fragmented c { f with payload := m.payload, rest := [], nb := 0, nr := 0 }
        s.modMac c fun k => { k with queue := { next with dsn := k.dsn } :: k.queue, dsn := (k.dsn + 1) % 256 }

/-- A frame ends with a delivery result (R151, R185). -/
def State.finish (s : State) (c : Nat) (f : Frame) (code : Nat) : State :=
  match f.origin with
  | .push id => s.pushCopyEnd c f id code
  | .host cmd =>
    let s := if f.packet = 0 then s else s.releasePacket f.packet
    s.complete 0x20 cmd (s.deliveryStatus code) code
  | .telegram id => (if f.packet = 0 then s else s.releasePacket f.packet).telegramEnd id code
  | .engine => if f.packet = 0 then s else s.releasePacket f.packet

/-- An attempt ended well (ACKED or SENT): the next fragment of the datagram follows, or the datagram ends (R144). -/
def State.attemptDone (s : State) (c : Nat) (f : Frame) (code : Nat) : State :=
  match f.rest with
  | [] => s.finish c f code
  | p :: ps =>
    s.modMac c fun k =>
      { k with queue := { f with payload := p, rest := ps, nb := 0, nr := 0, again := false, dsn := k.dsn } :: k.queue,
               dsn := (k.dsn + 1) % 256 }

/-- A frame ends CHANNEL_ACCESS (R129, R164). -/
def State.channelFail (s : State) (c : Nat) (f : Frame) : State :=
  let s := if s.plan.isRad c then (s.bump Fl.RAD_CHAN_FAIL_COUNT_COUNT).raise 189
    else (s.bump Fl.PLC_CHAN_FAIL_COUNT_COUNT).raise 145
  s.finish c f 2

/-- Octets of a frame's packet. -/
def Frame.bytes (f : Frame) : Nat := max 1 (f.payload.length + (f.rest.map (·.length)).foldl (· + ·) 0)

/-- A frame enters its cell's queue through the switch core (R280, R284, Table 9.3). -/
def State.enqueue (s : State) (c : Nat) (f : Frame) : State :=
  let cls := match f.origin with | .telegram _ => 1 | _ => 2
  match s.takeIn (cellQueue c f.high) cls f.bytes with
  | (some id, s) => s.modMac c fun k => k.push { f with packet := id }
  | (none, s) =>
    match f.origin with
    | .host cmd => s.complete 0x20 cmd .noSpace
    | _ => s.channelFail c f

/-! ### Frame counters (R142, R171) -/

/-- Records a reservation of the cell's transmit frame counter while the archive is mounted: the counter resumes at the last
recorded one after a reset, and a new one is recorded before the counter comes within 2^19 of it. -/
def State.reserveFc (s : State) (c : Nat) : State :=
  if !s.flag Fl.ARC_STATE_MOUNTED then s else
  let m := s.mac c
  let last := FMap.get 0 s.arc.rsv c
  if m.reserved && decide (m.fc + 2 ^ 19 < last) then s else
  let fc := if m.reserved then m.fc else max m.fc last
  let s := { s with arc := { s.arc with rsv := FMap.set 0 s.arc.rsv c (min (fc + 2 ^ 20) 0xFFFFFFFF) } }
  s.modMac c fun k => { k with fc := fc, reserved := true }

/-- The cell may send a secured frame. -/
def CellMac.maySecure (m : CellMac) : Bool := m.reserved && decide (m.fc < 0xFFFFFFFF)

/-- A secured frame takes the next frame counter; FF000000h and FFFFFFFFh raise their events. -/
def State.takeFc (s : State) (c : Nat) : State :=
  let fc := (s.mac c).fc + 1
  let s := s.modMac c fun k => { k with fc := fc }
  let rad := s.plan.isRad c
  if fc = 0xFF000000 then s.raise (if rad then 192 else 148)
  else if fc = 0xFFFFFFFF then s.raise (if rad then 193 else 149)
  else s

/-! ### The head of the queue and contention (R127 to R129, R164) -/

/-- Names what waits: 0 nothing, 1 a beacon, 2 + tag a frame. -/
def frameToken (f : Frame) : Nat := f.tag + 2

/-- The grant that governs the present course allows telegrams on the lane of the cell (R422), and egress is not blanked. -/
def State.laneGranted (s : State) (c : Nat) : Bool :=
  match s.plan.laneOf c with
  | some l => bitOf l s.saf.inForce && !s.saf.blanked
  | none => false

/-- The derivation purpose of a cell's MAC key: PLC_GMK or RAD_CCM (Table 13.3). -/
def State.macPurpose (s : State) (c : Nat) : Nat := if s.plan.isRad c then 3 else 2

/-- A queued frame could start now: its cells are on chip, a secured frame has its counter and key, a telegram its grant and
time (R142, R287, R403, R422, R427). -/
def State.sendable (s : State) (c : Nat) (f : Frame) : Bool :=
  (!f.secured || ((s.mac c).maySecure && FMap.get 0 s.key.courseBindings (s.macPurpose c) != 0)) && s.packetReady f.packet
    && (match f.origin with
        | .telegram id =>
          s.laneGranted c && (match s.saf.telegrams.find? fun t => t.id == id with
            | some t => decide (s.now < t.deadline * 500000)
            | none => false)
        | _ => true)

/-- What waits in the transmit buffer: the beacon owed, then high-priority frames, then normal ones, each first in, first out
(R127). `eligible` is false for a frame to a sleeping meter that this course cannot reach (R178). -/
def State.head (s : State) (c : Nat) (eligible : Frame → Bool) : Nat :=
  let m := s.mac c
  let fit := fun f => s.sendable c f && eligible f
  if !s.mayTransmit c || m.tx.isSome || m.wait.isSome then 0
  else if m.beaconOwed then 1
  else match m.queue.find? fun f => f.high && fit f with
    | some f => frameToken f
    | none => match m.queue.find? fit with
      | some f => frameToken f
      | none => 0

/-- The frame named by a token. -/
def CellMac.named (m : CellMac) (t : Nat) : Option Frame := m.queue.find? fun f => frameToken f == t

/-- What waits is of high priority: on a radio cell a beacon is (R127, R164). -/
def State.highToken (s : State) (c t : Nat) : Bool :=
  if t = 1 then s.plan.isRad c else match (s.mac c).named t with | some f => f.high | none => false

/-- Contention entry `k` is usable for what waits (R128). -/
def State.usable (s : State) (c k t : Nat) : Bool :=
  decide (t ≠ 0) && s.plan.cw c s.crs.courseType k != 0xFFFF && (s.highToken c t || !bitOf k (s.plan.prioMask c))

/-- Entries of a cell in ascending order of primary sense batten, then entry number (R128). -/
def State.entryOrder (s : State) (c : Nat) : List Nat :=
  let cw := fun k => s.plan.cw c s.crs.courseType k
  ((List.range 16).map fun b => [0, 1, 2, 3].filter fun k => cw k != 0xFFFF && cw k / 4096 == b).foldl (· ++ ·) []

/-- The decision of an entry for its primary or alternate sense. -/
def CellMac.decision (m : CellMac) (k : Nat) (alternate : Bool) : Option Decision :=
  m.decisions.find? fun d => d.entry == k && d.alternate == alternate

/-- The play batten that the decisions of an entry choose (R62): false the primary, true the alternate. -/
def CellMac.choice (m : CellMac) (k : Nat) : Option Bool :=
  match m.decision k false with
  | none => none
  | some d =>
    if d.waiting = 0 then none
    else if !d.busy then some false
    else match m.decision k true with
      | some e => if !e.busy then some true else none
      | none => none

/-- The frame that the item of entry `k` starts: its decisions choose that play batten, no entry before it starts one, and no
frame has started in this course (R62, R128). -/
def State.starter (s : State) (c k : Nat) (alternate : Bool) : Nat :=
  let m := s.mac c
  if m.started || m.tx.isSome || m.wait.isSome then 0
  else if m.choice k != some alternate then 0
  else if ((s.entryOrder c).takeWhile (· != k)).any fun j => (m.choice j).isSome then 0
  else match m.decision k alternate with
    | some d => d.waiting
    | none => 0

/-- A sense decision is taken for an entry (R125, R163); what waits is remembered for the deferral count (R129). -/
def State.decide' (s : State) (c k : Nat) (alternate busy : Bool) (t : Nat) : State :=
  s.modMac c fun m =>
    { m with decisions := m.decisions ++ [⟨k, alternate, busy, t⟩],
             waited := if alternate || t = 0 || m.waited.contains t then m.waited else t :: m.waited }

/-! ### Ends of transmissions (R130, R133, R145, R148, R166, R169) -/

/-- The attempts of a frame end NO_ACK on a radio cell (R169). -/
def State.radNoAck (s : State) (c : Nat) (f : Frame) : State := (s.bump Fl.RAD_NO_ACK_COUNT_COUNT).finish c f 3

/-- The meter with a short address in a cell's route table. -/
def State.plcMeter (s : State) (c short : Nat) : Option Nat :=
  ((FMap.get [] s.cel.routes c).find? fun e => e.short == short).map (·.meter)

/-- Sets a failure mark on a meter for 900 s (R145). -/
def State.plcMark (s : State) (i : Nat) (f : PlcArea → PlcArea) : State :=
  s.modMeter i fun m => { m with plc := { f m.plc with failUntil := (s.second + 900) % 2 ^ 32 } }

/-- The marks that forbid a hop: NEIGH_FAIL on the meter with that short address. -/
def State.neighFails (s : State) (c short : Nat) : Bool :=
  match s.plcMeter c short with
  | some i => (s.meterRec i).plc.neighFail
  | none => false

/-- The first hop of a unicast frame and whether it is the alternate one (R144). -/
def State.chooseHop (s : State) (c : Nat) (e : RouteEntry) : Option (Nat × Bool) :=
  let d := (s.meterRec e.meter).plc
  let next := s.neighFails c e.next || d.routeFail
  if next && e.alt != 0 && !s.neighFails c e.alt && !d.altFail then some (e.alt, true)
  else if !next then some (e.next, false)
  else none

/-- BAND 02h is FCC, 01h CENELEC-A (Table 4.2). -/
def Plan.fcc (p : Plan) (c : Nat) : Bool := p.param c 1 1 == 2

/-- Tone groups of a cell's band as a full map (Table 4.2). -/
def Plan.allTones (p : Plan) (c : Nat) : Nat := if p.fcc c then 0xFFFFFF else 0x3F

/-- The modulation, gain and tone groups of a frame to a first hop, and whether it requests a tone map (R137, R153). -/
def State.toneFor (s : State) (c hop : Nat) (f : Frame) : Frame :=
  let d : ToneDefault := (FMap.get none s.cel.tones c).getD ⟨0, 0, s.plan.allTones c⟩
  let stored : Option PlcArea := match s.plcMeter c hop with
    | some i =>
      let a := (s.meterRec i).plc
      if a.tmCell = c ∧ s.second % 2 ^ 32 < a.tmUntil then some a else none
    | none => none
  let f := match stored with
    | some a => { f with toneMod := a.tmMod, toneGain := a.tmGain, toneMap := a.tmMap, toneReq := false }
    | none => { f with toneMod := d.mod, toneGain := d.gain, toneMap := d.map, toneReq := hop != 0xFFFF }
  if s.get (Fl.PROFILE_PROFILE 4) = 1 then { f with toneMod := 0 } else f

/-- A frame takes its first hop: its tone map, and a mesh header when the hop is not the destination (R137, R144). -/
def State.routed (s : State) (c hop : Nat) (alt : Bool) (f : Frame) : Frame :=
  s.toneFor c hop { f with hop := hop, viaAlt := alt, hopsLeft := if hop = f.dest then 0 else s.plan.param c 22 1 }

/-- The attempts of a frame end NO_ACK on a power-line cell: marks, and one more round through R144 (R133, R145). -/
def State.plcNoAck (s : State) (c : Nat) (f : Frame) : State :=
  let s := s.bump Fl.PLC_NO_ACK_COUNT_COUNT
  let s := match s.plcMeter c f.hop with
    | some i => (s.plcMark i fun a => { a with neighFail := true }).raise 142
    | none => s
  if f.again then
    let s := match f.viaAlt, f.meter with
      | true, some i => s.plcMark i fun a => { a with altFail := true }
      | _, _ => s
    s.finish c f 3
  else
    let f := { f with again := true, nb := 0, nr := 0 }
    match f.meter with
    | none => s.finish c f 3
    | some i =>
      match (FMap.get [] s.cel.routes c).find? fun e => e.meter == i with
      | none => s.finish c f 3
      | some e =>
        match s.chooseHop c e with
        | some (hop, alt) => s.modMac c fun k => { k with queue := k.queue ++ [s.routed c hop alt f] }
        | none => ((s.bump Fl.PLC_ROUTE_ERR_COUNT_COUNT).raise 144).finish c f 4

/-- A failed attempt: the frame returns to the head of the queue with NR incremented, or ends NO_ACK (R133, R169). -/
def State.failAttempt (s : State) (c : Nat) (f : Frame) : State :=
  if f.kind = .beacon then s
  else if s.plan.maxRetries c < f.nr + 1 then
    (if s.plan.isRad c then s.radNoAck c f else s.plcNoAck c f)
  else s.modMac c fun k => { k with queue := { f with nb := 0, nr := f.nr + 1 } :: k.queue }

/-- The transmission of a cell has ended by itself at `e` ns: an acknowledgement is over; a frame awaits its acknowledgement or ends SENT
(R133, R169). -/
def State.txEnded (s : State) (c e : Nat) : State :=
  let m := s.mac c
  if m.ackTx then s.setMac c { m with ackTx := false }
  else match m.tx with
    | none => s
    | some f =>
      let s := s.setMac c { m with tx := none, wus := false }
      if f.kind = .beacon then s
      else if f.ackReq then s.modMac c fun k => { k with wait := some f, waitFrom := e }
      else s.attemptDone c f 1

/-- A transmission of a radio cell goes no further than the batten that this one's items would fill: air time that it has not used does
not count (R165). -/
def State.cutAir (s : State) (c : Nat) : State :=
  s.modMac c fun m =>
    match m.air with
    | (t, d) :: r => { m with air := (t, min d (s.playNow c - t)) :: r }
    | [] => m

/-- A transmission is cut short: it counts as a failed attempt (R130, R166); `counted` is false when a late item is the cause
(Table 2.16). An acknowledgement cut short ends. -/
def State.txCut (s : State) (c : Nat) (counted : Bool) : State :=
  let m := s.mac c
  match m.tx with
  | none => if m.ackTx then (s.setMac c { m with ackTx := false }).cutAir c else s
  | some f =>
    let s := (s.setMac c { m with tx := none, wus := false }).cutAir c
    let s := if !counted then s
      else if s.plan.isRad c then (s.bump Fl.RAD_TX_CUT_COUNT_COUNT).raise 194
      else (s.bump Fl.PLC_TX_CUT_COUNT_COUNT).raise 151
    s.failAttempt c f

/-- A reception is lost (R121, R122, R161, R162). -/
def State.rxLost (s : State) (c : Nat) : State :=
  if !(s.mac c).rx then s else
  (s.modMac c fun k => { k with rx := false }).bump
    (if s.plan.isRad c then Fl.RAD_RX_LOST_COUNT_COUNT else Fl.PLC_RX_LOST_COUNT_COUNT)

/-- Other power-line cells of the same eave, where the cell's parameter set mutes siblings (R122). -/
def State.mutedSiblings (s : State) (c : Nat) : List Nat :=
  match s.plan.eaveOf c with
  | none => []
  | some (_, e) =>
    (s.plan.cellsOfEave e).filter fun k => k != c && s.plan.isPlc c && s.plan.isPlc k && bitOf 0 (s.plan.param c 7 1)

/-- The stream of a cell plays with TX_EN 1 at some instant from `lo` to `hi`, ns, or did up to `tail` ns before. -/
def CellMac.playsIn (m : CellMac) (lo hi tail : Nat) : Bool :=
  m.plays.any fun p => decide (p.start + p.offset < hi) && decide (lo < p.stop + p.offset + tail)

/-- Reception on a cell is muted at some instant from `lo` to `hi`, ns: its own stream plays, or did in the interval before, or a stream
of a sibling that mutes it plays (R122, R162). -/
def State.mutedIn (s : State) (c lo hi : Nat) : Bool :=
  (s.mac c).playsIn lo hi 31250 || (s.mutedSiblings c).any fun k => (s.mac k).playsIn lo hi 0

/-- The cell transmits in the batten in progress: its stream plays the batten that the items fill, unless the chain has filled it already
under the plan before (R63, R113). -/
def State.addPlay (s : State) (c : Nat) : State :=
  let off := s.plan.dTx c * s.battenNs
  let sent := match s.plan.laneOf c with | some l => decide (s.now + off < (s.eavLane l).txOffTo) | none => false
  if sent then s else
  s.modMac c fun m =>
    let old := m.plays.filter fun p => decide (s.now < p.stop + p.offset + 20000000)
    match old with
    | p :: ps =>
      if p.offset = off ∧ p.stop = s.now then { m with plays := { p with stop := s.now + s.battenNs } :: ps }
      else { m with plays := ⟨s.now, s.now + s.battenNs, off⟩ :: old }
    | [] => { m with plays := [⟨s.now, s.now + s.battenNs, off⟩] }

/-- A beacon as a frame. -/
def beaconFrame : Frame := { origin := .engine, kind := .beacon }

/-- Takes what a token names out of the queue for transmission; what starts has not waited in vain (R129). -/
def State.takeToken (s : State) (c t : Nat) : Option Frame × State :=
  let s := s.modMac c fun k => { k with waited := k.waited.filter (· != t) }
  if t = 1 then (some beaconFrame, s.modMac c fun k => { k with beaconOwed := false, beaconNb := 0 })
  else match (s.mac c).named t with
    | none => (none, s)
    | some f => (some f, s.modMac c fun k => { k with queue := k.queue.erase f })

/-- A frame starts: the counter of a secured frame advances, and the frame is put out after its wake-up frames, whose rendezvous times
are given (R177), or in `copies` more identical transmissions (R179). Under profile 01h every power-line transmission is robust
(R153). -/
def State.beginTx (s : State) (c : Nat) (f : Frame) (rendezvous : List Nat) (copies : Nat) : State :=
  let f := if s.get (Fl.PROFILE_PROFILE 4) = 1 ∧ s.plan.isRad c = false then { f with toneMod := 0 } else f
  let context := if s.plan.isRad c then be 8 (match f.meter with | some i => (s.meterRec i).key | none => f.eui)
    else be 2 (s.plan.panId c) ++ be 1 (s.plan.param c 23 1)
  let s := if f.secured then ((s.takeFc c).reserveFc c |>.deriveKey (s.macPurpose c) context).2 else s
  let s := s.modMac c fun k => { k with tx := some f, started := true, wus := !rendezvous.isEmpty }
  let fc := (s.mac c).fc
  let nonce := if f.secured ∧ s.plan.isRad c then ccmNonce (s.plan.extAddress c) fc (s.plan.param c 9 1) else []
  s.emit (.frame c f fc (s.mac c).keyIndex nonce rendezvous copies)

/-! ### Acknowledgements (R132, R168) -/

/-- An owed acknowledgement is not sent. -/
def State.ackMissed (s : State) (c : Nat) (o : OwedAck) : State :=
  let s := s.modMac c fun k => { k with ackOwed := k.ackOwed.erase o }
  if s.plan.isRad c then (s.bump Fl.RAD_ACK_MISSED_COUNT_COUNT).raise 195
  else (s.bump Fl.PLC_ACK_MISSED_COUNT_COUNT).raise 152

/-- Batten `b` is set in the REPLY_MASK of the course type that holds play batten `p`. -/
def State.replyAllowed (s : State) (c p : Nat) : Bool :=
  bitOf (p % 16) (s.plan.window c (s.typeOfBatten p)).replyMask

/-- What the batten in progress makes of an acknowledgement owed (R132, R168): `some true` when it is due, `some false` when it can no
longer be sent, none while it waits. -/
def State.dueNow (s : State) (c : Nat) (o : OwedAck) : Option Bool :=
  let p := s.battenNo + s.plan.dTx c
  let start := p * s.period / 16
  if s.plan.isRad c then
    let at' := o.frameEnd + s.plan.param c 16 2 * 1000
    if at' < start then some false
    else if start + s.battenNs ≤ at' then none
    else some (decide (o.earliest ≤ start) && s.replyAllowed c p)
  else if o.frameEnd + s.plan.param c 14 2 * 1000 < start then some false
  else if o.earliest ≤ start ∧ o.frameEnd + s.plan.param c 12 2 * 1000 ≤ start ∧ s.replyAllowed c p then some true
  else none

/-- ACK_DUE of a cell in the batten in progress. -/
def State.ackDue (s : State) (c : Nat) : Bool := (s.mac c).ackOwed.any fun o => s.dueNow c o == some true

/-- One acknowledgement owed in the batten in progress: it is played, missed, or waits. -/
def State.ackOne (s : State) (c : Nat) (item late : Bool) (o : OwedAck) : State :=
  match s.dueNow c o with
  | none => s
  | some false => s.ackMissed c o
  | some true =>
    let m := s.mac c
    if !item || late || m.tx.isSome || m.ackTx || s.listenOnly c then s.ackMissed c o
    else
      (s.modMac c fun k => { k with ackOwed := k.ackOwed.erase o, ackTx := true }).emit (.ack c o.dsn o.pending)

/-- The acknowledgements of a cell in the batten in progress; `item` tells that the batten holds its ACK_TX item. -/
def State.ackStep (s : State) (c : Nat) (item late : Bool) : State :=
  (s.mac c).ackOwed.foldl (fun s o => s.ackOne c item late o) s

/-! ### Course boundary, abort, commit (R129, R148 to R150, R183, R184) -/

/-- A frame that waited and did not start counts a deferral, or ends CHANNEL_ACCESS (R129). -/
def State.deferToken (s : State) (c t : Nat) : State :=
  let m := s.mac c
  let limit := s.plan.maxDefer c
  if t = 1 then
    if !m.beaconOwed then s
    else if limit < m.beaconNb + 1 then
      let s := s.setMac c { m with beaconOwed := false, beaconNb := 0 }
      s.channelFail c beaconFrame
    else s.setMac c { m with beaconNb := m.beaconNb + 1 }
  else match m.named t with
    | none => s
    | some f =>
      let q := m.queue.erase f
      if limit < f.nb + 1 then (s.setMac c { m with queue := q }).channelFail c f
      else s.setMac c { m with queue := m.queue.map fun x => if frameToken x = t then { x with nb := x.nb + 1 } else x }

/-- The deferral counts of every cell at the end of a course (R129). -/
def State.deferAll (s : State) : State :=
  s.cel.macs.foldl (fun s p =>
    let s := p.2.waited.foldl (fun s t => s.deferToken p.1 t) s
    s.modMac p.1 fun k => { k with decisions := [], waited := [], started := false }) s

/-- Ends every queued frame of a cell with a delivery result. -/
def State.drainQueue (s : State) (c code : Nat) : State :=
  let q := (s.mac c).queue
  let s := s.modMac c fun k => { k with queue := [], beaconOwed := false, beaconNb := 0 }
  q.foldl (fun s f => s.finish c f code) s

/-- A response leaves the pending list uncollected: the association that it holds is released, unless the meter has moved on (R175). -/
def State.dropPending (s : State) (c : Nat) (p : PendingResponse) : State :=
  match p.meter with
  | some i =>
    let a := (s.meterRec i).rad
    if a.cell = c ∧ a.short = p.short then s.releaseAssoc i else s
  | none => s

/-- An ABORT reaches a cell at the boundary (R149, R183). -/
def State.abortCell (s : State) (c : Nat) : State :=
  let m := s.mac c
  let s := if m.tx.isSome || m.ackTx then s.cutAir c else s
  let s := s.modMac c fun m => { m with tx := none, wus := false, ackTx := false, wait := none, ackOwed := [], rx := false,
                                        lbp := [], requests := [] }
  let s := match m.tx with | some f => s.finish c f 7 | none => s
  let s := match m.wait with | some f => s.finish c f 7 | none => s
  let s := s.drainQueue c 7
  let drop := m.pendingList
  let s := s.modMac c fun k => { k with pendingList := [] }
  drop.foldl (fun s p => s.dropPending c p) s

/-- Work of a block's cells is in flight (R148): a reception, a transmission, an acknowledgement owed or in transmission, an
ACK_WAIT. -/
def CellMac.inFlight (m : CellMac) : Bool := m.rx || m.tx.isSome || m.ackTx || !m.ackOwed.isEmpty || m.wait.isSome

/-- No cell of a block has work in flight. -/
def State.cellsIdle (s : State) (rad : Bool) : Bool :=
  s.cel.macs.all fun p => s.plan.isRad p.1 != rad || !p.2.inFlight

/-- Air parameters that decide whether a cell continues its frames across a commit: cluster and BAND, and for a radio MODE and
CHANNEL too (R150, R184). -/
def Plan.airOf (p : Plan) (c : Nat) : List Nat :=
  match p.cell c with
  | none => []
  | some x => [x.kind / 5, x.cluster, p.param c 1 1] ++ (if p.isRad c then [p.param c 8 1, p.param c 10 2] else [])

/-- Frames in reception and transmission of a cell end at the target course, as lost and as failed attempts; with the cell gone, its
queue ends CELL_GONE (R150, R184). -/
def State.stopCell (s : State) (c : Nat) (gone : Bool) : State :=
  let m := s.mac c
  let s := s.rxLost c
  let s := if m.tx.isSome || m.ackTx then s.cutAir c else s
  let s := s.modMac c fun k => { k with tx := none, wus := false, ackTx := false, ackOwed := [], wait := none }
  let again (s : State) (o : Option Frame) : State := match o with
    | some f => s.failAttempt c f
    | none => s
  let s := again (again s m.tx) m.wait
  if gone then s.drainQueue c 6 else s

/-- Delivery of a payload that is not a yelm to the host's uplink ring, through QC5 (R344, Table 9.2). -/
def State.uplink (s : State) (radio : Bool) (c : Nat) (meter : Option Nat) (source : Nat) (payload : Octets) : State :=
  if !s.flag Fl.HST_UPLINK_CFG_EN || payload.isEmpty || 1280 < payload.length then s else
  let slots := (payload.length + 63) / 64
  let word := (match meter with | some i => i | none => 0xFFFFF) + 4 * 2 ^ 20
  let body := le 8 s.second ++ le 4 word ++ le 2 c ++ le 2 payload.length ++ le 2 slots ++ le 1 (1 + b2n radio) ++ zeros 1
    ++ le 8 source ++ zeros 34
  let header := body ++ le 2 (crc16 body)
  let data := (List.range slots).map fun i => padTo 64 (slice payload (64 * i) 64)
  let f := s.get Fl.HST_UPLINK_CFG_FUNC
  match s.passes (51 + f) 5 (64 * (slots + 1)) with
  | (false, s) => s
  | (true, s) => (s.produce f (s.get Fl.HST_UPLINK_CFG_RING) 2 (header :: data)).2

/-- A payload is a yelm: it matches the first 11 octets of Table 7.1, or the first 23 with a date-time (R217, R218). -/
def yelmBody (p : Octets) : Option Octets :=
  if slice p 0 1 != [0x0F#8] then none
  else if slice p 5 6 == [0x00#8, 0x13#8, 0x01#8, 0x00#8, 0x01#8, 0x09#8] then some (p.drop 11)
  else if slice p 5 1 == [0x0C#8] && slice p 18 5 == [0x13#8, 0x01#8, 0x00#8, 0x01#8, 0x09#8] then some (p.drop 23)
  else none

/-- An upper-layer payload of a cell goes to the record engine or to the host (R152, R182, Table 1.4 stage 5). -/
def State.deliverUp (s : State) (radio : Bool) (c : Nat) (meter : Option Nat) (source : Nat) (payload : Octets)
    (late clip : Bool) : State :=
  match yelmBody payload with
  | none => s.uplink radio c meter source payload
  | some _ =>
    match s.takeIn (outQueue 48 2) 2 (max 1 payload.length) with
    | (none, s) => s
    | (some id, s) =>
      { s with swc := { s.swc with toRecord := s.swc.toRecord ++ [⟨payload, radio, c, source, late, clip, id⟩] } }

/-- Joins fragments from offset `at'`, up to `size` octets. -/
def joinParts (size : Nat) (parts : List (Nat × Octets)) : Nat → Nat → Octets → Option Octets
  | 0, _, _ => none
  | fuel + 1, at', acc =>
    if size ≤ at' then some (acc.take size)
    else match parts.find? fun p => p.1 == at' with
      | some p => if p.2.isEmpty then none else joinParts size parts fuel (at' + p.2.length) (acc ++ p.2)
      | none => none

/-- A fragment arrives (R152): it joins its datagram, or as a first fragment opens one (DEDUCED, log entry 123); a
whole datagram is answered with its late and clip marks
(R223). -/
def State.reassemble (s : State) (c source : Nat) (fr : FragmentInfo) (payload : Octets) (late clip : Bool) :
    Option (Octets × Bool × Bool) × State :=
  let m := s.mac c
  let lost := if s.plan.isRad c then Fl.RAD_RX_LOST_COUNT_COUNT else Fl.PLC_RX_LOST_COUNT_COUNT
  let same := fun (d : Datagram) => d.source == source && d.tag == fr.tag.toNat
  let found := m.datagrams.find? same
  if found.isNone && fr.offset != 0 then (none, s)
  else if found.isNone && decide (64 ≤ m.datagrams.length) then (none, s.bump lost)
  else if 1280 < fr.size.toNat then (none, s)
  else
    let d := found.getD ⟨source, fr.tag.toNat, fr.size.toNat, [], s.second, false, false⟩
    let d := { d with parts := (d.parts.filter fun p => p.1 != fr.offset.toNat) ++ [(fr.offset.toNat, payload)],
                      late := d.late || late, clip := d.clip || clip }
    let others := m.datagrams.filter fun x => !same x
    match joinParts d.size d.parts (d.parts.length + 1) 0 [] with
    | some bs => (some (bs, d.late, d.clip), s.setMac c { m with datagrams := others })
    | none => (none, s.setMac c { m with datagrams := others ++ [d] })

/-- REASSEMBLY_TIMEOUT: open datagrams of a cell that are 60 s old are discarded (R152). -/
def reassemblyTimeoutEffect (cell : Fin 32768) (s : State) : State :=
  let c := cell.val
  let m := s.mac c
  let old := m.datagrams.filter fun d => decide (d.opened + 60 ≤ s.second)
  let lost := if s.plan.isRad c then Fl.RAD_RX_LOST_COUNT_COUNT else Fl.PLC_RX_LOST_COUNT_COUNT
  (s.setMac c { m with datagrams := m.datagrams.filter fun d => !decide (d.opened + 60 ≤ s.second) }).bumpBy lost old.length

/-- DRAM_READ_TIMEOUT: the packet is dropped whole; a frame that it holds ends as Table 9.3 and R288 give. -/
def dramReadTimeoutEffect (packet : BitVec 32) (s : State) : State :=
  let id := packet.toNat
  match s.swc.packets.find? fun p => p.id == id && decide (0 < p.waiting) with
  | none => s
  | some _ =>
    let s := (s.bump Fl.SWC_DRAM_ERR_COUNT_COUNT).raise 339
    let s := { s with swc := { s.swc with toRecord := s.swc.toRecord.filter fun y => y.packet != id } }
    let s := s.releasePacket id
    s.cel.macs.foldl (fun s p =>
      match p.2.queue.find? fun f => f.packet == id with
      | none => s
      | some f =>
        let s := s.modMac p.1 fun k => { k with queue := k.queue.filter fun x => x.packet != id }
        match f.origin with
        | .host cmd => s.complete 0x20 cmd .hwFault
        | .push m => s.pushRelease m p.1 false
        | _ => s.channelFail p.1 { f with packet := 0 }) s

/-- BEACON_REQUEST_RX: a beacon becomes owed (R146). -/
def beaconRequestRxEffect (cell : Fin 32768) (s : State) : State :=
  if s.plan.kind cell.val = 0 then s
  else s.modMac cell.val fun k => { k with beaconOwed := true }

def execReassemblyTimeout (cell : Fin 32768) (s : State) : Answer := .next (reassemblyTimeoutEffect cell s)
def execDramReadTimeout (packet : BitVec 32) (s : State) : Answer := .next (dramReadTimeoutEffect packet s)
def execBeaconRequestRx (cell : Fin 32768) (s : State) : Answer := .next (beaconRequestRxEffect cell s)

end Sys2Proof.Machine
end

