-- ==== Sys2Proof/Machine/Mtb.lean ====
section
/-!
DEFINITION. Machine/Mtb.lean: the meter table (chapter 6): hashing, slots, lookup, insertion, loading, the post-commit pass,
the comb and the scrubber.
-/

namespace Sys2Proof.Machine

/-! ### The table and its slots (R188 to R192) -/

/-- Slots of T0 and T1 together: the first stash slot (Table 6.1). -/
def stashFirst : Nat := 2097152

/-- Slots in all (Table 6.1). -/
def slotCount : Nat := 2097216

/-- The slot numbered `j`. -/
def Slots.at (t : Slots) (j : Nat) : Slot := FMap.get {} t j

/-- Writes slot `j` in one write (R193). -/
def Slots.put (t : Slots) (j : Nat) (x : Slot) : Slots := FMap.set {} t j x

/-- Membership bit `b` of an entry. -/
def Slot.bit (x : Slot) (b : Nat) : Bool := if b = 0 then x.m0 else x.m1

/-- Sets membership bit `b`. -/
def Slot.setBit (x : Slot) (b : Nat) (v : Bool) : Slot := if b = 0 then { x with m0 := v } else { x with m1 := v }

/-- The current epoch's membership bit (R192). -/
def State.curBit (s : State) : Nat := s.get Fl.MTB_EPOCH_SEL_CUR_BIT

/-- A member of the epoch of bit `b` (R192). -/
def Slot.member (x : Slot) (b : Nat) : Bool := x.valid && x.bit b

/-- h_t(K) (R189). -/
def State.hash (s : State) (t k : Nat) : Nat :=
  let seed := if t = 0 then s.get Fl.MTB_HASH_SEED0_SEED else s.get Fl.MTB_HASH_SEED1_SEED
  crc32c (le 4 seed ++ be 8 k) % 2 ^ 18

/-- Slot number of slot 0 of bucket `b` of table `t` (Table 6.1). -/
def bucket (t b : Nat) : Nat := 1048576 * t + 4 * b

/-- The candidates of a key, in the order of R193. -/
def State.candidates (s : State) (k : Nat) : List Nat :=
  let a := bucket 0 (s.hash 0 k)
  let b := bucket 1 (s.hash 1 k)
  [a, a + 1, a + 2, a + 3, b, b + 1, b + 2, b + 3] ++ (List.range 64).map (stashFirst + ·)

/-- The slot of the current-epoch member with a key, by R193. -/
def State.findCurrent (s : State) (k : Nat) : Option Nat :=
  (s.candidates k).find? fun j =>
    let x := s.mtb.slots.at j
    x.member s.curBit && x.key == k && !s.mtb.bad.contains j

/-- A record whose key is not the entry's key waits for phase 1 of the post-commit pass (R203, R204). -/
def State.uninitialised (s : State) (x : Slot) : Bool := s.mtb.passing && (s.meterRec x.index).key != x.key

/-- The meter index of a key: a hit of R193 whose record is initialised (R204). -/
def State.lookup (s : State) (k : Nat) : Option (Nat × Bool) :=
  match s.findCurrent k with
  | some j => let x := s.mtb.slots.at j; if s.uninitialised x then none else some (x.index, x.pinned)
  | none => none

/-- A lookup by an engine: a miss is counted, a pending one twice over (R204, R215). -/
def State.lookupCounted (s : State) (k : Nat) : Option (Nat × Bool) × State :=
  match s.findCurrent k with
  | some j =>
    let x := s.mtb.slots.at j
    if s.uninitialised x then
      (none, (s.bump Fl.MTB_MISS_COUNT_COUNT).bump Fl.MTB_MISS_PENDING_COUNT_COUNT)
    else (some (x.index, x.pinned), s)
  | none => (none, s.bump Fl.MTB_MISS_COUNT_COUNT)

/-- The entry of the current-epoch member with a meter index. -/
def State.memberByIndex (s : State) (i : Nat) : Option Slot :=
  (s.mtb.slots.find? fun p => p.2.member s.curBit && p.2.index == i && !s.mtb.bad.contains p.1).map (·.2)

/-- A stamp that would be 0 is written as 1 (R207). -/
def stampOf (second : Nat) : Nat := if second % 2 ^ 32 = 0 then 1 else second % 2 ^ 32

/-- Slot `j` is written where it stands: a mismatch that waits for its second reading is discarded (R213). -/
def State.touchSlot (s : State) (j : Nat) : State :=
  { s with mtb := { s.mtb with mismatches := s.mtb.mismatches.map fun m => if m.slot = j then { m with written := true } else m } }

/-- The comb or a lookup writes the aging bits or the stamp of slot `j` in one slot write. -/
def State.writeSlot (s : State) (j : Nat) (x : Slot) : State :=
  ({ s with mtb := { s.mtb with slots := s.mtb.slots.put j x } }).touchSlot j

/-- A hit is recorded for the meter of a key (R194); its stamp follows R207. -/
def State.markHit (s : State) (k : Nat) : State :=
  match s.findCurrent k with
  | none => s
  | some j =>
    let x := s.mtb.slots.at j
    s.writeSlot j { x with hit := true, stamp := if s.flag Fl.MTB_AGE_CFG_WG16 then stampOf s.second else x.stamp }

/-- The flags of a slot as one octet. -/
def Slot.flags (x : Slot) : Nat :=
  b2n x.valid + 2 * b2n x.m0 + 4 * b2n x.m1 + 8 * b2n x.hit + 16 * b2n x.stale + 32 * b2n x.aged + 64 * b2n x.pinned
    + 128 * b2n x.touched

/-- A write of slots by a load, the pass, the comb or a repair: ENTRIES and the stash registers follow (R188), and the
mismatches of written slots are spoiled (R213). -/
def State.setSlots (s : State) (t : Slots) (written : List Nat) : State :=
  let mm := s.mtb.mismatches.map fun m => if written.contains m.slot then { m with written := true } else m
  let used := (t.filter fun p => decide (stashFirst ≤ p.1) && p.2.valid).length
  let s := { s with mtb := { s.mtb with
    slots := t, mismatches := mm,
    bad := s.mtb.bad.filter fun j => !written.contains j,
    stashHigh := s.mtb.stashHigh && decide (s.get Fl.MTB_INSERT_CFG_STASH_WARN ≤ used) } }
  let s := written.foldl (fun s j =>
    let x := FMap.get {} t j
    s.note 6 (le 4 j ++ le 8 x.key ++ le 4 x.index ++ le 4 x.stamp ++ le 1 x.flags)) s
  let s := s.put Fl.MTB_OCCUPANCY_ENTRIES (t.filter fun p => p.2.valid).length
  let s := s.put Fl.MTB_STASH_USED used
  s.put Fl.MTB_STASH_PEAK (max used (s.get Fl.MTB_STASH_PEAK))

/-! ### Insertion (R201, R202) -/

/-- A node of the breadth-first search: table, slot number, the slots from its parent up to the root, its depth. -/
structure SearchNode where
  table : Nat
  slot : Nat
  parents : List Nat
  depth : Nat
deriving DecidableEq, Repr

/-- Moves entries along a path, last entry first, and writes the new entry in the freed slot. -/
def moveAlong (t : Slots) (dest : Nat) : List Nat → Slot → Slots
  | [], e => t.put dest e
  | j :: rest, e => moveAlong (t.put dest (t.at j)) j rest e

/-- The search of R201; `seen` lists the slots appended so far. Answers the table and the slots written. -/
def State.search (s : State) (e : Slot) : Nat → List SearchNode → List Nat → Slots → Option (Slots × List Nat)
  | 0, _, _, _ => none
  | _, [], _, _ => none
  | fuel + 1, n :: queue, seen, t =>
    let u := 1 - n.table
    let c := bucket u (s.hash u (t.at n.slot).key)
    let four := [c, c + 1, c + 2, c + 3]
    match four.find? fun j => !(t.at j).valid && !s.mtb.bad.contains j with
    | some dest => some (moveAlong t dest (n.slot :: n.parents) e, dest :: n.slot :: n.parents)
    | none =>
      let fresh := if n.depth < s.get Fl.MTB_INSERT_CFG_MAX_DEPTH
        then four.filter fun j => !seen.contains j && !s.mtb.bad.contains j else []
      let nodes := fresh.map fun j => SearchNode.mk u j (n.slot :: n.parents) (n.depth + 1)
      State.search s e fuel (queue ++ nodes) (fresh ++ seen) t

/-- R201 without its stash step. -/
def State.insertMain (s : State) (t : Slots) (e : Slot) : Option (Slots × List Nat) :=
  let a := bucket 0 (s.hash 0 e.key)
  let b := bucket 1 (s.hash 1 e.key)
  let eight := [a, a + 1, a + 2, a + 3, b, b + 1, b + 2, b + 3]
  match eight.find? fun j => !(t.at j).valid && !s.mtb.bad.contains j with
  | some j => some (t.put j e, [j])
  | none =>
    let roots := (eight.filter fun j => !s.mtb.bad.contains j).map fun j =>
      SearchNode.mk (if j < 1048576 then 0 else 1) j [] 1
    s.search e 4096 roots (roots.map (·.slot)) t

/-- The free stash slot of lowest number. -/
def State.freeStash (s : State) (t : Slots) : Option Nat :=
  ((List.range 64).map (stashFirst + ·)).find? fun j => !(t.at j).valid && !s.mtb.bad.contains j

/-! ### Loading (R198 to R200) -/

/-- A record of an image (Table 6.4). -/
structure MtbRecord where
  key : Nat
  index : Nat
  pinned : Bool
  op : Nat
deriving DecidableEq, Repr

/-- A load in progress: the table, the slots written, the events of insertions, latest first, whether the stash stands at STASH_WARN or
above, and the highest use of it. -/
structure MtbLoad where
  slots : Slots
  written : List Nat
  events : List Nat
  high : Bool
  peak : Nat := 0
deriving DecidableEq, Repr

/-- Stash entries in use. -/
def Slots.stashUsed (t : Slots) : Nat := (t.filter fun p => decide (stashFirst ≤ p.1) && p.2.valid).length

/-- Entries of a table that satisfy `p`, with their slot numbers; a slot with an uncorrectable error takes no part (R195). -/
def Slots.findBy (t : Slots) (bad : List Nat) (p : Slot → Bool) : Option (Nat × Slot) :=
  t.find? fun x => !bad.contains x.1 && p x.2

/-- Inserts a new entry for a load, with the stash step and the events of R202. -/
def State.insertForLoad (s : State) (l : MtbLoad) (e : Slot) : Except Status MtbLoad :=
  match s.insertMain l.slots e with
  | some (t, w) => .ok { l with slots := t, written := w ++ l.written }
  | none =>
    match s.freeStash l.slots with
    | none => .error .noSpace
    | some j =>
      let used := l.slots.stashUsed
      let warn := s.get Fl.MTB_INSERT_CFG_STASH_WARN
      let high := l.high && decide (warn ≤ used)
      let cross := !high && decide (used < warn) && decide (warn ≤ used + 1)
      .ok { slots := l.slots.put j e, written := j :: l.written, high := high || cross, peak := max l.peak (used + 1),
            events := if cross then 226 :: l.events else l.events }

/-- Applies one record (R199, Table 6.5, rows 3 to 5 of R200); `limit` is the greatest number of staged members. -/
def State.applyRecord (s : State) (limit : Nat) (l : MtbLoad) (r : MtbRecord) : Except Status MtbLoad :=
  let st := 1 - s.curBit
  let staged := fun (x : Slot) => x.member st
  let put (j : Nat) (x : Slot) : Except Status MtbLoad :=
    .ok { l with slots := l.slots.put j x, written := j :: l.written }
  match r.op with
  | 2 =>
    match l.slots.findBy s.mtb.bad fun x => staged x && x.key == r.key with
    | none => .error .illegal
    | some (j, x) =>
      let x := { x.setBit st false with touched := true }
      put j (if x.bit s.curBit then x else {})
  | 3 =>
    match l.slots.findBy s.mtb.bad fun x => staged x && x.key == r.key with
    | none => .error .illegal
    | some (j, x) => put j { x with pinned := r.pinned, touched := true }
  | _ =>
    match l.slots.findBy s.mtb.bad fun x => staged x && x.key == r.key with
    | some (j, x) => if x.index = r.index then put j { x with pinned := r.pinned, touched := true } else .error .illegal
    | none =>
      if (l.slots.findBy s.mtb.bad fun x => staged x && x.index == r.index).isSome then .error .illegal
      else if limit ≤ (l.slots.filter fun p => staged p.2).length then .error .range
      else match l.slots.findBy s.mtb.bad fun x => x.valid && x.key == r.key && x.index == r.index with
        | some (j, x) => put j { x.setBit st true with pinned := r.pinned, touched := true }
        | none =>
          s.insertForLoad l ({ key := r.key, index := r.index, valid := true, hit := true, pinned := r.pinned,
                               touched := true : Slot }.setBit st true)

/-- Applies records in order; the first that cannot be applied decides the status (R200). -/
def State.applyRecords (s : State) (limit : Nat) : MtbLoad → List MtbRecord → Except (Status × MtbLoad) MtbLoad
  | l, [] => .ok l
  | l, r :: rs =>
    match s.applyRecord limit l r with
    | .ok l => State.applyRecords s limit l rs
    | .error e => .error (e, l)

/-- The staged state after the last post-commit pass, with every aging removal since (R200). A slot with an uncorrectable error takes no
part. -/
def State.mtbBase (s : State) : Slots :=
  let cur := s.curBit
  let bad := s.mtb.bad
  let good := FMap.mapVals {} (fun j b => if bad.contains j then {} else
    match s.mtb.slots.findBy bad fun x => x.valid && x.key == b.key && x.index == b.index && (x.bit cur || x.aged) with
    | some (_, x) =>
      let gone := x.aged && !x.bit cur
      ({ b with hit := x.hit, stale := x.stale, stamp := x.stamp, aged := x.aged }.setBit cur (x.bit cur)).setBit (1 - cur)
        (b.bit (1 - cur) && !gone)
    | none =>
      if b.bit cur then (({ b with aged := true }.setBit cur false).setBit (1 - cur) false) else b) s.mtb.base
  bad.foldl (fun t j => t.put j (s.mtb.slots.at j)) good

/-- Slots whose entries differ between two tables. -/
def Slots.changed (a b : Slots) : List Nat := ((a.map (·.1)) ++ b.map (·.1)).filter fun j => a.at j != b.at j

/-- The stash register follows the highest use that a load has reached, one that is undone too. -/
def State.stashPeak (s : State) (n : Nat) : State := s.put Fl.MTB_STASH_PEAK (max n (s.get Fl.MTB_STASH_PEAK))

/-- Parses the records of an image (Table 6.4); none for a breach of row 1 of R200. -/
def mtbRecords (update : Bool) : Nat → Octets → Option (List MtbRecord)
  | 0, _ => some []
  | n + 1, bs =>
    let w := leAt bs 8 4
    let op := leAt bs 12 1
    let okOp := if update then op == 1 || op == 2 || op == 3 else op == 0
    let okWord := bitsOf 25 20 w == 0 && bitsOf 31 27 w == 0
    if okOp && okWord && allZero (slice bs 13 3) then
      match mtbRecords update n (bs.drop 16) with
      | some rs => some (⟨leAt bs 0 8, bitsOf 19 0 w, bitOf 26 w, op⟩ :: rs)
      | none => none
    else none

/-- Keys in strictly ascending order. -/
def ascendingKeys : List MtbRecord → Bool
  | a :: b :: rs => decide (a.key < b.key) && ascendingKeys (b :: rs)
  | _ => true

/-- The content of a kind 0 image, checked under row 1 of R200. -/
def mtbContent (update : Bool) (epoch : Nat) (bs : Octets) : Option (List MtbRecord) :=
  let magic := if update then [0x4D#8, 0x54#8, 0x42#8, 0x55#8] else [0x4D#8, 0x54#8, 0x42#8, 0x52#8]
  let n := leAt bs 8 4
  let okCount := if update then decide (1 ≤ n) && decide (n ≤ 65536) else decide (n ≤ 1048576)
  if slice bs 0 4 == magic && leAt bs 4 4 == epoch && okCount && leAt bs 12 4 == 0 && bs.length == 16 + 16 * n then
    match mtbRecords update n (bs.drop 16) with
    | some rs => if update || ascendingKeys rs then some rs else none
    | none => none
  else none

/-- A load of table kind 0 after the checks of R74: its status and the state after it (R200). -/
def State.mtbLoad (s : State) (update : Bool) (epoch limit : Nat) (bs : Octets) : Status × State :=
  match mtbContent update epoch bs with
  | none => (.illegal, s)
  | some rs =>
    if update && s.mtb.replaced then (.state, s) else
    let start := if update then s.mtb.slots else s.mtbBase
    match s.applyRecords limit { slots := start, written := [], events := [], high := s.mtb.stashHigh } rs with
    | .ok l =>
      let changed := if update then l.written else l.written ++ s.mtb.slots.changed l.slots
      let s := { s with mtb := { s.mtb with replaced := s.mtb.replaced || !update, stashHigh := l.high } }
      (.ok, l.events.reverse.foldl (fun s e => s.raise e) ((s.setSlots l.slots changed).stashPeak l.peak))
    | .error (e, l) =>
      let s := (l.events.reverse.foldl (fun s e => s.raise e) s).stashPeak l.peak
      let s := if e = .noSpace then s.raise 227 else s
      if update then (e, s)
      else
        let base := s.mtbBase
        let s := { s with mtb := { s.mtb with replaced := false } }
        (e, s.setSlots base (s.mtb.slots.changed base))

/-! ### Leaving the current epoch (R205) and initialising records (R197) -/

/-- A meter stops being a member: its radio association is released and its power-line join cleared (R205). -/
def State.meterLeaves (s : State) (i : Nat) : State :=
  let s := s.releaseAssoc i
  s.modMeter i fun m => { m with plc := { m.plc with joined := false, short := 0, cell := 0xFFFF } }

/-- Initialises the record of an entry that became a member, unless it holds that key already (R197). -/
def State.initRecord (s : State) (x : Slot) : State :=
  if (s.meterRec x.index).key = x.key then s
  else s.setMeter x.index { ({} : MeterRec) with key := x.key, initEpoch := s.get Fl.CRS_EPOCH_CUR }

/-- A load of the meter table transfers (R212). -/
def State.loadTransfers (s : State) : Bool := s.crs.loads.any fun x => x.1 == 0

/-- PAUSED of the comb and of the scrubber: the post-commit pass and shedding pause both, and a meter-table load the scrubber (R203, R210,
R212). -/
def State.pauseSync (s : State) : State :=
  let hold := s.mtb.passing || s.mtb.shedPause
  (s.putFlag Fl.MTB_COMB_STATUS_PAUSED (hold && s.flag Fl.MTB_COMB_STATUS_RUNNING)).putFlag Fl.MTB_SCRUB_STATUS_PAUSED
    ((hold || s.loadTransfers) && s.flag Fl.MTB_SCRUB_STATUS_RUNNING)

/-- At the commit the membership bits exchange roles, and meters that are no longer members leave (R203, R205). -/
def State.mtbCommit (s : State) : State :=
  let old := s.curBit
  let was := (s.mtb.slots.filter fun p => p.2.member old).map (·.2)
  let s := s.put Fl.MTB_EPOCH_SEL_CUR_BIT (1 - old)
  let s := ({ s with mtb := { s.mtb with passing := true, replaced := false } }).pauseSync
  was.foldl (fun s x => if (s.memberByIndex x.index).map (·.key) = some x.key then s else s.meterLeaves x.index) s

/-- Phase 2 of the pass for one entry (R203). One with both membership bits 0 is freed; one that left with this commit is not: it has
both bits 0 from here on, and the next pass frees it. -/
def passSlot (cur : Nat) (x : Slot) : Slot :=
  if !x.m0 && !x.m1 then {} else
  let x := { x.setBit (1 - cur) (x.bit cur) with touched := false }
  if x.bit cur then { x with aged := false, stale := false, hit := true } else x

/-- Phase 3 of the pass for one stash entry: inserted again without the stash step (R203). -/
def State.unstash (s : State) (t : Slots) (j : Nat) : Slots :=
  let x := t.at j
  if !x.valid then t else
  match s.insertMain (t.put j {}) x with
  | some (t', _) => t'
  | none => t

/-- POST_COMMIT_PASS_DONE: the four phases of R203 have run. -/
def postCommitPassDoneEffect (s : State) : State :=
  if !s.mtb.passing then s else
  let cur := s.curBit
  let bad := s.mtb.bad
  let s := s.mtb.slots.foldl (fun s p => if p.2.member cur && !bad.contains p.1 then s.initRecord p.2 else s) s
  let t := FMap.mapVals {} (fun j x => if bad.contains j then x else passSlot cur x) s.mtb.slots
  let t := (List.range 64).foldl (fun t i => if bad.contains (stashFirst + i) then t else s.unstash t (stashFirst + i)) t
  let s := s.setSlots t (((s.mtb.slots.map (·.1)) ++ t.map (·.1)).filter fun j => !bad.contains j)
  (({ s with mtb := { s.mtb with passing := false, base := t } }).pauseSync).raise 228

/-! ### The comb (R206 to R209) -/

/-- The comb visits slot `j` (R207, R208). -/
def State.combVisit (s : State) (j : Nat) : State :=
  let x := s.mtb.slots.at j
  let cur := s.curBit
  if !x.member cur || x.pinned || s.mtb.bad.contains j then s else
  let age := s.flag Fl.MTB_AGE_CFG_AGE_EN
  let wg16 := s.flag Fl.MTB_AGE_CFG_WG16
  let simple (x : Slot) : State := s.writeSlot j x
  let out : State :=
    let y := x.setBit cur false
    let y := { (if x.touched then y else y.setBit (1 - cur) false) with aged := true }
    let s := (s.setSlots (s.mtb.slots.put j y) [j]).bump Fl.MTB_AGED_COUNT_COUNT
    (s.raise 225 (le 4 x.index ++ le 8 x.key)).meterLeaves x.index
  if wg16 then
    if x.stamp = 0 then simple { x with stamp := stampOf s.second }
    else if age && decide (s.get Fl.MTB_AGE_LIMIT_LIMIT ≤ (s.second % 2 ^ 32 + 2 ^ 32 - x.stamp) % 2 ^ 32) then out else s
  else if x.hit then simple { x with hit := false, stale := false }
  else if !x.stale then simple { x with stale := true }
  else if age then out else s

/-- A pass of the comb starts at slot 0 (R206). -/
def State.combStart (s : State) : State :=
  ((s.put Fl.MTB_COMB_STATUS_POSITION 0).putFlag Fl.MTB_COMB_STATUS_RUNNING true).pauseSync

/-- The visits of the comb in a course of a pass that is not paused: 32 slots; the pass ends at the last slot (R206). -/
def State.combVisits (s : State) : State :=
  if !s.flag Fl.MTB_COMB_STATUS_RUNNING || s.flag Fl.MTB_COMB_STATUS_PAUSED then s
  else
    let at0 := s.get Fl.MTB_COMB_STATUS_POSITION
    let s := (List.range 32).foldl (fun s i => if at0 + i < slotCount then s.combVisit (at0 + i) else s) s
    if slotCount ≤ at0 + 32 then
      (s.put Fl.MTB_COMB_STATUS_POSITION 0).putFlag Fl.MTB_COMB_STATUS_RUNNING false
    else s.put Fl.MTB_COMB_STATUS_POSITION (at0 + 32)

/-- COMB_PASS_START: a pass starts with the course in progress at a second that is a multiple of the comb period, and visits its first
slots in it; while the previous pass is unfinished it starts late, at the course after that pass finishes (R206). Disabled, MTB starts
none (R210). -/
def combPassStartEffect (s : State) : State :=
  if !s.enabled 6 || s.second % (60 * s.get Fl.MTB_AGE_CFG_COMB_PERIOD) != 0 then s
  else if s.flag Fl.MTB_COMB_STATUS_RUNNING then { s with mtb := { s.mtb with combOwed := true } }
  else s.combStart.combVisits

/-- The comb's part of a course: a pass that is owed starts first (R206). -/
def State.combCourse (s : State) : State :=
  let s := if !s.flag Fl.MTB_COMB_STATUS_RUNNING && s.mtb.combOwed && s.enabled 6 then
      ({ s with mtb := { s.mtb with combOwed := false } }).combStart.raise 229
    else s
  s.combVisits

/-- Shedding pauses the comb and the scrubber at their positions, or lets them resume (R210, R292). -/
def State.mtbShed (s : State) (p : Bool) : State := ({ s with mtb := { s.mtb with shedPause := p } }).pauseSync

/-! ### The shadow and the scrubber (R211 to R214) -/

/-- The slot that 16 octets of the shadow spell (Table 6.2). -/
def slotOf (bs : Octets) : Slot :=
  let w := leAt bs 8 4
  { key := leAt bs 0 8, index := bitsOf 19 0 w, valid := bitOf 20 w, m0 := bitOf 21 w, m1 := bitOf 22 w, hit := bitOf 23 w,
    stale := bitOf 24 w, aged := bitOf 25 w, pinned := bitOf 26 w, touched := bitOf 27 w, stamp := leAt bs 12 4 }

/-- The scrubber's comparison of a table slot with its shadow (R212). -/
def sameAsShadow (x y : Slot) : Bool :=
  x.key == y.key && x.index == y.index && x.valid == y.valid && x.pinned == y.pinned && x.touched == y.touched
    && (x.aged || (x.m0 == y.m0 && x.m1 == y.m1))

/-- The comparison at slot `j`. DEDUCED (log entry 65): a slot with an uncorrectable error agrees with nothing, so that a repair can
rewrite it (R195). -/
def State.sameSlot (s : State) (j : Nat) (y : Slot) : Bool := !s.mtb.bad.contains j && sameAsShadow (s.mtb.slots.at j) y

/-- An error is found in slot `x.1` of the table: MTB_ECC_COUNT counts it; one that is uncorrectable, in a slot that had none, takes
the slot out of use and raises MTB_ECC, and one that is corrected is rewritten in place (R195). -/
def State.slotError (s : State) (x : BitVec 22 × Bool) : State :=
  let j := x.1.toNat
  if slotCount ≤ j then s else
  let s := s.bump Fl.MTB_ECC_COUNT_COUNT
  let s := if x.2 then s else s.touchSlot j
  if !x.2 || s.mtb.bad.contains j then s
  else ({ s with mtb := { s.mtb with bad := s.mtb.bad ++ [j] } }).raise 235 (le 4 j)

/-- EN clears when the function that wrote the address stops being the owner or is fenced (R211). -/
def State.shadowCheck (s : State) : State :=
  if s.flag Fl.MTB_SHADOW_LO_EN && !s.isOwner s.mtb.shadowFunc then s.putFlag Fl.MTB_SHADOW_LO_EN false else s

/-- The scrubber stands still: its shadow is off, or it is paused (R203, R210 to R212). -/
def State.scrubHeld (s : State) : Bool :=
  !s.flag Fl.MTB_SHADOW_LO_EN || s.flag Fl.MTB_SCRUB_STATUS_PAUSED || s.mtb.passing || s.mtb.shedPause || s.loadTransfers

/-- SCRUB_BLOCK_READ: the scrubber reads the 4 KiB block at its position, and compares its 256 slots (R212). A failed read
ends the pass. A pass starts at slot 0 when none is in progress. -/
def scrubBlockReadEffect (failed : Bool) (block : Octets) (s : State) : State :=
  if !s.enabled 6 && !s.flag Fl.MTB_SCRUB_STATUS_RUNNING then s
  else if s.scrubHeld then s
  else
    let pos := if s.flag Fl.MTB_SCRUB_STATUS_RUNNING then s.get Fl.MTB_SCRUB_STATUS_POSITION else 0
    if failed || block.length != 4096 then
      ((s.putFlag Fl.MTB_SCRUB_STATUS_RUNNING false).put Fl.MTB_SCRUB_STATUS_POSITION 0
        |>.putFlag Fl.MTB_SCRUB_STATUS_DMA_ERR true).raise 233
    else
      let first := pos / 256 * 256
      let due := s.now + s.get Fl.MTB_SCRUB_CFG_CONFIRM * 100000000
      let found := (List.range 256).filterMap fun i =>
        let j := first + i
        if j < slotCount && !s.sameSlot j (slotOf (slice block (16 * i) 16))
        then some (Mismatch.mk j due false) else none
      let s := { s with mtb := { s.mtb with mismatches := s.mtb.mismatches ++ found } }
      if slotCount ≤ first + 256 then
        ((s.putFlag Fl.MTB_SCRUB_STATUS_RUNNING false).put Fl.MTB_SCRUB_STATUS_POSITION 0).raise 234
      else (s.putFlag Fl.MTB_SCRUB_STATUS_RUNNING true).put Fl.MTB_SCRUB_STATUS_POSITION (first + 256)

/-- A repair is refused (R214): a second member with the key or index in an epoch, or a current member out of its buckets. -/
def State.repairRefused (s : State) (j : Nat) (y : Slot) : Bool :=
  let cur := s.curBit
  let clash (b : Nat) : Bool := y.member b &&
    (s.mtb.slots.any fun p => p.1 != j && p.2.member b && (p.2.key == y.key || p.2.index == y.index))
  let x := s.mtb.slots.at j
  let moved := x.member cur && !s.mtb.bad.contains j && y.valid && decide (j < stashFirst) && !(s.candidates y.key).contains j
  clash 0 || clash 1 || moved

/-- The entry that a repair writes in slot `j` from its shadow: the compared fields, so that an entry with AGED 1 keeps M0 and M1 (R212,
R214). -/
def State.repaired (s : State) (j : Nat) (y : Slot) : Slot :=
  let x := s.mtb.slots.at j
  let keep := x.aged && !s.mtb.bad.contains j
  if !y.valid then {} else
  { y with m0 := if keep then x.m0 else y.m0, m1 := if keep then x.m1 else y.m1, hit := true, stale := false, aged := false,
           stamp := if s.flag Fl.MTB_AGE_CFG_WG16 then stampOf s.second else 0 }

/-- A repair is written in slot `j`; the state to which a replace image returns takes it over (R200, R214). -/
def State.writeRepair (s : State) (j : Nat) (e : Slot) : State :=
  let s := s.setSlots (s.mtb.slots.put j e) [j]
  { s with mtb := { s.mtb with base := s.mtb.base.put j e } }

/-- A confirmed mismatch at slot `j` is repaired, or the repair is refused (R214). -/
def State.repairSlot (s : State) (j : Nat) (octets : Octets) : State :=
  let e := s.repaired j (slotOf octets)
  if s.repairRefused j e then (s.putFlag Fl.MTB_SCRUB_LAST_REFUSED true).raise 232
  else (((s.writeRepair j e).bump Fl.MTB_REPAIR_COUNT_COUNT).putFlag Fl.MTB_SCRUB_LAST_REPAIRED true).raise 231

/-- SCRUB_CONFIRM: slot `slot` of the shadow was read again (R213, R214). In a pair a repair takes effect at the boundary, on both
units (DESIGN CHOICE, log entry 133). -/
def scrubConfirmEffect (slot : BitVec 22) (failed : Bool) (octets : Octets) (s : State) : State :=
  let j := slot.toNat
  match s.mtb.mismatches.find? fun m => m.slot == j with
  | none => s
  | some m =>
    if s.now < m.due || s.scrubHeld then s else
    let s := { s with mtb := { s.mtb with mismatches := s.mtb.mismatches.filter fun x => x.slot != j } }
    if failed then
      ((s.putFlag Fl.MTB_SCRUB_STATUS_RUNNING false).put Fl.MTB_SCRUB_STATUS_POSITION 0
        |>.putFlag Fl.MTB_SCRUB_STATUS_DMA_ERR true).raise 233
    else
      let y := slotOf octets
      if m.written || s.sameSlot j y then s else
      let s := ((s.bump Fl.MTB_MISMATCH_COUNT_COUNT).setWord Reg.MTB_SCRUB_LAST (BitVec.ofNat 32 j)).raise 230
      let state := s.get Fl.RDG_STATE_STATE
      if !s.flag Fl.MTB_SCRUB_CFG_REPAIR || state == 2 || state == 3 then s
      else if state = 1 ∧ s.repairRefused j (s.repaired j y) = false then
        (s.emit (.mirrorRepair j octets)).logItem (.repair j octets)
      else s.repairSlot j octets

def execCombPassStart (s : State) : Answer := .next (combPassStartEffect s)
def execScrubBlockRead (failed : Bool) (block : Octets) (s : State) : Answer := .next (scrubBlockReadEffect failed block s)
def execScrubConfirm (slot : BitVec 22) (failed : Bool) (octets : Octets) (s : State) : Answer :=
  .next (scrubConfirmEffect slot failed octets s)

end Sys2Proof.Machine
end

