-- ==== Sys2Proof/Machine/Survey.lean ====
section
/-!
DEFINITION. Machine/Survey.lean: survey records under the resident plan (R515, R516).
-/

namespace Sys2Proof.Machine

/-- Records that the survey ring holds. -/
def surveySize : Nat := 1048576

/-- A survey record (Table 17.7). -/
def surveyRecord (second cell kind medium eave source pan count level identity : Nat) (data : Octets) : Octets :=
  withCheck (le 8 second ++ le 4 (cell + 5 * 2 ^ 20) ++ le 1 kind ++ le 1 medium ++ le 2 eave ++ le 8 source ++ le 2 pan
    ++ le 2 (min count 0xFFFF) ++ le 1 level ++ zeros 3 ++ le 8 identity ++ padTo 8 data)

/-- Writes a survey record to the ring, and through tile staging while the archive is mounted (R516). -/
def State.surveyWrite (s : State) (record : Octets) : State :=
  let full := surveySize ≤ s.otp.survey.length
  let s := { s with otp := { s.otp with survey := (record :: s.otp.survey).take surveySize } }
  let s := s.bump Fl.OTP_SURVEY_HEAD_COUNT
  let s := if full && !s.otp.surveyFull then ({ s with otp := { s.otp with surveyFull := true } }).raise 588 else s
  if s.flag Fl.ARC_STATE_MOUNTED then s.stage s.second record else s

/-- The eave index of a cell, 0 when it has none. -/
def State.eaveIndex (s : State) (c : Nat) : Nat := match s.plan.eaveOf c with | some (_, e) => e.eave | none => 0

/-- Medium of a cell in survey records: 1 power line, 2 radio. -/
def State.surveyMedium (s : State) (c : Nat) : Nat := if s.plan.isRad c then 2 else 1

/-- A survey record of one observation on a cell; nothing unless the resident plan runs. -/
def State.survey (s : State) (kind c source pan level : Nat) : State :=
  if !s.resident then s else
  s.surveyWrite (surveyRecord s.second c kind (s.surveyMedium c) (s.eaveIndex c) source pan 1 level 0 [])

/-- A frame of a source joins its LINK summary (R516). -/
def State.surveyLink (s : State) (c source pan : Nat) (level : Int) : State :=
  if !s.resident then s else
  let same := fun (l : LinkSum) => l.cell == c && l.source == source
  let add := fun (l : LinkSum) => if same l then { l with count := l.count + 1, sum := l.sum + level } else l
  match s.otp.links.find? same with
  | some _ => { s with otp := { s.otp with links := s.otp.links.map add } }
  | none => { s with otp := { s.otp with links := s.otp.links ++ [⟨s.surveyMedium c, c, source, pan, s.second, 1, level⟩] } }

/-- LINK summaries that are 60 s old are written (R516). -/
def State.surveyTick (s : State) : State :=
  let due := s.otp.links.filter fun l => decide (l.since + 60 ≤ s.second)
  let s := { s with otp := { s.otp with links := s.otp.links.filter fun l => !decide (l.since + 60 ≤ s.second) } }
  due.foldl (fun s (l : LinkSum) =>
    let mean := (l.sum / (max 1 l.count : Nat))
    s.surveyWrite (surveyRecord s.second l.cell 4 l.medium (s.eaveIndex l.cell) l.source l.pan l.count (unsigned 8 mean) 0 [])) s

end Sys2Proof.Machine
end

