-- ==== Sys2Proof/Machine/Plc.lean ====
section
/-!
DEFINITION. Machine/Plc.lean: power-line cells (chapter 4): sensing, sending, receiving, tone maps, joining, routes, foreign
coordinators, GMK changes.
-/

namespace Sys2Proof.Machine

/-- Duration of an acknowledgement, ns (Table 4.2). -/
def Plan.plcAckNs (p : Plan) (c : Nat) : Nat := if p.fcc c then 4807000 else 15115000

/-- ACK_WAIT of a power-line cell, ns (Table 4.4). -/
def Plan.plcAckWait (p : Plan) (c : Nat) : Nat := p.param c 16 2 * 1000

/-- DETECT_THR plus DETECT_ADJ, within 64 to 250. -/
def State.detectThr (s : State) (c : Nat) : Nat :=
  (clampInt 64 250 (s.plan.param c 10 1 + s.getSigned Fl.PLC_DETECT_ADJ_DETECT_ADJ)).toNat

/-- ED_THR plus ED_ADJ, within 20 to 90. -/
def State.edThr (s : State) (c : Nat) : Nat :=
  (clampInt 20 90 (s.plan.param c 11 1 + s.getSigned Fl.PLC_DETECT_ADJ_ED_ADJ)).toNat

/-- The medium is busy for a sense item whose play batten starts at `play` ns (R125). -/
def State.plcBusy (s : State) (c : Nat) (o : SenseObs) (play : Nat) (late : Bool) : Bool :=
  let m := s.mac c
  decide (s.detectThr c ≤ o.corr) || m.rx || decide (o.level < s.edThr c) || decide (play < m.vcsEnd) || o.invalid
    || s.mutedIn c (s.senseWindow c).1 (s.senseWindow c).2 || !m.ackOwed.isEmpty || m.ackTx || m.tx.isSome || m.wait.isSome || late

/-- The cell and route entry of a meter (R143). -/
def State.routeOf (s : State) (i : Nat) : Option (Nat × RouteEntry) :=
  s.cel.routes.findSome? fun p => (p.2.find? fun e => e.meter == i).map fun e => (p.1, e)

/-- A unicast datagram for a meter over power line (R137, R144, Table 4.9). -/
def State.plcSend (s : State) (origin : Origin) (i : Nat) (ackReq high : Bool) (payload : Octets) : State :=
  let f : Frame := { origin := origin, kind := .data, meter := some i, high := high, ackReq := ackReq, secured := true,
                     payload := payload }
  match s.routeOf i with
  | none => s.finish 0 f 8
  | some (c, e) =>
    if !(s.meterRec i).plc.joined then s.finish c f 5 else
    match s.chooseHop c e with
    | none => ((s.bump Fl.PLC_ROUTE_ERR_COUNT_COUNT).raise 144).finish c f 4
    | some (hop, alt) =>
      s.enqueue c (s.fragmented c (s.routed c hop alt { f with dest := e.short }))

/-- A control frame of the cell to a neighbour: LBP, tone-map response, route reply; all of high priority (R127). -/
def State.plcControl (s : State) (c : Nat) (kind : FrameKind) (dest : Nat) (meter : Option Nat) (eui : Nat) : State :=
  let f : Frame := { origin := .engine, kind := kind, meter := meter, dest := dest, hop := dest, eui := eui, high := true }
  s.enqueue c (s.toneFor c dest f)

/-! ### Receiving (R121, R126, R131, R135, R142, R147, R152) -/

/-- Reports a foreign coordinator, at most once per cell per second (R147, R181). -/
def State.foreign (s : State) (c kind : Nat) : State :=
  let s := s.modMac c fun k => { k with foreign := true }
  if (s.mac c).foreignSecond = s.second + 1 then s else
  let s := s.modMac c fun k => { k with foreignSecond := s.second + 1 }
  if s.plan.isRad c then ((s.put Fl.RAD_FOREIGN_LAST_KIND kind).put Fl.RAD_FOREIGN_LAST_CELL c).raise 185
  else ((s.put Fl.PLC_FOREIGN_LAST_KIND kind).put Fl.PLC_FOREIGN_LAST_CELL c).raise 137

/-- Tone groups whose SNR reaches `t`, as a map, and their number. -/
def toneGroups (snr : List Int) (t : Int) : Nat × Nat :=
  ((List.range snr.length).zip snr).foldl (fun a p => if t ≤ p.2 then (a.1 + 2 ^ p.1, a.2 + 1) else a) (0, 0)

/-- The tone map computed for a neighbour (R135). -/
def State.computeTone (s : State) (c : Nat) (snr : List Int) : Nat × Nat :=
  let need := if s.plan.fcc c then 12 else 3
  let robust : Nat × Nat :=
    let g := toneGroups snr (s.get Fl.PLC_TMR_THRESH_GROUP_MIN)
    (0, if g.2 = 0 then s.plan.allTones c else g.1)
  if s.get (Fl.PROFILE_PROFILE 4) = 1 then robust else
  let try' := fun (t : Nat) => toneGroups snr t
  let a := try' (s.get Fl.PLC_TMR_THRESH_D8PSK)
  let b := try' (s.get Fl.PLC_TMR_THRESH_DQPSK)
  let d := try' (s.get Fl.PLC_TMR_THRESH_DBPSK)
  if need ≤ a.2 then (3, a.1) else if need ≤ b.2 then (2, b.1) else if need ≤ d.2 then (1, d.1) else robust

/-- An acknowledgement becomes owed (R131, R132): the batten that holds the frame's last sample ends at the frame's end or after it. -/
def State.oweAck (s : State) (c frameEnd dsn : Nat) (pending : Bool) : State :=
  let b := (frameEnd * 16 + s.period - 1) / s.period - 1
  let earliest := (b + s.plan.dRx c + 1 + s.plan.dTx c) * s.period / 16
  s.modMac c fun k => { k with ackOwed := k.ackOwed ++ [⟨frameEnd, earliest, dsn, pending⟩] }

/-- A secured frame's checks (R142, R403): the neighbour known, its key, its tag and its counter. Answers whether it is
accepted; any other secured frame counts in PLC_REPLAY_COUNT, and one whose counter fails raises PLC_REPLAY (DEDUCED, log entry
124). -/
def State.plcSecure (s : State) (f : PlcFrame) (neighbour : Option Nat) : Bool × State :=
  let c := f.cell.val
  match neighbour with
  | none => (false, s.bump Fl.PLC_REPLAY_COUNT_COUNT)
  | some i =>
    let (key, s) := s.deriveKey 2 (be 2 (s.plan.panId c) ++ be 1 (s.plan.param c 23 1))
    let m := s.mac c
    let indexOk := m.gmkSwitch.isSome || b2n f.keyIndex == m.keyIndex
    if key.isNone || !f.mic || !indexOk then (false, s.bump Fl.PLC_REPLAY_COUNT_COUNT)
    else if f.fc.toNat ≤ (s.meterRec i).plc.rxFc then (false, (s.bump Fl.PLC_REPLAY_COUNT_COUNT).raise 146)
    else (true, s.modMeter i fun r => { r with plc := { r.plc with rxFc := f.fc.toNat, keyIndex := b2n f.keyIndex } })

/-- A frame is addressed to the cell: its PAN ID and short address 0000h (R131). -/
def State.plcOurs (s : State) (f : PlcFrame) : Bool := f.dstPan.toNat == s.plan.panId f.cell.val && f.dst.toNat == 0

/-- Virtual carrier sense (R126): a frame that is not addressed to the cell and requests an acknowledgement. -/
def State.plcVcs (s : State) (f : PlcFrame) : State :=
  let c := f.cell.val
  if !s.plcOurs f && f.ackReq then
    s.modMac c fun k => { k with vcsEnd := f.frameEnd + s.plan.plcAckWait c + s.plan.plcAckNs c }
  else s

/-- What follows the check sequence of a frame that no foreign coordinator sent: the neighbour's measurements, the
acknowledgement, the tone-map response, security, the duplicate test, reassembly (R131, R135, R142, R145, R152). A neighbour is a node
of the cell's PAN. -/
def State.plcGood (s : State) (f : PlcFrame) : State :=
  let c := f.cell.val
  let src := f.source.toNat
  let ours := s.plcOurs f
  let pan := f.srcPan.toNat == s.plan.panId c
  let neighbour := if pan then s.plcMeter c src else none
  let s := match neighbour with
    | some i => s.modMeter i fun r => { r with plc := { r.plc with
        lqi := f.lqi.toNat, linkCost := Config.linkCost f.lqi.toNat, neighFail := false } }
    | none => s
  let s := if ours && f.ackReq then s.oweAck c f.frameEnd f.dsn.toNat false else s
  let s := if pan && f.toneReq then
      let t := s.computeTone c f.snr
      s.plcControl c (.toneMap t.1 t.2) src neighbour 0
    else s
  if !ours then s else
  if FMap.get 0 (s.mac c).lastDsn src = f.dsn.toNat + 1 then s else
  let (ok, s) := if f.secured then s.plcSecure f neighbour else (true, s)
  if !ok then s else
  let s := s.modMac c fun k => { k with lastDsn := FMap.set 0 k.lastDsn src (f.dsn.toNat + 1) }
  let s := match neighbour with
    | some i => s.modMeter i fun r => { r with plc := { r.plc with lastDsn := f.dsn.toNat } }
    | none => s
  let origin := f.originator.toNat
  let (whole, s) := match f.fragment with
    | none => (some (f.payload, f.late, f.clip), s)
    | some fr => s.reassemble c origin fr f.payload f.late f.clip
  match whole with
  | none => s
  | some (bs, late, clip) =>
    if bs.isEmpty || s.resident then s else
    let meter := s.plcMeter c origin
    match yelmBody bs with
    | some _ => s.deliverUp false c meter origin bs late clip
    | none =>
      let who := match meter with | some i => (s.meterRec i).key | none => origin
      s.uplink false c meter who bs

/-- PLC_FRAME_RX: the frame in reception has been decoded, or is lost (R117, R121, R131, R147, R148). Its late and clip marks are those
of its samples (R82, R100). -/
def plcFrameRxEffect (f : PlcFrame) (s : State) : State :=
  let c := f.cell.val
  let m := s.mac c
  if !s.plan.isPlc c || !m.rx then s
  else
    let f := { f with late := f.late || m.rxLate, clip := f.clip || m.rxBad }
    let s := s.modMac c fun k => { k with rx := false }
    if f.unsupported then (s.bump Fl.PLC_UNSUPPORTED_COUNT_COUNT).raise 147
    else if !f.decoded || !f.fcsOk then s.bump Fl.PLC_RX_LOST_COUNT_COUNT
    else
      let s := (s.bump Fl.PLC_RX_OK_COUNT_COUNT).plcVcs f
      let pan := f.srcPan.toNat == s.plan.panId c
      let s := s.surveyLink c f.source.toNat f.srcPan.toNat f.lqi.toNat
      if f.kind = .beacon then
        let s := s.survey 2 c f.source.toNat f.srcPan.toNat f.lqi.toNat
        if pan then s.foreign c 1 else s
      else if pan && f.source.toNat == 0 then s.foreign c 2
      else s.plcGood f

/-- The awaited acknowledgement may start at `at'` ns: between the end of the cell's own frame and ACK_WAIT after it (R133, R169). -/
def State.awaited (s : State) (c at' : Nat) : Bool :=
  let m := s.mac c
  decide (m.waitFrom ≤ at') && decide (at' ≤ m.waitFrom + s.plan.param c (if s.plan.isRad c then 18 else 16) 2 * 1000)

/-- ACK_WAIT of the cell's own frame is over (R133, R169). -/
def State.waitOver (s : State) (c : Nat) : Bool :=
  decide ((s.mac c).waitFrom + s.plan.param c (if s.plan.isRad c then 18 else 16) 2 * 1000 ≤ s.now)

/-- PLC_ACK_RX: an acknowledgement from `source` ended at `ackEnd` ns (R126, R133); its preamble started its duration before. -/
def plcAckRxEffect (cell : Fin 32768) (source : BitVec 16) (ackEnd : Nat) (s : State) : State :=
  let c := cell.val
  if !s.plan.isPlc c then s else
  let m := s.mac c
  let s := s.setMac c { m with rx := false, vcsEnd := min m.vcsEnd ackEnd }
  match m.wait with
  | some f =>
    if f.hop = source.toNat ∧ s.awaited c (ackEnd - s.plan.plcAckNs c) then (s.modMac c fun k => { k with wait := none }).attemptDone c f 0 else s
  | none => s

/-- PLC_ACK_WAIT_EXPIRY: no acknowledgement came within ACK_WAIT (R133). -/
def plcAckWaitExpiryEffect (cell : Fin 32768) (s : State) : State :=
  let c := cell.val
  if !s.plan.isPlc c || !s.waitOver c then s else
  match (s.mac c).wait with
  | some f => (s.modMac c fun k => { k with wait := none }).failAttempt c f
  | none => s

/-- TONE_MAP_RESPONSE_RX: a neighbour's tone map is stored, or a coherent one discarded (R136). -/
def toneMapResponseRxEffect (r : ToneResponse) (s : State) : State :=
  let c := r.cell.val
  if !s.plan.isPlc c then s
  else if r.coherent then (s.bump Fl.PLC_UNSUPPORTED_COUNT_COUNT).raise 147
  else match s.plcMeter c r.source.toNat with
    | none => s
    | some i => s.modMeter i fun m => { m with plc := { m.plc with
        tmMod := r.mod.toNat, tmGain := r.gain.toNat, tmMap := r.map.toNat,
        tmUntil := (s.second + s.plan.param c 20 2) % 2 ^ 32, tmCell := c } }

/-! ### Joining (R140, R141) -/

/-- Refuses a join (R140). The event carries the reason. -/
def State.plcRefuse (s : State) (c eui reason : Nat) : State :=
  let s := s.bump Fl.PLC_JOIN_REFUSED_COUNT_COUNT
  let s := (s.put Fl.PLC_JOIN_LAST_REASON reason).put Fl.PLC_JOIN_LAST_CELL c
  let s := (s.raise 139 (le 1 reason)).survey 3 c eui (s.plan.panId c) 0
  if reason = 1 then s else s.plcControl c (.lbp 3) 0xFFFF none eui

/-- LBP_JOINING_RX: the tests of Table 4.7 in order; then EAP-PSK starts (R140). An exchange of the meter that is still open is
abandoned, on whatever cell. -/
def lbpJoiningRxEffect (cell : Fin 32768) (eui : BitVec 64) (s : State) : State :=
  let c := cell.val
  let k := eui.toNat
  let s := { s with cel := { s.cel with macs := FMap.mapVals {} (fun _ m => { m with lbp := m.lbp.filter (· != k) }) s.cel.macs } }
  if s.resident then s.plcRefuse c k 1
  else if !s.plan.isPlc c then s
  else if !bitOf 1 (s.plan.param c 7 1) then s.plcRefuse c k 2
  else
    let (hit, s) := s.lookupCounted k
    match hit with
    | none => s.plcRefuse c k 3
    | some (i, _) =>
      if ((FMap.get [] s.cel.routes c).find? fun e => e.meter == i).isNone then s.plcRefuse c k 4
      else if 64 ≤ (s.mac c).lbp.length then s.plcRefuse c k 5
      else
        let (psk, s) := s.deriveKey 1 (be 8 k)
        if psk.isNone then s.plcRefuse c k 6
        else (s.modMac c fun m => { m with lbp := k :: m.lbp }).plcControl c (.lbp 1) 0xFFFF (some i) k

/-- EAP_PSK_COMPLETE: an open exchange ended, well or not (R140). -/
def eapPskCompleteEffect (cell : Fin 32768) (eui : BitVec 64) (ok : Bool) (s : State) : State :=
  let c := cell.val
  let k := eui.toNat
  if !(s.mac c).lbp.contains k then s else
  let s := s.modMac c fun m => { m with lbp := m.lbp.filter (· != k) }
  let entry := match s.lookup k with
    | some (i, _) => (FMap.get [] s.cel.routes c).find? fun (e : RouteEntry) => e.meter == i
    | none => none
  if !ok then s.plcRefuse c k 6 else
  let (gmk, s) := s.deriveKey 2 (be 2 (s.plan.panId c) ++ be 1 (s.plan.param c 23 1))
  match entry with
  | none => s.plcRefuse c k 6
  | some e =>
    if gmk.isNone then s.plcRefuse c k 6 else
    let s := s.modMeter e.meter fun m => { m with plc := { m.plc with short := e.short, cell := c, joined := true, rxFc := 0 } }
    let s := (s.markHit k).plcControl c (.lbp 2) e.short (some e.meter) k
    s.raise 140

/-! ### Routes (R145, R146) -/

/-- Copies of one request (R146). -/
def RouteRequest.same (a b : RouteRequest) : Bool := a.originator == b.originator && a.id == b.id

/-- ROUTE_REQUEST_RX: a copy of a route request to 0000h joins its collection, or opens one; a copy that comes after the reply is too
late (R146). -/
def routeRequestRxEffect (cell : Fin 32768) (ask : RouteAsk) (neighbour cost : BitVec 16) (hops : Byte) (s : State) : State :=
  let c := cell.val
  if !s.plan.isPlc c then s else
  let r : RouteRequest := ⟨ask.originator.toNat, ask.id.toNat, neighbour.toNat, cost.toNat, hops.toNat, 0⟩
  s.modMac c fun m =>
    if FMap.get 0 m.answered r.originator = r.id + 1 then m else
    match m.requests.find? r.same with
    | none => { m with requests := m.requests ++ [{ r with due := s.now + s.plan.param c 26 2 * 1000000 }] }
    | some x =>
      if r.cost < x.cost ∨ (r.cost = x.cost ∧ r.hops < x.hops) then
        { m with requests := m.requests.map fun y => if r.same y then { r with due := x.due } else y }
      else m

/-- RREP_WAIT_EXPIRY: one route reply goes towards the best copy (R146). -/
def rrepWaitExpiryEffect (cell : Fin 32768) (ask : RouteAsk) (s : State) : State :=
  let c := cell.val
  if !s.plan.isPlc c then s else
  match (s.mac c).requests.find? fun x => x.originator == ask.originator.toNat && x.id == ask.id.toNat with
  | none => s
  | some r =>
    if s.now < r.due then s else
    let s := s.modMac c fun m =>
      { m with requests := m.requests.filter fun x => !r.same x, answered := FMap.set 0 m.answered r.originator (r.id + 1) }
    let s := match s.plcMeter c r.originator with
      | some i => s.modMeter i fun m => { m with plc := { m.plc with upCost := r.cost, upHops := r.hops } }
      | none => s
    s.plcControl c (.routeReply r.cost r.hops) r.neighbour (s.plcMeter c r.neighbour) 0

/-- ROUTE_ERROR_RX: ROUTE_FAIL is set on the destination meter that the error names (R145). -/
def routeErrorRxEffect (cell : Fin 32768) (dest : BitVec 16) (s : State) : State :=
  let c := cell.val
  if !s.plan.isPlc c then s else
  match s.plcMeter c dest.toNat with
  | none => s
  | some i => (s.plcMark i fun a => { a with routeFail := true }).raise 143

/-- PAN_CONFLICT_RX: a PAN ID conflict notification is reported (R147). -/
def panConflictRxEffect (cell : Fin 32768) (s : State) : State :=
  if !s.plan.isPlc cell.val then s else (s.raise 138).foreign cell.val 3

/-- Clears the failure marks of a power-line area (R145). -/
def PlcArea.clearMarks (a : PlcArea) : PlcArea := { a with neighFail := false, routeFail := false, altFail := false }

/-- FAIL_MARK_EXPIRY: the marks of a meter clear when FAIL_UNTIL is reached (R145). -/
def failMarkExpiryEffect (index : BitVec 20) (s : State) : State :=
  if s.second % 2 ^ 32 < (s.meterRec index.toNat).plc.failUntil then s
  else s.modMeter index.toNat fun m => { m with plc := m.plc.clearMarks }

/-- GMK_SWITCH: every joined meter has confirmed, or 600 s have passed since the target course (R142). -/
def gmkSwitchEffect (cell : Fin 32768) (confirmed : Bool) (s : State) : State :=
  let c := cell.val
  match (s.mac c).gmkSwitch with
  | none => s
  | some due =>
    if !confirmed && decide (s.now < due) then s else
    let s := s.modMac c fun m => { m with gmkSwitch := none, keyIndex := 1 - m.keyIndex, fc := 0 }
    let s := if s.flag Fl.ARC_STATE_MOUNTED then
        { s with arc := { s.arc with rsv := FMap.set 0 s.arc.rsv c (2 ^ 20) } } else s
    s.raise 150

/-! ### Commit (R138, R139, R142, R143, R145, R150) -/

/-- The effects of a commit on power-line cells, after the plan and the tables have changed; `old` is the plan before. -/
def State.plcCommit (s : State) (old : Plan) : State :=
  let s := { s with meters := FMap.mapVals {} (fun _ m => { m with plc := m.plc.clearMarks }) s.meters }
  let plc := s.plan.cells.filter fun x => s.plan.isPlc x.cell
  let s := plc.foldl (fun s x =>
    let c := x.cell
    let was := old.isPlc c
    let s := s.modMac c fun m => { m with foreign := false }
    let s := if was && old.param c 1 1 != s.plan.param c 1 1 then
        { s with meters := FMap.mapVals {} (fun _ m =>
            if m.plc.tmCell = c then { m with plc := { m.plc with tmUntil := 0 } } else m) s.meters } else s
    if was && old.param c 23 1 != s.plan.param c 23 1 then
      let s := s.modMac c fun m => { m with gmkSwitch := some (s.now + 600000000000) }
      (s.joined c).foldl (fun s p => s.plcControl c (.lbp 5) p.2.plc.short (some p.1) p.2.key) s
    else s) s
  let lost := s.meters.filter fun p =>
    p.2.plc.joined && ((FMap.get [] s.cel.routes p.2.plc.cell).find? fun e => e.meter == p.1).isNone
  lost.foldl (fun s p =>
    let c := p.2.plc.cell
    let s := if s.plan.isPlc c then s.plcControl c (.lbp 4) p.2.plc.short (some p.1) p.2.key else s
    let s := s.modMeter p.1 fun m => { m with plc := { m.plc with joined := false, short := 0, cell := 0xFFFF } }
    s.raise 141) s

def execPlcFrameRx (f : PlcFrame) (s : State) : Answer := .next (plcFrameRxEffect f s)
def execPlcAckRx (cell : Fin 32768) (source : BitVec 16) (ackEnd : Nat) (s : State) : Answer :=
  .next (plcAckRxEffect cell source ackEnd s)
def execPlcAckWaitExpiry (cell : Fin 32768) (s : State) : Answer := .next (plcAckWaitExpiryEffect cell s)
def execToneMapResponseRx (r : ToneResponse) (s : State) : Answer := .next (toneMapResponseRxEffect r s)
def execLbpJoiningRx (cell : Fin 32768) (eui : BitVec 64) (s : State) : Answer := .next (lbpJoiningRxEffect cell eui s)
def execEapPskComplete (cell : Fin 32768) (eui : BitVec 64) (ok : Bool) (s : State) : Answer :=
  .next (eapPskCompleteEffect cell eui ok s)
def execRouteRequestRx (cell : Fin 32768) (ask : RouteAsk) (neighbour cost : BitVec 16) (hops : Byte) (s : State) : Answer :=
  .next (routeRequestRxEffect cell ask neighbour cost hops s)
def execRrepWaitExpiry (cell : Fin 32768) (ask : RouteAsk) (s : State) : Answer :=
  .next (rrepWaitExpiryEffect cell ask s)
def execRouteErrorRx (cell : Fin 32768) (dest : BitVec 16) (s : State) : Answer := .next (routeErrorRxEffect cell dest s)
def execPanConflictRx (cell : Fin 32768) (s : State) : Answer := .next (panConflictRxEffect cell s)
def execFailMarkExpiry (index : BitVec 20) (s : State) : Answer := .next (failMarkExpiryEffect index s)
def execGmkSwitch (cell : Fin 32768) (confirmed : Bool) (s : State) : Answer := .next (gmkSwitchEffect cell confirmed s)

end Sys2Proof.Machine
end

