-- ==== Sys2Proof/Machine/Rad.lean ====
section
/-!
DEFINITION. Machine/Rad.lean: radio cells (chapter 5): sensing, air time, wake-up sequences, sending, receiving, association,
sleeping meters.
-/

namespace Sys2Proof.Machine

/-- Data rate of a radio cell, kb/s (Table 5.2). -/
def Plan.radRate (p : Plan) (c : Nat) : Nat :=
  match p.param c 8 1, p.param c 1 1 with
  | 1, _ => 50
  | 2, 0x11 => 150
  | 2, _ => 100
  | _, _ => 200

/-- The 10-symbol unit of a radio cell in thirds of a µs (Table 5.2). -/
def Plan.radUnit3 (p : Plan) (c : Nat) : Nat :=
  match p.param c 8 1, p.param c 1 1 with
  | 1, _ => 600
  | 2, 0x11 => 200
  | _, 0x11 => 150
  | _, _ => 300

/-- `n` units of 10 symbols in µs. -/
def Plan.unitsUs (p : Plan) (c n : Nat) : Nat := n * p.radUnit3 c / 3

/-- Duration of a frame with a PSDU of `psdu` octets, ns (Table 5.2); with FEC it is the standard's, left open. -/
def Plan.radAir (p : Plan) (c psdu : Nat) : Nat :=
  let n := p.param c 15 1 + 4 + psdu
  if bitOf 2 (p.param c 7 1) then Config.fecAirNs (p.radRate c) n else n * 8000000 / p.radRate c

/-- PSDU of a frame. -/
def State.radPsdu (s : State) (c : Nat) (f : Frame) : Nat := f.payload.length + s.radOverhead c f

/-- Fixed guard of a wake-up sequence, ns: WUS_GUARD + GUARD_ADD. -/
def State.guardNs (s : State) (c : Nat) : Nat := (s.plan.param c 26 2 + s.get Fl.RAD_CSL_ADJ_GUARD_ADD) * 1000

/-- G of Table 5.7 for a start at `at'` ns; before the sampling instant SYNC_US its drift term is negative. -/
def State.cslGuard (s : State) (c : Nat) (a : RadArea) (at' : Nat) : Int :=
  s.guardNs c + (s.plan.param c 28 1 + s.get Fl.RAD_CSL_ADJ_DRIFT_ADD : Nat) * ((at' : Int) - (a.syncUs * 1000 : Nat)) / 1000000

/-- The sequence to a meter is short (Table 5.7). -/
def State.cslShort (s : State) (c : Nat) (a : RadArea) (at' : Nat) : Bool :=
  a.synced && decide (2 * s.cslGuard c a at' < (a.cslPeriod * 1000 : Nat))

/-- t of Table 5.7: the first sampling instant with t − G not before the start. -/
def State.cslInstant (s : State) (c : Nat) (a : RadArea) (at' : Nat) : Nat :=
  let sync := a.syncUs * 1000
  let p := max 1 (a.cslPeriod * 1000)
  let need := ((at' : Int) + s.cslGuard c a at' - sync).toNat
  sync + (need + p - 1) / p * p

/-- The instant up to which the sequence must last (Table 5.7). -/
def State.cslCover (s : State) (c : Nat) (a : RadArea) (at' : Nat) : Nat :=
  if s.cslShort c a at' then ((s.cslInstant c a at' : Int) + s.cslGuard c a at').toNat
  else at' + a.cslPeriod * 1000 + 2 * s.guardNs c

/-- A frame that every meter of the cell may hear (R179): a push; not a beacon, nor a response that goes to an extended address. -/
def Frame.broadcast (f : Frame) : Bool := f.meter.isNone && f.kind == .data

/-- What goes out with a frame that starts at `at'` ns, besides the frame: the rendezvous times of its wake-up frames, in 10-symbol units
from the end of each to the payload frame (R177; PRESUMED, log entry 132), how many further transmissions a
broadcast copy takes (R179), and the air time of it all, ns. -/
def State.radPlan (s : State) (c : Nat) (f : Frame) (at' : Nat) : List Nat × Nat × Nat :=
  let air := s.plan.radAir c (s.radPsdu c f)
  match f.meter with
  | some i =>
    let a := (s.meterRec i).rad
    if !a.sleepy then ([], 0, air) else
    let w := s.plan.radAir c (10 + s.plan.fcsOctets c)
    let n := (s.cslCover c a at' - at' + w - 1) / max 1 w
    ((List.range n).map fun k => (n - 1 - k) * w * 3 / (s.plan.radUnit3 c * 1000), 0, n * w + air)
  | none =>
    if !f.broadcast || !((s.associated c).any fun p => p.2.rad.sleepy) then ([], 0, air) else
    let span := s.plan.param c 24 2 * 1000000 + 2 * s.guardNs c
    let n := max 1 ((span + air - 1) / max 1 air)
    ([], n - 1, n * air)

/-- A frame to a sleeping meter is eligible in a course (R178); `play` is the primary play start of its first usable entry. -/
def State.eligible (s : State) (c : Nat) (f : Frame) (play : Nat) : Bool :=
  match f.meter with
  | some i =>
    let a := (s.meterRec i).rad
    if !a.sleepy || !s.cslShort c a play then true
    else decide ((s.cslInstant c a play : Int) - s.cslGuard c a play - play < s.period)
  | none => true

/-- The medium is busy for a sense item (R163). -/
def State.radBusy (s : State) (c : Nat) (o : SenseObs) (late : Bool) : Bool :=
  let m := s.mac c
  let thr := (clampInt 20 100 (s.plan.param c 14 1 + s.getSigned Fl.RAD_CCA_ADJ_CCA_ADJ)).toNat
  o.preamble || m.rx || decide (o.level < thr) || o.invalid || s.mutedIn c (s.senseWindow c).1 (s.senseWindow c).2
    || !m.ackOwed.isEmpty || m.ackTx || m.tx.isSome || m.wait.isSome || late

/-- Air time of the last 3,600 s, ns (R165). -/
def State.airUsed (s : State) (c : Nat) : Nat :=
  ((s.mac c).air.filter fun a => decide (s.now < a.1 + 3600000000000)).foldl (fun n a => n + a.2) 0

/-- Counts air time of a transmission that plays from the batten which this one's items fill (R165). -/
def State.countAir (s : State) (c ns : Nat) : State :=
  s.modMac c fun m => { m with air := (s.playNow c, ns) :: m.air.filter fun a => decide (s.now < a.1 + 3600000000000) }

/-- The frame's air time fits the cell's duty cycle (R165). -/
def State.dutyFits (s : State) (c ns : Nat) : Bool :=
  s.plan.param c 30 2 == 0 || decide (s.airUsed c + ns ≤ s.plan.param c 30 2 * 3600000000)

/-- A frame is refused under its duty cycle (R165). -/
def State.dutyRefuse (s : State) (c : Nat) (f : Frame) : State :=
  let s := s.bump Fl.RAD_DUTY_BLOCK_COUNT_COUNT
  let mark := (s.mac c).dutyMark
  let s := if mark = 0 ∨ mark - 1 + 3600000000000 ≤ s.now then
      (s.modMac c fun m => { m with dutyMark := s.now + 1 }).raise 199 else s
  s.finish c f 0xC

/-- A unicast datagram for a meter over radio (R171, R180, Table 5.8). A meter that is no member ends NOT_RADIO, and a member without an
association NOT_JOINED (DESIGN CHOICE, log entry 127). -/
def State.radSend (s : State) (origin : Origin) (i : Nat) (ackReq high : Bool) (payload : Octets) : State :=
  let a := (s.meterRec i).rad
  let f : Frame := { origin := origin, kind := .data, meter := some i, dest := a.short, hop := a.short, high := high,
                     ackReq := ackReq, secured := true, payload := payload }
  if (s.memberByIndex i).isNone then s.finish a.cell f 0xB
  else if !a.assoc then s.finish a.cell f 5
  else if a.unreachable then s.finish a.cell f 0xA
  else s.enqueue a.cell (s.fragmented a.cell f)

/-! ### Receiving (R161, R167, R170, R171, R176, R180, R181) -/

/-- A CSL IE of a frame or Enh-Ack that ended at `frameEnd` ns (R176). -/
def State.learnCsl (s : State) (c i frameEnd : Nat) (csl : Option (Nat × Nat)) : State :=
  match csl with
  | none => s
  | some (period, phase) =>
    s.modMeter i fun m =>
      if period = 0 then { m with rad := { m.rad with sleepy := false, synced := false, cslPeriod := 0 } }
      else { m with rad := { m.rad with
               sleepy := true, synced := true,
               cslPeriod := min (s.plan.unitsUs c period) (s.plan.param c 24 2 * 1000),
               syncUs := frameEnd / 1000 + s.plan.unitsUs c phase } }

/-- The WG20 hears the meter: CSL_FAILS and UNREACHABLE clear (R180). -/
def State.reachable (s : State) (i : Nat) : State :=
  let was := (s.meterRec i).rad.unreachable
  let s := s.modMeter i fun m => { m with rad := { m.rad with cslFails := 0, unreachable := false } }
  if was then s.raise 198 else s

/-- A secured frame of a meter is accepted (R171, R176, R180, R194). -/
def State.radAccept (s : State) (f : RadFrame) (i : Nat) : State :=
  let c := f.cell.val
  let s := s.modMac c fun m => { m with lastDsn := FMap.set 0 m.lastDsn f.source.toNat (f.dsn.toNat + 1) }
  let s := s.modMeter i fun m => { m with rad := { m.rad with
    rxFc := f.fc.toNat, lastDsn := f.dsn.toNat, rssi := f.rssi.toNat, chains := f.chains.val, lastRx := s.second % 2 ^ 32 } }
  let s := (s.learnCsl c i f.frameEnd f.csl).reachable i
  let s := s.markHit f.source.toNat
  if f.kind != .data then s
  else if f.mesh then (s.bump Fl.RAD_UNSUPPORTED_COUNT_COUNT).raise 191
  else
    let (whole, s) := match f.fragment with
      | none => (some (f.payload, f.late, f.clip), s)
      | some fr => s.reassemble c f.source.toNat fr f.payload f.late f.clip
    match whole with
    | none => s
    | some (bs, late, clip) => if bs.isEmpty || s.resident then s else s.deliverUp true c (some i) f.source.toNat bs late clip

/-- The security checks of R170 and R171 for a frame addressed to the cell. A level from 0 to 4 or a key identifier mode from 1 to 3
counts in RAD_UNSECURED_COUNT and raises no event (DESIGN CHOICE, log entry 128). A frame of an address that is no
member counts in RAD_AUTH_FAIL_COUNT, an association request too. -/
def State.radSecure (s : State) (f : RadFrame) : State :=
  let c := f.cell.val
  let k := f.source.toNat
  if !f.extended || f.secLevel.val < 5 || f.keyMode.val != 0 then s.bump Fl.RAD_UNSECURED_COUNT_COUNT
  else
    let (hit, s) := s.lookupCounted k
    match hit with
    | none => s.bump Fl.RAD_AUTH_FAIL_COUNT_COUNT
    | some (i, _) =>
      let (key, s) := s.deriveKey 3 (be 8 k)
      if (key.map fun x => ccmTag x (ccmNonce k f.fc.toNat f.secLevel.val) f.header f.payload (ccmLength f.secLevel.val)) ≠ some f.mic
      then s.bump Fl.RAD_AUTH_FAIL_COUNT_COUNT
      else if FMap.get 0 (s.mac c).lastDsn k = f.dsn.toNat + 1 then s
      else if f.fc.toNat ≤ (s.meterRec i).rad.rxFc then (s.bump Fl.RAD_REPLAY_COUNT_COUNT).raise 190
      else s.radAccept f i

/-- The chains that a radio cell processes (R161): profile 01h leaves chain 0 only. -/
def State.radChains (s : State) (c : Nat) : Nat := if s.get (Fl.PROFILE_PROFILE 5) = 1 then 1 else s.plan.chains' c

/-- A radio frame uses what Table 5.1 does not support. -/
def State.radUnsupported (s : State) : State := (s.bump Fl.RAD_UNSUPPORTED_COUNT_COUNT).raise 191

/-- A frame is addressed to the cell: its PAN ID and short address 0000h or its extended address (R167). -/
def State.radOurs (s : State) (f : RadFrame) : Bool :=
  let c := f.cell.val
  f.dstPan.toNat == s.plan.panId c && f.dst.toNat == if f.dstExtended then s.plan.extAddress c else 0

/-- A foreign coordinator's sign in a frame with a good check sequence (R181): 1 a beacon with the cell's PAN ID, 2 a frame from 0000h in
the cell's PAN, 0 neither. -/
def State.radForeign (s : State) (f : RadFrame) : Nat :=
  if f.srcPan.toNat ≠ s.plan.panId f.cell.val then 0
  else if f.kind = .beacon then 1
  else if !f.extended && f.source.toNat == 0 then 2
  else 0

/-- A version 2 frame of no foreign coordinator: the acknowledgement, and then what Table 5.1 and the security checks make of it
(R155, R167, R170). -/
def State.radGood (s : State) (f : RadFrame) : State :=
  let c := f.cell.val
  let waits := f.kind == .dataRequest && (s.mac c).pendingList.any fun p => p.eui == f.source.toNat
  let s := if s.radOurs f && f.ackReq && f.kind != .other then s.oweAck c f.frameEnd f.dsn.toNat waits else s
  if f.suppressed || f.kind == .other || f.kind == .enhancedRequest then s.radUnsupported
  else if f.kind == .beaconRequest || !s.radOurs f then s
  else s.radSecure f

/-- RAD_FRAME_RX: the frame in reception has been decoded, or is lost (R155, R161, R167, R181, R183). Its late and clip marks are those
of its samples (R82, R100). A frame whose FCS fails counts as lost, as a power-line frame does (log entry
130). -/
def radFrameRxEffect (f : RadFrame) (s : State) : State :=
  let c := f.cell.val
  let m := s.mac c
  if !s.plan.isRad c || !m.rx then s
  else
    let f := { f with late := f.late || m.rxLate, clip := f.clip || m.rxBad, chains := f.chains &&& Fin.ofNat 4 (s.radChains c) }
    let s := s.modMac c fun k => { k with rx := false }
    if f.modeSwitch then s.radUnsupported
    else if !f.decoded || !f.fcsOk then s.bump Fl.RAD_RX_LOST_COUNT_COUNT
    else
      let s := (s.bump Fl.RAD_RX_OK_COUNT_COUNT).surveyLink c f.source.toNat f.srcPan.toNat f.rssi.toInt
      let s := if f.kind = .beacon then s.survey 2 c f.source.toNat f.srcPan.toNat f.rssi.toNat else s
      let sign := s.radForeign f
      let s := if sign = 0 then s else s.foreign c sign
      if !f.version2 then s.radUnsupported
      else if f.kind = .beacon ∨ sign ≠ 0 then s
      else s.radGood f

/-- ENH_ACK_RX: an Enh-Ack whose sequence number matches, and whose SFD was detected at `sfd` ns within ACK_WAIT, ends the attempt ACKED
(R169, R176, R180). -/
def enhAckRxEffect (cell : Fin 32768) (dsn : Byte) (span : AckSpan) (csl : Option (Nat × Nat)) (s : State) : State :=
  let c := cell.val
  if !s.plan.isRad c then s else
  match (s.mac c).wait with
  | none => s
  | some f =>
    if f.dsn ≠ dsn.toNat ∨ !s.awaited c span.sfd then s else
    let s := s.modMac c fun k => { k with wait := none, rx := false }
    let s := match f.meter with
      | some i => (s.learnCsl c i span.stop csl).modMeter i fun m => { m with rad := { m.rad with cslFails := 0 } }
      | none => s
    s.attemptDone c f 0

/-- The frames queued for a meter on a cell end with a delivery result. -/
def State.endQueuedFor (s : State) (c i code : Nat) : State :=
  let q := (s.mac c).queue.filter fun f => f.meter == some i
  let s := s.modMac c fun k => { k with queue := k.queue.filter fun f => f.meter != some i }
  q.foldl (fun s f => s.finish c f code) s

/-- RAD_ACK_WAIT_EXPIRY: the attempt has failed; an exchange with a sleeping meter counts towards UNREACHABLE (R169, R180). -/
def radAckWaitExpiryEffect (cell : Fin 32768) (s : State) : State :=
  let c := cell.val
  if !s.plan.isRad c || !s.waitOver c then s else
  match (s.mac c).wait with
  | none => s
  | some f =>
    let s := s.modMac c fun k => { k with wait := none }
    match f.meter with
    | none => s.failAttempt c f
    | some i =>
      let a := (s.meterRec i).rad
      if !a.sleepy then s.failAttempt c f else
      let n := min 3 (a.cslFails + 1)
      let s := s.modMeter i fun m => { m with rad := { m.rad with synced := false, cslFails := n } }
      let s := (s.bump Fl.RAD_CSL_FAIL_COUNT_COUNT).raise 196
      if n < 3 then s.failAttempt c f else
      let s := (s.modMeter i fun m => { m with rad := { m.rad with unreachable := true } }).raise 197
      (s.finish c f 0xA).endQueuedFor c i 0xA

/-! ### Association (R173 to R175) -/

/-- Puts an association response on the cell's pending list (R175). With the list full, a refusal's response is not sent (DESIGN CHOICE,
log entry 131). -/
def State.pend (s : State) (c : Nat) (p : PendingResponse) : State :=
  s.modMac c fun m =>
    let others := m.pendingList.filter fun x => x.eui != p.eui
    if others.length < 16 then { m with pendingList := others ++ [p] } else m

/-- Refuses an association (R173). -/
def State.radRefuse (s : State) (c eui reason : Nat) : State :=
  let s := s.bump Fl.RAD_ASSOC_REFUSED_COUNT_COUNT
  let s := (s.put Fl.RAD_ASSOC_LAST_REASON reason).put Fl.RAD_ASSOC_LAST_CELL c
  let s := (s.raise 186).survey 3 c eui (s.plan.panId c) 0
  if reason = 1 ∨ reason = 5 then s
  else s.pend c ⟨eui, if reason = 4 then 1 else 2, 0, none, s.now + 5000000000⟩

/-- The lowest free short address of a radio cell (R174). -/
def State.freeShort (s : State) (c : Nat) : Nat :=
  let used := (s.associated c).map fun p => p.2.rad.short
  ((List.range 4095).map (· + 1)).find? (fun a => !used.contains a) |>.getD 0

/-- ASSOC_REQUEST_RX: the tests of Table 5.6 in order; then a short address is assigned (R173, R174). -/
def assocRequestRxEffect (cell : Fin 32768) (eui : BitVec 64) (s : State) : State :=
  let c := cell.val
  let k := eui.toNat
  if s.resident then s.radRefuse c k 1
  else if !s.plan.isRad c then s
  else if !bitOf 0 (s.plan.param c 7 1) then s.radRefuse c k 2
  else
    let (hit, s) := s.lookupCounted k
    match hit with
    | none => s.radRefuse c k 3
    | some (i, _) =>
      let a := (s.meterRec i).rad
      let here := a.assoc && a.cell == c
      if !here && decide (4095 ≤ (s.associated c).length) then s.radRefuse c k 4
      else if 16 ≤ (s.mac c).pendingList.length then s.radRefuse c k 5
      else
        let s := if here then s else s.releaseAssoc i
        let short := if here then a.short else s.freeShort c
        let s := s.modMeter i fun m => { m with rad := { m.rad with short := short, cell := c, assoc := true, rxFc := 0 } }
        (s.raise 187).pend c ⟨k, 0, short, some i, s.now + 5000000000⟩

/-- DATA_REQUEST_RX: the requester's association response is queued (R175). -/
def dataRequestRxEffect (cell : Fin 32768) (eui : BitVec 64) (s : State) : State :=
  let c := cell.val
  if !s.plan.isRad c then s else
  match (s.mac c).pendingList.find? fun p => p.eui == eui.toNat with
  | none => s
  | some p =>
    let s := s.modMac c fun m => { m with pendingList := m.pendingList.erase p }
    s.enqueue c { origin := .engine, kind := .assocResponse p.status p.short, meter := p.meter, dest := 0xFFFE, hop := 0xFFFE,
                  eui := p.eui, high := true, ackReq := true, secured := true }

/-- PENDING_EXPIRY: a response not collected within 5 s is dropped and its short address released (R175). -/
def pendingExpiryEffect (cell : Fin 32768) (eui : BitVec 64) (s : State) : State :=
  let c := cell.val
  match (s.mac c).pendingList.find? fun p => p.eui == eui.toNat with
  | none => s
  | some p =>
    if s.now < p.due then s else
    (s.modMac c fun m => { m with pendingList := m.pendingList.erase p }).dropPending c p

/-- DISASSOC_NOTIFY_RX: the meter's association in the cell is released (R174). -/
def disassocNotifyRxEffect (cell : Fin 32768) (eui : BitVec 64) (s : State) : State :=
  match s.lookup eui.toNat with
  | some (i, _) => if (s.meterRec i).rad.cell = cell.val then s.releaseAssoc i else s
  | none => s

/-- CHAIN_FAULT_TIMER: in a cell that processes both chains, one chain's samples have been invalid for 60 s while the other's
have not (Table 5.10). -/
def chainFaultTimerEffect (cell : Fin 32768) (s : State) : State :=
  let c := cell.val
  if s.plan.isRad c && s.radChains c == 3 then s.raise 200 else s

/-- The effects of a commit on radio cells; `old` is the plan before (R184). -/
def State.radCommit (s : State) (old : Plan) : State :=
  let s := (s.plan.cells.filter fun x => s.plan.isRad x.cell).foldl (fun s x =>
    s.modMac x.cell fun m => { m with foreign := false }) s
  (old.cells.filter fun x => old.isRad x.cell).foldl (fun s x =>
    let c := x.cell
    let same := s.plan.isRad c && old.param c 1 1 == s.plan.param c 1 1 && old.param c 8 1 == s.plan.param c 8 1
      && old.param c 10 2 == s.plan.param c 10 2
    if same then s else (s.associated c).foldl (fun s p => s.releaseAssoc p.1) s) s

def execRadFrameRx (f : RadFrame) (s : State) : Answer := .next (radFrameRxEffect f s)
def execEnhAckRx (cell : Fin 32768) (dsn : Byte) (span : AckSpan) (csl : Option (Nat × Nat)) (s : State) : Answer :=
  .next (enhAckRxEffect cell dsn span csl s)
def execRadAckWaitExpiry (cell : Fin 32768) (s : State) : Answer := .next (radAckWaitExpiryEffect cell s)
def execAssocRequestRx (cell : Fin 32768) (eui : BitVec 64) (s : State) : Answer := .next (assocRequestRxEffect cell eui s)
def execDataRequestRx (cell : Fin 32768) (eui : BitVec 64) (s : State) : Answer := .next (dataRequestRxEffect cell eui s)
def execPendingExpiry (cell : Fin 32768) (eui : BitVec 64) (s : State) : Answer := .next (pendingExpiryEffect cell eui s)
def execDisassocNotifyRx (cell : Fin 32768) (eui : BitVec 64) (s : State) : Answer := .next (disassocNotifyRxEffect cell eui s)
def execChainFaultTimer (cell : Fin 32768) (s : State) : Answer := .next (chainFaultTimerEffect cell s)

end Sys2Proof.Machine
end

