-- ==== Sys2Proof/Machine/Saf.lean ====
section
/-!
DEFINITION. Machine/Saf.lean: the switching safety function (chapter 14): inputs, states, grants, telegrams, faults, the
deliberate reset.
-/

namespace Sys2Proof.Machine

/-! ### Inputs and configuration in force (R419, R420, R436) -/

/-- ISO inputs that are used; ESI is input 16 and always used (R419). -/
def State.inputUsed (s : State) (k : Nat) : Bool := k == 16 || bitOf k (s.get Fl.SAF_FORCE0_ISO_USED)

/-- Input `k`, channel `ch`, reads open in the last sample. -/
def State.inputOpen (s : State) (k ch : Nat) : Bool :=
  if k = 16 then bitOf ch (s.get Fl.SAF_PINS_ESI)
  else bitOf k (if ch = 0 then s.get Fl.SAF_ISO_RAW_ISO_A else s.get Fl.SAF_ISO_RAW_ISO_B)

/-- The channels of a used input differ. -/
def State.inputDiffers (s : State) (k : Nat) : Bool := s.inputUsed k && s.inputOpen k 0 != s.inputOpen k 1

/-- LANE_MASK of a lane in force. -/
def State.laneMask (s : State) (l : Nat) : Nat := s.get (Fl.SAF_LANE_STATE_MASK l)

/-- Lanes of the groups with role Fronthaul. -/
def State.fronthaul (s : State) (l : Nat) : Bool := (s.plan.roles.getD (l / 8) (0, 0)).1 == 1

/-! ### States and grants (R417, R421) -/

/-- The INHIBIT causes present (Table 14.3). -/
def State.safCauses (s : State) : Nat :=
  let lc := s.get Fl.OTP_LIFECYCLE_CODE
  b2n (bitOf 16 s.saf.demand) + 2 * b2n s.saf.start + 4 * b2n (!s.flag Fl.SAF_OTP_VALID || s.saf.programmed)
    + 8 * b2n s.resident + 16 * b2n (lc != 2 && lc != 3) + 32 * b2n (!s.flag Fl.TIM_STATE_SET)

/-- The state code of Table 14.2 from the fault, the causes and the self-tests (R417, R418). -/
def State.safCode (s : State) : Nat :=
  if s.get Fl.SAF_FAULT_CODE ≠ 0 then 3 else if s.safCauses ≠ 0 || s.saf.testing then 2 else 1

/-- The state and its causes follow what determines them; SWP is on only in RUN; an entered state raises its event (R417,
R442). The spar logic's view follows at once. -/
def State.safUpdate (s : State) : State :=
  let was := s.get Fl.SAF_STATE_STATE
  let code := s.safCode
  let s := (s.put Fl.SAF_STATE_CAUSES s.safCauses).put Fl.SAF_STATE_STATE code
  let s := (s.putFlag Fl.SAF_STATE_SWP_A (code == 1)).putFlag Fl.SAF_STATE_SWP_B (code == 1)
  let s := { s with saf := { s.saf with
    spar := ⟨code == 1, s.saf.demand⟩, core := { s.saf.core with run := s.saf.core.run && code == 1 } } }
  if code = was then s
  else if code = 3 then s.raise 490 (le 1 (s.get Fl.SAF_FAULT_CODE))
  else s.raise (487 + code)

/-- A channel's grant of a lane (R421). -/
def SafView.grants (v : SafView) (mask : Nat) : Bool := v.run && v.demand % 65536 &&& mask == 0

/-- The published grant of a lane: both channels grant it (R421). -/
def State.published (s : State) (l : Nat) : Bool :=
  s.fronthaul l && s.saf.core.grants (s.laneMask l) && s.saf.spar.grants (s.laneMask l)

/-- The published grants as a mask. -/
def State.publishedMask (s : State) : Nat := (List.range 320).foldl (fun n l => if s.published l then n + 2 ^ l else n) 0

/-! ### Withdrawal, faults (R422, R430, R432) -/

/-- The frame is a telegram. -/
def Frame.isTelegram (f : Frame) : Bool := match f.origin with | .telegram _ => true | _ => false

/-- The queued telegrams of a cell end WITHDRAWN (R282, R422). -/
def State.withdrawQueued (s : State) (c : Nat) : State :=
  let q := (s.mac c).queue.filter Frame.isTelegram
  let s := s.modMac c fun k => { k with queue := k.queue.filter fun f => !f.isTelegram }
  q.foldl (fun s f => s.finish c f 9) s

/-- A telegram in transmission on a cell ends WITHDRAWN (R422). -/
def State.withdrawTx (s : State) (c : Nat) : State :=
  match (s.mac c).tx with
  | some f =>
    if f.isTelegram then (s.modMac c fun k => { k with tx := none, wus := false }).finish c f 9 else s
  | none => s

/-- The logged grant that governs the course that starts: the active unit's sample on a standby unit that follows it, none on a unit
that forms no telegrams, this unit's own sample otherwise (R422, R423, Table 15.1). -/
def State.loggedGrant (s : State) : Nat :=
  match s.get Fl.RDG_STATE_STATE with
  | 3 => 0
  | 2 => if s.paired then s.saf.partnerSample else 0
  | _ => s.saf.sampled

/-- The grants sampled at the start of the course before govern the course that starts now, and the published grants are
sampled (R422, R423). Cells of lanes without a grant withdraw their telegrams, and every cell does after a fault; egress stays blanked
in LOCKOUT (R432, Table 14.2). -/
def State.safCourseStart (s : State) : State :=
  let logged := s.loggedGrant
  let force := s.saf.sampled &&& logged
  let was := s.saf.blanked
  let s := { s with saf := { s.saf with
    logged := logged, inForce := force, sampled := s.publishedMask, blanked := was && s.get Fl.SAF_STATE_STATE == 3 } }
  s.cel.macs.foldl (fun s p =>
    match s.plan.laneOf p.1 with
    | some l => if bitOf l force && !was then s else (s.withdrawQueued p.1).withdrawTx p.1
    | none => s) s

/-- A fault of Table 14.6 is detected: LOCKOUT at once, egress blanked, queued telegrams discarded; SAF_FAULT keeps the first
code (R432). -/
def State.safFault (s : State) (code : Nat) (spar : Bool) : State :=
  if code = 0 then s else
  let s := if s.get Fl.SAF_FAULT_CODE ≠ 0 then s else
    ((s.put Fl.SAF_FAULT_CODE code).putFlag Fl.SAF_FAULT_SPAR spar).putFlag Fl.SAF_FAULT_CORE (!spar)
  let s := ({ s with saf := { s.saf with blanked := true } }).safUpdate
  s.cel.macs.foldl (fun s p => s.withdrawQueued p.1) s

/-- A fault that both channels detect: which of them was first is not in the spec, so it is a free value (Table 14.6). -/
def State.safFaultBoth (s : State) (code : Nat) : State :=
  let (x, s) := s.freshNat 2
  s.safFault code (x == 1)

/-! ### Samples and comparisons (R416, R419, R420) -/

/-- A run of equal samples, up to a limit. -/
def runOn (limit run : Nat) (b : Bool) : Nat := if b then min limit (run + 1) else 0

/-- One input after a sample (R419): its runs, and whether it is in demand. -/
def State.filterInput (s : State) (k : Nat) : State :=
  if !s.inputUsed k then s else
  let f := s.saf
  let a := s.inputOpen k 0
  let b := s.inputOpen k 1
  let release := max 1 (1000 * s.get Fl.SAF_FORCE2_RELEASE)
  let ra := runOn 20 (FMap.get 0 f.openRun (2 * k)) a
  let rb := runOn 20 (FMap.get 0 f.openRun (2 * k + 1)) b
  let rc := runOn release (FMap.get 0 f.closedRun k) (!a && !b)
  let was := bitOf k f.demand
  let now := decide (20 ≤ ra) || decide (20 ≤ rb) || (was && decide (rc < release))
  let s := { s with saf := { f with
    openRun := FMap.set 0 (FMap.set 0 f.openRun (2 * k) ra) (2 * k + 1) rb
    closedRun := FMap.set 0 f.closedRun k rc
    demand := putBits k k f.demand (b2n now) } }
  if now == was then s
  else if k = 16 then (s.putFlag Fl.SAF_PINS_ESI_DEMAND now).raise 493
  else (s.put Fl.SAF_ISO_STATE_DEMAND (s.saf.demand % 65536)).raise (if now then 491 else 492) (le 1 k)

/-- The seal after a sample (R420). -/
def State.filterSeal (s : State) (a b : Bool) : State :=
  let run := runOn 1000 s.saf.sealRun (a && b)
  let s := { s with saf := { s.saf with sealRun := run, sealDisc := s.saf.sealDisc && a != b } }
  let is := decide (1000 ≤ run)
  let was := s.flag Fl.SAF_PINS_SEAL_OPEN
  let s := s.putFlag Fl.SAF_PINS_SEAL_OPEN is
  if is == was then s else s.raise (if is then 494 else 495)

/-- SAFETY_INPUT_SAMPLE: both channels sample every input (R419, R420). A bit is 1 where the contact reads open. -/
def safetyInputSampleEffect (isoA isoB : BitVec 16) (esiA esiB sealA sealB : Bool) (s : State) : State :=
  let s := (s.put Fl.SAF_ISO_RAW_ISO_A isoA.toNat).put Fl.SAF_ISO_RAW_ISO_B isoB.toNat
  let s := (s.put Fl.SAF_PINS_ESI (b2n esiA + 2 * b2n esiB)).put Fl.SAF_PINS_SEAL (b2n sealA + 2 * b2n sealB)
  let s := s.put Fl.SAF_ISO_STATE_DISC (s.get Fl.SAF_ISO_RAW_ISO_A ^^^ s.get Fl.SAF_ISO_RAW_ISO_B)
  let s := (List.range 17).foldl (fun s k => s.filterInput k) s
  (s.filterSeal sealA sealB).safUpdate

/-- INPUT_DISCREPANCY_TIMEOUT: the channels of a used input have differed for DISC × 10 ms (R419). -/
def inputDiscrepancyTimeoutEffect (input : Fin 17) (s : State) : State :=
  if s.inputDiffers input.val then s.safFaultBoth 1 else s

/-- SEAL_DISCREPANCY_TIMEOUT: the seal channels have differed for more than 1 s (R420). -/
def sealDiscrepancyTimeoutEffect (s : State) : State :=
  let x := s.get Fl.SAF_PINS_SEAL
  if x = 0 ∨ x = 3 ∨ s.saf.sealDisc then s
  else ({ s with saf := { s.saf with sealDisc := true, sealRun := 0 } }).raise 496

/-- CHANNEL_EXCHANGE: the channels exchange and compare every 0.5 ms (R416, Table 14.6); the safety core publishes. -/
def channelExchangeEffect (differ readbackBad : Bool) (s : State) : State :=
  let s := { s with saf := { s.saf with core := ⟨s.get Fl.SAF_STATE_STATE == 1, s.saf.demand⟩,
                                        crossRun := if differ then s.saf.crossRun + 1 else 0 } }
  let s := if 2 ≤ s.saf.crossRun then s.safFaultBoth 2 else s
  if readbackBad then s.safFaultBoth 3 else s

/-- SAFETY_FAULT: a fault of Table 14.6 is detected. Reserved codes are no fault. -/
def safetyFaultEffect (code : Byte) (spar : Bool) (s : State) : State :=
  if code.toNat = 0 ∨ 9 < code.toNat then s else s.safFault code.toNat spar

/-- SAFETY_SELF_TEST_DONE: both channels complete their self-tests; `code` is 0 or the fault found (R418, R434). -/
def safetySelfTestDoneEffect (code : Byte) (spar : Bool) (s : State) : State :=
  let bad := decide (1 ≤ code.toNat) && decide (code.toNat ≤ 9)
  let s := { s with saf := { s.saf with testing := false, persist := if bad then code.toNat else 0 } }
  if bad then s.safFault code.toNat spar else s.safUpdate

/-! ### The deliberate reset (R434) -/

/-- SAFE_RST_PULSE: the rising edge after `ms` ms low arms the function for 10 s (R434). -/
def safeRstPulseEffect (ms : BitVec 16) (s : State) : State :=
  let s := s.putFlag Fl.SAF_PINS_RST false
  if ms.toNat < 50 ∨ 2000 < ms.toNat then s
  else ({ s with saf := { s.saf with armUntil := s.now + 10000000000 } }).putFlag Fl.SAF_PINS_ARMED true

/-- Milliseconds of arming left (SAF_PINS.ARM_LEFT). -/
def State.armLeft (s : State) : Nat := (s.saf.armUntil - s.now) / 1000000

/-- Arming ends. -/
def State.disarm (s : State) : State := ({ s with saf := { s.saf with armUntil := 0 } }).putFlag Fl.SAF_PINS_ARMED false

/-- ARM_LAPSE: 10 s have passed (R434). -/
def armLapseEffect (s : State) : State := if s.now < s.saf.armUntil then s else s.disarm

/-- SAFE_RST_STUCK: the pulse exceeds 2 s (R434). -/
def safeRstStuckEffect (s : State) : State := (s.putFlag Fl.SAF_PINS_RST true).raise 497

/-- A fault is still detected (R434): a used input's channels differ, or the last self-test found one. -/
def State.stillFaulty (s : State) : Nat :=
  if s.saf.persist ≠ 0 then s.saf.persist
  else if (List.range 17).any s.inputDiffers then 1 else 0

/-- RESULT of SAFE_RESET: STATE and CAUSES. -/
def State.safResult (s : State) : Octets := le 1 (s.get Fl.SAF_STATE_STATE) ++ le 2 (s.get Fl.SAF_STATE_CAUSES)

/-- SAFE_RESET takes effect (R434). -/
def safeResetEffect (c : Cmd) (confirm : BitVec 32) (s : State) : State :=
  let armed := match s.saf.accepted.find? fun x => x.1 == c with | some x => x.2 | none => s.flag Fl.SAF_PINS_ARMED
  let s := { s with saf := { s.saf with accepted := s.saf.accepted.filter fun x => x.1 != c } }
  let st := s.get Fl.SAF_STATE_STATE
  if confirm ≠ 0x5AFE5AFE#32 then s.complete 0x50 c .illegal
  else if !armed || st == 1 || (st == 2 && !s.saf.start) then s.complete 0x50 c .state
  else if s.stillFaulty ≠ 0 then
    let s := (s.put Fl.SAF_FAULT_CODE 0).safFaultBoth s.stillFaulty
    s.complete 0x50 c .lockout 0 s.safResult
  else
    let s := { s with saf := { s.saf with start := false, persist := 0, crossRun := 0 } }
    let s := (s.setWord Reg.SAF_FAULT 0).disarm.safUpdate
    s.complete 0x50 c .ok 0 s.safResult

/-! ### Telegrams and requests (R426 to R428, R431) -/

/-- The octets of a telegram (Table 14.7). -/
def telegramOctets (action seq meter connId issued deadline : Nat) : Octets :=
  let body := be 1 1 ++ be 1 action ++ be 2 seq ++ be 4 meter ++ be 4 connId ++ be 8 issued ++ be 8 deadline
  body ++ be 4 (scheck body)

/-- A request is refused: SWITCH_REQ completes, or the record engine gets the delivery result (R431). -/
def State.refuseSwitch (s : State) (i action : Nat) (host : Option Cmd) (st : Status) (info : Nat) : State :=
  let s := s.bump Fl.SAF_REFUSED_COUNT_COUNT
  match host with
  | some c => s.complete 0x22 c st info
  | none => { s with bill := { s.bill with results := s.bill.results ++ [(i, action, if info = 0 then 9 else info)] } }

/-- LOCKOUT refuses requests (R431). A standby unit forms from the logged grant whatever its own state, so that the sequence tables of
the pair stay alike (Table 15.1, R428). -/
def State.lockedOut (s : State) : Bool :=
  s.get Fl.SAF_STATE_STATE == 3 && !(s.get Fl.RDG_STATE_STATE == 2 && s.paired)

/-- A telegram that is formed on a lane without a grant of this unit's own is withdrawn at once (R422, R423). -/
def State.withdrawFormed (s : State) (c lane : Nat) : State := if bitOf lane s.saf.inForce && !s.saf.blanked then s else s.withdrawQueued c

/-- A switching request is taken at a course boundary: the checks of R431 in order; then the telegram is formed (R426 to R428)
and sent. The grant is the one that governs the course which the boundary starts (R438). -/
def State.switchRequest (s : State) (i action : Nat) (host : Option Cmd) : State :=
  let refuse := fun (st : Status) (info : Nat) => s.refuseSwitch i action host st info
  let m := s.meterRec i
  let c := if m.plc.joined then m.plc.cell else m.rad.cell
  if action ≠ 1 ∧ action ≠ 2 then refuse .illegal 0
  else if s.lockedOut then refuse .lockout 9
  else if (s.memberByIndex i).isNone then refuse .state 0
  else if !m.plc.joined && !m.rad.assoc then refuse .notReady 5
  else match s.plan.laneOf c with
    | none => refuse .state 9
    | some lane =>
      if !bitOf lane s.saf.logged then refuse .state 9
      else if 2048 ≤ s.saf.telegrams.length then refuse .busy 0
      else
        let unit := s.period / 500000
        let issued := s.course * unit
        let deadline := (s.course + s.get Fl.SAF_FORCE2_DL_COURSES) * unit
        let seq := FMap.get 0 s.saf.seqTable i
        let id := s.saf.nextId
        let t : Telegram := ⟨id, i, action, seq, issued, deadline, lane, host⟩
        let s := { s with saf := { s.saf with
          telegrams := s.saf.telegrams ++ [t], nextId := id + 1, seqTable := FMap.set 0 s.saf.seqTable i ((seq + 1) % 65536) } }
        let s := s.bump Fl.SAF_TELEGRAM_COUNT_COUNT
        let octets := telegramOctets action seq i (s.get Fl.SAF_FORCE1_CONN_ID) issued deadline
        let s := s.note 3 (le 2 c ++ octets)
        let s := if m.plc.joined then s.plcSend (.telegram id) i true true octets else s.radSend (.telegram id) i true true octets
        s.withdrawFormed c lane

/-- SWITCH_REQ takes effect (R431). -/
def switchReqEffect (c : Cmd) (index : BitVec 32) (action : Byte) (s : State) : State :=
  s.switchRequest index.toNat action.toNat (some c)

/-- A logged SWITCH_REQ waits for the course that the boundary starts: its grant and its number hold for the request (R427, R431,
R438). -/
def State.loggedSwitchReq (s : State) (c : Cmd) (index : BitVec 32) (action : Byte) : State :=
  { s with saf := { s.saf with requests := s.saf.requests ++ [(index.toNat, action.toNat, c)] } }

/-- The requests are taken at a course boundary: those that the record engine made in the course that ended, then those of the log
(R244, R431). DEDUCED (log entry 107): the order of the two sources. -/
def State.takeRequests (s : State) : State :=
  let l := s.bill.requests
  let h := s.saf.requests
  let s := { s with bill := { s.bill with requests := [] }, saf := { s.saf with requests := [] } }
  let s := l.foldl (fun s r => s.switchRequest r.1 r.2 none) s
  h.foldl (fun s r => s.switchRequest r.1 r.2.1 (some r.2.2)) s

/-- TELEGRAM_EXPIRY: a telegram that has not started an attempt before its deadline ends CHANNEL_ACCESS (R427). -/
def telegramExpiryEffect (id : BitVec 32) (s : State) : State :=
  match s.saf.telegrams.find? fun t => t.id == id.toNat with
  | none => s
  | some t =>
    if s.now < t.deadline * 500000 then s else
    let mine := fun (f : Frame) => f.origin == .telegram id.toNat
    s.cel.macs.foldl (fun s p =>
      match p.2.queue.find? mine with
      | none => s
      | some f =>
        let s := (s.modMac p.1 fun k => { k with queue := k.queue.filter fun x => !mine x }).bump Fl.SAF_EXPIRED_COUNT_COUNT
        (s.raise (if s.plan.isRad p.1 then 189 else 145)).finish p.1 f 2) s

/-- PAIR_DISAGREE_TIMEOUT: the units' own grants have differed for more than 1 s (R423). -/
def pairDisagreeTimeoutEffect (s : State) : State := if s.paired then s.raise 499 else s

def execSafetyInputSample (isoA isoB : BitVec 16) (esiA esiB sealA sealB : Bool) (s : State) : Answer :=
  .next (safetyInputSampleEffect isoA isoB esiA esiB sealA sealB s)
def execInputDiscrepancyTimeout (input : Fin 17) (s : State) : Answer := .next (inputDiscrepancyTimeoutEffect input s)
def execSealDiscrepancyTimeout (s : State) : Answer := .next (sealDiscrepancyTimeoutEffect s)
def execChannelExchange (differ readbackBad : Bool) (s : State) : Answer := .next (channelExchangeEffect differ readbackBad s)
def execSafetyFault (code : Byte) (spar : Bool) (s : State) : Answer := .next (safetyFaultEffect code spar s)
def execSafetySelfTestDone (code : Byte) (spar : Bool) (s : State) : Answer := .next (safetySelfTestDoneEffect code spar s)
def execSafeRstPulse (ms : BitVec 16) (s : State) : Answer := .next (safeRstPulseEffect ms s)
def execArmLapse (s : State) : Answer := .next (armLapseEffect s)
def execSafeRstStuck (s : State) : Answer := .next (safeRstStuckEffect s)
def execSafeReset (c : Cmd) (confirm : BitVec 32) (s : State) : Answer :=
  .next (s.writeCommand 0x50 c (le 4 confirm.toNat) [] (c.len != 0) (safeResetEffect c confirm))
def execSwitchReq (c : Cmd) (index : BitVec 32) (action : Byte) (s : State) : Answer :=
  .next (s.writeCommand 0x22 c (le 4 index.toNat ++ le 1 action.toNat) [] (c.len != 0 || (action != 1 && action != 2)) (switchReqEffect c index action))
def execTelegramExpiry (id : BitVec 32) (s : State) : Answer := .next (telegramExpiryEffect id s)
def execPairDisagreeTimeout (s : State) : Answer := .next (pairDisagreeTimeoutEffect s)

end Sys2Proof.Machine
end

