-- ==== Sys2Proof/Machine/Otp.lean ====
section
/-!
DEFINITION. Machine/Otp.lean: the OTP: generation slots, life-cycle words, what starts a programming, and what an interruption
leaves of one (R508 to R513, R436, R437, R484). The end of a programming is in Boot.lean, since a life-cycle transition resets the
device.
-/

namespace Sys2Proof.Machine

/-! ### Life-cycle words (R512) -/

/-- Transitions of Table 17.6 that use a transition word, and the one to DECOMMISSIONED. -/
def lcPermitted (src dst : Nat) : Bool :=
  (src == 1 && dst == 2) || (src == 2 && dst == 3) || (src == 3 && dst == 4) || (src == 4 && (dst == 3 || dst == 2))
    || (decide (src < 5) && dst == 5)

/-- The full form of a life-cycle code. -/
def lcForm (code : Nat) : Nat := 0x5AC3A500 + code

/-- The state that one transition word leaves. -/
def lcAfter (state word : Nat) : Nat :=
  if 0x5AC3A500 ≤ word ∧ word < 0x5AC3A508 ∧ lcPermitted state (word - 0x5AC3A500) = true then word - 0x5AC3A500 else state

/-- The life-cycle state in force from the words. -/
def OtpState.lcState (o : OtpState) : Nat := if o.decomWord = lcForm 5 then 5 else o.lcWords.foldl lcAfter 1

/-- The number of transition words up to and with the last one that does not read 0, or whose read-back differed: the next
word's number (R512). -/
def OtpState.lcNext (o : OtpState) : Nat :=
  (((List.range o.lcWords.length).zip o.lcWords).filter fun p => p.2 != 0).foldl (fun n p => max n (p.1 + 1)) o.lcFailed

/-- OTP_LIFECYCLE.WORDS_FREE follows the words. -/
def State.wordsSync (s : State) : State := s.put Fl.OTP_LIFECYCLE_WORDS_FREE (8 - s.otp.lcNext)

/-- OTP_LIFECYCLE follows the words and ROOTSEED. -/
def State.lcSync (s : State) : State :=
  ((s.put Fl.OTP_LIFECYCLE_CODE s.otp.lcState).wordsSync).putFlag Fl.OTP_LIFECYCLE_ROOTSEED_OK s.otp.rootseedValid

/-! ### Generation slots (R509) -/

/-- The slots of a block of OTP_PROG_STATUS.BLOCK: 1 DEFAULTS, 2 CAL, 3 SAFE. -/
def OtpState.slots (o : OtpState) : Nat → List OtpSlot
  | 1 => o.defaults
  | 2 => o.cal
  | _ => o.safe

/-- Replaces the slots of a block. -/
def State.setSlotsOf (s : State) (block : Nat) (l : List OtpSlot) : State :=
  match block with
  | 1 => { s with otp := { s.otp with defaults := l } }
  | 2 => { s with otp := { s.otp with cal := l } }
  | _ => { s with otp := { s.otp with safe := l } }

/-- The lowest BLANK slot of a block. -/
def OtpState.blank (o : OtpState) (block : Nat) : Option Nat :=
  (List.range 4).find? fun k => ((o.slots block).getD k { state := 1 }).state == 0

/-- The fields that count BLANK slots follow the slots. -/
def State.freeSync (s : State) : State :=
  let free := fun (l : List OtpSlot) => (l.filter fun x => x.state == 0).length
  ((s.put Fl.OTP_DEFAULTS_STATE_FREE (free s.otp.defaults)).put Fl.MET_CAL_STATE_FREE (free s.otp.cal)).put
    Fl.SAF_OTP_FREE (free s.otp.safe)

/-- Puts a slot into a state. -/
def State.markSlot (s : State) (block slot : Nat) (x : OtpSlot) : State :=
  (s.setSlotsOf block ((s.otp.slots block).set slot x)).freeSync

/-- The service UART prints its line of a step of Table 17.1 (R504). The words of the line are not stated. -/
def State.uartLine (s : State) (step : Nat) : State := s.emit (.svc (.line step))

/-- A generation slot whose read-back differs: USED, and a free value tells whether its marker stands over a wrong CRC (R509). -/
def State.spoilSlot (s : State) (p : Programming) : State :=
  let (x, s) := s.freshNat 2
  s.markSlot p.block p.slot { state := 1 + 2 * x, octets := p.octets }

/-- The refusals that R509 orders after a request's own checks: NOT_READY, BUSY, NO_SPACE. -/
def State.progRefusal (s : State) (space : Bool) : Option Status :=
  if s.otp.supplyLow then some .notReady
  else if s.otp.prog.isSome then some .busy
  else if !space then some .noSpace
  else none

/-- A refused request; NOT_READY raises OTP_PROG_REFUSED (R519). -/
def State.progRefused (s : State) (op : Nat) (c : Cmd) (st : Status) : State :=
  (if st = .notReady then s.raise 584 else s).complete op c st

/-- A programming begins: the slot leaves BLANK, and OTP_PROG_STATUS shows it. -/
def State.progBegin (s : State) (block slot : Nat) (octets : Octets) (cmd : Option (Nat × Cmd)) : State :=
  let s := { s with otp := { s.otp with prog := some ⟨block, slot, octets, cmd⟩ } }
  let s := ((s.putFlag Fl.OTP_PROG_STATUS_BUSY true).put Fl.OTP_PROG_STATUS_BLOCK block).put Fl.OTP_PROG_STATUS_SLOT slot
  if block ≤ 3 then s.markSlot block slot { state := 1, octets := octets }
  else if block = 5 then { s with otp := { s.otp with rootseedUsed := true } }
  else s

/-- The programming is over with a status code. -/
def State.progOver (s : State) (code : Nat) : State :=
  ({ s with otp := { s.otp with prog := none } }.putFlag Fl.OTP_PROG_STATUS_BUSY false).put Fl.OTP_PROG_STATUS_RESULT code

/-- The command that waits for the programming completes. -/
def State.progComplete (s : State) (p : Programming) (st : Status) (result : Octets) : State :=
  match p.cmd with
  | some x => s.complete x.1 x.2 st 0 result
  | none => s

/-- SAF_OTP shows the end of its programming (R437, R442). -/
def State.safProgEnd (s : State) (code : Nat) : State :=
  ((s.put Fl.SAF_OTP_RESULT code).putFlag Fl.SAF_OTP_PROGRAM false).raise 501

/-- A word whose programming was cut: 1 bits only where the intended form sets them (R512). -/
def State.cutWord (s : State) (was form : Nat) : Nat × State :=
  let (x, s) := s.freshNat (2 ^ 32)
  (was ||| (x &&& form), s)

/-- Writes a life-cycle word: number 8 is the DECOMMISSION word. -/
def State.setLcWord (s : State) (n v : Nat) : State :=
  if n = 8 then { s with otp := { s.otp with decomWord := v } }
  else { s with otp := { s.otp with lcWords := s.otp.lcWords.set n v } }

/-- A life-cycle word whose read-back differs reads `v`. A transition word is consumed, and the state in force is the same until
the next start (R512). -/
def State.failLcWord (s : State) (n v : Nat) : State :=
  let s := s.setLcWord n v
  (if n = 8 then s else { s with otp := { s.otp with lcFailed := max s.otp.lcFailed (n + 1) } }).wordsSync

/-- A life-cycle word. -/
def OtpState.lcWord (o : OtpState) (n : Nat) : Nat := if n = 8 then o.decomWord else o.lcWords.getD n 0

/-- The supply falls below its warning level: the word in progress is abandoned (R511, Table 17.4). -/
def State.progAbandon (s : State) : State :=
  match s.otp.prog with
  | none => s
  | some p =>
    let s := s.progOver 10
    let s :=
      if p.block = 4 then
        let (v, s) := s.cutWord (s.otp.lcWord p.slot) (unLe p.octets)
        (s.setLcWord p.slot v).wordsSync
      else s
    let s := if p.block = 3 then s.safProgEnd 10 else s
    (s.progComplete p .notReady []).raise 583

/-- A thermal trip or a warm reset: the word in progress completes, and no further word follows (Table 17.4). A life-cycle
transition has one word only. -/
def State.progStop (s : State) : State :=
  match s.otp.prog with
  | none => s
  | some p =>
    let s := { s with otp := { s.otp with prog := none } }
    if p.block = 4 then (s.setLcWord p.slot (s.otp.lcWord p.slot ||| unLe p.octets)).wordsSync else s

/-- A power loss: the word in progress is undefined; a generation is VALID only where its marker was complete (Table 17.4). -/
def State.progLost (s : State) : State :=
  match s.otp.prog with
  | none => s
  | some p =>
    let s := { s with otp := { s.otp with prog := none } }
    if p.block = 4 then
      let (v, s) := s.cutWord (s.otp.lcWord p.slot) (unLe p.octets)
      s.setLcWord p.slot v
    else
      let (x, s) := s.freshNat 2
      if x = 0 then s
      else if p.block = 5 then { s with otp := { s.otp with rootseed := p.octets, rootseedValid := true } }
      else s.markSlot p.block p.slot { state := 2, octets := p.octets }

/-! ### CAL_WRITE (R484) -/

/-- A breach of Table 16.4. -/
def calIllegal (b : Octets) : Bool :=
  b.length != 128 || decide (1 < leAt b 4 1) || !allZero (slice b 5 3) || !allZero (slice b 104 20)
    || (List.range 8).any (fun c => decide (4 < leAt b (18 + 12 * c) 1) || leAt b (19 + 12 * c) 1 != 0)
    || crc32 (b.take 124) != leAt b 124 4

/-- CAL_WRITE takes effect (R484, Table 16.5). -/
def calWriteEffect (c : Cmd) (data : Octets) (s : State) : State :=
  let atAccept := s.met.sealedAt.contains c
  let s := { s with met := { s.met with sealedAt := s.met.sealedAt.erase c } }
  if calIllegal data then s.complete 0x61 c .illegal
  else if atAccept || !s.flag Fl.SAF_PINS_SEAL_OPEN then s.complete 0x61 c .sealed
  else if s.get Fl.RDG_STATE_STATE ≠ 0 then s.complete 0x61 c .state
  else match s.progRefusal (s.otp.blank 2).isSome with
    | some st => s.progRefused 0x61 c st
    | none => s.progBegin 2 ((s.otp.blank 2).getD 0) data (some (0x61, c))

/-! ### DEFAULTS_WRITE (R513) -/

/-- A breach of Table 17.5. The CRC belongs to the layout. -/
def defaultsIllegal (b : Octets) : Bool :=
  let p := leAt b 4 1
  b.length != 256 || decide (p < 8) || decide (30 < p) || !allZero (slice b 5 3) || decide (leAt b 12 1 < 10)
    || decide (3 < leAt b 13 1) || (leAt b 14 1 != 1 && leAt b 14 1 != 2) || (leAt b 15 1 != 0x10 && leAt b 15 1 != 0x11)
    || decide (leAt b 16 1 < 1) || decide (3 < leAt b 16 1) || decide (radChannels (leAt b 15 1) (leAt b 16 1) ≤ leAt b 18 2)
    || leAt b 17 1 != 0 || !allZero (slice b 20 232)
    || crc32 (b.take 252) != leAt b 252 4

/-- DEFAULTS_WRITE takes effect (R513). -/
def defaultsWriteEffect (c : Cmd) (data : Octets) (s : State) : State :=
  let lc := s.get Fl.OTP_LIFECYCLE_CODE
  if defaultsIllegal data then s.complete 0x62 c .illegal
  else if !s.flag Fl.SAF_PINS_SEAL_OPEN then s.complete 0x62 c .sealed
  else if lc ≠ 1 ∧ lc ≠ 2 then s.complete 0x62 c .state
  else match s.progRefusal (s.otp.blank 1).isSome with
    | some st => s.progRefused 0x62 c st
    | none => s.progBegin 1 ((s.otp.blank 1).getD 0) data (some (0x62, c))

/-! ### SAF_OTP.PROGRAM (R436, R437) -/

/-- Octets 0 to 763 of the generation that the staged registers give (Table 17.3). -/
def State.safStaged (s : State) : Octets :=
  let masks := ((List.range 320).map fun l => le 2 (s.get (Fl.SAF_LANE_CFG_MASK l))).flatten
  padTo 764 (le 4 (s.word Reg.SAF_CFG0).toNat ++ le 4 (s.word Reg.SAF_CFG1).toNat ++ le 4 (s.word Reg.SAF_CFG2).toNat ++ masks)

/-- SAF_CFG_CRC: the CRC of the staged values. -/
def State.safStagedCrc (s : State) : Nat := crc32 s.safStaged

/-- A staged value lies outside R436, or a mask names an input that is not used. -/
def State.safStagedBad (s : State) : Bool :=
  let used := s.get Fl.SAF_CFG0_ISO_USED
  decide (s.get Fl.SAF_CFG2_DL_COURSES < 16) || decide (s.get Fl.SAF_CFG2_DISC < 5) || decide (200 < s.get Fl.SAF_CFG2_DISC)
    || decide (s.get Fl.SAF_CFG2_RELEASE < 1)
    || (List.range 320).any fun l => (s.get (Fl.SAF_LANE_CFG_MASK l)) &&& (0xFFFF - used) != 0

/-- The accepted write of SAF_OTP.PROGRAM = 1 (R437). -/
def State.safProgram (s : State) : State :=
  let s := s.putFlag Fl.SAF_OTP_PROGRAM true
  if s.safStagedBad then s.safProgEnd 8
  else match s.progRefusal (s.otp.blank 3).isSome with
    | some st => (if st = .notReady then s.raise 584 else s).safProgEnd st.code
    | none => s.progBegin 3 ((s.otp.blank 3).getD 0) (s.safStaged ++ le 4 s.safStagedCrc) none

/-- SAFE_OTP_PROGRAM: a function writes SAF_OTP.PROGRAM = 1 (R437): RWS, under the seal, in INHIBIT or LOCKOUT only. -/
def safeOtpProgramEffect (func : Fin 4) (s : State) : State :=
  let f := func.val
  if !s.isOwner f then s.capture f Reg.SAF_OTP .notOwner
  else if !s.flag Fl.SAF_PINS_SEAL_OPEN then s.capture f Reg.SAF_OTP .sealClosed
  else if s.standbyOrHold || s.get Fl.SAF_STATE_STATE == 1 then s.capture f Reg.SAF_OTP .blockState
  else s.logOrDo f Reg.SAF_OTP 1 State.safProgram

/-! ### LIFECYCLE and ROOTSEED (R510, R512) -/

/-- The word that a transition to `target` programs, 8 for the DECOMMISSION word; none when there is no such word left. -/
def OtpState.lcTarget (o : OtpState) (target : Nat) : Option Nat :=
  if target = 5 then (if o.decomWord &&& (0xFFFFFFFF - lcForm 5) = 0 then some 8 else none)
  else if o.lcNext < 8 then some o.lcNext else none

/-- LIFECYCLE takes effect (R407, R512). -/
def lifecycleEffect (c : Cmd) (target : Byte) (reserved : BitVec 24) (confirm : BitVec 32) (s : State) : State :=
  let t := target.toNat
  let code := s.get Fl.OTP_LIFECYCLE_CODE
  if confirm ≠ 0x4C494645#32 ∨ reserved ≠ 0#24 ∨ t = 0 ∨ 5 < t then s.complete 0x60 c .illegal
  else if !lcPermitted code t || (t == 2 && code == 1 && !s.flag Fl.OTP_LIFECYCLE_ROOTSEED_OK)
      || s.get Fl.RDG_STATE_STATE != 0 then s.complete 0x60 c .state
  else if !s.flag Fl.SAF_PINS_SEAL_OPEN then s.complete 0x60 c .sealed
  else match s.progRefusal (s.otp.lcTarget t).isSome with
    | some st => s.progRefused 0x60 c st
    | none => s.keyZeroise.progBegin 4 ((s.otp.lcTarget t).getD 0) (le 4 (lcForm t)) (some (0x60, c))

/-- ROOTSEED_PROGRAM: in MANUFACTURE, with the entropy source READY, a BLANK ROOTSEED is programmed with DRBG output (R510). -/
def rootseedProgramEffect (s : State) : State :=
  if s.otp.lcState ≠ 1 ∨ s.otp.rootseedValid = true ∨ s.otp.rootseedUsed = true ∨ s.get Fl.KEY_ENGINE_STATE_RNG ≠ 1
      ∨ (s.progRefusal true).isSome = true then s
  else
    let (seed, s) := (s.uartLine 3).drbg 32
    s.progBegin 5 0 seed none

def execCalWrite (c : Cmd) (data : Octets) (s : State) : Answer :=
  .next (s.writeCommand 0x61 c [] data (data.length != 128) (calWriteEffect c data))
def execDefaultsWrite (c : Cmd) (data : Octets) (s : State) : Answer :=
  .next (s.writeCommand 0x62 c [] data (data.length != 256) (defaultsWriteEffect c data))
def execLifecycle (c : Cmd) (target : Byte) (reserved : BitVec 24) (confirm : BitVec 32) (s : State) : Answer :=
  .next (s.writeCommand 0x60 c (le 1 target.toNat ++ le 3 reserved.toNat ++ le 4 confirm.toNat) [] (c.len != 0 || reserved != 0 || target == 0 || decide (5 < target.toNat)) (lifecycleEffect c target reserved confirm))
def execRootseedProgram (s : State) : Answer := .next (rootseedProgramEffect s)

end Sys2Proof.Machine
end

