-- ==== Sys2Proof/Machine/Hlt.lean ====
section
/-!
DEFINITION. Machine/Hlt.lean: the window and the clearing of the event recorder (R525, R526), temperature, supplies and process
monitors (R527 to R533), FIFOs and crossings (R534 to R542).
-/

namespace Sys2Proof.Machine

/-! ### The recorder's window (R525, R526) -/

/-- The first record number of a function's window. -/
def State.evtCursor (s : State) (f : Nat) : Nat := (s.fword f Reg.EVT_CURSOR_LO).toNat + 2 ^ 32 * s.fget f Fl.EVT_CURSOR_HI_SEQ

/-- The record that a position of a function's window shows, if any. -/
def State.evtShown (s : State) (f i : Nat) : Option EvRec :=
  let n := s.evtCursor f + i
  (s.evt.records.find? fun e => e.seq == n).orElse fun _ => (FMap.get [] s.evt.loaded f).find? fun e => e.seq == n

/-- A position whose record is held only in the spill region. -/
def State.evtWanted (s : State) (f i : Nat) : Bool :=
  (s.evtShown f i).isNone && s.evt.spilled.any fun e => e.seq == s.evtCursor f + i

/-- A fetch starts when a position needs it. -/
def State.evtFetch (s : State) (f : Nat) : State :=
  if [0, 1, 2, 3].any (s.evtWanted f) then
    { s with evt := { s.evt with fetching := FMap.set false s.evt.fetching f true } }
  else s

/-- The held _LO value of a function, which a _HI write applies, or the current _LO value; the held value is then gone (R17). -/
def State.takeHeld (s : State) (f : Nat) (current : Word) : Word × State :=
  match s.held.find? fun p => p.1 == f with
  | some p => (p.2, { s with held := FMap.erase s.held f })
  | none => (current, s)

/-- EVT_CURSOR_WRITE: a write of EVT_CURSOR_HI moves the window, cancels a fetch in progress and starts one where the new
window needs it. -/
def evtCursorWriteEffect (func : Fin 4) (high : BitVec 32) (s : State) : State :=
  let f := func.val
  let (lo, s) := s.takeHeld f (s.fword f Reg.EVT_CURSOR_LO)
  let s := (s.setFword f Reg.EVT_CURSOR_LO lo).fput f Fl.EVT_CURSOR_HI_SEQ high.toNat
  let s := { s with evt := { s.evt with
    fetching := FMap.set false s.evt.fetching f false
    loaded := FMap.set [] s.evt.loaded f [] } }
  s.evtFetch f

/-- EVT_WINDOW_LATCH: a read of word 0 of a window record latches the record for the reading function; it never hangs. -/
def evtWindowLatchEffect (func position : Fin 4) (s : State) : State :=
  let f := func.val
  let octets := match s.evtShown f position.val with | some e => e.octets | none => zeros 32
  let s := { s with evt := { s.evt with latched := FMap.set [] s.evt.latched (4 * f + position.val) octets } }
  (s.emit (.readData f (Reg.EVT_WIN (8 * position.val)) (BitVec.ofNat 32 (leAt octets 0 4)))).evtFetch f

/-- WINDOW_FETCH_DONE: the spilled units that a function's window needs are loaded and their records shown. -/
def windowFetchDoneEffect (func : Fin 4) (s : State) : State :=
  let f := func.val
  if !FMap.get false s.evt.fetching f then s else
  let first := s.evtCursor f
  let records := s.evt.spilled.filter fun e => decide (first ≤ e.seq) && decide (e.seq < first + 4)
  { s with evt := { s.evt with
    fetching := FMap.set false s.evt.fetching f false
    loaded := FMap.set [] s.evt.loaded f records } }

/-- The oldest record held on chip or spilled; 0 when none. -/
def State.evtTail (s : State) : Nat :=
  match (s.evt.records ++ s.evt.spilled).map (·.seq) with
  | [] => 0
  | n :: l => l.foldl min n

/-- The newest record held; 0 when none. -/
def State.evtHead (s : State) : Nat := ((s.evt.records ++ s.evt.spilled).map (·.seq)).foldl max 0

/-- The oldest record held on chip; 0 when none. -/
def State.evtChipTail (s : State) : Nat :=
  match s.evt.records.map (·.seq) with
  | [] => 0
  | n :: l => l.foldl min n

/-- EVENT_CLEAR (R526). -/
def eventClearEffect (c : Cmd) (upTo : BitVec 64) (s : State) : State :=
  let op := 0x58
  let n := upTo.toNat
  if 2 ^ 48 ≤ n ∨ c.len ≠ 0 then s.complete op c .illegal
  else if s.evtHead < n then s.complete op c .range
  else if n < s.evtTail then s.complete op c .ok
  else
    let keep := fun (e : EvRec) => decide (n < e.seq)
    let gone := match s.evt.records with | e :: _ => !keep e | [] => true
    let s := { s with evt := { s.evt with
      records := s.evt.records.filter keep
      spilled := s.evt.spilled.filter keep
      loaded := FMap.mapVals [] (fun _ l => l.filter keep) s.evt.loaded
      noMerge := s.evt.noMerge || gone } }
    s.complete op c .ok

/-! ### Clocks -/

/-- The clocks of the blocks outside `keep` stop; each change raises GLB_CLK_STOPPED. -/
def State.stopClocks (s : State) (keep : List Nat) : State :=
  (List.range 22).foldl (fun s b =>
    if keep.contains b ∨ !s.clockAlive b then s
    else (s.put Fl.GLB_CLK_ALIVE_ALIVE (s.get Fl.GLB_CLK_ALIVE_ALIVE - 2 ^ b)).raise 1 (le 1 b)) s

/-- Steps 3 and 4 of a thermal trip: DRAM is in self-refresh, every lane is at electrical idle, and only GLB, TMP, OTP, EVT and HLT
keep their clocks. -/
def State.thermalStop (s : State) : State :=
  let s := s.putFlag Fl.DDR_INFO_SELF_REFRESH (s.flag Fl.DDR_INFO_TRAINED)
  let s := (List.range 40).foldl (fun s g =>
    (s.put (Fl.LANE_GRP_STATUS_LANE_UP g) 0).putFlag (Fl.LANE_GRP_STATUS_TRAINED g) false) s
  s.stopClocks [0, 17, 18, 19, 20]

/-! ### Temperature (R527 to R529). Readings count 0.125 °C. -/

/-- The sum of the two middle values of a sorted list: twice its median. -/
def twiceMedian (l : List Int) : Int :=
  let sorted := l.foldl (fun acc x => (acc.takeWhile fun y => decide (y ≤ x)) ++ x :: (acc.dropWhile fun y => decide (y ≤ x))) []
  sorted.getD ((sorted.length - 1) / 2) 0 + sorted.getD (sorted.length / 2) 0

/-- Whether a level is in force at T_J: entered at its threshold, left 3 °C below it. -/
def levelHolds (was level : Nat) (threshold tj : Int) : Bool :=
  decide (threshold ≤ tj) || (decide (level ≤ was) && decide (threshold - 24 < tj))

/-- The thermal level at T_J after level `was` (Table 18.4). -/
def thermalLevel (was : Nat) (tj : Int) : Nat :=
  if levelHolds was 4 1056 tj then 4 else if levelHolds was 3 1000 tj then 3
  else if levelHolds was 2 960 tj then 2 else if levelHolds was 1 920 tj then 1 else 0

/-- q of a level, eighths of the DRAM capacity; level 4 keeps the value of level 3 until the device stops. -/
def thermalQ (level : Nat) : Nat := if 3 ≤ level then 2 else 8 - 2 * level

/-- One sensor's reading: FAULT outside −55 °C to +150 °C, or after 16 readings away from the median. -/
def State.sensor (s : State) (i : Nat) (r median2 : Int) : State :=
  let s := s.put (Fl.HLT_TEMP_TEMP i) (unsigned 12 r)
  if s.flag (Fl.HLT_TEMP_FAULT i) then s else
  let off := decide (160 < (2 * r - median2).natAbs)
  let run := if off then FMap.get 0 s.hlt.offRun i + 1 else 0
  let s := { s with hlt := { s.hlt with offRun := FMap.set 0 s.hlt.offRun i run } }
  if r < -440 ∨ 1200 < r ∨ 16 ≤ run then (s.putFlag (Fl.HLT_TEMP_FAULT i) true).raise 599 (le 1 i) else s

/-- A thermal trip (Table 18.5, steps 1 and 2). -/
def State.thermalTrip (s : State) : State :=
  let s := (s.raise 595 (le 1 (s.get Fl.HLT_THERM_STATUS_HOT))).safFaultBoth 8
  let s := { s with hlt := { s.hlt with tripped := true } }
  let s := s.progStop
  if s.arc.stopping.isSome then s
  else if s.flag Fl.ARC_STATE_MOUNTED then s.stopArchive else s.thermalStop

/-- TEMPERATURE_READ. -/
def temperatureReadEffect (readings : List Int) (s : State) : State :=
  let before := ((List.range 16).filter fun i => !s.flag (Fl.HLT_TEMP_FAULT i)).map fun i => readings.getD i 0
  let median2 := twiceMedian (before.filter fun r => decide (-440 ≤ r) && decide (r ≤ 1200))
  let s := (List.range 16).foldl (fun s i => s.sensor i (readings.getD i 0) median2) s
  let valid := (List.range 16).filter fun i => !s.flag (Fl.HLT_TEMP_FAULT i)
  let was := s.get Fl.HLT_THERM_STATUS_LEVEL
  let s : State := match valid with
    | [] => s
    | i :: rest =>
      let hot := rest.foldl (fun h k => if readings.getD h 0 < readings.getD k 0 then k else h) i
      let tj := readings.getD hot 0
      let level := thermalLevel was tj
      let s := ((s.put Fl.HLT_THERM_STATUS_TJ (unsigned 12 tj)).put Fl.HLT_THERM_STATUS_HOT hot).put Fl.HLT_THERM_STATUS_LEVEL level
      let s := { s with hlt := { s.hlt with hotRun := if 1056 ≤ tj then s.hlt.hotRun + 1 else 0 } }
      let s := if was = 0 ∧ 0 < level then s.raise 592 (le 2 (unsigned 16 tj)) else s
      let s := if 0 < was ∧ level = 0 then s.raise 593 (le 2 (unsigned 16 tj)) else s
      if thermalQ level = thermalQ was then s
      else (s.put Fl.SWC_SHED_EIGHTHS (thermalQ level)).raise 594 (le 1 (thermalQ level))
  if !s.hlt.tripped && (decide (2 ≤ s.hlt.hotRun) || decide (valid.length < 12)) then s.thermalTrip else s

/-! ### Supplies (R530 to R532) -/

/-- Nominal, warning, reset and over-voltage levels of a monitor point, mV (Table 18.6). -/
def supplyLevels (p : Nat) : Nat × Nat × Nat × Nat :=
  if p < 8 then (750, 725, 700, 800)
  else if p < 12 then (800, 775, 750, 850)
  else if p < 16 then (900, 870, 850, 950)
  else if p < 18 then (1200, 1160, 1130, 1260)
  else if p = 18 then (900, 870, 850, 950)
  else if p < 21 then (1100, 1065, 1040, 1160)
  else (1800, 1740, 1700, 1890)

/-- Counts one more sample in a run of a point, or ends the run. -/
def countRun (m : FMap Nat) (p : Nat) (b : Bool) : FMap Nat := FMap.set 0 m p (if b then FMap.get 0 m p + 1 else 0)

/-- One sample of one point (R531). The fourth sample in a row below the warning level ends a programming, and bars new ones until the
supply has settled (R511, log entry 157). -/
def State.supplyPoint (s : State) (p mv : Nat) : State :=
  let (nominal, warn, reset, beyond) := supplyLevels p
  let s := (s.put (Fl.HLT_VOLT_MV p) mv).put (Fl.HLT_VOLT_MIN p) (min (s.get (Fl.HLT_VOLT_MIN p)) mv)
  let s := { s with hlt := { s.hlt with
    lowRun := countRun s.hlt.lowRun p (decide (mv < warn))
    resetRun := countRun s.hlt.resetRun p (decide (mv < reset))
    highRun := countRun s.hlt.highRun p (decide (100 * warn + nominal < 100 * mv)) } }
  let bits := s.get Fl.HLT_PWR_STATUS_POINT
  let s :=
    if bitOf p bits = false ∧ 4 ≤ FMap.get 0 s.hlt.lowRun p then
      let s := s.put Fl.HLT_PWR_STATUS_POINT (bits + 2 ^ p)
      if bits = 0 then (s.bump Fl.HLT_PWR_WARN_COUNT_COUNT).raise 596 (le 1 p) else s
    else if bitOf p bits = true ∧ 1000 ≤ FMap.get 0 s.hlt.highRun p then
      let s := s.put Fl.HLT_PWR_STATUS_POINT (bits - 2 ^ p)
      if bits = 2 ^ p then s.raise 597 else s
    else s
  let s : State := if FMap.get 0 s.hlt.lowRun p = 4 then ({ s with otp := { s.otp with supplyLow := true } }).progAbandon else s
  let overs := s.get Fl.HLT_PWR_OVER_POINT
  if beyond < mv ∧ bitOf p overs = false then (s.put Fl.HLT_PWR_OVER_POINT (overs + 2 ^ p)).raise 598 (le 1 p)
  else if mv ≤ beyond ∧ bitOf p overs = true then s.put Fl.HLT_PWR_OVER_POINT (overs - 2 ^ p)
  else s

/-- A sample of the 24 points; and the point whose second sample below its reset level resets the WG20 (R532). -/
def State.supplyStep (s : State) (mv : List Nat) : Option Nat × State :=
  let s := (List.range 24).foldl (fun s p => s.supplyPoint p (mv.getD p 0 % 65536)) s
  ((List.range 24).find? fun p => decide (2 ≤ FMap.get 0 s.hlt.resetRun p), s)

/-- OTP_SUPPLY_SETTLED: programming is allowed again, unless a point reads below its warning level (R511). -/
def otpSupplySettledEffect (s : State) : State :=
  if (List.range 24).any fun p => decide (0 < FMap.get 0 s.hlt.lowRun p) then s
  else { s with otp := { s.otp with supplyLow := false } }

/-! ### Process monitors (R533) -/

/-- PROCESS_MONITOR: the counts of the 32 ring oscillators. The correction to 85 °C is fused. -/
def processMonitorEffect (counts : List Nat) (s : State) : State :=
  let tj := s.getSigned Fl.HLT_THERM_STATUS_TJ
  (List.range 32).foldl (fun s k =>
    let n := counts.getD k 0 % 65536
    let s := s.put (Fl.HLT_PROC_COUNT k) n
    let low := decide (100 * Config.procCorrected k n tj < 92 * s.get (Fl.HLT_PROC_BASE k))
    if low && !bitOf k s.hlt.drift then
      ({ s with hlt := { s.hlt with drift := s.hlt.drift + 2 ^ k } }).raise 600 (le 1 k)
    else s) s

/-! ### FIFOs between domains (R534 to R539) -/

/-- A FIFO of a block. -/
def State.fifo (s : State) (b n : Nat) : Fifo := FMap.get {} s.hlt.fifos (256 * b + n)

/-- Replaces a FIFO of a block. -/
def State.setFifo (s : State) (b n : Nat) (x : Fifo) : State :=
  { s with hlt := { s.hlt with fifos := FMap.set {} s.hlt.fifos (256 * b + n) x } }

/-- Entries D of a FIFO: its pointers are one bit wider than its address, and only their top bits differ when it is full (R534). -/
def fifoDepth (b n : Nat) : Nat := 2 ^ Config.fifoLog2 b n

/-- HLT_XING_LAST names a FIFO with a kind, its counter advances and its event is raised. -/
def State.fifoFault (s : State) (b n kind : Nat) (counter : Fld) (source : Nat) : State :=
  let s := ((s.put Fl.HLT_XING_LAST_BLOCK b).put Fl.HLT_XING_LAST_FIFO n).put Fl.HLT_XING_LAST_KIND kind
  (s.bump counter).raise source (le 1 b ++ le 1 n)

/-- FIFO_PUSH: `full` is what the producer's FULL reads; it never reads 0 wrongly (R534, R535). -/
def fifoPushEffect (block : Fin 22) (fifo : Byte) (full : Bool) (entry : Octets) (last : Bool) (s : State) : State :=
  let b := block.val
  let n := fifo.toNat
  let x := s.fifo b n
  if x.cut then s.setFifo b n { x with cut := !last }
  else if full || decide (fifoDepth b n ≤ x.entries.length + x.partly.length) then
    s.fifoFault b n 1 Fl.HLT_OVERRUN_COUNT_COUNT 601
  else if last then
    s.setFifo b n { x with entries := x.entries ++ (x.partly.map fun e => (e, false)) ++ [(entry, true)], partly := [] }
  else s.setFifo b n { x with partly := x.partly ++ [entry] }

/-- FIFO_POP: `empty` is what the consumer's EMPTY reads; it never reads 0 wrongly. -/
def fifoPopEffect (block : Fin 22) (fifo : Byte) (empty : Bool) (s : State) : State :=
  let b := block.val
  let n := fifo.toNat
  let x := s.fifo b n
  if empty || x.entries.isEmpty then s.fifoFault b n 2 Fl.HLT_UNDERRUN_COUNT_COUNT 602
  else s.setFifo b n { x with entries := x.entries.drop 1 }

/-- FIFO_DROP: the read pointer moves past the last entry of the item that is read (R538). -/
def fifoDropEffect (block : Fin 22) (fifo : Byte) (s : State) : State :=
  let x := s.fifo block.val fifo.toNat
  s.setFifo block.val fifo.toNat { x with entries := (x.entries.dropWhile fun e => !e.2).drop 1 }

/-- FIFO_FLUSH: committed items are discarded, and the rest of an item being written is discarded uncommitted (R539). -/
def fifoFlushEffect (block : Fin 22) (fifo : Byte) (s : State) : State :=
  let b := block.val
  let n := fifo.toNat
  let x := s.fifo b n
  let s := s.setFifo b n { entries := [], partly := [], cut := x.cut || !x.partly.isEmpty }
  if x.partly.isEmpty then s else s.fifoFault b n 3 Fl.HLT_FLUSH_PARTIAL_COUNT_COUNT 603

/-! ### Crossings held in reset (R542) -/

/-- A live-side access fails: counted, and reported at most once per second. -/
def State.xingError (s : State) (b : Nat) : State :=
  let s := s.bump Fl.HLT_XING_ERR_COUNT_COUNT
  if s.hlt.xingSecond = s.second + 1 then s
  else ({ s with hlt := { s.hlt with xingSecond := s.second + 1 } }).raise 604 (le 1 b)

/-- CROSSING_RESET: both sides of the crossings of a block are reset together, and the accesses made meanwhile fail. -/
def crossingResetEffect (block : Fin 22) (accesses : List LiveAccess) (s : State) : State :=
  let s := { s with hlt := { s.hlt with fifos := s.hlt.fifos.filter fun p => p.1 / 256 != block.val } }
  accesses.foldl (fun s a =>
    let s := match a with | .hostRead f x => s.emit (.readAbort f.val x.toNat) | .hostWrite _ _ _ => s | .transfer => s
    s.xingError block.val) s

def execWindowFetchDone (func : Fin 4) (s : State) : Answer := .next (windowFetchDoneEffect func s)
def execEventClear (c : Cmd) (upTo : BitVec 64) (s : State) : Answer :=
  .next (s.writeCommand 0x58 c (le 8 upTo.toNat) [] (decide (2 ^ 48 ≤ upTo.toNat) || c.len != 0) (eventClearEffect c upTo))
def execTemperatureRead (readings : List Int) (s : State) : Answer := .next (temperatureReadEffect readings s)
def execOtpSupplySettled (s : State) : Answer := .next (otpSupplySettledEffect s)
def execProcessMonitor (counts : List Nat) (s : State) : Answer := .next (processMonitorEffect counts s)
def execFifoPush (block : Fin 22) (fifo : Byte) (full : Bool) (entry : Octets) (last : Bool) (s : State) : Answer :=
  .next (fifoPushEffect block fifo full entry last s)
def execFifoPop (block : Fin 22) (fifo : Byte) (empty : Bool) (s : State) : Answer := .next (fifoPopEffect block fifo empty s)
def execFifoDrop (block : Fin 22) (fifo : Byte) (s : State) : Answer := .next (fifoDropEffect block fifo s)
def execFifoFlush (block : Fin 22) (fifo : Byte) (s : State) : Answer := .next (fifoFlushEffect block fifo s)
def execCrossingReset (block : Fin 22) (accesses : List LiveAccess) (s : State) : Answer :=
  .next (crossingResetEffect block accesses s)

end Sys2Proof.Machine
end

