-- ==== Sys2Proof/Machine/Time.lean ====
section
/-!
DEFINITION. Machine/Time.lean: the time engine (chapter 12): the time scale and its hold, reference candidates and their
selection, PTP, PPS, the servo, the frequency monitor, holdover, the leap smear, TIME_SET and TIME_REF.
-/

namespace Sys2Proof.Machine

/-- A candidate by its code (Table 12.2): 1 PTP, 2 PPS_IN, 3 RIDGE. -/
def State.cand (s : State) (k : Nat) : Cand := FMap.get {} s.tim.cands k

/-- Bits qualified, disqualified, held off of a candidate (TIM_CAND_STATUS). -/
def Cand.bits (c : Cand) : Nat := b2n c.qualified + 2 * b2n c.disqualified + 4 * b2n c.heldOff

/-- Replaces a candidate and shows it in TIM_CAND_STATUS and TIM_STATE.HELD_OFF. -/
def State.setCand (s : State) (k : Nat) (c : Cand) : State :=
  let s := { s with tim := { s.tim with cands := FMap.set {} s.tim.cands k c } }
  let s := s.put Fl.TIM_CAND_STATUS_PTP (s.cand 1).bits
  let s := s.put Fl.TIM_CAND_STATUS_PPS (s.cand 2).bits
  let s := s.put Fl.TIM_CAND_STATUS_RIDGE (s.cand 3).bits
  s.putFlag Fl.TIM_STATE_HELD_OFF ((s.cand 1).heldOff || (s.cand 2).heldOff || (s.cand 3).heldOff)

/-- FREQ_MAX in 2^-12 ppb. -/
def State.freqMax (s : State) : Int := (s.get Fl.TIM_LIMIT_CFG_FREQ_MAX * 1000 * 4096 : Nat)

/-- The rate of a smear, 1 s per 86,400 s, in 2^-12 ppb (R366). -/
def smearRate : Int := 47407407

/-- Profile 01h, free run: no candidate is selected, and only TIME_SET and the smear correct the time scale (R387). -/
def State.freeRun (s : State) : Bool := s.get (Fl.PROFILE_PROFILE 12) == 1

/-- The requested frequency correction before its clamp: servo, slew and smear (R365, R384). -/
def State.freqSum (s : State) : Int :=
  (if s.freeRun then 0 else s.tim.fServo) + (if s.tim.slew = 0 then 0 else if 0 < s.tim.slew then s.freqMax else -s.freqMax)
    + (if s.tim.smearLeft = 0 then 0 else if 0 < s.tim.smearLeft then smearRate else -smearRate)

/-- f is at a limit, so the integrator is held (R381, R384). -/
def State.freqClamped (s : State) : Bool := decide (s.freqMax ≤ s.freqSum) || decide (s.freqSum ≤ -s.freqMax)

/-- TIM_RATE shows the correction in force, in 2^-8 ppb. -/
def State.showRate (s : State) : State :=
  s.put Fl.TIM_RATE_VALUE (unsigned 32 (clampInt (-s.freqMax) s.freqMax s.freqSum / 16))

/-- The time state changes (R373): LOCKED, UNLOCKED and HOLDOVER are raised; HOLDOVER takes the newest history entry as its
rate (R383) and freezes the servo on it (R381). -/
def State.timEnter (s : State) (code : Nat) : State :=
  let old := s.get Fl.TIM_STATE_STATE
  if old = code then s else
  let s := s.put Fl.TIM_STATE_STATE code
  let s := { s with tim := { s.tim with lockIn := 0, lockOut := 0 } }
  let s := if code = 3 then s.raise 448 else s
  let s := if old = 3 then s.raise 449 else s
  if code = 4 then
    let s := match s.tim.history with
      | r :: _ => s.put Fl.TIM_HOLD_RATE_VALUE (unsigned 32 r)
      | [] => s
    let s := { s with tim := { s.tim with fServo := -(16 * s.getSigned Fl.TIM_HOLD_RATE_VALUE) } }
    s.showRate.raise 450
  else s

/-- Selects candidate `k` (0 none) and raises TIM_REF_CHANGED when the selection changes (R372, R373). -/
def State.select (s : State) (k : Nat) : State :=
  if s.get Fl.TIM_STATE_SEL = k then s else
  let s := s.put Fl.TIM_STATE_SEL k
  let s := { s with tim := { s.tim with lastTheta := none, discards := 0, everSelected := s.tim.everSelected || k != 0 } }
  let s := s.raise 451 (le 1 k)
  if k = 0 then s.timEnter (if s.tim.everSelected then 4 else 1) else s.timEnter 2

/-- The candidates in priority order that may be selected: all of TIM_REF_CFG in ALONE and ACTIVE, RIDGE only in STANDBY and
HOLD, none under profile 01h (R372, R387). -/
def State.priorities (s : State) : List Nat :=
  if s.freeRun then []
  else if s.standbyOrHold then [3]
  else [s.get Fl.TIM_REF_CFG_PRI0, s.get Fl.TIM_REF_CFG_PRI1, s.get Fl.TIM_REF_CFG_PRI2].filter (· != 0)

/-- The first qualified candidate in priority order, 0 for none. -/
def State.firstQualified (s : State) : Nat := (s.priorities.find? fun k => (s.cand k).qualified).getD 0

/-- TIM_STATE.FORCED follows the force (R386). -/
def State.setForce (s : State) (k : Nat) : State :=
  ({ s with tim := { s.tim with force := k } }).putFlag Fl.TIM_STATE_FORCED (k != 0)

/-- The selection after a candidate changed (R372, R384): a forced candidate that is lost ends the force; a lost selected
candidate is left at once; a better candidate is taken after REVERT_S seconds of staying qualified. -/
def State.reselect (s : State) : State :=
  if s.tim.held then s else
  let sel := s.get Fl.TIM_STATE_SEL
  if s.freeRun then s.select 0
  else if s.tim.force = 4 then (s.select 0).timEnter 4
  else if s.tim.force ≠ 0 ∧ (s.cand s.tim.force).qualified then s.select s.tim.force
  else
    let lapsed := s.tim.force != 0
    let s := s.setForce 0
    let best := s.firstQualified
    if sel ≠ 0 ∧ !(s.cand sel).qualified then
      (s.raise 452 (le 1 sel)).select best
    else if sel = 0 then
      if best = 0 then s else s.select best
    else if lapsed && best != sel then s.select best
    else
      let ps := s.priorities
      if best ≠ sel ∧ ps.findIdx (· == best) < ps.findIdx (· == sel)
          ∧ s.get Fl.TIM_REF_CFG_REVERT_S ≤ s.second - (s.cand best).since then s.select best
      else if !ps.contains sel then s.select best
      else s

/-- Marks a candidate qualified or lost, keeping the second since which it stays qualified. -/
def State.qualify (s : State) (k : Nat) (b : Bool) : State :=
  let c := s.cand k
  if c.qualified = b then s else s.setCand k { c with qualified := b, since := s.second }

/-- STEP_LIMIT in ns. -/
def State.stepLimit (s : State) : Int := (s.get Fl.TIM_LIMIT_CFG_STEP_LIMIT * 1000000 : Nat)

/-- A candidate is disqualified (R381, R382). -/
def State.disqualify (s : State) (k : Nat) : State :=
  let c := s.cand k
  let s := s.setCand k { c with disqualified := true, qualified := false, good := 0, calm := 0, dqRun := 0 }
  (s.raise 454 (le 1 k)).reselect

/-- Lock bookkeeping of Table 12.3 for one offset of the selected candidate. SET becomes 1 on entry to LOCKED. -/
def State.lockStep (s : State) (θ : Int) : State :=
  let near := decide (θ.natAbs ≤ s.get Fl.TIM_ACQ_CFG_LOCK_NS)
  let s := { s with tim := { s.tim with
    lockIn := if near then s.tim.lockIn + 1 else 0, lockOut := if near then 0 else s.tim.lockOut + 1 } }
  if s.get Fl.TIM_STATE_STATE = 2 ∧ 8 ≤ s.tim.lockIn then (s.putFlag Fl.TIM_STATE_SET true).timEnter 3
  else if s.get Fl.TIM_STATE_STATE = 3 ∧ 4 ≤ s.tim.lockOut then s.timEnter 2
  else s

/-- The servo takes offset θ of the selected candidate, in ns (R381, R384). -/
def State.servo (s : State) (θ : Int) : State :=
  let s := s.put Fl.TIM_OFFSET_VALUE (unsigned 32 (clampInt (-(2 ^ 31 - 1)) (2 ^ 31 - 1) θ))
  let jump := match s.tim.lastTheta with
    | some p => decide (s.get Fl.TIM_ACQ_CFG_OUTLIER * 1000 < (θ - p).natAbs)
    | none => false
  let s := { s with tim := { s.tim with lastTheta := some θ } }
  if jump && s.get Fl.TIM_STATE_STATE == 3 then
    let n := s.tim.discards + 1
    let s := { s with tim := { s.tim with discards := n } }
    let s := (s.bump Fl.TIM_OUTLIER_COUNT_COUNT).raise 460 (le 1 (s.get Fl.TIM_STATE_SEL))
    if 4 ≤ n then s.disqualify (s.get Fl.TIM_STATE_SEL) else s
  else
    let i := if s.freqClamped then s.tim.integ else s.tim.integ + s.get Fl.TIM_SERVO_CFG_KI * θ
    let f := -(s.get Fl.TIM_SERVO_CFG_KP * θ * 16 + i)
    let s := { s with tim := { s.tim with integ := i, fServo := f, discards := 0 } }
    s.showRate.lockStep θ

/-- An offset of candidate `k` beyond STEP_LIMIT holds it off while courses run (R370); one within it counts towards
qualification and ends the episode that an ACCEPT covers (Table 12.2). RIDGE asks for no count, and a candidate that is qualified stays
so until it is lost. `other` is the rest of the candidate's condition. -/
def State.candOffset (s : State) (k : Nat) (θ : Int) (other : Bool) : State :=
  let c := s.cand k
  let inside := decide ((θ.natAbs : Int) ≤ s.stepLimit)
  let c' : Cand :=
    if inside then { c with good := c.good + 1, heldOff := false, accepted := false }
    else if c.accepted then { c with good := c.good + 1 }
    else { c with good := 0, heldOff := !s.tim.held }
  let s' := s.setCand k c'
  let s' := if !inside && !c.accepted && !s.tim.held && !c.heldOff then s'.raise 455 (le 1 k) else s'
  let enough := k == 3 || c.qualified || c.accepted || decide (s.get Fl.TIM_LIMIT_CFG_QUAL_N ≤ c'.good)
  let ok := other && !c'.disqualified && enough && (inside || c.accepted)
  let s' := (s'.qualify k ok).reselect
  if s'.get Fl.TIM_STATE_SEL = k then s'.servo θ else s'

/-- A stored step is applied to the time scale during the hold (R369). -/
def State.applyStep (s : State) : State :=
  if !s.flag Fl.TIM_STATE_STEP_PENDING then s else
  let d := signed 64 (s.get64 Reg.TIM_STEP_PEND_LO)
  let s := { s with tim := { s.tim with now := ((s.now : Int) + d).toNat } }
  ((s.put64 Reg.TIM_STEP_PEND_LO 0).putFlag Fl.TIM_STATE_STEP_PENDING false).raise 456

/-- Courses start at the first n with n × P not before the time reached (R50, R368), once the wait for a partner is over (R466,
R469). -/
def State.startCourses (s : State) : State :=
  if s.rdg.phase = 0 then s else
  let s := s.applyStep
  let p := s.period
  let n := (s.now + p - 1) / p
  let s := { s with tim := { s.tim with held := false, now := n * p, frac := 0 } }
  (s.put64 Reg.CRS_COURSE_LO n).put Fl.CRS_TIMING_BATTEN 0

/-- At the end of ACQ_S without a reference, provisional time starts and courses begin (R368). `lastS` is the highest LAST_S
of the cold index when the archive has mounted, `build` the build time of the running image. A time scale that was set before
keeps its value, and no candidate is selected (R372; log entry 79). -/
def timeAcquireTimeoutEffect (s : State) : State :=
  if !s.tim.held || !s.tim.waiting then s else
  let s := { s with tim := { s.tim with waiting := false } }
  if s.flag Fl.TIM_STATE_SET then (s.timEnter (if s.tim.everSelected then 4 else 1)).startCourses else
  let base :=
    if s.flag Fl.ARC_STATE_MOUNTED then (s.arc.lastSecond + 1) * 1000000000
    else s.otp.buildTime * 1000000000
  let s := ({ s with tim := { s.tim with now := base } }).timEnter 1
  (s.raise 457).startCourses

/-- PTP or RIDGE qualifies before courses run: the time scale steps to the reference and SET becomes 1 (R368). A stored step is applied
first, so that the time of the reference stands (R369; log entry 79). -/
def timeScaleStepEffect (ridge : Bool) (seconds : BitVec 64) (ns : BitVec 32) (s : State) : State :=
  if !s.tim.held || !s.tim.waiting || 1000000000 ≤ ns.toNat then s else
  let k := if ridge then 3 else 1
  let s := s.applyStep
  let s := { s with tim := { s.tim with now := seconds.toNat * 1000000000 + ns.toNat, frac := 0, waiting := false } }
  let s := s.putFlag Fl.TIM_STATE_SET true
  let s := s.setCand k { s.cand k with qualified := true, heldOff := false, good := s.get Fl.TIM_LIMIT_CFG_QUAL_N }
  (s.select k).startCourses

/-- PPS_OUT at a whole second (R380): the pulse is put out with its width and advance. -/
def State.ppsOut (s : State) : State :=
  let st := s.get Fl.TIM_STATE_STATE
  let mode := s.get Fl.TIM_PPS_OUT_CFG_MODE
  if (mode = 1 ∧ (st = 3 ∨ st = 4)) ∨ (mode = 2 ∧ st ≠ 0) then
    s.emit (.ppsPulse s.second (s.get Fl.TIM_PPS_OUT_CFG_WIDTH) (s.getSigned Fl.TIM_PPS_OUT_CFG_COMP))
  else s

/-- Moves `left` towards 0 by at most `step`. -/
def towardZero (left step : Int) : Int := if 0 < left then max 0 (left - step) else min 0 (left + step)

/-- RIDGE's condition (Table 12.2): the link is up and the partner ACTIVE. RIDGE qualifies with the partner's time LOCKED or in
HOLDOVER, and is lost with FREERUN. -/
def State.ridgeRefOk (s : State) : Bool :=
  s.flag Fl.RDG_STATE_LINK_UP && s.flag Fl.RDG_STATE_PARTNER_VALID && s.get Fl.RDG_STATE_PARTNER_STATE == 1
    && (s.rdg.partnerTime == 3 || s.rdg.partnerTime == 4 || ((s.cand 3).qualified && s.rdg.partnerTime == 2))

/-- PPS_IN's condition apart from its edges (Table 12.2). -/
def State.ppsOk (s : State) : Bool := s.get Fl.TIM_PPS_IN_CFG_EN == 1 && s.flag Fl.TIM_STATE_SET

/-- The smear of the next second: 1 s over 86,400 s in whole ns (R366). -/
def smearStep (done : Int) : Int :=
  let k := (done.natAbs * 86400 + 999999999) / 1000000000
  ((k + 1) * 1000000000 / 86400 : Nat) - done.natAbs

/-- One candidate's window (R382): its runs, the history of the selected candidate, the warning and the disqualification. -/
def State.window (s : State) (k : Nat) (r : Option Int) : State :=
  match r with
  | none => s
  | some r =>
    let c := s.cand k
    let n := s.tim.history.length
    let sum := s.tim.history.foldl (· + ·) 0
    let dev : Int := if n = 0 then 0 else r * n - sum
    let scale : Int := if n = 0 then 1 else n
    let beyond (ppb : Nat) : Bool := decide ((ppb * 256 : Nat) * scale < dev.natAbs)
    let warn := beyond (s.get Fl.TIM_MON_CFG_WARN_PPB)
    let dq := beyond (s.get Fl.TIM_MON_CFG_DQ_PPB)
    if !c.qualified && !c.disqualified then s else
    let sel := s.get Fl.TIM_STATE_SEL == k
    let c := { c with
      warnRun := if warn then c.warnRun + 1 else 0
      dqRun := if dq then c.dqRun + 1 else 0
      calm := if warn then 0 else c.calm + 1 }
    let again := c.disqualified && decide (60 ≤ c.calm)
    let s := s.setCand k { c with disqualified := c.disqualified && !again, good := if again then 0 else c.good }
    let s := if sel && !warn then { s with tim := { s.tim with history := (r :: s.tim.history).take 64 } } else s
    let s := if sel then
        let s := s.put Fl.TIM_MON_STATUS_DEV (unsigned 16 (clampInt (-32767) 32767 (dev / (256 * scale))))
        let s := s.put Fl.TIM_MON_STATUS_WARN_RUN (min c.warnRun 31)
        let s := s.put Fl.TIM_MON_STATUS_DQ_RUN (min c.dqRun 15)
        s.put Fl.TIM_MON_STATUS_HIST_N s.tim.history.length
      else s
    let s := if warn && c.warnRun == s.get Fl.TIM_MON_CFG_WARN_N then s.raise 453 (le 1 k) else s
    if !c.disqualified && dq && decide (s.get Fl.TIM_MON_CFG_DQ_N ≤ c.dqRun) then s.disqualify k else s

/-- The end of a 1 s window with the measured rate of each candidate, 2^-8 ppb (R382). -/
def freqMonitorWindowEffect (ptp pps ridge : Option Int) (s : State) : State :=
  ((s.window 1 ptp).window 2 pps).window 3 ridge

/-! ### PTP (R374 to R378) -/

/-- What the engine keeps for a port. -/
def State.ptpPort (s : State) (p : Nat) : PtpPort := FMap.get {} s.tim.ports p

/-- Replaces what the engine keeps for a port. -/
def State.setPtpPort (s : State) (p : Nat) (x : PtpPort) : State :=
  { s with tim := { s.tim with ports := FMap.set {} s.tim.ports p x } }

/-- The lane of Ethernet port p = 8k + i: lane i of the k-th Ethernet group (R374). -/
def State.ethernetLane (s : State) (p : Nat) : Option Nat :=
  let groups := (List.range 40).filter fun g => s.get (Fl.LANE_GRP_STATUS_ROLE g) == 3
  (groups[p / 8]?).map fun g => 8 * g + p % 8

/-- A port is enabled: its bit of PORT_EN, and its lane trained and up. -/
def State.portEnabled (s : State) (p : Nat) : Bool :=
  bitOf p (s.get Fl.TIM_PTP_CFG_PORT_EN) &&
    (match s.ethernetLane p with
     | none => false
     | some l => s.flag (Fl.LANE_GRP_STATUS_TRAINED (l / 8)) && bitOf (l % 8) (s.get (Fl.LANE_GRP_STATUS_LANE_UP (l / 8))))

/-- The order of the data set comparison: the lesser list is the better master. -/
def announceKey (m : PtpAnnounce) : List Nat :=
  [m.priority1.toNat, m.clockClass.toNat, m.accuracy.toNat, m.variance.toNat, m.priority2.toNat, m.grandmaster.toNat,
   m.stepsRemoved.toNat, m.source.toNat]

/-- Lexicographic order on lists of numbers. -/
def lexLt : List Nat → List Nat → Bool
  | a :: as, b :: bs => if a < b then true else if b < a then false else lexLt as bs
  | _, _ => false

/-- A port that is not enabled forgets what it heard. -/
def State.dropUnheard (s : State) : State :=
  (List.range 16).foldl (fun s p =>
    if s.portEnabled p || (s.ptpPort p).announce.isNone then s
    else s.setPtpPort p { s.ptpPort p with announce := none, syncOpen := none }) s

/-- The BMCA over all enabled ports (R375): the best master's port is SLAVE, a port that hears the chosen master is PASSIVE,
the rest are LISTENING, ports not enabled DISABLED. -/
def State.bmca (s : State) : State :=
  let s := s.dropUnheard
  let heard := (List.range 16).filterMap fun p =>
    if s.portEnabled p then (s.ptpPort p).announce.map fun a => (p, a) else none
  let best := heard.foldl (fun (acc : Option (Nat × PtpAnnounce)) x =>
    match acc with
    | none => some x
    | some b => if lexLt (announceKey x.2) (announceKey b.2) then some x else acc) none
  let s := { s with tim := { s.tim with master := best.map (·.1) } }
  (List.range 16).foldl (fun s p =>
    let st :=
      if !s.portEnabled p then 3
      else match best with
        | none => 4
        | some b => if b.1 = p then 9
          else match (s.ptpPort p).announce with
            | some a => if a.grandmaster = b.2.grandmaster then 7 else 4
            | none => 4
    s.put (Fl.TIM_PORT_STATUS_PORT_STATE p) st) s

/-- The Announce of the chosen master, if any. -/
def State.chosenMaster (s : State) : Option PtpAnnounce := s.tim.master.bind fun p => (s.ptpPort p).announce

/-- PTP is lost (Table 12.2). -/
def State.losePtp (s : State) : State :=
  let s := s.setCand 1 { s.cand 1 with good := 0 }
  (s.qualify 1 false).reselect

/-- The rest of PTP's condition: a SLAVE port whose master's clockClass is at most CLASS_MAX. -/
def State.ptpOk (s : State) : Bool :=
  match s.chosenMaster with
  | some m => decide (m.clockClass.toNat ≤ s.get Fl.TIM_REF_CFG_CLASS_MAX)
  | none => false

/-- At each whole second: slew and smear advance, HOLDOVER is counted, candidates are evaluated, PPS_OUT is pulsed (R366, R371, R372,
R380). PPS_IN is lost without an edge near the second before. While courses are held the time scale moves to its next whole second. -/
def secondTickEffect (s : State) : State :=
  let s := if s.tim.held then
      { s with tim := { s.tim with now := (s.now / 1000000000 + 1) * 1000000000, frac := 0 } } else s
  let slew := towardZero s.tim.slew (s.get Fl.TIM_LIMIT_CFG_FREQ_MAX * 1000 : Nat)
  let left := towardZero s.tim.smearLeft (smearStep s.tim.smearDone)
  let s := { s with tim := { s.tim with
    slew := slew, smearLeft := left, smearDone := s.tim.smearDone + (s.tim.smearLeft - left) } }
  let s := s.showRate
  let s := if s.get Fl.TIM_STATE_STATE = 4 then s.bump Fl.TIM_HOLDOVER_COUNT_COUNT else s
  let s := s.bmca
  let s := if (s.cand 1).qualified && !s.ptpOk then s.losePtp else s
  let p := s.cand 2
  let recent := match p.edge with | some e => decide ((s.second : Int) ≤ e / 1000000000 + 1) | none => false
  let s := if s.ppsOk && recent then s else (s.setCand 2 { p with good := 0 }).qualify 2 false
  let r := s.cand 3
  let s := (s.qualify 3 (s.ridgeRefOk && !r.heldOff && !r.disqualified)).reselect
  let l := s.rdg.offsets
  let s := if l.isEmpty then s else
    ({ s with rdg := { s.rdg with offsets := [] } }).candOffset 3 (l.foldl (· + ·) 0 / (l.length : Nat)) s.ridgeRefOk
  s.ppsOut

/-- UTC offset in force, s (R377). -/
def State.utcOffset (s : State) : Int :=
  match s.chosenMaster with
  | some m => if m.utcValid then signed 16 m.utcOffset.toNat else (s.get Fl.TIM_UTC_OFFSET : Int)
  | none => (s.get Fl.TIM_UTC_OFFSET : Int)

/-- An Announce feeds the BMCA, the UTC offset and the leap announcement (R366, R375, R377). A port keeps the best master that it
hears. -/
def ptpAnnounceRxEffect (port : Fin 16) (m : PtpAnnounce) (s : State) : State :=
  let p := port.val
  if !s.portEnabled p then s else
  let before := s.ptpOk
  let wasMaster := s.tim.master == some p
  let worse := match (s.ptpPort p).announce with
    | some a => a.source != m.source && lexLt (announceKey a) (announceKey m)
    | none => false
  if worse then s else
  let s := (s.setPtpPort p { s.ptpPort p with announce := some m }).bmca
  let s := match s.chosenMaster with
    | some a =>
      ((s.putFlag Fl.TIM_UTC_FROM_PTP a.utcValid).putFlag Fl.TIM_UTC_LEAP61 a.leap61).putFlag Fl.TIM_UTC_LEAP59 a.leap59
    | none => s
  let s := if before && wasMaster && s.tim.master == some p && !s.ptpOk then s.raise 462 (le 1 p) else s
  if s.ptpOk then s else s.losePtp

/-- The announce receipt timeout of a port (R371, R375). -/
def announceTimeoutEffect (port : Fin 16) (s : State) : State :=
  let p := port.val
  let was := s.tim.master == some p
  let s := (s.setPtpPort p { s.ptpPort p with announce := none, syncOpen := none }).bmca
  let s := if s.chosenMaster.isNone then s.putFlag Fl.TIM_UTC_FROM_PTP false else s
  if was then s.losePtp else s

/-- RX_NS of a port in 2^-16 ns. -/
def State.rxLatency (s : State) (p : Nat) : Int := (bitsOf 31 16 (s.get (Fl.TIM_PORT_LAT_VALUE p)) * 65536 : Nat)
/-- TX_NS of a port in 2^-16 ns. -/
def State.txLatency (s : State) (p : Nat) : Int := (bitsOf 15 0 (s.get (Fl.TIM_PORT_LAT_VALUE p)) * 65536 : Nat)

/-- The offset of R377 from corrected ingress time, origin time and correction (2^-16 ns), in whole ns, saturating. -/
def State.ptpTheta (s : State) (p : Nat) (t2 t1 c : Int) : Int :=
  let u := s.utcOffset * 1000000000 + s.tim.smearDone
  let a := s.getSigned (Fl.TIM_PORT_ASYM_VALUE p) * 65536 / 1000
  let θ := t2 - (t1 + c - u * 65536) - ((s.ptpPort p).delay + a)
  clampInt (-(2 ^ 31 - 1)) (2 ^ 31 - 1) (θ / 65536)

/-- A Sync of the chosen master (R377): a one-step Sync gives the offset, a two-step one waits for its Follow_Up. Any other
Sync has no effect. -/
def ptpSyncRxEffect (port : Fin 16) (m : PtpSync) (s : State) : State :=
  let p := port.val
  let chosen := s.portEnabled p && s.tim.master == some p && (s.chosenMaster.map (·.source) == some m.source)
  if !chosen then s else
  let t2 := m.t2 - s.rxLatency p
  if m.twoStep then s.setPtpPort p { s.ptpPort p with syncOpen := some (m.seq.toNat, t2, m.correction) }
  else s.candOffset 1 (s.ptpTheta p t2 m.t1 m.correction) s.ptpOk

/-- A Follow_Up delivers the preciseOriginTimestamp of the two-step Sync with its sequenceId (R377). -/
def ptpFollowUpRxEffect (port : Fin 16) (m : PtpFollowUp) (s : State) : State :=
  let p := port.val
  let chosen := s.portEnabled p && s.tim.master == some p && (s.chosenMaster.map (·.source) == some m.source)
  match (s.ptpPort p).syncOpen with
  | some (seq, t2, c) =>
    if !chosen || seq != m.seq.toNat then s else
    let s := s.setPtpPort p { s.ptpPort p with syncOpen := none }
    s.candOffset 1 (s.ptpTheta p t2 m.t1 (c + m.correction)) s.ptpOk
  | none => s

/-- No Sync for 3 Sync intervals: PTP is lost (R371). -/
def syncTimeoutEffect (s : State) : State := s.losePtp

/-- A received Pdelay_Req is answered with a two-step Pdelay_Resp; its follow-up waits for t3 (R374, R378). -/
def pdelayReqRxEffect (port : Fin 16) (requester : BitVec 80) (seq : BitVec 16) (t2 : Int) (s : State) : State :=
  let p := port.val
  if !s.portEnabled p then s else
  let x := s.ptpPort p
  let s := s.setPtpPort p { x with owed := x.owed ++ [(seq.toNat, requester.toNat)] }
  s.emit (.pdelayResp p seq.toNat requester.toNat (t2 - s.rxLatency p))

/-- Every 1 s each enabled port sends a Pdelay_Req (R374). The t1 of one that stayed unanswered leaves the queue then (log entry
152). -/
def pdelayReqTimerEffect (s : State) : State :=
  (List.range 16).foldl (fun s p =>
    if !s.portEnabled p then s else
    let x := s.ptpPort p
    let n := (x.seq + 1) % 65536
    let q := x.txq.filter fun q => some q.1 != x.reqOpen
    let s := (s.setPtpPort p { x with seq := n, reqOpen := some n, respOpen := none, txq := q }).put (Fl.TIM_TXTS_STATUS_COUNT p) q.length
    s.emit (.pdelayReq p n)) s

/-- A link delay measurement from t1 to t4 and the corrections (R377), shown in TIM_PORT_STATUS.PEER_DELAY. -/
def State.linkDelay (s : State) (p : Nat) (t1 t2 t3 t4 c : Int) : State :=
  let d := ((t4 - t1) - (t3 - t2) - c) / 2
  let s := s.setPtpPort p { s.ptpPort p with delay := d, reqOpen := none, respOpen := none }
  s.put (Fl.TIM_PORT_STATUS_PEER_DELAY p) (clampInt 0 0xFFFFFF (d / 65536)).toNat

/-- A Pdelay_Resp or its Follow_Up updates the port's meanLinkDelay (R377). A Pdelay_Req whose t1 was lost gives no
measurement (R378). -/
def pdelayRespRxEffect (port : Fin 16) (m : PdelayResp) (s : State) : State :=
  let p := port.val
  if !s.portEnabled p then s else
  let x := s.ptpPort p
  if m.followUp then
    match x.respOpen with
    | some (seq, t1, t2, t4, c) => if seq = m.seq.toNat then s.linkDelay p t1 t2 m.t3 t4 (c + m.correction) else s
    | none => s
  else if x.reqOpen ≠ some m.seq.toNat then s
  else
    match x.txq.find? fun q => q.1 == m.seq.toNat with
    | none => s.setPtpPort p { x with reqOpen := none }
    | some (_, t1) =>
      let rest := x.txq.filter fun q => q.1 != m.seq.toNat
      let t4 := m.t4 - s.rxLatency p
      let s := (s.setPtpPort p { x with txq := rest }).put (Fl.TIM_TXTS_STATUS_COUNT p) rest.length
      if m.twoStep then
        s.setPtpPort p { s.ptpPort p with reqOpen := none, respOpen := some (m.seq.toNat, t1, m.t2, t4, m.correction) }
      else s.linkDelay p t1 m.t2 m.t2 t4 m.correction

/-- A PTP message of an unsupported kind or of another domain is counted and discarded (Table 12.4). -/
def ptpUnsupportedRxEffect (_ : Fin 16) (s : State) : State := s.bump Fl.TIM_PTP_DISCARD_COUNT_COUNT

/-- An egress timestamp enters the port's queue, or is discarded when the queue holds 16 (R378). The t3 of a Pdelay_Resp is
taken at once and its follow-up sent. -/
def txTimestampEntryEffect (port : Fin 16) (seq : BitVec 16) (stamp : Int) (s : State) : State :=
  let p := port.val
  let x := s.ptpPort p
  let n := seq.toNat
  let owed := x.owed.find? fun q => q.1 == n
  let rest := x.owed.filter fun q => q.1 != n
  if 16 ≤ x.txq.length then
    let s := s.setPtpPort p { x with owed := rest }
    let s := (s.put (Fl.TIM_TXTS_STATUS_OVF p) 1).bump Fl.TIM_TXTS_OVF_COUNT_COUNT
    s.raise 461 (le 1 p)
  else
    let t := stamp + s.txLatency p
    let s := s.put (Fl.TIM_TXTS_STATUS_LAST_ID p) n
    match owed with
    | some (_, who) => (s.setPtpPort p { x with owed := rest }).emit (.pdelayFollowUp p n who t)
    | none =>
      let q := x.txq ++ [(n, t)]
      (s.setPtpPort p { x with txq := q }).put (Fl.TIM_TXTS_STATUS_COUNT p) q.length

/-- A PPS_IN rising edge at a timestamp in 2^-16 ns (R379): the offset from the nearest whole second less the cable delay. A second
edge near the same whole second loses the candidate (Table 12.2). -/
def ppsInEdgeEffect (stamp : Int) (s : State) : State :=
  if s.get Fl.TIM_PPS_IN_CFG_EN ≠ 1 then s else
  let ns := stamp / 65536
  let near := (ns + 500000000) / 1000000000 * 1000000000
  let θ := ns - near - s.getSigned Fl.TIM_PPS_IN_CFG_DELAY
  let c := s.cand 2
  if c.edge = some near then ((s.setCand 2 { c with good := 0 }).qualify 2 false).reselect
  else
    let next := c.edge == some (near - 1000000000)
    (s.setCand 2 { c with edge := some near, good := if next then c.good else 0 }).candOffset 2 θ s.ppsOk

/-- The smear of an announced leap second starts (R366). Without an announcement no leap is applied. -/
def leapSmearStartEffect (s : State) : State :=
  let up := s.flag Fl.TIM_UTC_LEAP61
  let down := s.flag Fl.TIM_UTC_LEAP59
  let sel := s.get Fl.TIM_STATE_SEL
  if s.tim.smearLeft ≠ 0 ∨ (!up && !down && s.rdg.partnerSmear == 0) ∨ (sel ≠ 1 ∧ sel ≠ 3) then s else
  let left : Int := if sel = 3 then s.rdg.partnerSmear else if up then -1000000000 else 1000000000
  let s := { s with tim := { s.tim with smearLeft := left, smearDone := 0 } }
  ((s.putFlag Fl.TIM_STATE_LEAP true).showRate).raise 458

/-- The whole leap second has been absorbed (R366). -/
def leapSmearEndEffect (s : State) : State :=
  if !s.flag Fl.TIM_STATE_LEAP then s else
  let s := { s with tim := { s.tim with smearLeft := 0, smearDone := 0 } }
  ((s.putFlag Fl.TIM_STATE_LEAP false).showRate).raise 459

/-! ### Commands (R385, R386) -/

/-- TIME_SET takes effect (Table 12.6). -/
def timeSetEffect (c : Cmd) (mode : Byte) (delta : BitVec 64) (s : State) : State :=
  let op := 0x48
  let d := delta.toInt
  let st := s.get Fl.TIM_STATE_STATE
  if mode = 1 then
    if st ≠ 1 ∧ st ≠ 4 then s.complete op c .state
    else if 10 ^ 12 < d.natAbs then s.complete op c .range
    else (({ s with tim := { s.tim with slew := s.tim.slew + d } }).showRate).complete op c .ok
  else if mode = 2 then
    match [1, 2, 3].filter fun k => (s.cand k).heldOff with
    | [] => s.complete op c .state
    | ks =>
      let other := fun (s : State) (k : Nat) => if k = 1 then s.ptpOk else if k = 2 then s.ppsOk else s.ridgeRefOk
      let s := ks.foldl (fun s k =>
        let s := s.setCand k { s.cand k with accepted := true, heldOff := false }
        s.qualify k (other s k && !(s.cand k).disqualified)) s
      s.reselect.complete op c .ok
  else if mode = 3 then
    if 2 ^ 62 ≤ d.natAbs then s.complete op c .range
    else ((s.put64 Reg.TIM_STEP_PEND_LO delta.toNat).putFlag Fl.TIM_STATE_STEP_PENDING (delta != 0)).complete op c .ok
  else s.complete op c .illegal

/-- An undefined code in TIME_REF. -/
def timeRefIllegal (op cand : Byte) : Bool :=
  op == 0 || decide (3 < op.toNat) || (op == 1 && (cand == 0 || decide (3 < cand.toNat)))

/-- TIME_REF takes effect (R386). A CAND outside 1 to 3 with OP 01h is an undefined code. -/
def timeRefEffect (c : Cmd) (op cand : Byte) (s : State) : State :=
  let code := 0x49
  if op = 1 then
    if cand.toNat = 0 ∨ 3 < cand.toNat then s.complete code c .illegal
    else if !(s.cand cand.toNat).qualified then s.complete code c .state
    else (s.setForce cand.toNat).reselect.complete code c .ok
  else if op = 2 then (s.setForce 0).reselect.complete code c .ok
  else if op = 3 then (s.setForce 4).reselect.complete code c .ok
  else s.complete code c .illegal

def execSecondTick (s : State) : Answer := .next (secondTickEffect s)
def execFreqMonitorWindow (ptp pps ridge : Option Int) (s : State) : Answer :=
  .next (freqMonitorWindowEffect ptp pps ridge s)
def execPtpSyncRx (port : Fin 16) (m : PtpSync) (s : State) : Answer := .next (ptpSyncRxEffect port m s)
def execPtpFollowUpRx (port : Fin 16) (m : PtpFollowUp) (s : State) : Answer := .next (ptpFollowUpRxEffect port m s)
def execPtpAnnounceRx (port : Fin 16) (m : PtpAnnounce) (s : State) : Answer := .next (ptpAnnounceRxEffect port m s)
def execPdelayReqRx (port : Fin 16) (requester : BitVec 80) (seq : BitVec 16) (t2 : Int) (s : State) : Answer :=
  .next (pdelayReqRxEffect port requester seq t2 s)
def execPdelayRespRx (port : Fin 16) (m : PdelayResp) (s : State) : Answer := .next (pdelayRespRxEffect port m s)
def execPdelayReqTimer (s : State) : Answer := .next (pdelayReqTimerEffect s)
def execPtpUnsupportedRx (port : Fin 16) (s : State) : Answer := .next (ptpUnsupportedRxEffect port s)
def execTxTimestampEntry (port : Fin 16) (seq : BitVec 16) (stamp : Int) (s : State) : Answer :=
  .next (txTimestampEntryEffect port seq stamp s)
def execAnnounceTimeout (port : Fin 16) (s : State) : Answer := .next (announceTimeoutEffect port s)
def execSyncTimeout (s : State) : Answer := .next (syncTimeoutEffect s)
def execPpsInEdge (stamp : Int) (s : State) : Answer := .next (ppsInEdgeEffect stamp s)
def execLeapSmearStart (s : State) : Answer := .next (leapSmearStartEffect s)
def execLeapSmearEnd (s : State) : Answer := .next (leapSmearEndEffect s)
def execTimeSet (c : Cmd) (mode : Byte) (delta : BitVec 64) (s : State) : Answer :=
  .next (s.writeCommand 0x48 c (le 1 mode.toNat ++ zeros 3 ++ le 8 delta.toNat) [] (c.len != 0 || mode == 0 || decide (3 < mode.toNat)) (timeSetEffect c mode delta))
def execTimeRef (c : Cmd) (op cand : Byte) (s : State) : Answer :=
  .next (s.writeCommand 0x49 c (le 1 op.toNat ++ le 1 cand.toNat) [] (c.len != 0 || timeRefIllegal op cand) (timeRefEffect c op cand))

end Sys2Proof.Machine
end

