-- ==== Sys2Proof/Machine/Lane.lean ====
section
/-!
DEFINITION. Machine/Lane.lean: lane groups, block lock, reference clocks and start-up (R34, R560, R561, R571, R579), and the DRAM
interface (R564, R565, R581).
-/

namespace Sys2Proof.Machine

/-! ### Lane groups -/

/-- The device has lane group `g`: 40 in the 32 grade, 20 in the 16 grade (R1, R31). -/
def State.hasGroup (s : State) (g : Nat) : Bool := decide (g < if s.get Fl.GLB_DEVICE_ID_GRADE = 1 then 20 else 40)

/-- A group stops and is trained again (R34, R561): under AUTO each lane starts with KR. -/
def State.retrain (s : State) (g : Nat) : State :=
  let s := { s with lane := { s.lane with sfi := s.lane.sfi.filter fun l => l / 8 != g } }
  ((s.putFlag (Fl.LANE_GRP_STATUS_TRAINED g) false).putFlag (Fl.LANE_GRP_STATUS_CHANGING g)
    (s.get (Fl.LANE_GRP_STATUS_ROLE g) != 0)).put (Fl.LANE_ELEC_CFG_ACTUAL g) 0

/-- A lane group leaves the fronthaul: what its lanes showed of their sub-frames reads as at reset (R115). -/
def State.leaveFronthaul (s : State) (g : Nat) : State :=
  (List.range 8).foldl (fun s i =>
    let l := 8 * g + i
    ({ s with eav := { s.eav with lanes := FMap.erase s.eav.lanes l } }).setWord (Reg.EAV_LANE_STATUS l) (resetWord (Reg.EAV_LANE_STATUS l))) s

/-- Roles of the plan in force reach the lane groups: a group whose role changes stops and is trained in its new role, the
others carry on (R31, R34). -/
def State.laneRoles (s : State) (roles : List (Nat × Nat)) : State :=
  (List.range 40).foldl (fun s g =>
    let r := (roles.getD g (0, 0)).1
    if s.get (Fl.LANE_GRP_STATUS_ROLE g) = r then s
    else
      let s := if s.get (Fl.LANE_GRP_STATUS_ROLE g) = 1 then s.leaveFronthaul g else s
      let s := (s.put (Fl.LANE_GRP_STATUS_ROLE g) r).retrain g
      if r = 0 then s.put (Fl.LANE_GRP_STATUS_LANE_UP g) 0 else s) s

/-- LANE_GROUP_TRAINED: a group completes training; `kr` tells which interface runs under AUTO. The hubs of a media group are absent no
longer (R34). -/
def laneGroupTrainedEffect (group : Fin 40) (kr : Bool) (s : State) : State :=
  let g := group.val
  if s.get (Fl.LANE_GRP_STATUS_ROLE g) = 0 ∨ s.flag (Fl.LANE_GRP_STATUS_TRAINED g) = true then s
  else
    let mode := s.get (Fl.LANE_ELEC_CFG_MODE g)
    let s := (s.putFlag (Fl.LANE_GRP_STATUS_TRAINED g) true).putFlag (Fl.LANE_GRP_STATUS_CHANGING g) false
    ((s.put (Fl.LANE_ELEC_CFG_ACTUAL g) (if mode = 0 then (if kr then 1 else 2) else mode)).raise 16 (le 1 g)).hubPresence

/-- LANE_TRAIN_TIMEOUT: a group is not trained within 100 ms. -/
def laneTrainTimeoutEffect (group : Fin 40) (s : State) : State :=
  let g := group.val
  if s.get (Fl.LANE_GRP_STATUS_ROLE g) = 0 ∨ s.flag (Fl.LANE_GRP_STATUS_TRAINED g) = true then s else s.raise 17 (le 1 g)

/-- The Ethernet port of a lane (R374). -/
def State.portOfLane (s : State) (l : Nat) : Option Nat := (List.range 16).find? fun p => s.ethernetLane p == some l

/-- BLOCK_LOCK_CHANGE: a lane loses or regains PCS block lock, enters hi_ber, or reports errored blocks. -/
def blockLockChangeEffect (lane : Fin 320) (lock hiBer : Bool) (errored : BitVec 32) (s : State) : State :=
  let l := lane.val
  let g := l / 8
  let up := s.get (Fl.LANE_GRP_STATUS_LANE_UP g)
  let had := bitOf (l % 8) up
  if !s.hasGroup g then s else
  let s := if errored = 0 then s else s.bumpBy Fl.LANE_ERR_BLOCK_COUNT_COUNT errored.toNat
  let s := if !hiBer then s else
    let s := s.bump Fl.LANE_HI_BER_COUNT_COUNT
    if FMap.get 0 s.lane.hiBer l = s.second + 1 then s
    else ({ s with lane := { s.lane with hiBer := FMap.set 0 s.lane.hiBer l (s.second + 1) } }).raise 20 (le 2 l)
  if had = lock then s
  else
    let s := s.put (Fl.LANE_GRP_STATUS_LANE_UP g) (if lock then up + 2 ^ (l % 8) else up - 2 ^ (l % 8))
    if s.get (Fl.LANE_GRP_STATUS_ROLE g) = 0 then s
    else
      let s := s.raise (if lock then 19 else 18) (le 2 l)
      match s.portOfLane l with
      | some p => s.raise 24 (le 1 p ++ le 1 (b2n lock))
      | none => s

/-- REFCLK_CHANGE: LREFCLK k serves groups 8k to 8k + 7; a clock that serves no group of the device is not connected (R1, R548). -/
def refclkChangeEffect (clock : Fin 5) (ok : Bool) (s : State) : State :=
  let g := 8 * clock.val
  if !s.hasGroup g ∨ s.flag (Fl.LANE_GRP_STATUS_REFCLK_OK g) = ok then s
  else
    ((List.range 8).foldl (fun s i => if s.hasGroup (g + i) then s.putFlag (Fl.LANE_GRP_STATUS_REFCLK_OK (g + i)) ok else s) s).raise
      (if ok then 22 else 21) (le 1 clock.val)

/-- KR_TRAINING_TIMEOUT: no training frame arrives in 500 ms, so under AUTO the lane runs SFI. -/
def krTrainingTimeoutEffect (lane : Fin 320) (s : State) : State :=
  let l := lane.val
  let g := l / 8
  let mode := s.get (Fl.LANE_ELEC_CFG_MODE g)
  if s.get (Fl.LANE_GRP_STATUS_ROLE g) = 0 ∨ mode = 2 ∨ s.lane.sfi.contains l = true then s
  else
    let s := s.raise 23 (le 2 l)
    if mode = 0 then
      ({ s with lane := { s.lane with sfi := l :: s.lane.sfi } }).put (Fl.LANE_ELEC_CFG_ACTUAL g) 2
    else s

/-- KR_RETRY: under AUTO a lane that runs SFI and has been without block lock for 1 s tries KR again. -/
def krRetryEffect (lane : Fin 320) (s : State) : State :=
  let l := lane.val
  let g := l / 8
  if s.get (Fl.LANE_ELEC_CFG_MODE g) ≠ 0 ∨ s.lane.sfi.contains l = false
      ∨ bitOf (l % 8) (s.get (Fl.LANE_GRP_STATUS_LANE_UP g)) = true then s
  else
    ({ s with lane := { s.lane with sfi := s.lane.sfi.filter (· != l) } }).put (Fl.LANE_ELEC_CFG_ACTUAL g) 1

/-! ### DRAM -/

/-- PATROL_SCRUB (R565). -/
def patrolScrubEffect (error : Option DdrError) (s : State) : State :=
  match error with
  | none => s
  | some e =>
    let s := ((((s.putFlag Fl.DDR_ECC_LAST_UE e.uncorrectable).put Fl.DDR_ECC_LAST_DEVICE e.device.val).put Fl.DDR_ECC_LAST_RANK
      e.rank.val).put Fl.DDR_ECC_LAST_SUBCH e.subchannel.val).put Fl.DDR_ECC_LAST_CHANNEL e.channel.val
    if e.uncorrectable then
      (s.bump Fl.DDR_ECC_UE_COUNT_COUNT).raise 627 (le 1 e.channel.val ++ le 1 e.subchannel.val)
    else
      let s := s.bump Fl.DDR_ECC_CE_COUNT_COUNT
      if s.lane.ceSecond = s.second + 1 then s
      else ({ s with lane := { s.lane with ceSecond := s.second + 1 } }).raise 626 (le 1 e.channel.val)

/-- DDR_DEVICE_HOT: the refresh interval of the channel's device is halved (R581). -/
def ddrDeviceHotEffect (channel : Fin 4) (s : State) : State :=
  ({ s with lane := { s.lane with
    hotChannels := if s.lane.hotChannels.contains channel.val then s.lane.hotChannels else channel.val :: s.lane.hotChannels } }).raise
    628 (le 1 channel.val)

def execLaneGroupTrained (group : Fin 40) (kr : Bool) (s : State) : Answer := .next (laneGroupTrainedEffect group kr s)
def execLaneTrainTimeout (group : Fin 40) (s : State) : Answer := .next (laneTrainTimeoutEffect group s)
def execRefclkChange (clock : Fin 5) (ok : Bool) (s : State) : Answer := .next (refclkChangeEffect clock ok s)
def execKrTrainingTimeout (lane : Fin 320) (s : State) : Answer := .next (krTrainingTimeoutEffect lane s)
def execKrRetry (lane : Fin 320) (s : State) : Answer := .next (krRetryEffect lane s)
def execPatrolScrub (error : Option DdrError) (s : State) : Answer := .next (patrolScrubEffect error s)
def execDdrDeviceHot (channel : Fin 4) (s : State) : Answer := .next (ddrDeviceHotEffect channel s)

end Sys2Proof.Machine
end

