-- ==== Sys2Proof/Machine/Rec.lean ====
section
/-!
DEFINITION. Machine/Rec.lean: the record engine (chapter 7): yelms, validation, tariff calendars, registers, prepayment, relay
feedback, delivery of tiles, the staging bound, image pushes.
-/

namespace Sys2Proof.Machine

/-! ### Form of a yelm (R217 to R220) -/

/-- An A-XDR length: its value and the rest. A length in a longer form than it needs is malformed. -/
def axdr (bs : Octets) : Option (Nat × Octets) :=
  match bs with
  | [] => none
  | b :: l =>
    if b.toNat < 128 then some (b.toNat, l)
    else if b = 0x81 then (if l.length < 1 ∨ beAt l 0 1 < 128 then none else some (beAt l 0 1, l.drop 1))
    else if b = 0x82 then (if l.length < 2 ∨ beAt l 0 2 < 256 then none else some (beAt l 0 2, l.drop 2))
    else none

/-- A FULL entry's body (Table 7.3). -/
def fullEntry (b : Octets) : Reading :=
  { eImp := beAt b 0 4, eExp := beAt b 4 4, qImp := beAt b 8 4, qExp := beAt b 12 4, v1 := beAt b 16 2, v2 := beAt b 18 2,
    v3 := beAt b 20 2, i1 := beAt b 22 2, i2 := beAt b 24 2, i3 := beAt b 26 2, iN := beAt b 28 2, freq := beAt b 30 2,
    p := signed 32 (beAt b 32 4), status := beAt b 36 2 }

/-- A voltage or current field plus a delta: a field that reads FFFFh does not change, and none reaches FFFFh (R220). -/
def addVI (v : Nat) (d : Int) : Option Nat :=
  if v = 0xFFFF then (if d = 0 then some v else none)
  else if 0 ≤ (v : Int) + d ∧ (v : Int) + d < 0xFFFF then some ((v : Int) + d).toNat else none

/-- A DELTA entry's body applied to the previous second (R220, Table 7.3). -/
def deltaEntry (r : Reading) (b : Octets) : Option Reading := do
  let d1 := fun o => signed 8 (beAt b o 1)
  let d2 := fun o => signed 16 (beAt b o 2)
  let v1 ← addVI r.v1 (d1 4)
  let v2 ← addVI r.v2 (d1 5)
  let v3 ← addVI r.v3 (d1 6)
  let i1 ← addVI r.i1 (d2 7)
  let i2 ← addVI r.i2 (d2 9)
  let i3 ← addVI r.i3 (d2 11)
  let iN ← addVI r.iN (d2 13)
  let f := (r.freq : Int) + d1 15
  let p := r.p + d2 16
  if f < 0 ∨ 0xFFFF < f ∨ p < -(2 ^ 31 : Nat) ∨ (2 ^ 31 : Nat) ≤ p ∨ (r.freq = 0xFFFF ∧ d1 15 ≠ 0) then none
  else some { r with
    eImp := (r.eImp + beAt b 0 1) % 2 ^ 32, eExp := (r.eExp + beAt b 1 1) % 2 ^ 32, qImp := (r.qImp + beAt b 2 1) % 2 ^ 32,
    qExp := (r.qExp + beAt b 3 1) % 2 ^ 32, v1 := v1, v2 := v2, v3 := v3, i1 := i1, i2 := i2, i3 := i3, iN := iN,
    freq := f.toNat, p := p }

/-- `n` second entries; `prev` is the previous second, none where a DELTA may not follow. Answers the entries and the rest. -/
def entries : Nat → Option Reading → Octets → Option (List (Option Reading) × Octets)
  | 0, _, bs => some ([], bs)
  | n + 1, prev, bs => do
    let form := beAt bs 0 1
    let body := bs.drop 1
    if bs.isEmpty then none
    else if form = 1 then
      if body.length < 38 then none
      else
        let r := fullEntry body
        let (l, rest) ← entries n (some r) (body.drop 38)
        some (some r :: l, rest)
    else if form = 2 then
      if body.length < 18 then none
      else
        let p ← prev
        let r ← deltaEntry p body
        let (l, rest) ← entries n (some r) (body.drop 18)
        some (some r :: l, rest)
    else if form = 3 then
      let (l, rest) ← entries n none body
      some (none :: l, rest)
    else none

/-- A yelm (Table 7.2). -/
structure Yelm where
  flags : Nat
  seq : Nat
  eui : Nat
  block : Nat
  seconds : List (Option Reading)
  tagged : Octets
  tag : Octets
deriving DecidableEq, Repr

/-- The yelm payload of an upper-layer payload that matches Table 7.1 (R217, R219, R220). -/
def yelmOf (payload : Octets) : Option Yelm := do
  let body ← yelmBody payload
  let (outer, r1) ← axdr body
  let (l, p) ← axdr r1
  if outer ≠ l + (r1.length - p.length) ∨ p.length ≠ l ∨ l < 40 ∨ 648 < l then none
  else if beAt p 0 1 ≠ 1 ∨ 4 ≤ beAt p 1 1 then none
  else
    let (secs, rest) ← entries 16 none ((p.take (l - 8)).drop 16)
    if rest.isEmpty then some ⟨beAt p 1 1, beAt p 2 2, beAt p 4 8, beAt p 12 4, secs, p.take (l - 8), p.drop (l - 8)⟩ else none

/-! ### Tariff images and the tariff of a second (R233 to R235) -/

/-- A calendar version (Table 7.10). -/
def calVersionOf (b : Octets) : CalVersion :=
  { versionId := leAt b 0 4, weekday0 := leAt b 4 1, lowThr := leAt b 8 4, emerg := leAt b 12 4, recon := leAt b 16 4
    seasons := ((recordsOf 8 8 (slice b 32 64)).filter fun e => leAt e 0 4 != 0xFFFFFFFF).map fun e => (leAt e 0 4, leAt e 4 1)
    weeks := (recordsOf 8 8 (slice b 96 64)).map fun e => (List.range 7).map fun k => leAt e k 1
    days := (recordsOf 48 16 (slice b 160 768)).map fun d =>
      ((recordsOf 4 12 d).filter fun e => leAt e 0 2 != 0xFFFF).map fun e => ⟨leAt e 0 2, leAt e 2 1, bitOf 0 (leAt e 3 1)⟩
    special := ((recordsOf 8 32 (slice b 928 256)).filter fun e => leAt e 0 4 != 0xFFFFFFFF).map fun e => (leAt e 0 4, leAt e 4 1)
    offsets := ((recordsOf 16 16 (slice b 1184 256)).filter fun e => leAt e 0 8 != 2 ^ 64 - 1).map
      fun e => (leAt e 0 8, signed 16 (leAt e 8 2))
    prices := (List.range 16).map fun k => leAt b (1440 + 4 * k) 4 }

/-- Used entries come first: after an unused one there is no used one. -/
def usedFirst (used : List Bool) : Bool := (used.dropWhile id).all (!·)

/-- No number twice. -/
def distinct : List Nat → Bool
  | [] => true
  | a :: l => !l.contains a && distinct l

/-- Every field of a held calendar version obeys Table 7.10 (R234). -/
def calVersionOk (b : Octets) : Bool :=
  let v := calVersionOf b
  let seasons := recordsOf 8 8 (slice b 32 64)
  let points := (recordsOf 48 16 (slice b 160 768)).map fun d => recordsOf 4 12 d
  let special := recordsOf 8 32 (slice b 928 256)
  let offsets := recordsOf 16 16 (slice b 1184 256)
  decide (v.weekday0 ≤ 6) && allZero (slice b 5 3) && decide (v.lowThr < 2 ^ 31) && decide (v.emerg < 2 ^ 31)
    && decide (v.recon < 2 ^ 31) && allZero (slice b 20 12)
    && (seasons.all fun e => leAt e 0 4 == 0xFFFFFFFF || (decide (leAt e 4 1 ≤ 7) && allZero (slice e 5 3)))
    && usedFirst (seasons.map fun e => leAt e 0 4 != 0xFFFFFFFF) && rising (v.seasons.map (·.1)) && !v.seasons.isEmpty
    && ((recordsOf 8 8 (slice b 96 64)).all fun e => ((List.range 7).all fun k => decide (leAt e k 1 ≤ 15)) && leAt e 7 1 == 0)
    && (points.all fun ps =>
        (ps.all fun e => leAt e 0 2 == 0xFFFF
          || (decide (leAt e 0 2 ≤ 1439) && decide (leAt e 2 1 ≤ 15) && decide (leAt e 3 1 ≤ 1)))
        && usedFirst (ps.map fun e => leAt e 0 2 != 0xFFFF) && leAt (ps.getD 0 []) 0 2 == 0
        && rising ((ps.filter fun e => leAt e 0 2 != 0xFFFF).map fun e => leAt e 0 2))
    && (special.all fun e => leAt e 0 4 == 0xFFFFFFFF || (decide (leAt e 4 1 ≤ 15) && allZero (slice e 5 3)))
    && distinct (v.special.map (·.1))
    && (offsets.all fun e => leAt e 0 8 == 2 ^ 64 - 1
        || (decide ((signed 16 (leAt e 8 2)).natAbs ≤ 900) && allZero (slice e 10 6)))
    && usedFirst (offsets.map fun e => leAt e 0 8 != 2 ^ 64 - 1) && rising (v.offsets.map (·.1))

/-- A calendar record (Table 7.9). -/
def calendarOf (b : Octets) : Calendar :=
  ⟨leAt b 0 1, calVersionOf (slice b 16 1504), if leAt b 1 1 = 1 then some (leAt b 8 8, calVersionOf (slice b 1520 1504)) else none⟩

/-- A calendar record obeys Table 7.9. -/
def calendarOk (b : Octets) : Bool :=
  decide (leAt b 0 1 ≤ 63) && decide (leAt b 1 1 ≤ 1) && allZero (slice b 2 6) && calVersionOk (slice b 16 1504)
    && (if leAt b 1 1 = 1 then calVersionOk (slice b 1520 1504) else allZero (slice b 8 8) && allZero (slice b 1520 1504))

/-- A run record (Table 7.9). -/
def runOf (b : Octets) : MeterRun := ⟨leAt b 0 4, bitsOf 20 0 (leAt b 4 4), bitsOf 26 21 (leAt b 4 4), bitOf 27 (leAt b 4 4)⟩

/-- A run record obeys Table 7.9. -/
def runOk (b : Octets) : Bool :=
  let r := runOf b
  decide (1 ≤ r.count) && decide (r.first < 1048576) && decide (r.first + r.count ≤ 1048576) && decide (leAt b 4 4 < 2 ^ 28)

/-- Runs ascend and do not overlap. -/
def runsApart : List MeterRun → Bool
  | a :: b :: l => decide (a.first + a.count ≤ b.first) && runsApart (b :: l)
  | _ => true

/-- A tariff image under an epoch: none where R234 answers ILLEGAL. -/
def tariffOf (epoch : Nat) (bs : Octets) : Option TariffTable :=
  let cals := leAt bs 8 2
  let runs := leAt bs 12 4
  if slice bs 0 4 != [0x54#8, 0x43#8, 0x41#8, 0x4C#8] || leAt bs 4 4 != epoch || decide (64 < cals) || leAt bs 10 2 != 0
      || decide (65536 < runs) || bs.length != 16 + 3024 * cals + 8 * runs then none
  else
    let cr := recordsOf 3024 cals (bs.drop 16)
    let rr := recordsOf 8 runs (bs.drop (16 + 3024 * cals))
    let t : TariffTable := { epoch := epoch, cals := cr.map calendarOf, runs := rr.map runOf }
    if cr.all calendarOk && rr.all runOk && rising (t.cals.map (·.cal)) && runsApart t.runs then some t else none

/-- TABLE_LOAD of kind 3 (R234): its status under the total 0Bh. -/
def tariffLoadStatus (epoch second maxCals : Nat) (bs : Octets) : Status :=
  match tariffOf epoch bs with
  | none => .illegal
  | some t =>
    if t.cals.any (fun c => match c.b with | some (a, _) => decide (a ≤ second) | none => false) ∨ maxCals < t.cals.length
    then .range else .ok

/-- The run that holds a meter index. -/
def TariffTable.run (t : TariffTable) (i : Nat) : Option MeterRun :=
  t.runs.find? fun r => decide (r.first ≤ i) && decide (i < r.first + r.count)

/-- The calendar of a meter index (Table 7.9). -/
def TariffTable.calendar (t : TariffTable) (i : Nat) : Option Calendar :=
  (t.run i).bind fun r => t.cals.find? fun c => c.cal == r.cal

/-- The meter's run has PREPAY 1. -/
def TariffTable.prepay (t : TariffTable) (i : Nat) : Bool := match t.run i with | some r => r.prepay | none => false

/-- The last element that satisfies `p`. -/
def lastWhere {α : Type} (p : α → Bool) (l : List α) : Option α := l.reverse.find? p

/-- The version of a calendar that applies at a second, and whether it is B (R235). -/
def Calendar.version (c : Calendar) (second : Nat) : CalVersion × Bool :=
  match c.b with
  | some (a, v) => if a ≤ second then (v, true) else (c.a, false)
  | none => (c.a, false)

/-- Minutes to add to a second, and the tariff point of that second (R235). -/
def CalVersion.point (v : CalVersion) (second : Nat) : Option SwitchPoint :=
  let off := match lastWhere (fun (e : Nat × Int) => decide (e.1 ≤ second)) v.offsets with | some e => e.2 | none => 0
  let l : Int := second + 60 * off
  let day := l / 86400
  let minute := (l % 86400).toNat / 60
  let profile : Option Nat :=
    match v.special.find? fun e => (e.1 : Int) == day with
    | some e => some e.2
    | none => (lastWhere (fun (e : Nat × Nat) => decide ((e.1 : Int) ≤ day)) v.seasons).map fun e =>
        (v.weeks.getD e.2 []).getD ((day + (v.weekday0 : Nat)) % 7).toNat 0
  profile.bind fun d => lastWhere (fun p => decide (p.minute ≤ minute)) (v.days.getD d [])

/-- What the tariff table says of a meter and second: the calendar, the version with its B mark, the switch point. -/
def TariffTable.lookup (t : TariffTable) (i second : Nat) : Option (Calendar × CalVersion × Bool × Option SwitchPoint) :=
  (t.calendar i).map fun c => let v := c.version second; (c, v.1, v.2, v.1.point second)

/-- The TARIFF and CAL octets of a tile (Table 7.4, R239). -/
def tariffOctets (x : Option (Calendar × CalVersion × Bool × Option SwitchPoint)) : Nat × Nat :=
  match x with
  | none => (0x80, 0x80)
  | some (c, _, b, none) => (0x80, c.cal + 64 * b2n b)
  | some (c, _, b, some p) => (p.tariff + 16 * b2n p.friendly, c.cal + 64 * b2n b)

/-! ### Gaps (R228) -/

/-- What a block is to a meter: the gap ranges after it, whether it is NEW, whether tile 0 follows a gap, whether a range was
discarded; none for a DUPLICATE. -/
structure BlockClass where
  isNew : Bool
  gaps : List (Nat × Nat)
  gapBefore : Bool
  lost : Bool
deriving DecidableEq, Repr

/-- Gap ranges in ascending START. -/
def sortGaps (l : List (Nat × Nat)) : List (Nat × Nat) :=
  l.foldl (fun acc g => (acc.takeWhile fun x => decide (x.1 ≤ g.1)) ++ g :: (acc.dropWhile fun x => decide (x.1 ≤ g.1))) []

/-- Keeps at most two ranges: those with the highest START (R228). -/
def keepTwo (isNew gapBefore : Bool) (l : List (Nat × Nat)) : BlockClass :=
  let l := sortGaps l
  ⟨isNew, l.drop (l.length - 2), gapBefore, decide (2 < l.length)⟩

/-- The classification of a block (R228). -/
def RecArea.classify (a : RecArea) (block : Nat) : Option BlockClass :=
  let gaps := [a.gap0, a.gap1].filter fun g => g.2 != 0
  if a.lastBlock = 0 ∨ a.lastBlock < block then
    if a.lastBlock ≠ 0 ∧ a.lastBlock + 1 < block then
      some (keepTwo true true (gaps ++ [(a.lastBlock + 1, min (block - a.lastBlock - 1) 0xFFFF)]))
    else some (keepTwo true false gaps)
  else match gaps.find? fun g => decide (g.1 ≤ block) && decide (block < g.1 + g.2) with
    | none => none
    | some g =>
      let parts := [(g.1, block - g.1), (block + 1, g.1 + g.2 - block - 1)].filter fun p => p.2 != 0
      some (keepTwo false false (gaps.erase g ++ parts))

/-! ### Prepayment (R241, R242) -/

/-- The band of a credit value as a state code of Table 7.12 (R241). -/
def creditBand (low emerg : Nat) (credit : Int) : Nat :=
  if (low : Int) < credit then 1 else if 0 < credit then 2 else if -(emerg : Int) < credit then 3 else 4

/-- Triggers of Table 7.11. A billed tile and a top-up carry FRIENDLY of their second. -/
inductive PrepayTrigger where
  | tile (friendly : Bool)
  | topup (friendly : Bool)
  | disconnected (acked : Bool)
  | reconnected (acked : Bool)
deriving DecidableEq, Repr

/-- What a test of Table 7.11 gives: the area, the events raised, the request made (1 disconnect, 2 reconnect, 0 none). -/
structure PrepayOut where
  area : RecArea
  events : List Nat
  request : Nat
deriving DecidableEq, Repr

/-- The row of an EXHAUSTED meter with a billed tile. -/
def exhaustedTile (a : RecArea) (friendly : Bool) (events : List Nat) : PrepayOut :=
  if a.reqOut || friendly then ⟨a, events, 0⟩ else ⟨{ a with reqOut := true }, events ++ [260], 1⟩

/-- The row of CREDIT, LOW and EMERGENCY: the state follows the band `b`. An entry into EXHAUSTED also applies the EXHAUSTED
billed-tile row in the same evaluation (R242). -/
def RecArea.moveBand (a : RecArea) (b : Nat) (friendly : Bool) : PrepayOut :=
  let moved := { a with prepay := b }
  if b = a.prepay then ⟨a, [], 0⟩
  else if b = 4 then exhaustedTile moved friendly []
  else ⟨moved, if b = 2 then [258] else if b = 3 then [259] else [], 0⟩

/-- The rows of Table 7.11 for a trigger, in order (R242). -/
def prepayStep (low emerg recon : Nat) (t : PrepayTrigger) (a : RecArea) : PrepayOut :=
  let b := creditBand low emerg a.credit
  match t with
  | .tile friendly =>
    if 1 ≤ a.prepay ∧ a.prepay ≤ 3 then a.moveBand b friendly
    else if a.prepay = 4 then exhaustedTile a friendly []
    else if a.prepay = 5 ∧ !a.reqOut ∧ (recon : Int) ≤ a.credit then ⟨{ a with prepay := 6, reqOut := true }, [262], 2⟩
    else ⟨a, [], 0⟩
  | .topup friendly =>
    if 1 ≤ a.prepay ∧ a.prepay ≤ 3 then a.moveBand b friendly
    else if a.prepay = 4 ∧ !a.reqOut ∧ b ≠ 4 then ⟨{ a with prepay := b }, [], 0⟩
    else if a.prepay = 5 ∧ !a.reqOut ∧ (recon : Int) ≤ a.credit then ⟨{ a with prepay := 6, reqOut := true }, [262], 2⟩
    else ⟨a, [], 0⟩
  | .disconnected acked =>
    let a := { a with reqOut := false }
    if a.prepay ≠ 4 then ⟨a, [], 0⟩
    else if acked then ⟨{ a with prepay := 5, expect := 1 }, [261], 0⟩
    else ⟨{ a with prepay := b }, [264], 0⟩
  | .reconnected acked =>
    let a := { a with reqOut := false }
    if a.prepay ≠ 6 then ⟨a, [], 0⟩
    else if acked then ⟨{ a with prepay := if b = 4 then 3 else b, expect := 0 }, [263], 0⟩
    else ⟨{ a with prepay := 5 }, [264], 0⟩

/-- The thresholds LOW_THR, EMERG and RECON of a version; 0 without a calendar. -/
def thresholds (v : Option CalVersion) : Nat × Nat × Nat :=
  match v with | some v => (v.lowThr, v.emerg, v.recon) | none => (0, 0, 0)

/-- The version in force now for a meter. -/
def State.versionNow (s : State) (i : Nat) : Option CalVersion := (s.bill.tariff.calendar i).map fun c => (c.version s.second).1

/-- The current second is FRIENDLY for a meter. A top-up judges the EXHAUSTED row by it (R242); without a tariff point it is not
friendly. DESIGN CHOICE (log entry 137). -/
def State.friendlyNow (s : State) (i : Nat) : Bool :=
  match s.bill.tariff.lookup i s.second with | some (_, _, _, some p) => p.friendly | _ => false

/-- REC profile 01h, validate only. -/
def State.validateOnly (s : State) : Bool := s.get (Fl.PROFILE_PROFILE 7) == 1

/-- Raises the events of a meter and hands its request to the safety function (R244, R251). -/
def State.prepayEffects (s : State) (i : Nat) (o : PrepayOut) : State :=
  let s := o.events.foldl (fun s e => s.raise e (le 4 i)) s
  if o.request = 0 then s
  else { s with bill := { s.bill with requests := s.bill.requests ++ [(i, o.request)] } }

/-- Changes the record area of a meter. -/
def State.modRec (s : State) (i : Nat) (f : RecArea → RecArea) : State := s.modMeter i fun m => { m with bill := f m.bill }

/-- The first two rows of Table 7.11 at a commit. -/
def State.prepayCommit (s : State) : State :=
  if s.validateOnly then s else
  s.meters.foldl (fun s p =>
    let i := p.1
    let a := p.2.bill
    let on := s.bill.tariff.prepay i
    if !on && a.prepay != 0 then s.modRec i fun a => { a with prepay := 0 }
    else if on && a.prepay == 0 then
      let t := thresholds (s.versionNow i)
      s.modRec i fun a => { a with prepay := creditBand t.1 t.2.1 a.credit }
    else s) s

/-! ### Staging and delivery (R246, R247, R295) -/

/-- The bound of tile staging (R295): REC_STAGING.FULL follows it, and REC_STAGING_FULL is raised when it is reached. -/
def State.stagingUpdate (s : State) : State :=
  let held := s.arc.staging
  let n := held.length
  let age := match held with | [] => 0 | r :: _ => s.now - r.at'
  let full := s.flag Fl.REC_STAGING_FULL
  if !full && (decide (300000000000 ≤ age) || decide (314572800 ≤ n)) then (s.putFlag Fl.REC_STAGING_FULL true).raise 267
  else if full && decide (age < 270000000000) && decide (10 * n ≤ 9 * 314572800) then s.putFlag Fl.REC_STAGING_FULL false
  else s

/-- A finished tile is posted, staged and delivered (R246, R247, R256). -/
def State.handOn (s : State) (t : Tile) (isNew : Bool) : State :=
  let s := s.stagingUpdate
  let full := s.flag Fl.REC_STAGING_FULL
  let t := if full then { t with flags := t.flags + 2 ^ 15 } else t
  let s := (s.post t isNew).note 1 t.octets
  let s := if full then s.bump Fl.REC_UNARCHIVED_COUNT_COUNT else s.stage t.second t.octets
  if !s.flag Fl.REC_DELIVERY_EN || (s.flag Fl.REC_DELIVERY_FILTER && t.flags == 0) then s else
  let ring := s.get Fl.REC_DELIVERY_FIRST_RING + t.meter % max 1 (s.get Fl.REC_DELIVERY_RINGS)
  let (ok, s) := s.deliverTile (s.get Fl.REC_DELIVERY_FUNC) ring t.octets
  if ok then s else s.bump Fl.REC_RING_DROP_COUNT_COUNT

/-! ### Tiles of a yelm (R229, R230, R238, R239, R245) -/

/-- What stays the same over the tiles of a yelm. `base` holds the flags of every tile. -/
structure YelmCtx where
  index : Nat
  isNew : Bool
  gapBefore : Bool
  clock : Bool
  seq : Nat
  base : Nat
  res : Nat
  maxDelta : Nat
  vMin : Nat
  vMax : Nat
  persist : Nat
  validateOnly : Bool
  table : Option TariffTable
  lastSecond : Nat
deriving DecidableEq, Repr

/-- What the tiles of a yelm build up: the area, the previous tile's reading and second where it is a reference, the readings
of the last tile with data, the tiles done, the events raised, the requests. -/
structure YelmAcc where
  area : RecArea
  chained : Option Nat
  last : Option (Reading × Nat)
  tiles : List Tile
  events : List Nat
  jumped : Bool
  requests : List Nat
  noTariff : Bool
deriving DecidableEq, Repr

/-- The signed 32-bit difference of two cumulative readings. -/
def diff32 (x y : Nat) : Int := signed 32 ((x + 2 ^ 32 - y % 2 ^ 32) % 2 ^ 32)

/-- Adds the increments of a billed tile to the registers (R238): the area, the import increment, the number of registers that
wrapped (one event each). -/
def RecArea.register (a : RecArea) (res tariff dImp dExp : Nat) : RecArea × Nat × Nat :=
  let step := fun (regs : FMap Nat) (r inc : Nat) =>
    let v := FMap.get 0 regs r + inc
    (FMap.set 0 regs r (v % 2 ^ 20), decide (2 ^ 20 ≤ v))
  let x := a.remImp + dImp
  let y := a.remExp + dExp
  let (regs, w1) := step a.regs (2 * tariff) (x / res)
  let (regs, w2) := step regs (2 * tariff + 1) (y / res)
  ({ a with regs := regs, remImp := x % res, remExp := y % res, wrapped := a.wrapped || w1 || w2 }, x / res, b2n w1 + b2n w2)

/-- Relay feedback of a tile (R245): the area, whether the tile carries RELAY_MISMATCH, the event raised. -/
def RecArea.relay (a : RecArea) (status persist : Nat) : RecArea × Bool × List Nat :=
  let report := status % 4
  if report = 3 ∨ 2 ≤ a.expect then (a, false, [])
  else if (a.expect = 0 ∧ report ≠ 1) ∨ (a.expect = 1 ∧ report = 1) then
    ({ a with misCount := 0, mismatch := false }, false, if a.mismatch then [266] else [])
  else
    let n := min (a.misCount + 1) 63
    let reached := !a.mismatch && decide (persist ≤ n)
    ({ a with misCount := n, mismatch := a.mismatch || reached }, a.mismatch || reached, if reached then [265] else [])

/-- V_LOW and V_HIGH of a reading. -/
def voltFlags (r : Reading) (vMin vMax : Nat) : Nat :=
  (if r.voltages.any fun v => decide (v < vMin) then 2 ^ 9 else 0) + (if r.voltages.any fun v => decide (vMax < v) then 2 ^ 10 else 0)

/-- No calendar or no tariff applies to the meter at a second (bit 12 of Table 7.6). -/
def YelmCtx.noTariff (c : YelmCtx) (second : Nat) : Bool :=
  match c.table.bind fun t => t.lookup c.index second with | some (_, _, _, some _) => false | _ => true

/-- One MISSING entry. -/
def YelmAcc.missing (x : YelmAcc) (c : YelmCtx) (second k : Nat) : YelmAcc :=
  let none' := c.noTariff second
  let flags := c.base + 1 + 2 ^ 11 + 2 ^ 12 * b2n none' + (if k = 0 && c.gapBefore then 2 else 0)
  { x with
    tiles := x.tiles ++ [⟨second, c.index, flags, {}, 0x80, 0x80, c.seq, 0, 0⟩], chained := none
    noTariff := x.noTariff || none' }

/-- Delta limit of a tile: MAX_DELTA × n. -/
def overRate (maxDelta n : Nat) (dImp dExp : Int) : Bool := decide ((maxDelta * n : Nat) < dImp) || decide ((maxDelta * n : Nat) < dExp)

/-- Any cumulative reading below its reference. -/
def goesBack (r : Reading) (e x q w : Nat) : Bool :=
  decide (diff32 r.eImp e < 0) || decide (diff32 r.eExp x < 0) || decide (diff32 r.qImp q < 0) || decide (diff32 r.qExp w < 0)

/-- One entry with data of a BACKFILL yelm (R229): checked against the tile with data before it. -/
def YelmAcc.backfill (x : YelmAcc) (c : YelmCtx) (second : Nat) (r : Reading) : YelmAcc :=
  let checks := match x.last with
    | none => 0
    | some (p, t) =>
      64 * b2n (goesBack r p.eImp p.eExp p.qImp p.qExp)
        + 256 * b2n (overRate c.maxDelta (second - t) (diff32 r.eImp p.eImp) (diff32 r.eExp p.eExp))
  let l := c.table.bind fun t => t.lookup c.index second
  let none' := c.noTariff second
  let flags := c.base + 32 * b2n c.clock + voltFlags r c.vMin c.vMax + checks + 2 ^ 11 + 2 ^ 12 * b2n none'
  { x with
    tiles := x.tiles ++ [⟨second, c.index, flags, r, (tariffOctets l).1, (tariffOctets l).2, c.seq, 0, 0⟩]
    last := some (r, second), noTariff := x.noTariff || none' }

/-- TOT takes a tile's readings. -/
def RecArea.adopt (a : RecArea) (r : Reading) : RecArea := { a with eImp := r.eImp, eExp := r.eExp, qImp := r.qImp, qExp := r.qExp }

/-- One entry with data of a NEW yelm (R229, R230, R238 to R242, R245). -/
def YelmAcc.fresh (x : YelmAcc) (c : YelmCtx) (second k : Nat) (r : Reading) : YelmAcc :=
  let a := x.area
  let back := goesBack r a.eImp a.eExp a.qImp a.qExp
  let dImp := diff32 r.eImp a.eImp
  let dExp := diff32 r.eExp a.eExp
  let beyond := overRate c.maxDelta (second - x.chained.getD c.lastSecond) dImp dExp
  let l := c.table.bind fun t => t.lookup c.index second
  let none' := c.noTariff second
  let base := c.base + (if k = 0 && c.gapBefore then 2 else 0) + 32 * b2n c.clock + voltFlags r c.vMin c.vMax
    + 64 * b2n back + 256 * b2n beyond + 2 ^ 12 * b2n none'
  let resync := back && decide (16 ≤ a.nonMonoRun + 1)
  let jump := !back && beyond
  let bills := !back && !beyond && !none' && !c.validateOnly
  let events := (if back && a.nonMonoRun == 0 then [254] else []) ++ (if resync then [255] else [])
    ++ (if jump && !x.jumped then [256] else [])
  let a := if resync then { a.adopt r with nonMonoRun := 0 }
    else if back then { a with nonMonoRun := a.nonMonoRun + 1 }
    else if jump then a.adopt r
    else { a.adopt r with nonMonoRun := 0 }
  let (a, wrap, more, request) := match bills, l with
    | true, some (_, v, _, some p) =>
      let (a, inc, wraps) := a.register c.res p.tariff dImp.toNat dExp.toNat
      let on := match c.table with | some t => t.prepay c.index | none => false
      let o : PrepayOut := if !on then ⟨a, [], 0⟩ else
        let a := { a with credit := max (a.credit - ((inc * v.prices.getD p.tariff 0 : Nat) : Int)) (-(2 ^ 31 : Nat)) }
        prepayStep v.lowThr v.emerg v.recon (.tile p.friendly) a
      (o.area, decide (0 < wraps), List.replicate wraps 257 ++ o.events, o.request)
    | _, _ => (a, false, [], 0)
  let (a, mis, relay) := a.relay r.status c.persist
  let flags := base + 128 * b2n resync + 2 ^ 11 * b2n (!bills) + 2 ^ 13 * b2n wrap + 2 ^ 14 * b2n mis
  let d := fun (v : Int) => if back then 0 else v.toNat
  { area := a
    chained := if back && !resync then none else some second
    last := some (r, second)
    tiles := x.tiles ++ [⟨second, c.index, flags, r, (tariffOctets l).1, (tariffOctets l).2, c.seq, d dImp, d dExp⟩]
    events := x.events ++ events ++ more ++ relay
    jumped := x.jumped || jump
    requests := if request = 0 then x.requests else x.requests ++ [request]
    noTariff := x.noTariff || none' }

/-- One entry of a yelm. -/
def YelmAcc.entry (x : YelmAcc) (c : YelmCtx) (block k : Nat) (e : Option Reading) : YelmAcc :=
  let second := 16 * block + k
  match e with
  | none => x.missing c second k
  | some r => if c.isNew then x.fresh c second k r else x.backfill c second r

/-- RES of REC_BILL_CFG in Wh (R250). -/
def State.resolution (s : State) : Nat := 10 ^ s.get Fl.REC_BILL_CFG_RES

/-- Steps 8 to 12 of Table 7.7 for a yelm whose 16 tiles are validated (R225, R231). -/
def State.finishYelm (s : State) (y : YelmIn) (m : Yelm) (i : Nat) : State :=
  let a := (s.meterRec i).bill
  match a.classify m.block with
  | none => s.bump Fl.REC_DUP_COUNT_COUNT
  | some k =>
    let c : YelmCtx :=
      { index := i, isNew := k.isNew, gapBefore := k.gapBefore, clock := bitOf 1 m.flags, seq := m.seq
        base := 4 * b2n (!k.isNew) + 8 * b2n y.late + 16 * b2n y.clip
        res := s.resolution, maxDelta := s.get Fl.REC_PLAUS_CFG_MAX_DELTA, vMin := s.get Fl.REC_VOLT_WIN_V_MIN
        vMax := s.get Fl.REC_VOLT_WIN_V_MAX, persist := s.get Fl.REC_RELAY_CFG_PERSIST, validateOnly := s.validateOnly
        table := s.bill.billing, lastSecond := 16 * a.lastBlock + 15 }
    let x := ((List.range 16).zip m.seconds).foldl (fun (x : YelmAcc) p => x.entry c m.block p.1 p.2)
      ⟨a, none, none, [], [], false, [], false⟩
    let g0 := k.gaps.getD 0 (0, 0)
    let g1 := k.gaps.getD 1 (0, 0)
    let area := { x.area with lastSeq := m.seq, gap0 := g0, gap1 := g1, gapLost := x.area.gapLost || k.lost,
                              lastBlock := if k.isNew then m.block else x.area.lastBlock }
    let s := s.modRec i fun _ => area
    let s := x.events.foldl (fun s e => s.raise e (le 4 i)) s
    let s := if k.lost then s.raise 251 (le 4 i) else s
    let s := if x.noTariff && s.bill.noTariffSecond != s.second + 1 then
        ({ s with bill := { s.bill with noTariffSecond := s.second + 1 } }).raise 270 (le 4 i) else s
    let s := { s with bill := { s.bill with requests := s.bill.requests ++ x.requests.map fun r => (i, r) } }
    let s := (s.markHit m.eui).bump Fl.REC_YELM_OK_COUNT_COUNT
    x.tiles.foldl (fun s t => s.handOn t k.isNew) s

/-! ### Arrival, steps 1 to 7, quota (R224 to R228, R249) -/

/-- A yelm-level check that raises an event at most once per second. -/
def State.authFail (s : State) (i : Nat) : State :=
  let s := s.bump Fl.REC_AUTH_FAIL_COUNT_COUNT
  if s.bill.authSecond = s.second + 1 then s
  else ({ s with bill := { s.bill with authSecond := s.second + 1 } }).raise 252 (le 4 i)

/-- The replay check fails. -/
def State.replayFail (s : State) (i : Nat) : State :=
  let s := s.bump Fl.REC_REPLAY_COUNT_COUNT
  if s.bill.replaySecond = s.second + 1 then s
  else ({ s with bill := { s.bill with replaySecond := s.second + 1 } }).raise 253 (le 4 i)

/-- The frame that carried a yelm came from the meter that EUI names (R226). -/
def State.sourceOk (s : State) (y : YelmIn) (eui i : Nat) : Bool :=
  if y.radio then y.source == eui
  else let a := (s.meterRec i).plc; a.joined && a.short == y.source && a.cell == y.cell

/-- The SEQ passes the replay check (R227). -/
def RecArea.seqOk (a : RecArea) (seq : Nat) : Bool :=
  a.lastBlock == 0 || (let d := (seq + 65536 - a.lastSeq) % 65536; decide (1 ≤ d) && decide (d ≤ 32767))

/-- Steps 1 to 7 of Table 7.7: the yelm's meter where it passes. -/
def State.startYelm (s : State) (y : YelmIn) : Option Nat × State :=
  match yelmOf y.payload with
  | none => (none, s.bump Fl.REC_PARSE_ERR_COUNT_COUNT)
  | some m =>
    if !s.enabled 7 then (none, s.bump Fl.REC_OFF_DROP_COUNT_COUNT) else
    let (hit, s) := s.lookupCounted m.eui
    match hit with
    | none => (none, s.bump Fl.REC_UNKNOWN_COUNT_COUNT)
    | some (i, _) =>
      if !s.sourceOk y m.eui i then (none, s.bump Fl.REC_SOURCE_ERR_COUNT_COUNT) else
      let (key, s) := s.deriveKey 4 (be 8 m.eui)
      let good := match key with | some k => (cmac k m.tagged).take 8 == m.tag | none => false
      let a := (s.meterRec i).bill
      if !good then (none, s.authFail i)
      else if !a.seqOk m.seq then (none, s.replayFail i)
      else if s.second + 2 < 16 * m.block + 15 then (none, s.bump Fl.REC_FUTURE_COUNT_COUNT)
      else if (a.classify m.block).isNone then (none, s.bump Fl.REC_DUP_COUNT_COUNT)
      else (some i, s)

/-- The meter that a yelm names, by its EUI. -/
def YelmIn.meter (y : YelmIn) : Option Nat := (yelmOf y.payload).map fun m => m.eui

/-- The waiting yelm that the engine takes next, in arrival order: a yelm of a meter whose yelm was taken in this round of the
batten waits behind it, and the yelms of other meters overtake it. When only such yelms wait, a new round begins (R224).
DESIGN CHOICE (log entry 138). -/
def State.yelmToTake (s : State) (round : List (Option Nat)) : Option YelmIn :=
  (s.bill.queue.find? fun y => !round.contains y.meter).orElse fun _ => s.bill.queue.head?

/-- Starts the first waiting yelm that passes. -/
def State.nextYelm (round : List (Option Nat)) : Nat → State → State
  | 0, s => s
  | fuel + 1, s =>
    match s.yelmToTake round with
    | none => s
    | some y =>
      let s := { s with bill := { s.bill with queue := s.bill.queue.erase y } }
      match s.startYelm y with
      | (some i, s) =>
        { s with bill := { s.bill with current := some (y, i), done := 0, carried := false, billing := some s.bill.tariff } }
      | (none, s) => State.nextYelm round fuel s

/-- A top-up takes effect (R243). -/
def State.applyTopup (s : State) (t : TopUp) : State :=
  let a := (s.meterRec t.index).bill
  let done := fun (s : State) (st : Status) (credit : Int) => s.complete 0x28 t.cmd st 0 (le 4 (unsigned 32 credit))
  if t.topupId = 0 ∨ 1048576 ≤ t.index then s.complete 0x28 t.cmd .range
  else if t.topupId = a.topupId then done s .ok a.credit
  else if a.credit + t.amount < -(2 ^ 31 : Nat) ∨ (2 ^ 31 : Nat) ≤ a.credit + t.amount then s.complete 0x28 t.cmd .range
  else if (s.memberByIndex t.index).isNone then s.complete 0x28 t.cmd .state
  else
    let credit := a.credit + t.amount
    let a := { a with credit := credit, topupId := t.topupId }
    let x := thresholds (s.versionNow t.index)
    let o : PrepayOut :=
      if s.validateOnly then ⟨a, [], 0⟩ else prepayStep x.1 x.2.1 x.2.2 (.topup (s.friendlyNow t.index)) a
    done ((s.modRec t.index fun _ => o.area).prepayEffects t.index o) .ok credit

/-- The top-ups that waited behind the yelm in progress take effect. -/
def State.applyWaiting (s : State) : State :=
  let l := s.bill.topups
  l.foldl (fun s t => s.applyTopup t) { s with bill := { s.bill with topups := [] } }

/-- The yelm in progress leaves the engine. -/
def State.endYelm (s : State) : State :=
  { s with bill := { s.bill with current := none, done := 0, carried := false, billing := none } }

/-- Tiles are validated against a quota (R59, R224); the fuel bounds the yelms of one batten, and `round` holds the meters whose
yelms the batten has taken. -/
def State.recordWork : Nat → Nat → List (Option Nat) → State → State
  | 0, _, _, s => s
  | fuel + 1, quota, round, s =>
    if quota = 0 then s else
    let round := if s.bill.queue.all fun y => round.contains y.meter then [] else round
    let s := if s.bill.current.isNone then State.nextYelm round (s.bill.queue.length + 1) s else s
    match s.bill.current with
    | none => s
    | some (y, i) =>
      let k := min quota (16 - s.bill.done)
      if s.bill.done + k < 16 then { s with bill := { s.bill with done := s.bill.done + k } }
      else
        let s := match yelmOf y.payload with
          | some m => s.finishYelm y m i
          | none => s
        State.recordWork fuel (quota - k) (y.meter :: round) (s.endYelm.applyWaiting)

/-- The record work of a batten. While REC is disabled, waiting yelms are dropped (R249). -/
def State.recordBatten (s : State) (quota : Nat) : State :=
  let s := if s.enabled 7 then s else
    let n := s.bill.queue.length
    ({ s with bill := { s.bill with queue := [] } }).bumpBy Fl.REC_OFF_DROP_COUNT_COUNT n
  State.recordWork (s.bill.queue.length + 2) quota [] s

/-- The record engine at a course boundary (R82, R231): a yelm in progress is carried once, then dropped whole. -/
def State.recordBarrier (s : State) : State :=
  match s.bill.current with
  | none => s
  | some (_, i) =>
    let s := { s with crs := { s.crs with lateClasses := 2 :: s.crs.lateClasses } }
    if !s.bill.carried then { s with bill := { s.bill with carried := true } }
    else ((s.endYelm.bumpBy Fl.REC_LATE_DROP_COUNT_COUNT 16).raise 268 (le 4 i)).applyWaiting

/-- ABORT of the record engine (R249). -/
def State.recordAbort (s : State) : State :=
  let l := s.bill.topups
  l.foldl (fun s t => s.complete 0x28 t.cmd .aborted) { s.endYelm with bill := { s.endYelm.bill with topups := [] } }

/-- The first course of a second: calendars whose version B comes into force (R236). -/
def State.calendarsNow (s : State) : State :=
  s.bill.tariff.cals.foldl (fun s c =>
    match c.b with
    | some (a, _) =>
      if a ≤ s.second ∧ !s.bill.activated.contains c.cal then
        ({ s with bill := { s.bill with activated := c.cal :: s.bill.activated } }).raise 249 (le 1 c.cal)
      else s
    | none => s) s

/-- A commit reaches the record engine; `table` is the tariff of a replace (R237, R242). -/
def State.recordCommit (s : State) (table : Option TariffTable) : State :=
  let s := match table with
    | none => s
    | some t =>
      let late := t.cals.filter fun (c : Calendar) => match c.b with | some (a, _) => decide (a < s.second) | none => false
      let s := { s with bill := { s.bill with tariff := t, activated := late.map fun (c : Calendar) => c.cal } }
      late.foldl (fun s (c : Calendar) => s.raise 250 (le 1 c.cal)) s
  s.prepayCommit

/-- YELM_ARRIVAL: the next decoded yelm enters the record engine's queue (R224); a malformed one is dropped (R218), as is any
while REC is disabled (R249). -/
def yelmArrivalEffect (s : State) : State :=
  match s.swc.toRecord with
  | [] => s
  | y :: rest =>
    let s := ({ s with swc := { s.swc with toRecord := rest } }).releasePacket y.packet
    if (yelmOf y.payload).isNone then s.bump Fl.REC_PARSE_ERR_COUNT_COUNT
    else if !s.enabled 7 then s.bump Fl.REC_OFF_DROP_COUNT_COUNT
    else { s with bill := { s.bill with queue := s.bill.queue ++ [y] } }

/-- SWITCH_RESULT_RX: the result of a disconnect or reconnect request returns (R242, R244). Under profile 01h the state
stays. -/
def switchResultRxEffect (s : State) : State :=
  match s.bill.results with
  | [] => s
  | (i, action, code) :: rest =>
    let s := { s with bill := { s.bill with results := rest } }
    let a := (s.meterRec i).bill
    let x := thresholds (s.versionNow i)
    let o := prepayStep x.1 x.2.1 x.2.2 (if action = 1 then .disconnected (code == 0) else .reconnected (code == 0)) a
    let area := if s.validateOnly then { o.area with prepay := a.prepay } else o.area
    (s.modRec i fun _ => area).prepayEffects i o

/-- PREPAY_TOPUP: the top-up takes effect, or waits behind the yelm in progress of its meter (R243). -/
def prepayTopupEffect (c : Cmd) (index amount : BitVec 32) (topupId : BitVec 16) (s : State) : State :=
  let t : TopUp := ⟨c, index.toNat, amount.toInt, topupId.toNat⟩
  match s.bill.current with
  | some (_, i) =>
    if i = t.index then { s with bill := { s.bill with topups := s.bill.topups ++ [t] } } else s.applyTopup t
  | none => s.applyTopup t

/-- STAGING_BOUND_CHANGE: tile staging reaches its bound, or falls below it (R295). -/
def stagingBoundChangeEffect (s : State) : State := s.stagingUpdate

/-! ### Image pushes (R248, R290, R291) -/

/-- A target cell takes a copy, or is skipped when its queue is full (R291). -/
def State.pushTarget (s : State) (id bytes times cell : Nat) (payload : Octets) : State :=
  let q := cellQueue cell false
  let held := s.packetSum (fun p => p.queue == q) (fun p => p.reserve + p.pool + p.dram) + s.pushCells q
  let skip (s : State) : State :=
    let s := s.bump Fl.SWC_MCAST_SKIP_COUNT_COUNT
    if s.swc.skipSecond = s.second + 1 then s
    else ({ s with swc := { s.swc with skipSecond := s.second + 1 } }).raise 340
  if 256 < held + cellsOf bytes then skip s
  else
    let base : Frame := { origin := .push id, kind := .data, payload := payload, secured := s.plan.isPlc cell }
    let f := s.fragmented cell (if s.plan.isPlc cell then s.toneFor cell 0xFFFF base else base)
    let s := s.modMac cell fun k => k.push f
    { s with swc := { s.swc with mcasts := s.swc.mcasts.map fun (m : Mcast) =>
        if m.id = id then { m with targets := m.targets ++ [(cell, times, true)], refs := m.targets.length } else m } }

/-- An undefined KIND or a DATA_LEN that IMAGE_PUSH does not take. -/
def pushIllegal (kind : Byte) (payloadLen cells : BitVec 16) (data : Octets) : Bool :=
  (kind != 1 && kind != 2) || data.length != payloadLen.toNat + 2 * cells.toNat

/-- IMAGE_PUSH (R248, R290, R291). -/
def imagePushEffect (c : Cmd) (kind times : Byte) (payloadLen cells : BitVec 16) (data : Octets) (s : State) : State :=
  let n := payloadLen.toNat
  let targets := (List.range cells.toNat).map fun k => leAt data (n + 2 * k) 2
  if pushIllegal kind payloadLen cells data then s.complete 0x21 c .illegal
  else if n = 0 ∨ 1200 < n ∨ cells = 0 ∨ 8192 < cells.toNat ∨ times = 0 ∨ 4 < times.toNat
      ∨ FMap.get 0 s.plan.totals 0x0E < cells.toNat then s.complete 0x21 c .range
  else match s.takeIn (outQueue 58 3) 3 n with
    | (none, s) => s.complete 0x21 c .noSpace
    | (some id, s) =>
      let payload := data.take n
      let s := { s with swc := { s.swc with mcasts := s.swc.mcasts ++ [({ id := id, cmd := c, kind := kind.toNat, payload := payload, refs := 0, targets := [], sent := 0 } : Mcast)] } }
      let inPlan := (List.range 32768).filter fun k => targets.contains k && s.plan.kind k != 0
      let s := inPlan.foldl (fun s k => s.pushTarget id n times.toNat k payload) s
      let s := s.swcSync
      match s.swc.mcasts.find? fun (m : Mcast) => m.id == id with
      | some m =>
        if m.targets.isEmpty then
          let s := { s with swc := { s.swc with mcasts := s.swc.mcasts.filter fun (x : Mcast) => x.id != id } }
          ((s.releasePacket id).complete 0x21 c .ok 0 (le 4 0)).raise 269 (le 1 kind.toNat)
        else s
      | none => s

/-- POST_COMMIT_PASS_DONE (R203), with the first rows of Table 7.11 for the records that the pass initialised. -/
def passDoneEffect (s : State) : State := if s.mtb.passing then (postCommitPassDoneEffect s).prepayCommit else s

def execYelmArrival (s : State) : Answer := .next (yelmArrivalEffect s)
def execSwitchResultRx (s : State) : Answer := .next (switchResultRxEffect s)
def execPrepayTopup (c : Cmd) (index amount : BitVec 32) (topupId : BitVec 16) (s : State) : Answer :=
  .next (s.writeCommand 0x28 c (le 4 index.toNat ++ le 4 amount.toNat ++ le 2 topupId.toNat) [] (c.len != 0) (prepayTopupEffect c index amount topupId))
def execStagingBoundChange (s : State) : Answer := .next (stagingBoundChangeEffect s)
def execImagePush (c : Cmd) (kind times : Byte) (payloadLen cells : BitVec 16) (data : Octets) (s : State) : Answer :=
  .next (s.writeCommand 0x21 c (le 1 kind.toNat ++ le 1 times.toNat ++ le 2 payloadLen.toNat ++ le 2 cells.toNat) data (pushIllegal kind payloadLen cells data) (imagePushEffect c kind times payloadLen cells data))
def execPostCommitPassDone (s : State) : Answer := .next (passDoneEffect s)

end Sys2Proof.Machine
end

