-- ==== Sys2Proof/Machine/Rdg.lean ====
section
/-!
DEFINITION. Machine/Rdg.lean: the ridge pair (R443 to R476). Received exchanges and HELLO are carried as data; the delivery of bulk
frames, the states and their changes, comparison, arbitration, start-up and joining are as the chapter gives them.
-/

namespace Sys2Proof.Machine

/-- The replicated state that join blocks carry (Table 15.8). -/
structure Replica where
  crs : CrsState := {}
  mtb : MtbState := {}
  meters : FMap MeterRec := []
  staging : List Staged := []
  bill : RecState := {}
  val : ValState := {}
  routes : FMap (List RouteEntry) := []
  tones : FMap (Option ToneDefault) := []
  counters : FMap Nat := []
  packets : List Packet := []
  seqTable : FMap Nat := []
  slots : FMap KeySlot := []
  bindings : FMap Nat := []
  vlist : FMap VKey := []
  overrides : List Nat := []
  words : FMap Word := []
deriving DecidableEq, Repr, Inhabited

/-- What the received join blocks hold: their layout is left open (R472). -/
opaque Config.replicaOf : List Octets → Replica

/-- The octets of a join block, by the counter of the state: their layout is left open. -/
opaque Config.joinBlock : Nat → Octets

/-! ### Unit states (R444, R445) -/

/-- Superblocks closed up to now. -/
def State.closedSupers (s : State) : Nat := s.arc.nextSb

/-- The unit state changes; HOLD keeps its cause (Table 15.2). -/
def State.setUnit (s : State) (st cause : Nat) : State :=
  let was := s.get Fl.RDG_STATE_STATE
  let s := (s.put Fl.RDG_STATE_STATE st).put Fl.RDG_STATE_HOLD_CAUSE (if st = 3 then cause else 0)
  let s := if (st = 0 ∨ st = 3) ∧ s.paired = true then
      ({ s with rdg := { s.rdg with unsyncedFrom := s.closedSupers } }).putFlag Fl.RDG_STATE_SYNCED false
    else s
  let s := { s with rdg := { s.rdg with
    next := none
    arbitration := if st = 0 ∨ st = 3 then none else s.rdg.arbitration
    joinRequested := s.rdg.joinRequested && (st == 2 || st == 3) } }
  if was = st ∧ s.rdg.phase = 2 then s else s.raise 522

/-- The unit state leaves start-up: courses start where the time allows it (R466 to R469). -/
def State.leaveStartup (s : State) (st : Nat) : State :=
  let s := s.setUnit st 0
  let s := { s with rdg := { s.rdg with phase := 2 } }
  if s.tim.held && !s.tim.waiting then s.startCourses else s

/-- The unit requests a join as STANDBY with SYNCED 0 (R467, R468). -/
def State.askJoin (s : State) : State :=
  let s := { s with rdg := { s.rdg with joinRequested := true } }
  let s := (s.leaveStartup 2).putFlag Fl.RDG_STATE_SYNCED false
  { s with rdg := { s.rdg with joinRequested := true } }

/-- The partner has gone (R464). -/
def State.partnerGone (s : State) : Bool :=
  let heard := s.eav.lanes.filter fun p => decide (p.2.partnerNs ≠ 0) && decide (s.now < p.2.partnerNs + 1000000000)
  !s.flag Fl.RDG_STATE_LINK_UP && !heard.isEmpty && heard.all fun p => decide (p.2.partnerMark + 2 ≤ s.course + 1)

/-- A join in progress fails (R472). -/
def State.joinFail (s : State) : State :=
  match s.rdg.join with
  | none => s
  | some _ =>
    let st := s.get Fl.RDG_STATE_STATE
    let s := { s with rdg := { s.rdg with join := none, joinRequested := false } }
    let s := (s.putFlag Fl.RDG_JOIN_JOINING false).raise 532
    if st ≠ 2 ∧ st ≠ 3 then s
    else if s.tim.held then s.setUnit 3 6
    else { s with rdg := { s.rdg with next := some (3, 6) } }

/-! ### The link (R447 to R449) -/

/-- Ridge groups of the plan in force. -/
def State.ridgeGroups (s : State) : List Nat := (List.range 40).filter fun g => s.get (Fl.LANE_GRP_STATUS_ROLE g) == 4

/-- A real-time lane and a bulk lane hold block lock. -/
def State.ridgeLanes (s : State) : Bool :=
  let up := s.ridgeGroups.map fun g => s.get (Fl.LANE_GRP_STATUS_LANE_UP g)
  (up.any fun u => bitOf 0 u || bitOf 1 u) && up.any fun u => decide (4 ≤ u)

/-- What ridge down does to the unit state (R464, Table 15.2). -/
def State.ridgeGone (s : State) : State :=
  let st := s.get Fl.RDG_STATE_STATE
  let cause := s.get Fl.RDG_STATE_HOLD_CAUSE
  if s.flag Fl.RDG_STATE_LINK_UP ∨ s.rdg.phase ≠ 2 then s
  else if st = 1 then s.setUnit 0 0
  else if st = 2 then (if s.partnerGone then s.setUnit 0 0 else s.setUnit 3 5)
  else if st = 3 ∧ (cause = 1 ∨ cause = 5 ∨ cause = 7) ∧ s.partnerGone = true then s.setUnit 0 0
  else s

/-- The link goes down. Before courses run the unit state follows at once. -/
def State.ridgeDown (s : State) : State :=
  if !s.flag Fl.RDG_STATE_LINK_UP then s else
  let s := { s with rdg := { s.rdg with helloSent := false, helloSeen := false, silent := 0 } }
  let s := ((s.putFlag Fl.RDG_STATE_LINK_UP false).putFlag Fl.RDG_STATE_PARTNER_VALID false).raise 521
  let s := s.joinFail
  if s.tim.held then s.ridgeGone else s

/-- At a link-up the units compare the CRCs of their safety generations in force (R437). -/
def State.pairConfig (s : State) : State :=
  match s.rdg.partner with
  | some m => if m.genCrc.toNat = s.get Fl.SAF_FORCE_CRC_CRC then s else s.raise 500
  | none => s

/-- LANES_UP and LINK_UP follow the lanes and the HELLOs of the epoch. -/
def State.ridgeSync (s : State) : State :=
  let s := match s.ridgeGroups with
    | g :: _ => s.put Fl.RDG_LINK_LANES_UP (s.get (Fl.LANE_GRP_STATUS_LANE_UP g))
    | [] => s
  let up := s.ridgeLanes && s.rdg.helloSent && s.rdg.helloSeen
  let was := s.flag Fl.RDG_STATE_LINK_UP
  if up && !was then ((s.putFlag Fl.RDG_STATE_LINK_UP true).raise 520).pairConfig
  else if !s.ridgeLanes && was then s.ridgeDown
  else s

/-- A new link epoch: sequence numbers start again and unacknowledged frames are gone. -/
def State.ridgeEpoch (s : State) (e : Nat) : State :=
  { s with rdg := { s.rdg with
    epoch := e % 256, helloSent := false, helloSeen := false, txSeq := 0, rxSeq := 0, unacked := [], backlog := [],
    ackOwed := false, inbound := [] } }

/-- ACK: bulk frames below it are acknowledged. -/
def State.ridgeAck (s : State) (ack : Nat) : State :=
  let s := { s with rdg := { s.rdg with unacked := s.rdg.unacked.filter fun f => notAcked ack f.seq } }
  State.bulkDrain s.rdg.backlog.length s

/-- A frame of the partner is taken: valid FCS, the link's EPOCH, the partner's unit code. -/
def State.ridgeTake (s : State) (h : RidgeHdr) (act : State → State) : State :=
  if h.fcsBad || decide (h.epoch.toNat ≠ s.rdg.epoch) then s.bump Fl.RDG_FCS_ERR_COUNT_COUNT
  else if s.rdg.refused || decide (h.unit.val ≠ 3 - s.unitCode) then s
  else
    let s := (s.put Fl.RDG_STATE_PARTNER_STATE h.state.val).putFlag Fl.RDG_STATE_PARTNER_VALID true
    act (s.ridgeAck h.ack.toNat)

/-- A real-time frame: the link is heard in this course (R447). -/
def State.realTime (s : State) : State := { s with rdg := { s.rdg with heard := true, silent := 0 } }

/-! ### HELLO, CLAIM and start-up (R448, R465 to R469) -/

/-- Eaves of the plan that report ACCEPT of a unit code. -/
def State.accepting (s : State) (unit : Nat) : Nat :=
  ((s.plan.chains.map fun c => (c.eaves.filter fun e => s.get (Fl.EAV_EAVE_STATE_ACCEPT e.eave) == unit).length)).foldl (· + ·) 0

/-- This unit's HELLO (Table 15.4). -/
def State.ownHello (s : State) : RidgeHello :=
  { serial := BitVec.ofNat 64 s.otp.serial
    planId := BitVec.ofNat 64 s.plan.planId
    epoch := BitVec.ofNat 32 s.plan.epoch
    connId := BitVec.ofNat 32 (s.get Fl.SAF_FORCE1_CONN_ID)
    release := BitVec.ofNat 32 (s.get Fl.OTP_FW_RELEASE_VALUE)
    grade := BitVec.ofNat 8 (s.get Fl.GLB_DEVICE_ID_GRADE)
    lc := BitVec.ofNat 8 (s.get Fl.OTP_LIFECYCLE_CODE)
    flags := BitVec.ofNat 8 (b2n (!s.resident) + 2 * b2n (!s.tim.held) + 4 * b2n (s.flag Fl.TIM_STATE_SET) + 8 * b2n s.rdg.joinRequested)
    state := BitVec.ofNat 8 (s.get Fl.RDG_STATE_STATE)
    accepted := BitVec.ofNat 16 (s.accepting s.unitCode)
    genCrc := BitVec.ofNat 32 (s.get Fl.SAF_FORCE_CRC_CRC) }

/-- The payload of HELLO, most significant octets first (Table 15.4, R448). -/
def helloOctets (m : RidgeHello) : Octets :=
  be 8 m.serial.toNat ++ be 8 m.planId.toNat ++ be 4 m.epoch.toNat ++ be 4 m.connId.toNat ++ be 4 m.release.toNat
    ++ [m.grade, m.lc, m.flags, m.state] ++ be 2 m.accepted.toNat ++ zeros 6

/-- A partner that this unit does not pair with (R443, R466). -/
def State.refuses (s : State) (h : RidgeHdr) (m : RidgeHello) : Bool :=
  let own := s.ownHello
  h.unit.val == s.unitCode || m.grade != own.grade || m.lc != own.lc || m.connId != own.connId || m.release != own.release

/-- The rank of a unit in an election: it runs a stored plan in FIELD, then its table epoch (R468). -/
def rank (m : RidgeHello) : Nat :=
  (if m.lc = 3 ∧ m.flags.toNat % 2 = 1 then 2 ^ 32 else 0) + m.epoch.toNat

/-- Start-up on a HELLO of an accepted partner (R467, R468). -/
def State.electUnit (s : State) (m : RidgeHello) : State :=
  let own := s.ownHello
  let runs := bitOf 1 m.flags.toNat
  let asks := bitOf 3 m.flags.toNat
  if runs && (m.state.toNat == 0 || m.state.toNat == 1) then s.askJoin
  else if asks then s.leaveStartup 0
  else if rank own < rank m then s.askJoin
  else if rank m < rank own then s.leaveStartup 0
  else match s.rdg.backoff with
    | some _ => s
    | none =>
      let (b, s) := s.freshNat 16
      { s with rdg := { s.rdg with backoff := some b } }

/-- RIDGE_HELLO_RX. -/
def ridgeHelloRxEffect (h : RidgeHdr) (m : RidgeHello) (s : State) : State :=
  if h.fcsBad then s.bump Fl.RDG_FCS_ERR_COUNT_COUNT
  else if s.refuses h m then
    if s.rdg.refused then s
    else ({ s with rdg := { s.rdg with refused := true } }.putFlag Fl.RDG_STATE_PARTNER_VALID false).raise 523
  else
    let s := if h.epoch.toNat = s.rdg.epoch then s else s.ridgeDown.ridgeEpoch h.epoch.toNat
    let s := { s with rdg := { s.rdg with refused := false, helloSeen := true, partner := some m } }
    let s := (s.put Fl.RDG_STATE_PARTNER_STATE h.state.val).putFlag Fl.RDG_STATE_PARTNER_VALID true
    let s := (s.put64 Reg.RDG_PARTNER_LO m.serial.toNat).realTime.ridgeSync
    let cause := s.get Fl.RDG_STATE_HOLD_CAUSE
    if s.rdg.phase = 0 then s.electUnit m
    else if s.get Fl.RDG_STATE_STATE = 3 ∧ (cause = 1 ∨ cause = 5 ∨ cause = 7) ∧ s.flag Fl.RDG_CFG_AUTO_REJOIN = true
        ∧ s.flag Fl.RDG_STATE_LINK_UP = true ∧ h.state.val ≤ 1 then
      { s with rdg := { s.rdg with joinRequested := true } }
    else s

/-- RIDGE_CLAIM_RX (R468). -/
def ridgeClaimRxEffect (h : RidgeHdr) (_ : BitVec 64) (s : State) : State :=
  s.ridgeTake h fun s =>
    let s := s.realTime
    if s.rdg.phase ≠ 0 then s
    else if s.rdg.claimSent && s.unitCode == 1 then s.leaveStartup 0
    else s.askJoin

/-- CLAIM_BACKOFF_TIMER: the wait is over (R468). -/
def claimBackoffTimerEffect (s : State) : State :=
  if s.rdg.phase ≠ 0 ∨ s.rdg.backoff.isNone ∨ s.rdg.claimSent = true then s
  else ({ s with rdg := { s.rdg with claimSent := true } }).ridgeNow 2 0 (be 8 s.otp.serial ++ zeros 8)

/-- The unit sends course exchanges. -/
def State.sendsCx (s : State) : Bool :=
  !s.tim.held && s.flag Fl.RDG_STATE_LINK_UP && (s.get Fl.RDG_STATE_STATE == 1 || (s.get Fl.RDG_STATE_STATE == 2 && s.paired))

/-- RIDGE_HELLO_TIMER: HELLO goes out every 1 ms while no CX does (R448). -/
def ridgeHelloTimerEffect (s : State) : State :=
  if s.sendsCx ∨ s.ridgeGroups.isEmpty then s
  else
    let s := s.ridgeNow 1 0 (helloOctets s.ownHello)
    ({ s with rdg := { s.rdg with helloSent := true } }).ridgeSync

/-- RIDGE_LINK_TIMEOUT: no valid real-time frame for LINK_TO courses, or for 4 ms before courses run (R447). -/
def ridgeLinkTimeoutEffect (s : State) : State :=
  if !s.tim.held && decide (s.rdg.silent < s.get Fl.RDG_CFG_LINK_TO) then s else s.ridgeDown

/-- PARTNER_WAIT_TIMEOUT: no partner after WAIT_S; courses start with MARK 0 (R469). -/
def partnerWaitTimeoutEffect (s : State) : State :=
  if s.rdg.phase ≠ 0 then s
  else
    let s := { s with rdg := { s.rdg with phase := 1 } }
    let s := if s.tim.held && !s.tim.waiting then s.startCourses else s
    { s with rdg := { s.rdg with probeFrom := s.course } }

/-- ALONE_DECISION: after two courses with MARK 0 (R469). -/
def aloneDecisionEffect (s : State) : State :=
  if s.rdg.phase ≠ 1 ∨ s.tim.held = true ∨ s.course < s.rdg.probeFrom + 2 then s
  else
    let other := decide (0 < s.accepting (3 - s.unitCode)) || s.eav.lanes.any fun p => decide (s.rdg.probeFrom < p.2.partnerMark)
    if other then (s.leaveStartup 2).putFlag Fl.RDG_STATE_SYNCED false else s.leaveStartup 0

/-- SPLIT_RESOLVE (R470). -/
def splitResolveEffect (s : State) : State :=
  match s.rdg.partner with
  | none => s
  | some m =>
    if s.rdg.phase ≠ 2 ∨ s.get Fl.RDG_STATE_STATE ≠ 0 ∨ s.flag Fl.RDG_STATE_LINK_UP = false
        ∨ s.flag Fl.RDG_STATE_PARTNER_VALID = false ∨ s.get Fl.RDG_STATE_PARTNER_STATE ≠ 0 then s
    else
      let mine := s.accepting s.unitCode
      let s := s.raise 533
      if mine < m.accepted.toNat ∨ (mine = m.accepted.toNat ∧ s.unitCode = 2) then
        { s with rdg := { s.rdg with next := some (3, 7) } }
      else s

/-! ### Joining (R472, R474) -/

/-- JOIN_REQUEST: the active unit accepts a join and starts sending the replicated state. -/
def joinRequestEffect (s : State) : State :=
  let asks := match s.rdg.partner with | some m => bitOf 3 m.flags.toNat | none => false
  let p := s.get Fl.RDG_STATE_PARTNER_STATE
  if s.rdg.phase ≠ 2 ∨ 1 < s.get Fl.RDG_STATE_STATE ∨ s.flag Fl.RDG_STATE_LINK_UP = false
      ∨ s.flag Fl.RDG_STATE_PARTNER_VALID = false ∨ asks = false ∨ p < 2 ∨ s.rdg.join.isSome = true then s
  else
    let s := (s.putFlag Fl.RDG_JOIN_JOINING true).put Fl.RDG_JOIN_PROGRESS 0
    let s := { s with
      free := s.free + 1
      rdg := { s.rdg with
        join := some ⟨s.now, true, none, []⟩
        next := if s.get Fl.RDG_STATE_STATE = 0 then some (1, 0) else s.rdg.next } }
    s.bulk 4 0 (Config.joinBlock (s.free - 1))

/-- JOIN_TIMEOUT: a join that has not finished within 30 s fails. -/
def joinTimeoutEffect (s : State) : State := s.joinFail

/-- Installs the replicated state on the joining unit. -/
def State.install (s : State) (r : Replica) : State :=
  let s : State := { s with
    crs := r.crs
    mtb := r.mtb
    meters := r.meters
    bill := r.bill
    val := r.val
    overrides := r.overrides
    regs := r.words.foldl (fun m p => FMap.set (BitVec.ofNat 32 (resetWord p.1)) m p.1 p.2) s.regs }
  let local' := s.swc.packets.filter fun p => p.cls == 4 || p.cls == 5 || p.cls == 6
  let macs := r.counters.foldl (fun m p => FMap.set {} m p.1 { FMap.get {} m p.1 with fc := p.2 }) s.cel.macs
  { s with
    arc := { s.arc with staging := r.staging }
    cel := { s.cel with macs := macs, routes := r.routes, tones := r.tones }
    swc := { s.swc with packets := local' ++ r.packets }
    saf := { s.saf with seqTable := r.seqTable }
    key := { s.key with slots := r.slots, bindings := r.bindings, vlist := r.vlist } }

/-- Superblocks that the partner lacks are sent at lowest priority (R474). -/
def State.sendCatchup (s : State) (fromSeq : Nat) : State :=
  let due := s.coldIndex.filter fun x => decide (fromSeq ≤ x.seq) && x.seq != 0
  if due.isEmpty then s
  else
    let s := due.foldl (fun s x => s.bulk 6 x.seq ((x.runs.map fun r => r.records.flatten).flatten)) s
    (s.putFlag Fl.RDG_STATE_CATCHUP true).putFlag Fl.RDG_STATE_ARC_SAME false

/-- CATCHUP_DONE: the copy of superblocks is complete. -/
def catchupDoneEffect (s : State) : State :=
  if s.flag Fl.RDG_STATE_CATCHUP then (s.putFlag Fl.RDG_STATE_CATCHUP false).raise 536 else s

/-- The start of a course while a join runs (Table 15.10, steps 2 to 5). -/
def State.joinCourse (s : State) (course : Nat) : State :=
  match s.rdg.join with
  | none => s
  | some j =>
    let joiner := s.get Fl.RDG_STATE_STATE == 2 || s.get Fl.RDG_STATE_STATE == 3
    match j.joinAt with
    | none =>
      if joiner || !s.rdg.unacked.isEmpty || !s.rdg.backlog.isEmpty then s
      else
        let s := { s with rdg := { s.rdg with join := some { j with joinAt := some (course + 16) } } }
        (s.put Fl.RDG_JOIN_PROGRESS 100).bulk 5 0 (be 8 (course + 16))
    | some at' =>
      if course < at' then s
      else
        let s := if joiner then (s.install (Config.replicaOf j.blocks)).setUnit 2 0 else s
        let s := { s with rdg := { s.rdg with
          join := none, joinRequested := false, outputs := [], own := [], received := [], compared := course } }
        let s := ((s.putFlag Fl.RDG_JOIN_JOINING false).putFlag Fl.RDG_STATE_SYNCED true).bump Fl.RDG_JOIN_COUNT_COUNT
        let s := s.raise 531
        if joiner then s else s.sendCatchup s.rdg.unsyncedFrom

/-! ### Bulk frames (R449, R457, R459, R460) -/

/-- The record of 32 octets of Table 18.3. -/
def evRecOf (b : Octets) : EvRec := ⟨leAt b 0 6, leAt b 6 2, leAt b 8 2, leAt b 10 1, slice b 12 16⟩

/-- Digests of the staged plan and of each staged table kind, as a confirmation object holds them (R459). -/
def State.confirmation (s : State) : Octets :=
  sha256 s.crs.stagedImage ++ ((List.range 16).map fun k =>
    match FMap.get none s.crs.tables k with | some t => sha256 t.octets | none => []).flatten

/-- A forwarded event is recorded with the standby as its unit, unless this unit raised the same in the same course (R460). -/
def State.forwarded (s : State) (e : EvRec) : State :=
  if s.rdg.raised.contains (e.source, padTo 16 e.data) then s else s.record e.source (e.unit % 4 + 4) e.data

/-- A record copied from the active unit enters the recorder under its number. -/
def State.copied (s : State) (e : EvRec) : State :=
  let rest := s.evt.records.filter fun x => x.seq != e.seq
  let s := { s with evt := { s.evt with records := e :: rest, seq := max s.evt.seq e.seq, noMerge := false } }
  s.spill.route e

/-- A whole object has arrived. -/
def State.takeObject (s : State) (kind object : Nat) (octets : Octets) : State :=
  let st := s.get Fl.RDG_STATE_STATE
  match kind with
  | 1 => if st = 2 then { s with rdg := { s.rdg with objects := FMap.set ([], 0) s.rdg.objects object (octets, s.now) } } else s
  | 2 =>
    let inTime := match s.crs.pending with | some p => decide (s.course + 2 ≤ p.target) | none => false
    if st = 1 ∧ inTime = true then { s with crs := { s.crs with standbyConfirmed := octets == s.confirmation } } else s
  | 3 =>
    let e := evRecOf octets
    if st = 1 then s.forwarded e else if st = 2 then s.copied e else s
  | 4 =>
    if st ≠ 2 ∧ st ≠ 3 then s else
    let j := s.rdg.join.getD ⟨s.now, false, none, []⟩
    ({ s with rdg := { s.rdg with join := some { j with blocks := j.blocks ++ [octets] } } }).putFlag Fl.RDG_JOIN_JOINING true
  | 5 =>
    match s.rdg.join with
    | some j => { s with rdg := { s.rdg with join := some { j with joinAt := some (beAt octets 0 8) } } }
    | none => s
  | 6 =>
    let records := recordsOf 64 (octets.length / 64) octets
    let s := { s with arc := { s.arc with
      staging := s.arc.staging ++ records.map fun o => (⟨s.now, leAt o 0 8, o, true, none⟩ : Staged) } }
    (s.putFlag Fl.RDG_STATE_CATCHUP true).putFlag Fl.RDG_STATE_ARC_SAME false
  | _ => s

/-- RIDGE_BULK_RX: a bulk frame is accepted only in order (R306, R449). -/
def ridgeBulkRxEffect (h : RidgeHdr) (kind : Byte) (object offset total : BitVec 32) (octets : Octets) (s : State) : State :=
  s.ridgeTake h fun s =>
    let s := { s with rdg := { s.rdg with ackOwed := true } }
    if h.seq.toNat ≠ s.rdg.rxSeq then s
    else
      let k := kind.toNat
      let o := object.toNat
      let have' := ((s.rdg.inbound.find? fun x => x.1 == k && x.2.1 == o).map (·.2.2)).getD []
      let whole := if offset = 0 then octets else have' ++ octets
      let rest := s.rdg.inbound.filter fun x => !(x.1 == k && x.2.1 == o)
      let s := { s with rdg := { s.rdg with rxSeq := nextSeq s.rdg.rxSeq, inbound := rest } }
      if total.toNat ≤ whole.length then s.takeObject k o (whole.take total.toNat)
      else { s with rdg := { s.rdg with inbound := (k, o, whole) :: rest } }

/-- RIDGE_NOP_RX: a NOP with its ACK, or a frame that is discarded and counted. -/
def ridgeNopRxEffect (h : RidgeHdr) (s : State) : State := s.ridgeTake h State.realTime

/-- RIDGE_RESEND_TIMER: unacknowledged bulk frames are resent; at a frame's eighth resend the link goes down, the epoch advances
and the transmitters idle for 1 ms (R449). -/
def ridgeResendTimerEffect (s : State) : State :=
  let l := s.rdg.unacked
  if l.isEmpty then s
  else
    let s := { s with rdg := { s.rdg with unacked := l.map fun (f : RidgeFrame) => { f with resends := f.resends + 1 } } }
    let s := s.bumpBy Fl.RDG_RETX_COUNT_COUNT l.length
    let s := s.rdg.unacked.foldl (fun s f => s.bulkOut f) s
    if l.any fun f => decide (7 ≤ f.resends) then
      (s.ridgeDown.ridgeEpoch (s.rdg.epoch + 1)).emit (.ridgeIdle 1)
    else s

/-- ACK_NOP_TIMER: a NOP carries the ACK that a slate hub or the ridge is owed (R306). -/
def ackNopTimerEffect (hub : Option (Fin 128)) (s : State) : State :=
  match hub with
  | some h => if (s.hub h.val).ackOwed then (s.modHub h.val fun x => { x with ackOwed := false }).slateBare h.val 0 [] else s
  | none =>
    if s.rdg.ackOwed then
      ({ s with rdg := { s.rdg with ackOwed := false } }).ridgeNow 0 0 []
    else s

/-- MIRROR_OBJECT_EXPIRY: command data held for 10 s is discarded (R457). -/
def mirrorObjectExpiryEffect (object : BitVec 32) (s : State) : State :=
  { s with rdg := { s.rdg with objects := FMap.erase s.rdg.objects object.toNat } }

/-- RIDGE_ERASE_RX: the partner's erasure map of a capture batten (R456). -/
def ridgeEraseRxEffect (h : RidgeHdr) (course : BitVec 64) (batten : Fin 16) (masks : List (BitVec 32)) (late : Bool) (s : State) :
    State :=
  s.ridgeTake h fun s =>
    let s := s.realTime
    if late then
      let s := s.bump Fl.RDG_ERASE_LATE_COUNT_COUNT
      if s.rdg.eraseSecond = s.second + 1 then s
      else ({ s with rdg := { s.rdg with eraseSecond := s.second + 1 } }).raise 530
    else { s with rdg := { s.rdg with
      erasures := ((16 * course.toNat + batten.val, masks.map BitVec.toNat) :: s.rdg.erasures).take 32 } }

/-- The payload of ERASE (Table 15.4). -/
def eraseOctets (course batten : Nat) (masks : List Nat) : Octets :=
  be 8 course ++ be 1 batten ++ zeros 3 ++ (masks.map (be 4)).flatten

/-- This unit's erasure map of the batten that ended goes to the partner (R456). -/
def State.sendErase (s : State) (course batten : Nat) : State :=
  let lanes := (List.range 320).filter fun l => (s.plan.roles.getD (l / 8) (0, 0)).1 == 1
  let masks := lanes.map fun l => (FMap.get {} s.eav.lanes l).invalid
  let s := if s.sendsCx then s.ridgeNow 4 0 (eraseOctets course batten masks) else s
  { s with eav := { s.eav with lanes := FMap.mapVals ({} : EavLane) (fun _ (x : EavLane) => { x with invalid := 0 }) s.eav.lanes } }

/-! ### The course exchange (R450 to R455) -/

/-- The digest of an output class since the last ridge copy point (Table 15.5). -/
def State.classDigest (s : State) (k : Nat) : Octets :=
  if k = 0 then sha256 ((List.range 320).map fun l => FMap.get [] s.rdg.outputs (16 + l)).flatten
  else sha256 (FMap.get [] s.rdg.outputs k)

/-- The entries of the exchange that an item of the log becomes (Table 15.6). A KEY_GENERATE is preceded by its value (R412). -/
def State.logEntry (s : State) : LogItem → List RidgeLog
  | .command f r d data o =>
    let generate := leAt d 0 1 == 0x41
    (if generate && !data.isEmpty then [.random 1 data] else []) ++
      [.command (Fin.ofNat 4 f) (BitVec.ofNat 8 r) d (BitVec.ofNat 32 o) (sha256 (if generate then [] else data))]
  | .regWrite f a v e => [.regWrite (Fin.ofNat 4 f) (BitVec.ofNat 32 a) v e]
  | .owner now cause => [.owner (now.map (Fin.ofNat 4)) (BitVec.ofNat 8 cause)]
  | .repair j octets => [.repair (BitVec.ofNat 22 j) octets]
  | .metro second =>
    [.metro (BitVec.ofNat 64 second) ((FMap.get none s.val.station second).map fun m =>
      ([m.e.a, m.e.b, m.e.c, (b2n m.part : Int)], [m.i.a, m.i.b, m.i.c]))]

/-- Digests over the closed cold index entries (R473): the first leaves out the placement. -/
def State.arcDigests (s : State) : Octets × Octets :=
  let closed := (s.coldIndex.filter fun x => x.seq != 0).map Superblock.entry
  (sha256 (closed.map fun e => e.drop 8).flatten, sha256 closed.flatten)

/-- The daily exchange of index digests (R473): this unit's and the partner's. -/
def State.arcCompare (s : State) (own partner : Option (Octets × Octets)) : State :=
  match own, partner with
  | some a, some b =>
    let s := s.putFlag Fl.RDG_STATE_ARC_SAME (a.2 == b.2)
    if a.1 = b.1 then s else s.raise 534
  | _, _ => s

/-- KIND and body of a log entry (Table 15.6). The table gives the bodies of OWNER, TIME, METRO, PLAN and SHED no sizes and names no
kind for a repair of R214. DESIGN CHOICE (log entry 142): one octet for each code, flag and level, eight
for a time offset, 0Ah for a repair. -/
def logBody : RidgeLog → Nat × Octets
  | .command f r d o sha => (1, be 1 f.val ++ be 1 r.toNat ++ d ++ be 4 o.toNat ++ sha)
  | .regWrite f a v _ => (2, be 1 f.val ++ be 4 a.toNat ++ be 4 v.toNat)
  | .owner now cause => (3, be 1 (b2n now.isSome) ++ be 1 (match now with | some f => f.val | none => 0xFF) ++ [cause])
  | .random c o => (4, be 1 c.toNat ++ be 2 o.length ++ o)
  | .grant l => (5, be 40 l.toNat)
  | .time st set smear utc => (6, be 1 st.toNat ++ be 1 (b2n set) ++ be 8 (unsigned 64 smear) ++ be 8 (unsigned 64 utc))
  | .metro second v => (7, be 8 second.toNat ++ match v with
      | some (e, i) => be 1 1 ++ (e.map fun x => be 4 (unsigned 32 x)).flatten ++ (i.map fun x => be 2 (unsigned 16 x)).flatten
      | none => be 1 0)
  | .plan check fallback cancel =>
    (8, be 1 check.toNat ++ be 1 (b2n fallback.isSome) ++ [fallback.getD 0] ++ be 1 (b2n cancel))
  | .shed level => (9, be 1 level.val)
  | .repair j o => (0x0A, be 4 j.toNat ++ o)

/-- A log entry of an exchange: KIND, LEN, body (Table 15.7). -/
def logOctets (e : RidgeLog) : Octets := be 1 (logBody e).1 ++ be 2 (logBody e).2.length ++ (logBody e).2

/-- The payload of a course exchange (Table 15.7). The digests of R473, for which no frame is named, follow the log. -/
def cxOctets (x : RidgeCx) : Octets :=
  let log := (x.log.map logOctets).flatten
  be 8 x.course.toNat ++ be 8 x.tDep.toNat ++ be 8 x.tArr.toNat ++ x.digest ++ x.classes.flatten ++ be 1 x.verdict.val
    ++ be 8 x.replayed.toNat ++ zeros 3 ++ be 4 log.length ++ log
    ++ match x.index with | some (a, b) => a ++ b | none => []

/-- An exchange goes out in parts of at most 16,384 octets (R448, R453); PART holds the part number and the parts less 1. -/
def State.sendCx (s : State) (x : RidgeCx) : State :=
  let whole := cxOctets x
  let parts := (whole.length + 16383) / 16384
  (List.range parts).foldl (fun s k => s.ridgeNow 3 (16 * k + parts - 1) (slice whole (16384 * k) 16384)) s

/-- The ridge copy point (R453): digests are formed and the exchange of the course is sent, with the log from the active unit. -/
def State.ridgeCopy (s : State) (plan : Option RidgeLog) : State :=
  if !s.sendsCx then s else
  let n := s.course
  let classes := (List.range 7).map s.classDigest
  let digest := sha256 (be 8 n ++ classes.flatten)
  let before := s.rdg.own.find? fun x => x.course + 1 == n
  let arrival := ((s.rdg.received.find? fun x => x.1.course.toNat + 1 == n).map (·.2)).getD 0
  let replayed := match s.rdg.arbitration with | some c => if s.rdg.verdict = 0 then 0 else c | none => 0
  let log := if s.get Fl.RDG_STATE_STATE ≠ 1 then [] else
    (s.hst.inputLog.flatMap s.logEntry) ++ plan.toList ++
      [.grant (BitVec.ofNat 320 s.saf.sampled),
       .time (BitVec.ofNat 8 (s.get Fl.TIM_STATE_STATE)) (s.flag Fl.TIM_STATE_SET) s.tim.smearLeft s.utcOffset,
       .shed (Fin.ofNat 5 (s.get Fl.SWC_SHED_LEVEL))]
  let index := if n * s.period % 86400000000000 = 0 then some s.arcDigests else none
  let x : RidgeCx :=
    { course := BitVec.ofNat 64 n, tDep := BitVec.ofNat 64 ((before.map (·.departed)).getD 0), tArr := BitVec.ofNat 64 arrival,
      digest := digest, classes := classes, verdict := Fin.ofNat 4 (if replayed = 0 then 0 else s.rdg.verdict),
      replayed := BitVec.ofNat 64 replayed, log := log, index := index }
  let s := { s with rdg := { s.rdg with
    own := ((⟨n, digest, classes, s.now, index⟩ : OwnCourse) :: s.rdg.own).take 4, outputs := [], copied := s.hst.inputLog.length } }
  s.sendCx x

/-- The ridge delay and offset of an exchange (R450). -/
def State.ridgeTime (s : State) (x : RidgeCx) : State :=
  let prev := fun (n : Nat) => n + 1 == x.course.toNat
  match s.rdg.own.find? fun o => prev o.course, s.rdg.received.find? fun r => prev r.1.course.toNat with
  | some o, some r =>
    if x.tDep = 0 ∨ x.tArr = 0 then s
    else
      let t1 : Int := o.departed
      let t2 : Int := x.tArr.toNat
      let t3 : Int := x.tDep.toNat
      let t4 : Int := r.2
      let delay := ((t4 - t1) - (t3 - t2)) / 2
      let offset := ((t2 - t1) - (t4 - t3)) / 2 + s.getSigned Fl.TIM_RIDGE_ASYM_ASYM
      let s := s.put Fl.RDG_LINK_DELAY_NS (clampInt 0 0xFFFFF delay).toNat
      { s with rdg := { s.rdg with offsets := s.rdg.offsets ++ [offset] } }
  | _, _ => s

/-- RIDGE_CX_RX: the partner's exchange has arrived whole. -/
def ridgeCxRxEffect (h : RidgeHdr) (arrival : BitVec 64) (x : RidgeCx) (s : State) : State :=
  s.ridgeTake h fun s =>
    let s := s.realTime.ridgeTime x
    { s with rdg := { s.rdg with received := ((x, arrival.toNat) :: s.rdg.received).take 4 } }

/-- The partner's exchange of a course, if it has arrived. -/
def State.cxOf (s : State) (n : Nat) : Option RidgeCx :=
  (s.rdg.received.find? fun x => x.1.course.toNat == n).map (·.1)

/-- The classes whose digests differ, bit k for class k. -/
def differing (mine theirs : List Octets) : Nat :=
  (List.range 7).foldl (fun m k => if mine.getD k [] = theirs.getD k [] then m else m + 2 ^ k) 0

/-- A mismatch of course n is shown and counted; the first of a run is kept (R461). -/
def State.mismatch (s : State) (n differ run : Nat) : State :=
  let keep := if run = 1 then (n, differ) else (s.rdg.runFrom, s.rdg.runClasses)
  let s := { s with rdg := { s.rdg with runFrom := keep.1, runClasses := keep.2 } }
  let s := (s.put Fl.RDG_MISMATCH_RUN run).put Fl.RDG_MISMATCH_CLASSES differ
  let s := s.put64 Reg.RDG_MISMATCH_COURSE_LO n
  (s.bump Fl.RDG_MISMATCH_COUNT_COUNT).raise 524 (le 1 differ)

/-- A run of 2 starts an arbitration on its first course, unless one is under way. -/
def State.startArbitration (s : State) : State :=
  if s.get Fl.RDG_MISMATCH_RUN = 2 ∧ s.rdg.arbitration.isNone = true then
    ({ s with rdg := { s.rdg with arbitration := some s.rdg.runFrom, verdict := 0 } }).raise 525
  else s

/-- Compares the digests of course n with the partner's (R461). -/
def State.compareCourse (s : State) (n : Nat) (mine : OwnCourse) (theirs : RidgeCx) : State :=
  let s := ({ s with rdg := { s.rdg with compared := n + 1 } }).arcCompare mine.index theirs.index
  if mine.digest == theirs.digest then s.put Fl.RDG_MISMATCH_RUN 0
  else (s.mismatch n (differing mine.classes theirs.classes) (if s.get Fl.RDG_MISMATCH_RUN = 0 then 1 else 2)).startArbitration

/-- REPLAY_DONE: the replay of the course under arbitration agrees with the original, differs, or could not finish (R462). -/
def replayDoneEffect (agrees : Option Bool) (s : State) : State :=
  match s.rdg.arbitration with
  | none => s
  | some n =>
    if s.course ≠ n + 2 ∨ s.rdg.verdict ≠ 0 then s
    else
      let v := match agrees with | some true => 1 | some false => 2 | none => 3
      ({ s with rdg := { s.rdg with verdict := v } }).put Fl.RDG_MISMATCH_VERDICTS (64 * v)

/-- The outcome of an arbitration at the boundary that ends course n + 2 (Table 15.9). -/
def State.arbitrate (s : State) (partner : Option Nat) : State :=
  let active := s.get Fl.RDG_STATE_STATE == 1
  let own := if s.rdg.verdict = 0 then 3 else s.rdg.verdict
  let s := { s with rdg := { s.rdg with arbitration := none, verdict := 0 } }
  match partner with
  | none => if active then s.setUnit 0 0 else s.setUnit 3 5
  | some v =>
    let s := (s.put Fl.RDG_MISMATCH_VERDICTS (64 * own + 16 * v)).put Fl.RDG_MISMATCH_RUN 0
    let a := if active then own else v
    let b := if active then v else own
    let hold := fun (s : State) (cause : Nat) => if active then s else s.setUnit 3 cause
    if a = 2 ∧ b = 1 then
      let s := (s.bump Fl.RDG_FAILOVER_COUNT_COUNT).raise 526
      if active then s.setUnit 3 2 else s.setUnit 1 0
    else if a = 1 ∧ b = 2 then hold s 2
    else if a = 2 ∧ b = 2 then hold (s.raise 528) 4
    else hold (s.raise 527) 3

/-- The barrier that ends course n, as far as the ridge goes: late exchanges, comparison, arbitration (R455, R461, R463). -/
def State.ridgeBarrier (s : State) (n : Nat) : State :=
  let heard := s.rdg.heard
  let s := { s with rdg := { s.rdg with
    heard := false, silent := if heard then 0 else s.rdg.silent + 1, raised := [] } }
  if !s.paired || !s.flag Fl.RDG_STATE_LINK_UP then s
  else
    let standby := s.get Fl.RDG_STATE_STATE == 2
    if standby && (s.cxOf n).isNone then
      let s := { s with crs := { s.crs with lateClasses := 4 :: s.crs.lateClasses } }
      (s.raise 529).setUnit 3 1
    else
      let due := (s.rdg.own.filter fun o => decide (s.rdg.compared ≤ o.course) && decide (o.course ≤ n)).reverse
      let s := due.foldl (fun s o =>
        match s.cxOf o.course with
        | some x => s.compareCourse o.course o x
        | none =>
          if o.course < n then
            ({ s with rdg := { s.rdg with compared := o.course + 1 } }).bump Fl.RDG_CX_LATE_COUNT_COUNT
          else s) s
      match s.rdg.arbitration with
      | some c =>
        if n < c + 2 then s
        else s.arbitrate ((s.cxOf (c + 2)).map fun x => if x.replayed.toNat = c ∧ x.verdict.val ≠ 0 then x.verdict.val else 3)
      | none => s

/-- Changes of state that take effect at a boundary: the one that waits, a switchover, the partner in HOLD, the ridge down. -/
def State.ridgeBoundary (s : State) (n : Nat) : State :=
  let s := match s.rdg.next with
    | some x =>
      let wasAlone := s.get Fl.RDG_STATE_STATE == 0
      let s := s.setUnit x.1 x.2
      if wasAlone && x == (3, 7) then s.sendCatchup s.rdg.unsyncedFrom else s
    | none => s
  let s := match s.rdg.switchover with
    | some c =>
      if n < c then s
      else
        let st := s.get Fl.RDG_STATE_STATE
        let s := { s with rdg := { s.rdg with switchover := none } }
        if st = 1 then s.setUnit 2 0 else if st = 2 then s.setUnit 1 0 else s
    | none => s
  let s := if s.get Fl.RDG_STATE_STATE = 1 ∧ s.flag Fl.RDG_STATE_PARTNER_VALID = true ∧ s.get Fl.RDG_STATE_PARTNER_STATE = 3
      ∧ s.rdg.join.isNone = true then s.setUnit 0 0 else s
  s.ridgeGone

/-! ### Registers of the ridge (R446, R465) -/

/-- SWITCHOVER: a write of RDG_HOLD_CTRL.SWITCHOVER. -/
def switchoverEffect (func : Fin 4) (s : State) : State :=
  let f := func.val
  if !s.isOwner f then s.capture f Reg.RDG_HOLD_CTRL .notOwner
  else if s.get Fl.RDG_STATE_STATE ≠ 1 ∨ s.flag Fl.RDG_STATE_PARTNER_VALID = false ∨ s.get Fl.RDG_STATE_PARTNER_STATE ≠ 2
      ∨ s.paired = false ∨ s.rdg.arbitration.isSome = true then s.capture f Reg.RDG_HOLD_CTRL .blockState
  else { s with
    hst := { s.hst with inputLog := s.hst.inputLog ++ [.regWrite f Reg.RDG_HOLD_CTRL 2#32] }
    rdg := { s.rdg with switchover := some (s.course + 1) } }

/-- REJOIN: a write of RDG_HOLD_CTRL.REJOIN. -/
def rejoinEffect (func : Fin 4) (s : State) : State :=
  let f := func.val
  if !s.isOwner f then s.capture f Reg.RDG_HOLD_CTRL .notOwner
  else if s.get Fl.RDG_STATE_STATE ≠ 3 then s.capture f Reg.RDG_HOLD_CTRL .blockState
  else { s with rdg := { s.rdg with joinRequested := true } }

/-- A lane's block lock bears on the link (R447). -/
def lockChangeEffect (lane : Fin 320) (lock hiBer : Bool) (errored : BitVec 32) (s : State) : State :=
  (blockLockChangeEffect lane lock hiBer errored s).ridgeSync

def execBlockLockChange (lane : Fin 320) (lock hiBer : Bool) (errored : BitVec 32) (s : State) : Answer :=
  .next (lockChangeEffect lane lock hiBer errored s)
def execRidgeHelloTimer (s : State) : Answer := .next (ridgeHelloTimerEffect s)
def execRidgeResendTimer (s : State) : Answer := .next (ridgeResendTimerEffect s)
def execRidgeLinkTimeout (s : State) : Answer := .next (ridgeLinkTimeoutEffect s)
def execClaimBackoffTimer (s : State) : Answer := .next (claimBackoffTimerEffect s)

def execAloneDecision (s : State) : Answer := .next (aloneDecisionEffect s)
def execSplitResolve (s : State) : Answer := .next (splitResolveEffect s)
def execJoinRequest (s : State) : Answer := .next (joinRequestEffect s)
def execJoinTimeout (s : State) : Answer := .next (joinTimeoutEffect s)
def execCatchupDone (s : State) : Answer := .next (catchupDoneEffect s)
def execReplayDone (agrees : Option Bool) (s : State) : Answer := .next (replayDoneEffect agrees s)
def execAckNopTimer (hub : Option (Fin 128)) (s : State) : Answer := .next (ackNopTimerEffect hub s)
def execMirrorObjectExpiry (object : BitVec 32) (s : State) : Answer := .next (mirrorObjectExpiryEffect object s)
def execRidgeEraseRx (h : RidgeHdr) (course : BitVec 64) (batten : Fin 16) (masks : List (BitVec 32)) (late : Bool) (s : State) :
    Answer := .next (ridgeEraseRxEffect h course batten masks late s)


end Sys2Proof.Machine
end

