-- ==== Sys2Proof/Machine/Boot.lean ====
section
/-!
DEFINITION. Machine/Boot.lean: resets and what they keep (R497, R532, R555 to R557, R582), the boot sequence (Table 17.1), firmware
slots and images (R498 to R506), the service port (R504), the end of an OTP programming (R509 to R513), and the mount (R329, R406,
R514, R523).
-/

namespace Sys2Proof.Machine

/-! ### Firmware slots (R498, R501, R518) -/

/-- Slot A (0) or B (1). -/
def OtpState.nor (o : OtpState) (k : Nat) : NorSlot := if k = 0 then o.slotA else o.slotB

/-- OTP_FW_SLOTS, OTP_FW_REL_A and _B and OTP_FW_CTRL.NEXT follow the boot control record. -/
def State.norSync (s : State) : State :=
  let a := s.otp.slotA
  let b := s.otp.slotB
  let s := ((s.put Fl.OTP_FW_SLOTS_A_STATE a.state).put Fl.OTP_FW_SLOTS_A_TRIES a.tries).put Fl.OTP_FW_SLOTS_B_STATE b.state
  let s := (s.put Fl.OTP_FW_SLOTS_B_TRIES b.tries).put Fl.OTP_FW_CTRL_NEXT s.otp.next
  (s.put Fl.OTP_FW_REL_A_RELEASE (if a.state = 0 then 0 else a.release)).put Fl.OTP_FW_REL_B_RELEASE
    (if b.state = 0 then 0 else b.release)

/-- Writes a slot's entry of the boot control record. -/
def State.setNor (s : State) (k : Nat) (x : NorSlot) : State :=
  let o := { s.otp with bcrSeq := s.otp.bcrSeq + 1 }
  ({ s with otp := if k = 0 then { o with slotA := x } else { o with slotB := x } }).norSync

/-- Stores NEXT in the boot control record (R501). -/
def State.setNext (s : State) (next : Nat) : State :=
  ({ s with otp := { s.otp with next := next, bcrSeq := s.otp.bcrSeq + 1 } }).norSync

/-- The resident plan of a RESIDENT component (R499, R500): none where a check fails. -/
def State.residentOf (s : State) (bs : Octets) : Option Plan :=
  if decide (bs.length ≤ 524288) && planFramed bs && allZero (bs.drop (bs.length - 96)) && s.planSuits bs then
    match s.planContent bs with
    | .ok p => if p.epoch == 0 && p.refs.all (fun r => r.1 == 0) then some p else none
    | .error _ => none
  else none

/-- Offsets that follow one another from 0, in type order, up to the plaintext's length. -/
def directoryOk (plain : Nat) : Nat → Nat → List Octets → Bool
  | at', _, [] => at' == plain
  | at', t, e :: l =>
    leAt e 0 1 == t && allZero (slice e 1 3) && leAt e 4 4 == at' && allZero (slice e 12 4)
      && directoryOk plain (at' + leAt e 8 4) (t + 1) l

/-- The header of an image (Table 17.2) and the reserved octets of its trailer (R69). -/
def imageFramed (bs : Octets) : Bool :=
  decide (240 ≤ bs.length) && decide (bs.length ≤ 32505856) && leAt bs 8 4 == bs.length
    && slice bs 0 4 == [0x57#8, 0x47#8, 0x46#8, 0x57#8] && leAt bs 4 2 == 1 && leAt bs 6 2 == 128 && leAt bs 25 1 == 4
    && allZero (slice bs 40 8) && allZero (slice bs 112 16) && allZero (slice bs (bs.length - 88) 24)
    && directoryOk (bs.length - 240) 0 1 ((List.range 4).map fun k => slice bs (48 + 16 * k) 16)

/-- The checks of R500 on a received image, or the reason of R505: 1 FORMAT, 2 SIGNATURE, 3 STEPPING, 4 DECRYPT. -/
def State.imageOf (s : State) (bs : Octets) : Except Nat Image :=
  let t := bs.length - 96
  if !imageFramed bs then .error 1
  else if !s.otp.fwKeys.any (fun k => k.keyId == leAt bs t 8
      && ecdsaVerify k.x k.y (bs.take t) (beAt bs (t + 32) 32) (beAt bs (t + 64) 32)) then .error 2
  else if s.get Fl.GLB_DEVICE_ID_STEPPING < leAt bs 24 1 then .error 3
  else match gcmOpen s.otp.fwKey (slice bs 28 12) (bs.take 128) (slice bs 128 (bs.length - 240)) (slice bs (bs.length - 112) 16) with
    | none => .error 4
    | some plain =>
      let parts := (List.range 4).map fun k =>
        slice plain (leAt bs (52 + 16 * k) 4) (leAt bs (56 + 16 * k) 4)
      if (s.residentOf (parts.getD 3 [])).isNone then .error 1
      else .ok ⟨leAt bs 12 4, leAt bs 16 8, leAt bs 24 1, leAt bs 26 2, parts⟩

/-- A slot passes R500 at a boot: what it holds was programmed and reads back whole. -/
def State.slotLoads (s : State) (k : Nat) : Option (Image × Plan) :=
  match (s.otp.nor k).image with
  | none => none
  | some im =>
    if s.get Fl.GLB_DEVICE_ID_STEPPING < im.minStepping then none
    else (s.residentOf (im.components.getD 3 [])).map fun p => (im, p)

/-- Slots whose entry satisfies a test. -/
def OtpState.slotsWhere (o : OtpState) (f : NorSlot → Bool) : List Nat := [0, 1].filter fun k => f (o.nor k)

/-- The order of R501. -/
def OtpState.slotOrder (o : OtpState) : List Nat :=
  let named := o.slotsWhere fun x => decide (1 ≤ x.state) && decide (x.state ≤ 3)
  ((named.filter fun k => o.next == k + 1) ++ o.slotsWhere (fun x => x.state == 1 && decide (x.tries < 3))
    ++ o.slotsWhere (fun x => x.state == 2) ++ o.slotsWhere (fun x => x.state == 3)).eraseDups

/-- OTP_SLOT_FALLBACK for a slot. -/
def State.slotFallback (s : State) (k : Nat) : State := s.raise 577 (le 1 k)

/-- Tries slots in order; each failing slot is marked and reported (R501). -/
def State.trySlots : List Nat → State → Option (Nat × Image × Plan) × State
  | [], s => (none, s)
  | k :: rest, s =>
    let x := s.otp.nor k
    let s := if x.state = 1 then s.setNor k { x with tries := x.tries + 1 } else s
    match s.slotLoads k with
    | some (im, p) => (some (k, im, p), s)
    | none =>
      let x := s.otp.nor k
      let s := if x.state = 1 ∧ x.tries < 3 then s else s.setNor k { x with state := 4 }
      State.trySlots rest (s.slotFallback k)

/-- Step 4 of Table 17.1: the slot taken, and whether a slot was reported as failed before it. -/
def State.selectSlot (s : State) : Option (Nat × Image × Plan) × Bool × State :=
  let spent := s.otp.slotsWhere fun x => x.state == 1 && decide (3 ≤ x.tries)
  let s := spent.foldl (fun s k => (s.setNor k { s.otp.nor k with state := 4 }).slotFallback k) s
  let order := s.otp.slotOrder
  let s := if s.otp.next = 0 then s else s.setNext 0
  let (taken, s) := State.trySlots order s
  (taken, !spent.isEmpty || (match taken with | some x => order.head? != some x.1 | none => false), s)

/-! ### What a start loads -/

/-- The default roles of Table 1.7, with their lane masks. -/
def defaultRoles (grade : Nat) : List (Nat × Nat) :=
  let roles := if grade = 1 then [(13, 1), (5, 2), (1, 3), (1, 4)] else [(26, 1), (12, 2), (1, 3), (1, 4)]
  padRoles ((roles.map fun r => List.replicate r.1 (r.2, 0xFF)).flatten)
where
  /-- Groups beyond the last one are Unused. -/
  padRoles (l : List (Nat × Nat)) : List (Nat × Nat) := l ++ List.replicate (40 - l.length) (0, 0)

/-- A field of the DEFAULTS generation in force, or the value of Table 17.5 without one. -/
def State.defaultsField (s : State) (o k without : Nat) : Nat :=
  match slotInForce s.otp.defaults with
  | some g => leAt g.2 o k
  | none => without

/-- Replaces `k` octets at an offset by a number. -/
def patch (bs : Octets) (o k v : Nat) : Octets := bs.take o ++ le k v ++ bs.drop (o + k)

/-- The parameter sets of the resident plan (R515): the image's first set of each kind with the survey band, mode and channel. -/
def State.surveyParams (s : State) (p : Plan) : List Octets :=
  let first := fun (kind : Nat) =>
    match p.params.find? fun r => leAt r 0 1 == kind with
    | some r => padTo 64 r
    | none => padTo 64 (le 1 kind)
  let plc := patch (first 1) 1 1 (s.defaultsField 14 1 1)
  let rad := patch (first 2) 1 1 (s.defaultsField 15 1 0x10)
  [plc, patch (patch rad 8 1 (s.defaultsField 16 1 1)) 10 2 (s.defaultsField 18 2 0)]

/-- The resident plan as it runs (R515): default roles, one chain for each Fronthaul lane as eaves are found, no quota. -/
def State.residentPlan (s : State) (p : Plan) : Plan :=
  { p with
    planId := 0, period := 1, survey := true, roles := defaultRoles (s.get Fl.GLB_DEVICE_ID_GRADE), chains := [], cells := []
    params := s.surveyParams p
    types := p.types.map fun t => t.map fun b => { b with quota := 0 } }

/-- Registers that the OTP loads (Table 17.5, R436, R483, R508): service port, acquisition time, resolution, safety generation,
calibration. -/
def State.otpLoad (s : State) : State :=
  let s := s.lcSync.freeSync
  let g := slotInForce s.otp.defaults
  let s := (s.putFlag Fl.OTP_DEFAULTS_STATE_VALID g.isSome).put Fl.OTP_DEFAULTS_STATE_SLOT (match g with | some x => x.1 | none => 0)
  let s := s.put Fl.OTP_SVC_IP_ADDR (s.defaultsField 0 4 0xC0A8FE14)
  let s := (s.put Fl.TIM_ACQ_CFG_ACQ_S (s.defaultsField 12 1 60)).put Fl.REC_BILL_CFG_RES (s.defaultsField 13 1 2)
  let s : State := match slotInForce s.otp.safe with
    | none => s
    | some (slot, b) =>
      let w := fun (o : Nat) => BitVec.ofNat 32 (leAt b o 4)
      let s := ((s.setWord Reg.SAF_CFG0 (w 0)).setWord Reg.SAF_CFG1 (w 4)).setWord Reg.SAF_CFG2 (w 8)
      let s := ((s.setWord Reg.SAF_FORCE0 (w 0)).setWord Reg.SAF_FORCE1 (w 4)).setWord Reg.SAF_FORCE2 (w 8)
      let s := (List.range 320).foldl (fun s l =>
        let m := leAt b (12 + 2 * l) 2
        (s.put (Fl.SAF_LANE_CFG_MASK l) m).put (Fl.SAF_LANE_STATE_MASK l) m) s
      let s := (s.put Fl.SAF_OTP_GEN slot).putFlag Fl.SAF_OTP_VALID true
      s.put Fl.SAF_FORCE_CRC_CRC (leAt b 764 4)
  s.calAdopt

/-- The checks of OTP at step 2 (R508), and a marker over a wrong CRC (R509). -/
def State.otpCheck (s : State) : State :=
  let s := if s.otp.identValid then s else s.raise 590
  let s := if s.otp.rootseedUsed && !s.otp.rootseedValid then s.raise 590 else s
  ((s.otp.defaults ++ s.otp.cal ++ s.otp.safe).filter fun x => x.state == 3).foldl (fun s _ => s.raise 590) s

/-- M of R399 over the components in type order. -/
def bootMeasure (components : List Octets) : Octets := components.foldl (fun m c => sha256 (m ++ sha256 c)) (zeros 32)

/-- Steps 5 to 7 of Table 17.1 on a selected image: it is loaded, the resident plan area with it, start-up ends, and every block is
clocked. -/
def State.loadImage (s : State) (k : Nat) (im : Image) (p : Plan) (fallback : Bool) : State :=
  let s := { s with
    otp := { s.otp with buildTime := im.buildTime, unconfirmed := (s.otp.nor k).state == 1 }
    key := { s.key with measure := bootMeasure im.components }
    crs := { s.crs with active := s.residentPlan p } }
  let s := (s.put Fl.OTP_FW_RELEASE_VALUE im.release).put Fl.OTP_FW_FMT_VALUE im.settingsFmt
  let s := (s.put Fl.OTP_BOOT_STATUS_SLOT k).put Fl.OTP_BOOT_STATUS_SOURCE (b2n fallback)
  let s := { s with saf := { s.saf with testing := true } }
  let s := s.keyStart.raise 576
  let s := (((s.uartLine 5).uartLine 6).uartLine 7).laneRoles s.plan.roles
  let s := s.put Fl.GLB_CLK_ALIVE_ALIVE (2 ^ 22 - 1)
  let s := if s.met.gen.isNone then s.raise 548 else s
  s.soffitAtBoot.safUpdate

/-- Steps 4 to 7 of Table 17.1 once DRAM answers: a slot is selected and loaded, or recovery is entered (R501, R503). -/
def State.bootImage (s : State) : State :=
  let (taken, fallback, s) := (s.uartLine 4).selectSlot
  match taken with
  | some (k, im, p) => s.loadImage k im p fallback
  | none => s.put Fl.OTP_BOOT_STATUS_SOURCE 2

/-- The end of step 2: OTP is read and checked; GLB, OTP and EVT run; GLB_BOOT is the first record of a start. -/
def State.bootOtp (s : State) : State :=
  let s := (s.otpLoad.norSync).put Fl.GLB_CLK_ALIVE_ALIVE (1 + 2 ^ 18 + 2 ^ 19)
  (s.raise 0 (le 1 (s.get Fl.HLT_RESET_CAUSE_CAUSE) ++ le 1 (s.get Fl.HLT_RESET_CAUSE_POINT))).otpCheck

/-! ### What resets keep -/

/-- Registers that survive every reset: fused values, and the soffit domain (R490, R533). -/
def alwaysKept : List Nat := [Reg.GLB_DEVICE_ID, Reg.TMP_SOFFIT_STATE, Reg.TMP_CFG, Reg.TMP_LOG_HEAD]

/-- Registers that survive a warm reset besides (R582). -/
def warmKept : List Nat :=
  alwaysKept ++ [Reg.EVT_LOST_COUNT, Reg.SAF_FAULT, Reg.TIM_STATE, Reg.TIM_RATE, Reg.TIM_OFFSET, Reg.TIM_CAND_STATUS,
    Reg.TIM_HOLD_RATE, Reg.TIM_STEP_PEND_LO, Reg.TIM_STEP_PEND_HI, Reg.DDR_INFO, Reg.HLT_RESET_CAUSE]

/-- What a reset keeps of the registers: some whole, the fused BASE of the oscillators, and what pins and straps show. -/
def State.keptRegs (s old : State) (kept : List Nat) : State :=
  let s := { s with regs := old.regs.filter fun p => kept.contains p.1 }
  let s := (List.range 32).foldl (fun s k => s.put (Fl.HLT_PROC_BASE k) (old.get (Fl.HLT_PROC_BASE k))) s
  (List.range 40).foldl (fun s g => s.putFlag (Fl.LANE_GRP_STATUS_REFCLK_OK g) (old.flag (Fl.LANE_GRP_STATUS_REFCLK_OK g))) s

/-- OTP and NOR, which every reset keeps. -/
def OtpState.kept (o : OtpState) : OtpState :=
  { o with
    prog := none, buildTime := 0, unconfirmed := false, transfer := none, survey := [], surveyFull := false, links := []
    resetCause := none }

/-- The archive as the NAND holds it: no host work, no link state. -/
def ArcState.kept (a : ArcState) : ArcState :=
  { a with
    job := none, hubs := [], hostWrites := [], hostReads := [], scans := [], uncorrRaised := 0, fcsErr := false, stopping := none }

/-- A reset as PORST_N makes it: everything off the NAND, the NOR, OTP and the soffit domain is lost. The cause and the point are
shown (R497, R532). -/
def State.coldReset (s : State) (cause point : Nat) : State :=
  let r : State := { State.reset with
    pending := s.pending, out := s.out, free := s.free
    tmp := s.tmp
    tap := s.tap
    otp := { s.otp.kept with inReset := true }
    arc := { s.arc.kept with staging := [], marker := false }
    key := { State.reset.key with stored := s.key.stored }
    evt := { State.reset.evt with spilled := s.evt.spilled, reservation := s.evt.reservation } }
  let r := r.keptRegs s alwaysKept
  (r.put Fl.HLT_RESET_CAUSE_CAUSE cause).put Fl.HLT_RESET_CAUSE_POINT point

/-- Courses resume after a warm reset without a hold: SET reads 1, no step is stored and the next course is numbered above the last
(R369). -/
def State.noHold (s : State) : Bool :=
  s.flag Fl.TIM_STATE_SET && !s.flag Fl.TIM_STATE_STEP_PENDING && decide (s.course < (s.now + periodNs 1 - 1) / periodNs 1)

/-- The time engine across a warm reset (R369): time scale, state and servo stay. A hold waits for a reference to qualify again. -/
def State.timeKept (s : State) : TimState :=
  let cands := if s.noHold then s.tim.cands
    else FMap.mapVals {} (fun _ (c : Cand) => { c with qualified := false, heldOff := false, accepted := false, good := 0 }) s.tim.cands
  { s.tim with held := true, waiting := !s.noHold, cands := cands, ports := [], master := none, history := [] }

/-- A hold after a warm reset: no candidate is selected, and the time state is ACQUIRE (R369, Table 12.3). -/
def State.holdTime (s : State) : State :=
  ((s.put Fl.TIM_STATE_SEL 0).setCand 3 (s.cand 3)).timEnter 0

/-- What a warm reset keeps (R582). DEDUCED (log entry 108): the START cause stays, which only a deliberate reset clears (Table 14.3,
R434). -/
def State.warmReset (s : State) (cause : Nat) : State :=
  let s := s.progStop
  let lockout := s.get Fl.SAF_STATE_STATE == 3
  let funcs := FMap.mapVals ({} : FuncState)
    (fun _ (x : FuncState) => { ({} : FuncState) with linkDown := x.linkDown, masterClear := x.masterClear, d3hot := x.d3hot })
    s.hst.funcs
  let r : State := { State.reset with
    pending := s.pending, out := s.out, free := s.free
    hst := { bifurcation := s.hst.bifurcation, funcs := funcs }
    evt := { s.evt with fetching := [], latched := [], loaded := [] }
    tim := s.timeKept
    key := { State.reset.key with stored := s.key.stored }
    arc := s.arc.kept
    meters := s.meters
    saf := { State.reset.saf with start := s.saf.start }
    tmp := s.tmp
    tap := s.tap
    otp := { s.otp.kept with inReset := false } }
  let r := r.keptRegs s warmKept
  let r := if lockout then r.put Fl.SAF_STATE_STATE 3 else r
  let r := if s.noHold then r else r.holdTime
  let r := (r.put Fl.RDG_STATE_UNIT (s.get Fl.RDG_STATE_UNIT)).put Fl.OTP_SVC_STATUS_MODE (s.get Fl.OTP_SVC_STATUS_MODE)
  (r.put Fl.HLT_RESET_CAUSE_CAUSE cause).put Fl.HLT_RESET_CAUSE_POINT 0

/-- A warm reset and its boot from step 4: DRAM, which the reset held in self-refresh, leaves it at the rate of the last training (R497,
R564, R582). -/
def State.warmBoot (s : State) (cause : Nat) : State :=
  let s := (s.warmReset cause).bootOtp
  if s.decommissioned then (s.laneRoles []) else
  if !s.flag Fl.DDR_INFO_TRAINED then s else
  ((s.putFlag Fl.DDR_INFO_SELF_REFRESH false).raise 629).bootImage

/-- A warm reset is asked for (R506, R556, R557): with the archive mounted a power-safe stop precedes it; during a stop it has no
further effect. -/
def State.beginReset (s : State) (cause : Nat) : State :=
  if s.arc.stopping.isSome then s
  else if s.flag Fl.ARC_STATE_MOUNTED && !s.flag Fl.ARC_STATE_STOPPED then
    ({ s with otp := { s.otp with resetCause := some cause } }).stopArchive
  else s.warmBoot cause

/-! ### Starts and resets from outside -/

/-- POWER_ON_RESET: PORST_N rises (R497, R564). A start that finds the device running was preceded by PORST_N low. -/
def powerOnResetEffect (unitB : Bool) (straps : Fin 4) (svcMode : Bool) (fit : DramFit) (s : State) : State :=
  let s := if s.otp.inReset then s else s.progLost.coldReset 0 0
  let s := { s with
    otp := { s.otp with inReset := false }
    hst := { s.hst with bifurcation := if straps.val = 3 then 0 else straps.val } }
  let s := (s.putFlag Fl.RDG_STATE_UNIT unitB).putFlag Fl.OTP_SVC_STATUS_MODE svcMode
  let s := (s.uartLine 1).bootOtp.uartLine 2
  let s := { s with saf := { s.saf with start := !s.flag Fl.SAF_FORCE0_AUTO_START } }
  if s.decommissioned then s else
  let capacity := 64 * (1 + b2n fit.dual) * (1 + b2n fit.big)
  let s := ((s.put Fl.DDR_INFO_RANKS (1 + b2n fit.dual)).put Fl.DDR_INFO_DENSITY (1 + b2n fit.big)).put Fl.DDR_INFO_CAPACITY capacity
  if fit.rate.val = 0 then s.raise 625 (le 1 fit.channel.val) else
  let s := ((s.put Fl.DDR_INFO_RATE fit.rate.val).putFlag Fl.DDR_INFO_TRAINED true).raise 624 (le 1 fit.rate.val)
  s.bootImage

/-- PORST_ASSERT: PORST_N is driven low (R557). -/
def porstAssertEffect (s : State) : State := s.progLost.coldReset 0 0

/-- WARM_RESET (R556). -/
def warmResetEffect (s : State) : State := if s.otp.inReset then s else s.beginReset 1

/-- THERMAL_RESTART (R529, Table 18.5 step 5). -/
def thermalRestartEffect (s : State) : State :=
  if s.hlt.tripped && s.arc.stopping.isNone && s.flag Fl.HLT_CFG_AUTO_RESTART then s.warmBoot 3 else s

/-- SUPPLY_SAMPLE: a point below its reset level for 2 samples resets the WG20 as PORST_N does (R530 to R532). -/
def supplySampleEffect (mv : List Nat) (s : State) : State :=
  match s.supplyStep mv with
  | (some p, s) => s.progLost.coldReset 2 p
  | (none, s) => s

/-- MAIN_POWER_OFF (R492). -/
def mainPowerOffEffect (s : State) : State :=
  if !s.tmp.mainPower then s else s.soffitOff.progLost.coldReset 0 0

/-- POWER_SAFE_STOP_DONE: the stop is complete, and what asked for it follows (R328, R529, R556). -/
def powerSafeStopDoneEffect (s : State) : State :=
  if s.arc.stopping.isNone then s else
  let s := s.stopArchiveDone
  match s.otp.resetCause with
  | some c => s.warmBoot c
  | none => if s.hlt.tripped then s.thermalStop else s

/-- READY_TIMEOUT (R502). -/
def readyTimeoutEffect (s : State) : State := if s.otp.unconfirmed then s.beginReset 4 else s

/-- IMAGE_CONFIRMED (R502). -/
def imageConfirmedEffect (s : State) : State :=
  if !s.otp.unconfirmed then s else
  let k := s.get Fl.OTP_BOOT_STATUS_SLOT
  let s := { s with otp := { s.otp with unconfirmed := false } }
  let other := s.otp.nor (1 - k)
  let s := if other.state = 2 then s.setNor (1 - k) { other with state := 3 } else s
  (s.setNor k { s.otp.nor k with state := 2 }).raise 580

/-- A write of OTP_FW_CTRL in effect: NEXT is stored, RESET stops and resets (R501, R506). -/
def State.fwCtrl (s : State) (v : Word) : State :=
  let next := bitsOf 5 4 v.toNat
  let s := if next = s.otp.next then s else s.setNext next
  if bitOf 0 v.toNat then s.beginReset 4 else s

/-- A function writes OTP_FW_CTRL (R14, R458, R518). -/
def State.fwCtrlWrite (s : State) (f next reset : Nat) : State :=
  if !s.isOwner f then s.capture f Reg.OTP_FW_CTRL .notOwner
  else if next = 3 then s.capture f Reg.OTP_FW_CTRL .reservedCode
  else if s.standbyOrHold then s.capture f Reg.OTP_FW_CTRL .blockState
  else
    let v := BitVec.ofNat 32 (16 * next + reset)
    s.logOrDo f Reg.OTP_FW_CTRL v fun s => s.fwCtrl v

/-! ### The service port (R504, R505) -/

/-- The service port runs: the boot core is past step 2 of a life cycle other than DECOMMISSIONED. -/
def State.svcUp (s : State) : Bool := !s.otp.inReset && !s.decommissioned

/-- SVC_LINK_CHANGE (R519). -/
def svcLinkChangeEffect (up : Bool) (s : State) : State :=
  if up = s.flag Fl.OTP_SVC_STATUS_LINK then s else (s.putFlag Fl.OTP_SVC_STATUS_LINK up).raise 589

/-- SVC_ARP_ICMP_RX: a request for the port's address is answered. -/
def svcArpIcmpRxEffect (icmp : Bool) (target : BitVec 32) (data : Octets) (s : State) : State :=
  if !s.svcUp || target.toNat != s.get Fl.OTP_SVC_IP_ADDR then s
  else s.emit (.svc (if icmp then .echo data else .arp s.otp.svcMac target.toNat))

/-- A transfer of an image begins. -/
def State.beginTransfer (s : State) (t : Transfer) : State :=
  ({ s with otp := { s.otp with transfer := some t } }).putFlag Fl.OTP_SVC_STATUS_XFER true

/-- TFTP_WRITE_REQUEST. -/
def tftpWriteRequestEffect (name : Octets) (octet : Bool) (blksize : Option Nat) (s : State) : State :=
  let bad := name != ascii "wg20.img" || !octet
    || (match blksize with | some n => decide (n < 512) || decide (1468 < n) | none => false)
  if !s.svcUp then s
  else if bad then s.emit (.svc (.tftpError 2))
  else if s.otp.transfer.isSome then s.emit (.svc (.tftpError 0))
  else
    let s := s.beginTransfer ⟨blksize.getD 512, 1, [], false, false⟩
    s.emit (.svc (match blksize with | some n => .tftpOack n | none => .tftpAck 0))

/-- TFTP_DATA_RX: the next block is stored and acknowledged; a block shorter than the block size ends the transfer, and its
acknowledgement waits for the checks of R505. A repeat of the last block is acknowledged again. -/
def tftpDataRxEffect (block : BitVec 16) (data : Octets) (s : State) : State :=
  match s.otp.transfer with
  | none => s
  | some t =>
    if t.uart || t.whole || t.blksize < data.length then s
    else if block.toNat = (t.next + 65535) % 65536 then s.emit (.svc (.tftpAck block.toNat))
    else if block.toNat ≠ t.next % 65536 then s
    else
      let last := decide (data.length < t.blksize)
      let t := { t with next := t.next + 1, octets := t.octets ++ data, whole := last }
      let s := { s with otp := { s.otp with transfer := some t } }
      if last then s else s.emit (.svc (.tftpAck block.toNat))

/-- XMODEM_RECEIVE: in recovery, an image has arrived over the UART. -/
def xmodemReceiveEffect (octets : Octets) (s : State) : State :=
  if s.get Fl.OTP_BOOT_STATUS_SOURCE ≠ 2 ∨ s.otp.transfer.isSome = true then s
  else s.beginTransfer ⟨1024, 1, octets, true, true⟩

/-- The slot that a received image goes to (R505). -/
def State.targetSlot (s : State) : Nat :=
  if s.get Fl.OTP_BOOT_STATUS_SOURCE = 2 then (if s.otp.slotA.state = 2 then 1 else 0)
  else 1 - s.get Fl.OTP_BOOT_STATUS_SLOT

/-- A refused image (R505). -/
def State.imageRejected (s : State) (uart : Bool) (reason : Nat) : State :=
  let s := s.raise 579 (le 1 reason)
  if uart then s else s.emit (.svc (.tftpError 0))

/-- IMAGE_RECEIVED: a whole image is checked and written to its slot (R505). XMODEM pads the last block, so the image ends where its
LENGTH says. -/
def imageReceivedEffect (flashError : Bool) (s : State) : State :=
  match s.otp.transfer with
  | none => s
  | some t =>
    if !t.whole then s else
    let s := ({ s with otp := { s.otp with transfer := none } }).putFlag Fl.OTP_SVC_STATUS_XFER false
    let bs := if t.uart then t.octets.take (leAt t.octets 8 4) else t.octets
    match s.imageOf bs with
    | .error r => s.imageRejected t.uart r
    | .ok im =>
      let k := s.targetSlot
      let s := s.setNor k {}
      if flashError then s.imageRejected t.uart 5
      else
        let s := (s.setNor k ⟨1, 0, im.release, some im⟩).raise 578 (le 1 k)
        if t.uart then s else s.emit (.svc (.tftpAck ((t.next + 65535) % 65536)))

/-! ### The end of an OTP programming (R509, R512, R513) -/

/-- A programming whose read-back matches. -/
def State.progGood (s : State) (p : Programming) : State :=
  let slot := le 1 p.slot
  if p.block = 1 then
    ((s.markSlot 1 p.slot ⟨2, p.octets⟩).progComplete p .ok slot).raise 582
  else if p.block = 2 then
    let s := s.markSlot 2 p.slot ⟨2, p.octets⟩
    let s := { s with met := { s.met with due := true } }
    (((s.progComplete p .ok slot).raise 582).raise 546).soffitPowered 8 p.slot
  else if p.block = 3 then
    let s := s.markSlot 3 p.slot ⟨2, p.octets⟩
    ((({ s with saf := { s.saf with programmed := true } }).safProgEnd 0).raise 582).safUpdate
  else if p.block = 4 then
    let s := s.setLcWord p.slot (s.otp.lcWord p.slot ||| unLe p.octets)
    let s := s.lcSync.lcRootSync
    let s := ((s.progComplete p .ok []).raise 582).raise 585
    s.beginReset 4
  else
    (({ s with otp := { s.otp with rootseed := p.octets, rootseedValid := true } }).raise 582).lcSync

/-- OTP_PROGRAM_DONE: words written and read back; `word` is what a life-cycle word then reads where it differs. -/
def otpProgramDoneEffect (differs : Bool) (word : BitVec 32) (s : State) : State :=
  match s.otp.prog with
  | none => s
  | some p =>
    let s := s.progOver (if differs then 13 else 0)
    if !differs then s.progGood p
    else
      let s := if p.block = 4 then s.failLcWord p.slot word.toNat else if p.block ≤ 3 then s.spoilSlot p else s
      let s := if p.block = 3 then s.safProgEnd 13 else s
      s.progComplete p .hwFault []

/-! ### The mount (R329, R406, R514, R523) -/

/-- The format record matches the present hubs: none of its hubs has reported another ID or shape. -/
def State.formatMatches (s : State) (f : Format) : Bool :=
  f.hubs.all fun p =>
    match p.2, (s.hub p.1).geom with
    | some x, some g => (s.hub p.1).seenId == x.hubId && g.shape == x.geom.shape
    | _, _ => true

/-- Staged content meets a TABLE_REFS entry: the mode, and the SHA-256 of its octets. A kind in carry mode has none. -/
def refMet (ref : Nat × Octets) (t : Option StagedTable) : Bool :=
  match t with
  | none => ref.1 == 0
  | some t => ref.1 == t.mode && sha256 t.octets == ref.2

/-- Every kind of a plan meets its TABLE_REFS entry. -/
def Plan.tablesMet (p : Plan) (tables : FMap (Option StagedTable)) : Bool :=
  (List.range 5).all fun k => refMet (p.refs.getD k (0, [])) (FMap.get none tables k)

/-- Step 5 of Table 10.12 with a stored plan in FIELD (R514): the reason of its refusal, 0 when every check passes. -/
def State.resumeReason (s : State) (st : StoredPlan) : Nat :=
  if !s.planSigned st.image then 1
  else if !s.planSuits st.image then 2
  else match s.planContent st.image with
    | .error _ => 2
    | .ok p => if p.tablesMet st.tables then 0 else 3

/-- The settings record is restored, or discarded where its format differs (R507). -/
def State.restoreSettings (s : State) : State :=
  match s.arc.settings with
  | none => s
  | some x =>
    let fmt := s.get Fl.OTP_FW_FMT_VALUE % 65536
    if x.fmt ≠ fmt then (s.putFlag Fl.OTP_BOOT_STATUS_SETTINGS_RESET true).raise 581 (le 2 x.fmt ++ le 2 fmt)
    else
      let one := fun (s : State) (p : Nat × Word) =>
        match regRow p.1 with
        | none => s
        | some r => r.fields.foldl (fun s (f : FieldRow) =>
            if f.acc = .rwo then s.put ⟨p.1, f.hi, f.lo⟩ (bitsOf f.hi f.lo p.2.toNat) else s) s
      { x.words.foldl one s with overrides := x.overrides }

/-- The roles during a hold once the archive has mounted: the Ethernet and Ridge groups of the stored plan are trained as well
(R368). -/
def State.holdRoles (s : State) (p : Plan) : List (Nat × Nat) :=
  (List.range 40).map fun g =>
    let r := p.roles.getD g (0, 0)
    if r.1 = 3 ∨ r.1 = 4 then r else s.plan.roles.getD g (0, 0)

/-- The plan that a mounted WG20 selects (Table 1.10, R467, R514). -/
def State.resumeAtMount (s : State) : State :=
  if s.get Fl.OTP_LIFECYCLE_CODE ≠ 3 ∨ (s.flag Fl.RDG_STATE_PARTNER_VALID = true ∧ s.get Fl.RDG_STATE_PARTNER_STATE = 1) then s
  else match s.arc.stored with
    | none => s
    | some st =>
      let r := s.resumeReason st
      if r ≠ 0 then (s.put Fl.OTP_BOOT_STATUS_RESUME_FAIL r).raise 587 (le 1 r)
      else
        let s := s.restoreSettings
        let s := if s.tim.held then s.laneRoles (s.holdRoles st.plan) else s
        { s with crs := { s.crs with resuming := true } }

/-- What is read without a stop marker: per-meter state of the last checkpoint, and open bands that close early. A power loss has
emptied staging; what was staged since stays until it is written (R295), and is placed again. -/
def State.mountWithout (s : State) (f : Format) : State :=
  let again := fun (r : Staged) => { r with place := none }
  let s := { s with meters := s.arc.ckpt, arc := { s.arc with staging := s.arc.staging.map again } }
  (s.arc.bands.filter fun p => p.2.isOpen).foldl (fun s p => s.closeBand f p.1 true) s

/-- With a stop marker nothing is lost: an open band with a page whose PROGRAM the stop discarded closes early, and its data is
written again (R328, R329). -/
def State.mountWith (s : State) (f : Format) : State :=
  (s.arc.bands.filter fun p => p.2.isOpen).foldl (fun s p =>
    let size := max 1 (f.pageSize (stripeOf p.1))
    let pages := (List.range ((p.2.bytes - p.2.fill.length) / size)).filter fun k => !p.2.done.contains k
    if pages.isEmpty then s else s.rewrite f p.1 pages) s

/-- ARCHIVE_MOUNT: the mount of Table 10.12 ends; `anchorOk` tells that a valid anchor was found. The trees of region VALLEY are
held again (R254), and erases that the reset cut short run again. -/
def archiveMountEffect (anchorOk : Bool) (s : State) : State :=
  if s.flag Fl.ARC_STATE_MOUNTED || s.arc.job.isSome then s else
  match s.arc.format with
  | none => s.raise 370
  | some f =>
    if !anchorOk || !s.formatMatches f then s.raise 370 else
    let marked := s.arc.marker
    let s := if marked then s else s.mountWithout f
    let s := { s with
      arc := { s.arc with marker := false, stopping := none }
      val := { s.val with held := keepTrees (s.val.held ++ s.arc.trees) } }
    let s := ((s.putFlag Fl.ARC_STATE_STOPPED false).put Fl.ARC_STATE_CELL_MODE f.mode).put Fl.ARC_DRAM_MIB (s.archiveDram f)
    let s := ((s.putFlag Fl.ARC_STATE_MOUNTED true).arcSync).evtAtMount
    let erasing := (s.arc.bands.filter fun p => p.2.use == .erasing).map (·.1)
    let s := (erasing.foldl (fun s b => s.eraseMembers f b fun _ => true) s).metaBand
    let s := if marked then s.mountWith f else s
    (((s.raise 369).keyAtMount.resumeAtMount).writeReleased).uartLine 8

/-! ### Answers -/

def execPowerOnReset (unitB : Bool) (straps : Fin 4) (svcMode : Bool) (fit : DramFit) (s : State) : Answer :=
  .next (powerOnResetEffect unitB straps svcMode fit s)
def execPorstAssert (s : State) : Answer := .next (porstAssertEffect s)
def execWarmReset (s : State) : Answer := .next (warmResetEffect s)
def execThermalRestart (s : State) : Answer := .next (thermalRestartEffect s)
def execSupplySample (mv : List Nat) (s : State) : Answer := .next (supplySampleEffect mv s)
def execMainPowerOff (s : State) : Answer := .next (mainPowerOffEffect s)
def execPowerSafeStopDone (s : State) : Answer := .next (powerSafeStopDoneEffect s)
def execReadyTimeout (s : State) : Answer := .next (readyTimeoutEffect s)
def execImageConfirmed (s : State) : Answer := .next (imageConfirmedEffect s)
def execSvcLinkChange (up : Bool) (s : State) : Answer := .next (svcLinkChangeEffect up s)
def execSvcArpIcmpRx (icmp : Bool) (target : BitVec 32) (data : Octets) (s : State) : Answer :=
  .next (svcArpIcmpRxEffect icmp target data s)
def execTftpWriteRequest (name : Octets) (octet : Bool) (blksize : Option Nat) (s : State) : Answer :=
  .next (tftpWriteRequestEffect name octet blksize s)
def execTftpDataRx (block : BitVec 16) (data : Octets) (s : State) : Answer := .next (tftpDataRxEffect block data s)
def execXmodemReceive (octets : Octets) (s : State) : Answer := .next (xmodemReceiveEffect octets s)
def execImageReceived (flashError : Bool) (s : State) : Answer := .next (imageReceivedEffect flashError s)
def execOtpProgramDone (differs : Bool) (word : BitVec 32) (s : State) : Answer := .next (otpProgramDoneEffect differs word s)
def execArchiveMount (anchorOk : Bool) (s : State) : Answer := .next (archiveMountEffect anchorOk s)

end Sys2Proof.Machine
end

