-- ==== Sys2Proof/Machine/Eav.lean ====
section
/-!
DEFINITION. Machine/Eav.lean: fronthaul lanes and eaves (chapter 3): sub-frames, block floating point, eave metrology, the
control channel, bringing eaves into service.
-/

namespace Sys2Proof.Machine

/-- What is kept for a position of a lane. -/
def State.port (s : State) (l p : Nat) : EavPort := FMap.get {} s.eav.ports (32 * l + p)

/-- Writes what is kept for a position. -/
def State.setPort (s : State) (l p : Nat) (x : EavPort) : State :=
  { s with eav := { s.eav with ports := FMap.set {} s.eav.ports (32 * l + p) x } }

/-- The chain of a lane under the plan. -/
def Plan.chainOf (p : Plan) (l : Nat) : Option Chain := p.chains.find? fun c => c.lane == l

/-- The eave record at a position of a chain. -/
def Chain.at' (c : Chain) (pos : Nat) : Option EaveRec := c.eaves.find? fun e => e.position == pos

/-- A chain's eaves in position order. -/
def Chain.inOrder (c : Chain) : List EaveRec := (List.range 32).filterMap fun p => c.at' p

/-- Power-line cells of an eave. -/
def EaveRec.plcCount (e : EaveRec) : Nat := ([0, 1, 2, 3].filter fun b => bitOf b e.config).length

/-- 1 when the eave has a radio cell. -/
def EaveRec.radio (e : EaveRec) : Nat := b2n (bitOf 4 e.config)

/-- Size of the uplink element U (R96). -/
def EaveRec.up (e : EaveRec) : Nat := 20 + 50 * e.plcCount + 500 * e.radio
/-- Size of the downlink element D (R96). -/
def EaveRec.down (e : EaveRec) : Nat := 10 + 50 * e.plcCount + 250 * e.radio

/-- Eaves of a chain with their downlink and uplink offsets DOFF and UOFF (R96). -/
def Chain.slots (c : Chain) : List (EaveRec × Nat × Nat) :=
  (c.inOrder.foldl (fun (acc : List (EaveRec × Nat × Nat) × Nat × Nat) e =>
    (acc.1 ++ [(e, acc.2.1, acc.2.2)], acc.2.1 + e.down, acc.2.2 + e.up)) ([], 0, 0)).1

/-- DL_LEN of a chain (R96). -/
def Chain.dlLen (c : Chain) : Nat := c.inOrder.foldl (fun n e => n + e.down) 0
/-- UL_LEN of a chain (R96). -/
def Chain.ulLen (c : Chain) : Nat := c.inOrder.foldl (fun n e => n + e.up) 0

/-! ### Block floating point (R98, R99) -/

/-- The exponent of a block: the smallest with which every value, rounded, lies in −128 to 127; 15 otherwise. -/
def blockExp (xs : List Int) : Nat :=
  ((List.range 15).find? fun e => xs.all fun x => let m := roundDiv x (2 ^ e); decide (-128 ≤ m) && decide (m ≤ 127)).getD 15

/-- The mantissas of a block under an exponent; they saturate at exponent 15. -/
def mantissas (e : Nat) (xs : List Int) : Octets :=
  xs.map fun x => BitVec.ofNat 8 (unsigned 8 (clampInt (-128) 127 (roundDiv x (2 ^ e))))

/-- Blocks of a stream: `n` values each. -/
def blocksOf (n : Nat) : Nat → List Int → List (List Int)
  | 0, _ => []
  | fuel + 1, xs => if xs.isEmpty then [] else xs.take n :: blocksOf n fuel (xs.drop n)

/-- A list of exactly `n` values: cut, or filled with 0. -/
def sized (n : Nat) (xs : List Int) : List Int := (xs ++ List.replicate (n - xs.length) 0).take n

/-- Exponents and mantissas of a stream of `n` values in blocks of `k` values. -/
def encodeStream (n k : Nat) (xs : List Int) : List Nat × Octets :=
  let bs := blocksOf k n (sized n xs)
  let es := bs.map blockExp
  (es, ((es.zip bs).map fun p => mantissas p.1 p.2).foldl (· ++ ·) [])

/-- The values that mantissas spell under the exponents of their blocks of `k` values (R98). -/
def decodeStream (k : Nat) : List Nat → Octets → List Int
  | [], _ => []
  | e :: es, bs => (bs.take k).map (fun b => signed 8 b.toNat * 2 ^ e) ++ decodeStream k es (bs.drop k)

/-- Exponent nibbles packed two to an octet, even first in bits [7:4]. -/
def nibbles (es : List Nat) (octets : Nat) : Octets :=
  (List.range octets).map fun k => BitVec.ofNat 8 (16 * es.getD (2 * k) 0 + es.getD (2 * k + 1) 0)

/-- Exponent nibble `k` of packed octets. -/
def nibbleAt (bs : Octets) (k : Nat) : Nat := let n := beAt bs (k / 2) 1; if k % 2 = 0 then n / 16 else n % 16

/-- An element with its ECRC (R97). -/
def withEcrc (body : Octets) : Octets := body ++ be 2 (crc16 body)

/-- The downlink element of an eave (Table 3.6): `on` names the streams that transmit items filled; every other stream carries zero
samples with TX_EN 0. -/
def downElement (e : EaveRec) (d : DownElement) (on : Nat → Bool) : Octets :=
  let plc := (List.range e.plcCount).map fun i => encodeStream 50 32 (if on i then d.plc.getD i [] else [])
  let rad := if e.radio = 0 then ([], []) else encodeStream 250 64 (if on 3 then d.radio else [])
  let exps := (List.range 6).map fun k => (plc.getD (k / 2) ([], [])).1.getD (k % 2) 0
  let en := (List.range 4).foldl (fun n k => if on k then n + 2 ^ k else n) 0
  withEcrc (be 2 en ++ nibbles (exps ++ rad.1) 5 ++ zeros 1 ++ (plc.map (·.2)).foldl (· ++ ·) [] ++ rad.2)

/-! ### Sending (R92, R93, R102, R109) -/

/-- The cell of a stream of an eave: power-line streams in the order of the CONFIG bits, 3 the radio chain (R96). -/
def Plan.streamCell (p : Plan) (e : EaveRec) (k : Nat) : Option Nat :=
  if k = 3 ∧ e.radio = 1 then some (p.cellAt e 4)
  else (([0, 1, 2, 3].filter fun b => bitOf b e.config)[k]?).map fun b => p.cellAt e b

/-- A stream whose telegram is blanked at egress (R432). -/
def State.blankStream (s : State) (e : EaveRec) (k : Nat) : Bool :=
  s.saf.blanked && (match s.plan.streamCell e k with
    | some c => (match (s.mac c).tx with
      | some f => (match f.origin with | .telegram _ => true | _ => false)
      | none => false)
    | none => false)

/-- This unit sets MARK 1 (R109): its unit state is ACTIVE or ALONE, and its start-up is over (R469). -/
def State.ownerMark (s : State) : Bool :=
  s.rdg.phase == 2 && !(s.get Fl.RDG_STATE_STATE == 2 || s.get Fl.RDG_STATE_STATE == 3)

/-- The header of an originated sub-frame (Table 3.3). -/
def State.subframeHeader (s : State) (sf : Nat) (c : Option Chain) : Octets :=
  let n := match c with | some c => c.inOrder.length | none => 0
  let dl := match c with | some c => c.dlLen | none => 0
  let ul := match c with | some c => c.ulLen | none => 0
  let body := be 1 1 ++ be 1 (s.unitCode + 4 * b2n s.ownerMark) ++ be 1 0 ++ be 1 0xFF ++ be 1 n
    ++ be 1 (s.get Fl.CRS_TIMING_PERIOD) ++ be 6 sf ++ be 4 (if n = 0 then 0 else s.get Fl.CRS_EPOCH_CUR) ++ be 2 dl ++ be 2 ul ++ zeros 8
  body ++ be 4 (crc32 body)

/-- The cluster of an eave's cells. -/
def Plan.clusterOf (p : Plan) (e : EaveRec) : Option Nat := ((p.cellsOfEave e).findSome? p.cell).map (·.cluster)

/-- The EAVE_CTRL item that fills the control slot of a position was late, so that the slot carries 00h (Table 2.16). -/
def State.ctrlSilent (s : State) (l p : Nat) : Bool :=
  match ((s.plan.chainOf l).bind fun c => c.at' p).bind s.plan.clusterOf with
  | some k => s.eav.ctrlLate.contains k
  | none => false

/-- The control fragments of a sub-frame: each position's message is repeated until it is acknowledged (R102, R103). -/
def State.fragments (s : State) (l sf : Nat) : Octets × State :=
  (List.range 32).foldl (fun (acc : Octets × State) p =>
    let x := acc.2.port l p
    let msg := if sf % 4 = 0 then (match x.down with | m :: _ => m.octets | [] => []) else x.sending
    let s' := if x.sending = msg then acc.2 else acc.2.setPort l p { x with sending := msg }
    (acc.1 ++ (if s.ctrlSilent l p then zeros 8 else padTo 8 (slice msg (8 * (sf % 4)) 8)) ++ zeros 8, s')) ([], s)

/-- Sub-frames per batten S (Table 3.1). -/
def State.perBatten (s : State) : Nat := 2 ^ s.get Fl.CRS_TIMING_PERIOD

/-- A stream of an element of sub-frame `sf` is driven: its cell's transmit items produced samples in the batten before the lane frame
of the sub-frame (R95), and no telegram on it is blanked (R432). -/
def State.driven (s : State) (sf : Nat) (e : EaveRec) (k : Nat) : Bool :=
  let frame := sf / s.perBatten * s.battenNs
  (match s.plan.streamCell e k with
    | some x => (s.mac x).plays.any fun p => decide (p.start < frame) && decide (frame ≤ p.stop)
    | none => false) && !s.blankStream e k

/-- The lane is up in its role (R89): the lane mask carries it, its group is trained and it has block lock. -/
def State.laneRuns (s : State) (l role : Nat) : Bool :=
  s.plan.laneHas l role && s.flag (Fl.LANE_GRP_STATUS_TRAINED (l / 8)) && bitOf (l % 8) (s.get (Fl.LANE_GRP_STATUS_LANE_UP (l / 8)))

/-- The downlink area of a sub-frame: an element that this unit does not drive is 00h (R93, R96). -/
def State.downArea (s : State) (l sf : Nat) (down : List DownElement) : Octets :=
  match s.plan.chainOf l with
  | none => []
  | some c => c.inOrder.foldl (fun acc e =>
      acc ++ (match down.find? fun d => d.position.val == e.position with
        | some d => downElement e d (s.driven sf e)
        | none => zeros e.down)) []

/-- SUBFRAME_TX: the unit originates a sub-frame on a lane that is up (R89, R92 to R98, R102, R109). -/
def subframeTxEffect (lane : Fin 320) (sf : BitVec 48) (down : List DownElement) (s : State) : State :=
  let l := lane.val
  if !s.laneRuns l 1 then s else
  let c := s.plan.chainOf l
  let area := s.downArea l sf.toNat down
  let ul := match c with | some c => c.ulLen | none => 0
  let (control, s') := s.fragments l sf.toNat
  (s'.note (16 + l) area).emit (.subframe l (wireFrame 0xD5#8 (s.subframeHeader sf.toNat c ++ area ++ zeros ul ++ control)))

/-- Queues a down message with a new SEQ, by priority SLOT_MAP, SET, DELAY, RANGE_REQ; the head is being repeated (R103). -/
def State.sendDown (s : State) (l p type : Nat) (payload : Octets) : State :=
  let x := s.port l p
  let seq := (x.nextSeq + 1) % 256
  let body := be 1 type ++ be 1 seq ++ padTo 28 payload
  let m : DownMsg := ⟨type, seq, body ++ be 2 (crc16 body)⟩
  let rank := fun (t : Nat) => if t = 1 then 0 else if t = 3 then 1 else if t = 2 then 2 else 3
  let q := (x.down.takeWhile fun d => decide (rank d.type ≤ rank type)) ++ m :: (x.down.dropWhile fun d => decide (rank d.type ≤ rank type))
  s.setPort l p { x with down := q, nextSeq := seq }

/-- First sub-frame of a course (Table 3.1). -/
def firstSubframe (period course : Nat) : Nat := 16 * 2 ^ period * course

/-- SLOT_MAP for an eave of a chain under an epoch (Table 3.8). -/
def slotMapPayload (c : Chain) (epoch applySf : Nat) (e : EaveRec) : Octets :=
  let off := match c.slots.find? fun x => x.1.position == e.position with | some x => x.2 | none => (0, 0)
  be 4 epoch ++ be 4 applySf ++ be 2 e.eave ++ be 1 e.position ++ be 1 e.config ++ be 1 c.inOrder.length ++ be 1 c.dTx
    ++ be 2 off.1 ++ be 2 off.2

/-- Sends a slot map and remembers it as pending (R105, R108). -/
def State.sendMap (s : State) (c : Chain) (epoch applySf : Nat) (e : EaveRec) : State :=
  let s := s.sendDown c.lane e.position 1 (slotMapPayload c epoch applySf e)
  let x := s.port c.lane e.position
  s.setPort c.lane e.position { x with eave := some e.eave, map := some { tag := epoch, applySf := applySf, late := false } }

/-- Channel centre of a radio cell, kHz (Table 5.2). -/
def Plan.centreKhz (p : Plan) (c : Nat) : Nat :=
  let ch := p.param c 10 2
  match p.param c 1 1, p.param c 8 1 with
  | 0x10, 1 => 863125 + 200 * ch
  | 0x10, _ => 863225 + 400 * ch
  | _, 1 => 902200 + 200 * ch
  | _, _ => 902400 + 400 * ch

/-- A SET for a stream (Table 3.8). -/
def State.sendSet (s : State) (l p stream band gain level applySf centre : Nat) : State :=
  s.sendDown l p 3 (be 1 stream ++ be 1 band ++ be 1 gain ++ be 1 level ++ be 4 applySf ++ be 4 centre)

/-- The record of an eave that stands in a plan as it does in another: the same eave at the same place with the same cells fitted. -/
def Plan.sameEave (p : Plan) (l : Nat) (e : EaveRec) : Option EaveRec :=
  ((p.chainOf l).bind fun c => c.at' e.position).filter fun o => o.identity == e.identity && o.config == e.config

/-- Offsets of the parameters that a SET of a cell carries (R124, R157): BAND, TX_LEVEL and RX_GAIN, and for a radio MODE and CHANNEL. -/
def setFields (radio : Bool) : List (Nat × Nat) := [(1, 1), (4, 1), (5, 1)] ++ if radio then [(8, 1), (10, 2)] else []

/-- A stream of an eave needs a SET when plan `old` gives way to another: the eave is new there, or a parameter differs. -/
def Plan.setDiffers (p : Plan) (old : Option Plan) (l : Nat) (e : EaveRec) (k : Nat) : Bool :=
  match old.bind fun o => (o.sameEave l e).bind fun x => (o.streamCell x k).map fun c => (o, c) with
  | none => true
  | some (o, c') =>
    match p.streamCell e k with
    | none => false
    | some c => (setFields (k == 3)).any fun f => p.param c f.1 f.2 != o.param c' f.1 f.2

/-- The SETs of an eave's streams under a plan; `old` is the plan whose values they had, none where the eave comes into service
(R124, R157). -/
def State.sendSets (s : State) (plan : Plan) (old : Option Plan) (l applySf : Nat) (e : EaveRec) : State :=
  let s := (List.range e.plcCount).foldl (fun s k =>
    match plan.streamCell e k with
    | none => s
    | some c =>
      if plan.setDiffers old l e k then
        s.sendSet l e.position k (plan.param c 1 1) (plan.param c 5 1) (plan.param c 4 1) applySf 0
      else s) s
  if e.radio = 0 || !plan.setDiffers old l e 3 then s else
  let c := plan.cellAt e 4
  let s := s.sendSet l e.position 3 (plan.param c 1 1) (plan.param c 5 1) (plan.param c 4 1) applySf (plan.centreKhz c)
  s.sendSet l e.position 4 (plan.param c 1 1) (plan.param c 5 1) 0 applySf (plan.centreKhz c)

/-! ### Bringing an eave into service (R103 to R108) -/

/-- A control message of a type that passes its check (R102): its octets. -/
def upMessage (type : Nat) (m : Octets) : Option Octets :=
  if m.length = 32 ∧ beAt m 0 1 = type ∧ beAt m 30 2 = crc16 (m.take 30) then some m else none

/-- The eave index at a position: of the plan's chain, or as the resident plan numbers it. -/
def State.eaveAt (s : State) (l p : Nat) : Option Nat :=
  ((s.plan.chainOf l).bind fun c => c.at' p).map (·.eave)

/-- A valid up message of a position: LOST clears (R103). -/
def State.heard (s : State) (l p : Nat) : State :=
  match s.eaveAt l p with
  | some e => s.putFlag (Fl.EAV_EAVE_STATE_LOST e) false
  | none => s

/-- The eave at a position shows that it holds the pending map (R108): its HELLO shows the tag, or it acknowledges the SLOT_MAP where
the tag is 0 or APPLY_SF has passed. -/
def State.mapShown (s : State) (l p : Nat) : State :=
  let x := s.port l p
  match x.map with
  | some m => s.setPort l p { x with map := some { m with acked := true } }
  | none => s

/-- FOUND of a lane: its eaves with MAPPED set. -/
def State.showFound (s : State) (l : Nat) : State :=
  let n := match s.plan.chainOf l with
    | some c => (c.eaves.filter fun e => s.flag (Fl.EAV_EAVE_STATE_MAPPED e.eave)).length
    | none => 0
  s.put (Fl.EAV_LANE_STATUS_FOUND l) n

/-- A pending slot map has reached APPLY_SF: the eave that has shown it is MAPPED, and the streams that its map adds settle (R112); for
another EAV_MAP_LATE is raised, once, and
its map stays pending until the eave acknowledges it (R105, R108). -/
def State.applyMap (s : State) (l p : Nat) : State :=
  let x := s.port l p
  match x.map, x.eave with
  | some m, some e =>
    if m.acked then
      let was := s.flag (Fl.EAV_EAVE_STATE_MAPPED e)
      let s := s.setPort l p { x with map := none, atMapping := if was then x.atMapping else x.delay }
      let s := (s.putFlag (Fl.EAV_EAVE_STATE_MAPPED e) true).showFound l
      if was then s else
      let s := s.raise 104
      match (s.plan.chainOf l).bind fun c => c.at' p with
      | some r =>
        let s := (s.plan.cellsOfEave r).foldl (fun s k => s.txCut k true) s
        if !s.resident then s else
        s.surveyWrite (surveyRecord s.second (4 * r.eave) 1 0 r.eave r.identity 0 1 0 r.identity
          (le 1 r.config ++ zeros 3 ++ le 2 l ++ le 1 p))
      | none => s
    else
      let s := (s.putFlag (Fl.EAV_EAVE_STATE_MAPPED e) false).showFound l
      if m.late then s else (s.setPort l p { x with map := some { m with late := true } }).raise 110
  | _, _ => s

/-- A map whose APPLY_SF has passed applies as soon as its eave shows it (R108). -/
def State.lateMap (s : State) (l p : Nat) : State :=
  match (s.port l p).map with
  | some m => if m.late && m.acked then s.applyMap l p else s
  | none => s

/-- An acknowledged DELAY of an eave without a map is followed by its SLOT_MAP and SETs (R105). -/
def State.delayAcked (s : State) (l p : Nat) : State :=
  match (s.plan.chainOf l).bind fun c => (c.at' p).map fun e => (c, e) with
  | none => s
  | some (c, e) =>
    if s.flag (Fl.EAV_EAVE_STATE_MAPPED e.eave) || (s.port l p).map.isSome then s else
    let sf := firstSubframe (s.get Fl.CRS_TIMING_PERIOD) (s.courseAfter s.now 1000000)
    (s.sendMap c (s.get Fl.CRS_EPOCH_CUR) sf e).sendSets s.plan none l sf e

/-- An ACK_SEQ acknowledges the down message with that SEQ, which is repeated no longer (R103). -/
def State.ackDown (s : State) (l p ack : Nat) : State :=
  let x := s.port l p
  match x.down.find? fun m => m.seq == ack with
  | none => s
  | some m =>
    let s := s.setPort l p { x with down := x.down.filter fun d => d.seq != ack }
    if m.type = 2 then s.delayAcked l p
    else if m.type = 1 ∧ (match x.map with | some y => y.tag == 0 || y.late | none => false) = true then (s.mapShown l p).lateMap l p
    else s

/-- Under the resident plan an eave that says HELLO joins its lane's chain with the cells of its CAPS (R515). -/
def State.adoptEave (s : State) (l p identity caps : Nat) : State :=
  if !s.resident then s else
  let f := ((List.range l).filter fun k => (s.plan.roles.getD (k / 8) (0, 0)).1 == 1).length
  let index := 32 * f + p
  let e : EaveRec := ⟨identity, index, p, caps % 32, 4 * index⟩
  let per := if s.get Fl.GLB_DEVICE_ID_GRADE = 1 then 26 else 52
  let plan := s.plan
  let chain := (plan.chainOf l).getD ⟨l, 2, 2, []⟩
  if (chain.at' p).isSome || 8192 ≤ index then s else
  let chain := { chain with eaves := chain.eaves ++ [e] }
  let kinds := [(0, 1), (1, 2), (2, 3), (3, 4), (4, 5)]
  let cells := (kinds.filter fun k => bitOf k.1 e.config).map fun k =>
    (⟨plan.cellAt e k.1, index / per, k.2, 0, if k.1 = 4 then 1 else 0⟩ : CellRec)
  let plan := { plan with chains := (plan.chains.filter fun c => c.lane != l) ++ [chain], cells := plan.cells ++ cells }
  { s with crs := { s.crs with active := plan } }

/-- MISMATCH of a position (R105): set with EAV_MISMATCH, and nothing more is sent there. The bit belongs to the eave that the plan
names, by its place or else by its identity; where it names none, the port keeps it. -/
def State.eaveMismatch (s : State) (l p : Nat) (e : Option EaveRec) : State :=
  let x := s.port l p
  let s := s.setPort l p { x with down := [], sending := [], mismatch := true }
  match e with
  | some e =>
    if s.flag (Fl.EAV_EAVE_STATE_MISMATCH e.eave) then s else (s.putFlag (Fl.EAV_EAVE_STATE_MISMATCH e.eave) true).raise 106
  | none => if x.mismatch then s else s.raise 106

/-- An eave that is MAPPED and shows another map than the one in force holds it no longer, and is brought into service again (R105,
R115). -/
def State.mapLost (s : State) (l p eave held pending : Nat) : State :=
  let tag := s.get Fl.CRS_EPOCH_CUR
  if !s.flag (Fl.EAV_EAVE_STATE_MAPPED eave) || held == tag || pending == tag then s
  else
    let s := (s.putFlag (Fl.EAV_EAVE_STATE_MAPPED eave) false).showFound l
    s.setPort l p { s.port l p with ranged := false }

/-- RANGE_REQ to a position, unless one waits (R106). REF_SF is the first sub-frame of the course in progress (DESIGN CHOICE, log
entry 115). -/
def State.rangeReq (s : State) (l p : Nat) : State :=
  if (s.port l p).down.any fun d => d.type == 4 then s
  else s.sendDown l p 4 (be 4 (firstSubframe (s.get Fl.CRS_TIMING_PERIOD) s.course))

/-- HELLO_RX (R103, R105, R108): IDENTITY and position are matched against the plan's CHAINS. -/
def helloRxEffect (lane : Fin 320) (position : Fin 32) (message : Octets) (s : State) : State :=
  let l := lane.val
  let p := position.val
  match upMessage 0x81 message with
  | none => s
  | some m =>
    let identity := beAt m 2 8
    let held := beAt m 16 4
    let pending := beAt m 20 4
    let s := s.adoptEave l p identity (beAt m 10 1)
    let s := s.heard l p
    let s := s.setPort l p { s.port l p with heldTag := held, pendingTag := pending }
    let s := s.ackDown l p (beAt m 24 1)
    let found := (s.plan.chainOf l).bind fun c => c.at' p
    match found with
    | none => s.eaveMismatch l p ((s.plan.chains.flatMap (·.eaves)).find? fun e => e.identity == identity)
    | some e =>
      if e.identity ≠ identity then s.eaveMismatch l p (some e)
      else
        let s := s.putFlag (Fl.EAV_EAVE_STATE_MISMATCH e.eave) false
        let s := s.setPort l p { s.port l p with mismatch := false }
        let shows := match (s.port l p).map with
          | some y => y.tag != 0 && (pending == y.tag || (y.late && held == y.tag))
          | none => false
        let s := if shows then (s.mapShown l p).lateMap l p else s.mapLost l p e.eave held pending
        if (s.port l p).ranged || s.flag (Fl.EAV_EAVE_STATE_MAPPED e.eave) then s else s.rangeReq l p

/-- RANGE_RSP_RX (R106): the one-way delay, and a DELAY message when it moved. Where the round trip is shorter than the eave's DELTA the
delay is 0, and DELAY_NS shows at most FFFFFh (DESIGN CHOICE, log entry 117). -/
def rangeRspRxEffect (lane : Fin 320) (position : Fin 32) (rtt : BitVec 32) (message : Octets) (s : State) : State :=
  let l := lane.val
  let p := position.val
  match upMessage 0x82 message with
  | none => s
  | some m =>
    let s := (s.heard l p).ackDown l p (beAt m 14 1)
    match s.eaveAt l p with
    | none => s
    | some e =>
      let delta := if s.unitCode = 1 then beAt m 6 4 else beAt m 10 4
      let delay := (rtt.toNat - delta + 1) / 2
      let s := s.put (Fl.EAV_EAVE_STATE_DELAY_NS e) (min delay 0xFFFFF)
      let x := s.port l p
      let s := s.setPort l p { x with delay := delay }
      let moved := max delay x.sent - min delay x.sent
      let s := if !x.ranged || decide (s.get Fl.EAV_RANGE_CFG_THRESH ≤ moved) then
          let s := s.sendDown l p 2 (be 1 s.unitCode ++ zeros 3 ++ be 4 delay)
          s.setPort l p { s.port l p with ranged := true, sent := delay }
        else s
      let far := max delay x.atMapping - min delay x.atMapping
      if s.flag (Fl.EAV_EAVE_STATE_MAPPED e) && decide (1000 < far) then s.raise 112 else s

/-- STATUS_RX (R103): alarms and acknowledgement. -/
def statusRxEffect (lane : Fin 320) (position : Fin 32) (message : Octets) (s : State) : State :=
  let l := lane.val
  let p := position.val
  match upMessage 0x83 message with
  | none => s
  | some m =>
    let s := (s.heard l p).ackDown l p (beAt m 5 1)
    let x := s.port l p
    let alarms := beAt m 2 2
    if x.alarms = alarms then s else (s.setPort l p { x with alarms := alarms }).raise 113

/-- EAVE_LOST_TIMEOUT: 64 slots without a valid up message from a mapped eave (R103). While its group trains, an eave's slots read as
empty without a fault of the eave (R34). -/
def eaveLostTimeoutEffect (lane : Fin 320) (position : Fin 32) (s : State) : State :=
  if !s.flag (Fl.LANE_GRP_STATUS_TRAINED (lane.val / 8)) then s else
  match s.eaveAt lane.val position.val with
  | none => s
  | some e =>
    if !s.flag (Fl.EAV_EAVE_STATE_MAPPED e) || s.flag (Fl.EAV_EAVE_STATE_LOST e) then s
    else (s.putFlag (Fl.EAV_EAVE_STATE_LOST e) true).raise 105

/-- RANGING_INTERVAL: every eave is ranged again but for one that nothing more is sent to (R105, R106); not under profile 01h or with
INTERVAL 0 (R115). -/
def rangingIntervalEffect (s : State) : State :=
  if s.get Fl.EAV_RANGE_CFG_INTERVAL = 0 then s else
  s.plan.chains.foldl (fun s c => c.inOrder.foldl (fun s e =>
    if (s.port c.lane e.position).mismatch || s.flag (Fl.EAV_EAVE_STATE_MISMATCH e.eave) then s else s.rangeReq c.lane e.position) s) s

/-- SLOT_MAP_APPLY: APPLY_SF of a position's map is reached. -/
def slotMapApplyEffect (lane : Fin 320) (position : Fin 32) (s : State) : State := s.applyMap lane.val position.val

/-- A commit becomes pending: every eave of the new plan is sent its SLOT_MAP and changed SETs (R108, R124, R157). The target course is
numbered in the period in force. -/
def State.eavPending (s : State) (plan : Plan) (target : Nat) : State :=
  let sf := firstSubframe (s.get Fl.CRS_TIMING_PERIOD) target
  plan.chains.foldl (fun s c => c.inOrder.foldl (fun s e =>
    (s.sendMap c plan.epoch sf e).sendSets plan (some s.plan) c.lane sf e) s) s

/-- Writes what is kept for a lane. -/
def State.setEavLane (s : State) (l : Nat) (x : EavLane) : State :=
  { s with eav := { s.eav with lanes := FMap.set {} s.eav.lanes l x } }

/-- D_RX or D_TX of a chain changes (R113), in time: captures that the old plan has consumed are not consumed again, captures that
neither plan consumes are erasures of the frames in reception, and nothing is played twice in what the old plan has filled. -/
def State.chainMoved (s : State) (old : Plan) (c : Chain) : State :=
  match old.chainOf c.lane with
  | none => s
  | some o =>
    let was := periodNs old.period / 16
    let ns := periodNs s.plan.period / 16
    let x := s.eavLane c.lane
    let x := if o.dRx * was = c.dRx * ns then x else { x with consumedTo := s.now - o.dRx * was }
    let x := if o.dTx * was ≤ c.dTx * ns then x else { x with txOffTo := s.now + o.dTx * was }
    let s := s.setEavLane c.lane x
    if o.dRx * was ≤ c.dRx * ns then s
    else (c.eaves.flatMap s.plan.cellsOfEave).foldl (fun s k =>
      if (s.mac k).rx then s.modMac k fun m => { m with rxBad := true } else s) s

/-- The target course of a commit starts (R108, R113): the maps sent for it apply; an eave outside the plan is not mapped. -/
def State.eavCommit (s : State) (old : Plan) : State :=
  let now := s.plan.chains.foldl (fun (l : List Nat) c => l ++ c.eaves.map (·.eave)) []
  let s := old.chains.foldl (fun s c => c.eaves.foldl (fun s e =>
    if now.contains e.eave then s else (s.setWord (Reg.EAV_EAVE_STATE e.eave) 0).setPort c.lane e.position {}) s) s
  let s := s.plan.chains.foldl (fun s c => (c.inOrder.foldl (fun s e => s.applyMap c.lane e.position) s).chainMoved old c) s
  (List.range 320).foldl (fun s l => if (s.plan.chainOf l).isSome || (old.chainOf l).isSome then s.showFound l else s) s

/-- A receive item of a cell would consume captures that the plan before the commit has consumed: it does nothing (R113). -/
def State.reconsumes (s : State) (c : Nat) : Bool :=
  match s.plan.laneOf c with
  | some l => decide (s.now < (s.eavLane l).consumedTo + s.plan.dRx c * s.battenNs)
  | none => false

/-! ### Receiving (R94, R96, R100, R101, R110, R111) -/

/-- A 16-bit metrology value. -/
def metroValue (b : Octets) (k : Nat) : Int := signed 16 (beAt b (2 * k) 2)

/-- A set of 7 values (R101). -/
def metroSetOf (eave second : Nat) (b : Octets) : MetroSet :=
  let v := fun k => metroValue b k
  ⟨eave, second, ⟨v 0, v 1, v 2⟩, ⟨v 3, v 4, v 5⟩,
    (List.range 7).any fun k => beAt b (2 * k) 2 == 0x7FFF || beAt b (2 * k) 2 == 0x8000⟩

/-- METRO octets of an element that carries interval `i`: a whole group gives two sets (R101). -/
def State.takeMetro (s : State) (l p eave i : Nat) (b : Octets) : State :=
  let x := s.port l p
  let g := i / 5
  let parts := (if x.metroGroup = g then x.metro else []) ++ [(i % 5, b)]
  let whole := ((List.range 5).map fun k => match parts.find? fun q => q.1 == k with | some q => q.2 | none => []).foldl (· ++ ·) []
  if whole.length = 30 ∧ beAt whole 28 2 = g % 65536 then
    let second := g / 6400
    let s := s.setPort l p { x with metroGroup := g, metro := [] }
    { s with eav := { s.eav with sets := s.eav.sets ++ [metroSetOf eave second (slice whole 0 14), metroSetOf eave second (slice whole 14 14)] } }
  else s.setPort l p { x with metroGroup := g, metro := parts }

/-! ### Sample buffers (R95, R98, R100) -/

/-- Blocks of a stream: first block number, count, and values a block (Table 3.5). -/
def streamBlocks (k : Nat) : Nat × Nat × Nat := if k < 3 then (2 * k, 2, 32) else (6 + 4 * (k - 3), 4, 64)

/-- Where the mantissas of a stream stand in an uplink element: offset and length (Table 3.5). -/
def EaveRec.mantissasAt (e : EaveRec) (k : Nat) : Nat × Nat :=
  if k < 3 then (12 + 50 * k, 50) else (12 + 50 * e.plcCount + 250 * (k - 3), 250)

/-- Streams that an eave has: its power-line streams, and 3 and 4 for the radio chains (R96). -/
def EaveRec.streams (e : EaveRec) : List Nat := List.range e.plcCount ++ if e.radio = 1 then [3, 4] else []

/-- The samples of a stream in an element (R98). -/
def EaveRec.decode (e : EaveRec) (b : Octets) (k : Nat) : List Int :=
  let (first, n, per) := streamBlocks k
  let (off, len) := e.mantissasAt k
  decodeStream per ((List.range n).map fun j => nibbleAt (slice b 2 7) (first + j)) (slice b off len)

/-- Keeps what an element carried of a stream of interval `i`. -/
def State.capture' (s : State) (eave k i bad : Nat) (samples : List Int) : State :=
  let key := 5 * eave + k
  { s with eav := { s.eav with
    captures := FMap.set [] s.eav.captures key ((⟨i, bad, samples⟩ :: FMap.get [] s.eav.captures key).take 160) } }

/-- The samples of a stream that are invalid under Table 3.7: all of them where the element failed or came late or the stream settles,
else the clipped blocks. -/
def invalidBlocks (b : Octets) (k : Nat) (whole : Bool) : Nat :=
  let (first, n, _) := streamBlocks k
  if whole || bitOf (7 + k) (beAt b 0 2) then 2 ^ n - 1 else bitsOf (first + n - 1) first (beAt b 9 2)

/-- Every stream of an eave is invalid in interval `i`: its element failed. -/
def State.captureLost (s : State) (e : EaveRec) (i : Nat) : State :=
  e.streams.foldl (fun s k => s.capture' e.eave k i (2 ^ (streamBlocks k).2.1 - 1) []) s

/-- An invalid block of a capture lies in the span from `lo` to `hi`, ns. A block holds 20 µs of a power-line stream or 8 µs of a radio
chain, and the last one of an interval is short. -/
def Capture.badIn (radio : Bool) (lo hi : Nat) (x : Capture) : Bool :=
  let (n, width) := if radio then (4, 8000) else (2, 20000)
  (List.range n).any fun j =>
    bitOf j x.bad && decide (31250 * x.interval + width * j < hi)
      && decide (lo < 31250 * x.interval + if j + 1 = n then 31250 else width * (j + 1))

/-- The captured streams that a cell processes (R96, R161). -/
def State.capStreams (s : State) (c : Nat) : List Nat :=
  match s.plan.eaveOf c with
  | none => []
  | some (_, e) =>
    if s.plan.isRad c then ([0, 1].filter fun k => bitOf k (s.radChains c)).map fun k => 5 * e.eave + 3 + k
    else ((List.range e.plcCount).filter fun k => s.plan.streamCell e k == some c).map fun k => 5 * e.eave + k

/-- What is kept of a stream. -/
def State.captured (s : State) (k : Nat) : List Capture := FMap.get [] s.eav.captures k

/-- Samples of a cell captured from `lo` to `hi`, ns, are invalid on a stream that it processes (R125, R163). -/
def State.capturedBad (s : State) (c lo hi : Nat) : Bool :=
  (s.capStreams c).any fun k => (s.captured k).any (Capture.badIn (s.plan.isRad c) lo hi)

/-- Samples of a cell captured from `lo` to `hi`, ns, are erasures: invalid on every stream that it processes (R121, R161). -/
def State.erasedIn (s : State) (c lo hi : Nat) : Bool :=
  match s.capStreams c with
  | [a, b] => (s.captured a).any fun x =>
      let other := match (s.captured b).find? fun y => y.interval == x.interval with | some y => y.bad | none => 0
      ({ x with bad := x.bad &&& other } : Capture).badIn true lo hi
  | _ => s.capturedBad c lo hi

/-- The cell of a stream; 4 is the second chain of the radio cell (R96). -/
def Plan.cellOfStream (p : Plan) (e : EaveRec) (k : Nat) : Option Nat := p.streamCell e (min k 3)

/-- Streams of an eave whose interval `i` no transmission mutes (R122, R162). -/
def State.openStreams (s : State) (e : EaveRec) (i : Nat) : List Nat :=
  [0, 1, 2, 3, 4].filter fun k =>
    match s.plan.cellOfStream e k with
    | some c => !s.mutedIn c (31250 * i) (31250 * i + 31250)
    | none => true

/-- Blocks of a stream whose CLIP bit is set. -/
def clippedBlocks (clip k : Nat) : Nat :=
  let (first, n, _) := streamBlocks k
  ((List.range n).filter fun j => bitOf (first + j) clip).length

/-- An uplink element that passes its check (Table 3.5, R95, R98, R100, R110): STATUS, samples and METRO of interval `i`. What
transmission mutes does not count under Table 3.7 (R122, R162). -/
def State.takeElement (s : State) (l : Nat) (e : EaveRec) (i : Nat) (b : Octets) (late : Bool) : State :=
  let st := beAt b 0 2
  let accept := bitsOf 15 14 st
  let orphan := bitOf 13 st
  let pwr := bitOf 12 st
  let heard := s.openStreams e i
  let settle := (heard.filter fun k => bitOf (7 + k) st).length
  let clip := (heard.map (clippedBlocks (beAt b 9 2))).foldl (· + ·) 0
  let s := (s.bumpBy Fl.EAV_SETTLE_COUNT_COUNT settle).bumpBy Fl.EAV_CLIP_COUNT_COUNT clip
  let s := e.streams.foldl (fun s k => s.capture' e.eave k i (invalidBlocks b k late) (e.decode b k)) s
  let wasOrphan := s.flag (Fl.EAV_EAVE_STATE_ORPHAN e.eave)
  let s := (s.put (Fl.EAV_EAVE_STATE_ACCEPT e.eave) accept).putFlag (Fl.EAV_EAVE_STATE_ORPHAN e.eave) orphan
  let s := if orphan && !wasOrphan then s.raise 107 else s
  let x := s.port l e.position
  let conflict := accept == 3 - s.unitCode && s.ownerMark
  let s := s.setPort l e.position { x with pwrFail := pwr, conflict := conflict }
  let s := if conflict && !x.conflict then s.raise 109 else s
  let s := if pwr && !x.pwrFail then s.raise 113 else s
  s.takeMetro l e.position e.eave i (slice b (e.up - 8) 6)

/-- Marks the elements of positions of a lane as invalid in this batten (R456). -/
def State.markInvalid (s : State) (l mask : Nat) : State :=
  let x := s.eavLane l
  s.setEavLane l { x with invalid := x.invalid ||| mask }

/-- A header that fails its check, or octets that are no sub-frame (R94): every element of the interval expected next has failed.
EAV_HDR_ERR at most once per second. -/
def State.headerError (s : State) (l : Nat) (eaves : List EaveRec) : State :=
  let s := (s.bump Fl.EAV_HDR_ERR_COUNT_COUNT).bumpBy Fl.EAV_ELEM_ERR_COUNT_COUNT eaves.length
  let s := s.markInvalid l 0xFFFFFFFF
  let x := s.eavLane l
  let s := eaves.foldl (fun s e => s.captureLost e x.last) s
  let s := (s.setEavLane l { x with run := 0, last := x.last + 1 }).putFlag (Fl.EAV_LANE_STATUS_IN_SYNC l) false
  if s.eav.hdrSecond = s.second + 1 then s else ({ s with eav := { s.eav with hdrSecond := s.second + 1 } }).raise 114

/-- The header of a received sub-frame that passes its checks. A VERSION other than 01h counts as a failed header (DESIGN CHOICE, log
entry 116). -/
def subframeOf (w : Octets) : Option Octets :=
  (unwire 0xD5#8 w).filter fun b =>
    decide (32 ≤ b.length) && decide (b.length ≤ 37888) && beAt b 28 4 == crc32 (b.take 28) && beAt b 0 1 == 1

/-- What a valid header shows of the lane (R110, R111, R115): run of intervals, LOOP, PARTNER, ORIGIN_POS, the partner's marks. -/
def State.laneHeader (s : State) (l : Nat) (b : Octets) : State :=
  let origin := beAt b 1 1 % 4
  let pos := beAt b 3 1
  let sf := beAt b 6 6
  let x := s.eavLane l
  let run := if x.run ≠ 0 ∧ sf = x.last + 1 then min 8 (x.run + 1) else 1
  let partner := origin == 3 - s.unitCode
  let x := if partner then
      { x with partnerNs := s.now + 1, partnerMark := if bitOf 2 (beAt b 1 1) then s.course + 1 else x.partnerMark }
    else x
  let s := (s.setEavLane l { x with run := run, last := sf, seen := true }).putFlag (Fl.EAV_LANE_STATUS_IN_SYNC l) (run == 8)
  let loop := origin == 3
  let changed := s.flag (Fl.EAV_LANE_STATUS_LOOP l) != loop || s.get (Fl.EAV_LANE_STATUS_ORIGIN_POS l) != pos
  let s := ((s.putFlag (Fl.EAV_LANE_STATUS_LOOP l) loop).putFlag (Fl.EAV_LANE_STATUS_PARTNER l) partner).put
    (Fl.EAV_LANE_STATUS_ORIGIN_POS l) pos
  if changed then s.raise 108 else s

/-- Elements of a lane came late: EAV_LATE at most once per second (R114). -/
def State.laneLate (s : State) (l n : Nat) : State :=
  if n = 0 then s else
  let s := s.bumpBy Fl.EAV_LATE_COUNT_COUNT n
  let x := s.eavLane l
  if x.lateSecond = s.second + 1 then s else (s.setEavLane l { x with lateSecond := s.second + 1 }).raise 111

/-- The elements of a valid sub-frame (R94 to R97, R100, R114): `inTime` octets had arrived when the batten that consumes them began,
and an element whose last octet came later is late. -/
def State.takeElements (s : State) (l : Nat) (c : Chain) (b : Octets) (inTime : Nat) : State :=
  let base := 32 + beAt b 16 2
  let i := beAt b 6 6 - 1
  let late := fun (x : EaveRec × Nat × Nat) => decide (inTime < base + x.2.2 + x.1.up)
  let s := s.laneLate l (c.slots.filter late).length
  c.slots.foldl (fun s x =>
    let o := slice b (base + x.2.2) x.1.up
    let s := if late x then s.markInvalid l (2 ^ x.1.position) else s
    if o.length = x.1.up ∧ beAt o (x.1.up - 2) 2 = crc16 (o.take (x.1.up - 2)) then s.takeElement l x.1 i o (late x)
    else ((s.bump Fl.EAV_ELEM_ERR_COUNT_COUNT).markInvalid l (2 ^ x.1.position)).captureLost x.1 i) s

/-- SUBFRAME_RX: a sub-frame arrives on a lane, from its start block to its terminate block. Until the group is trained its slots read
as empty (R34). -/
def subframeRxEffect (lane : Fin 320) (octets : Octets) (inTime : BitVec 16) (s : State) : State :=
  let l := lane.val
  if !s.plan.laneHas l 1 || !s.flag (Fl.LANE_GRP_STATUS_TRAINED (l / 8)) then s else
  let chain := s.plan.chainOf l
  match subframeOf octets with
  | none => s.headerError l (match chain with | some c => c.inOrder | none => [])
  | some b =>
    let s := s.laneHeader l b
    match chain with
    | none => s
    | some c => s.takeElements l c b inTime.toNat

/-- A batten begins: a lane without a valid header since the last one began is not in sync (R115). -/
def State.laneSync (s : State) : State :=
  s.eav.lanes.foldl (fun s p =>
    if p.2.seen then s.setEavLane p.1 { p.2 with seen := false }
    else (s.setEavLane p.1 { p.2 with run := 0 }).putFlag (Fl.EAV_LANE_STATUS_IN_SYNC p.1) false) s

/-- An EAVE_METRO item of a cluster runs: the sets that wait for its eaves reach the valley engine (R101, R258). A late one drops them
(Table 2.16). -/
def State.metroItem (s : State) (cluster : Nat) (late : Bool) : State :=
  let mine := fun (m : MetroSet) =>
    match s.plan.eave m.eave with
    | none => false
    | some (_, e) => (s.plan.cellsOfEave e).any fun c => match s.plan.cell c with | some x => x.cluster == cluster | none => false
  let take := if late then [] else s.eav.sets.filter mine
  let s := { s with eav := { s.eav with sets := s.eav.sets.filter fun m => !mine m } }
  take.foldl (fun s m =>
    let k := metroKey m.second m.eave
    let held := s.val.metro.filter fun p => decide (m.second < p.1 / 8192 + 256)
    let x := FMap.get {} held k
    let x : MetroSum := { sets := x.sets + 1, vi := x.vi.add (m.v.zip (· * ·) m.i), ii := x.ii.add (m.i.zip (· * ·) m.i),
                          saturated := x.saturated || m.saturated }
    { s with val := { s.val with metro := FMap.set {} held k x } }) s

def execSubframeTx (lane : Fin 320) (sf : BitVec 48) (down : List DownElement) (s : State) : Answer :=
  .next (subframeTxEffect lane sf down s)
def execSubframeRx (lane : Fin 320) (octets : Octets) (inTime : BitVec 16) (s : State) : Answer :=
  .next (subframeRxEffect lane octets inTime s)
def execHelloRx (lane : Fin 320) (position : Fin 32) (message : Octets) (s : State) : Answer :=
  .next (helloRxEffect lane position message s)
def execRangeRspRx (lane : Fin 320) (position : Fin 32) (rtt : BitVec 32) (message : Octets) (s : State) : Answer :=
  .next (rangeRspRxEffect lane position rtt message s)
def execStatusRx (lane : Fin 320) (position : Fin 32) (message : Octets) (s : State) : Answer :=
  .next (statusRxEffect lane position message s)
def execEaveLostTimeout (lane : Fin 320) (position : Fin 32) (s : State) : Answer := .next (eaveLostTimeoutEffect lane position s)
def execRangingInterval (s : State) : Answer := .next (rangingIntervalEffect s)
def execSlotMapApply (lane : Fin 320) (position : Fin 32) (s : State) : Answer := .next (slotMapApplyEffect lane position s)

end Sys2Proof.Machine
end

