-- ==== Sys2Proof/Machine/Stage.lean ====
section
/-!
DEFINITION. Machine/Stage.lean: loading plans and tables, commits, the fallback and the resumed plan (R73 to R80, R84, R85, R514).
-/

namespace Sys2Proof.Machine

/-! ### Loading a plan (R73, Table 2.13) -/

/-- PLAN_LOAD completes (Table 2.17). -/
def State.planLoadEnd (s : State) (c : Cmd) (st : Status) (result : Octets := []) : State :=
  (s.complete 0x10 c st 0 result).raise (if st = .ok then 80 else 81)

/-- Staged content of a table kind. -/
def State.stagedTable (s : State) (k : Nat) : Option StagedTable := FMap.get none s.crs.tables k

/-- Members of the staged epoch in the meter table. -/
def State.stagedMembers (s : State) : Nat := (s.mtb.slots.filter fun p => p.2.member (1 - s.curBit)).length

/-- Declared totals 04h, 09h, 0Ah and 0Bh are no smaller than the counts of the tables already staged (R67, check 10). -/
def State.totalsCover (s : State) (p : Plan) : Bool :=
  (match s.stagedTable 0 with | some _ => decide (s.stagedMembers ≤ p.total 4) | none => true)
    && (match s.stagedTable 3 with | some t => decide (leAt t.octets 8 2 ≤ p.total 11) | none => true)
    && (match (s.stagedTable 4).bind fun t => valTreeOf (leAt t.octets 4 4) t.octets with
        | some t => decide (t.nodes.length ≤ p.total 9) && decide (greatest (depths t.nodes) ≤ p.total 10)
        | none => true)

/-- The checks of Table 2.13 in order: the plan, or the status of the first that fails. -/
def State.planChecks (s : State) (bs : Octets) : Except Status Plan :=
  if !planFramed bs then .error .illegal
  else if !s.planSigned bs then .error .auth
  else if !s.planSuits bs then .error .range
  else match epochStatus (s.get Fl.CRS_EPOCH_CUR) (leAt bs 24 4) with
    | some st => .error st
    | none =>
      match s.planContent bs with
      | .error st => .error st
      | .ok p => if s.totalsCover p then .ok p else .error .range

/-- The staged plan is discarded and the seal cleared (R73, R84). -/
def State.discardStaged (s : State) : State :=
  let s := { s with crs := { s.crs with staged := none, stagedImage := [] } }
  ((s.putFlag Fl.CRS_STAGE_SEAL_SEAL false).putFlag Fl.CRS_PLAN_STATUS_SEALED false).putFlag Fl.CRS_PLAN_STATUS_STAGED false

/-- PLAN_LOAD (R73). -/
def planLoadEffect (c : Cmd) (data : Octets) (s : State) : State :=
  if s.crs.pending.isSome then s.planLoadEnd c .state else
  let s := s.discardStaged
  match s.planChecks data with
  | .error st => s.planLoadEnd c st
  | .ok p =>
    let s := { s with crs := { s.crs with staged := some p, stagedImage := data } }
    (s.putFlag Fl.CRS_PLAN_STATUS_STAGED true).planLoadEnd c .ok (le 8 p.planId)

/-! ### Loading tables (R74, R75, R67) -/

/-- TABLE_LOAD breaks row 1 of Table 11.7: an undefined KIND or MODE, an update of a kind other than 0, a reserved field that is
not 0, no data. -/
def tableLoadIllegal (c : Cmd) (kind mode : Byte) (reserved : BitVec 16) : Bool :=
  decide (4 < kind.toNat) || !(mode == 1 || (mode == 2 && kind == 0)) || reserved != 0 || c.len == 0

/-- A total of the staged plan, or the limit of Table 2.10 while none is staged (R67). -/
def State.tableLimit (s : State) (id limit : Nat) : Nat := match s.crs.staged with | some p => p.total id | none => limit

/-- Work begun under the previous epoch still holds the buffer of a kind, or the post-commit pass runs (R74, R236, R270). -/
def State.tableBusy (s : State) (kind : Nat) : Bool :=
  match kind with
  | 0 => s.mtb.passing
  | 3 => s.bill.current.isSome && s.bill.billing != some s.bill.tariff
  | 4 => match s.val.running with | some e => e.tree != s.val.tree | none => false
  | _ => false

/-- The results of R74 that come first, in its order. -/
def State.tableRefusal (s : State) (kind epoch : Nat) (admitted : Bool) : Option Status :=
  if s.flag Fl.CRS_STAGE_SEAL_SEAL && !admitted then some .state
  else match epochStatus (s.get Fl.CRS_EPOCH_CUR) epoch with
    | some st => some st
    | none => if s.tableBusy kind then some .busy else none

/-- The checks of a kind's own chapter, and for the meter table the load itself (R139, R143, R200, R234, R253). -/
def State.tableContent (s : State) (kind mode epoch : Nat) (data : Octets) : Status × State :=
  match kind with
  | 0 => s.mtbLoad (mode == 2) epoch (s.tableLimit 4 1048576) data
  | 1 => (if (routesOf epoch data).isSome then .ok else .illegal, s)
  | 2 => (if (tonesOf epoch data).isSome then .ok else .illegal, s)
  | 3 => (tariffLoadStatus epoch s.second (s.tableLimit 11 64) data, s)
  | _ => (valLoadStatus epoch (s.tableLimit 9 16384) (s.tableLimit 10 8) data, s)

/-- A bit of a field of CRS_STAGE_TABLES. -/
def State.stageBit (s : State) (f : Fld) (kind : Nat) (b : Bool) : State :=
  let v := s.get f
  s.put f (if b then v ||| 2 ^ kind else v - (v &&& 2 ^ kind))

/-- CRS_STAGE_TABLES.LOADING shows the kinds of the accepted loads that are not yet in effect; one of the meter table pauses the
scrubber. -/
def State.loadingSync (s : State) : State :=
  ((List.range 5).foldl (fun s k => s.stageBit Fl.CRS_STAGE_TABLES_LOADING k (s.crs.loads.any fun x => x.1 == k)) s).pauseSync

/-- A TABLE_LOAD for epoch E + 1 is accepted from a ring: it transfers until it takes effect (R76). -/
def State.loadAccepted (s : State) (c : Cmd) (kind epoch : Nat) : State :=
  if (epochStatus (s.get Fl.CRS_EPOCH_CUR) epoch).isSome then s else
  let free := s.get Fl.RDG_STATE_STATE != 1 && !s.flag Fl.CRS_STAGE_SEAL_SEAL
  ({ s with crs := { s.crs with loads := s.crs.loads ++ [(kind, c, free)] } }).loadingSync

/-- TABLE_LOAD completes (Table 2.17). FAILED follows the last load of the kind for E + 1. -/
def State.tableLoadEnd (s : State) (c : Cmd) (kind : Nat) (next : Bool) (st : Status) : State :=
  let s := if next then s.stageBit Fl.CRS_STAGE_TABLES_FAILED kind (st != .ok) else s
  (s.complete 0x11 c st).raise (if st = .ok then 85 else 86)

/-- Content is staged: a replace supersedes what was staged, update batches follow one another (R74). -/
def State.stageTable (s : State) (kind mode : Nat) (data : Octets) : State :=
  let t : StagedTable :=
    match s.stagedTable kind with
    | some x => if mode = 2 ∧ x.mode = 2 then ⟨2, x.octets ++ data⟩ else ⟨mode, data⟩
    | none => ⟨mode, data⟩
  ({ s with crs := { s.crs with tables := FMap.set none s.crs.tables kind (some t) } }).stageBit Fl.CRS_STAGE_TABLES_STAGED kind true

/-- TABLE_LOAD (R74). A replace image of the meter table that fails takes earlier staged content with it (R200). -/
def tableLoadEffect (c : Cmd) (kind mode : Byte) (epoch : BitVec 32) (data : Octets) (s : State) : State :=
  let k := kind.toNat
  let entry := s.crs.loads.find? fun x => x.2.1 == c
  let admitted := match entry with | some x => x.2.2 | none => false
  let s := match entry with
    | some x => ({ s with crs := { s.crs with loads := s.crs.loads.erase x } }).loadingSync
    | none => s
  let next := (epochStatus (s.get Fl.CRS_EPOCH_CUR) epoch.toNat).isNone
  match s.tableRefusal k epoch.toNat admitted with
  | some st => s.tableLoadEnd c k next st
  | none =>
    match s.tableContent k mode.toNat epoch.toNat data with
    | (.ok, s) => (s.stageTable k mode.toNat data).tableLoadEnd c k next .ok
    | (st, s) =>
      let s := if k = 0 ∧ mode = 1 ∧ (mtbContent false epoch.toNat data).isSome = true then
          ({ s with crs := { s.crs with tables := FMap.set none s.crs.tables 0 none } }).stageBit Fl.CRS_STAGE_TABLES_STAGED 0 false
        else s
      s.tableLoadEnd c k next st

/-! ### Commits (R77 to R80) -/

/-- The period change of a commit is out of step with R51. -/
def State.periodMisfit (s : State) (p : Plan) (target : Nat) : Bool :=
  p.period != s.get Fl.CRS_TIMING_PERIOD && decide (target * s.period % 4000000 ≠ 0)

/-- The result of a PLAN_COMMIT at its issue, `none` where it becomes pending (R77). -/
def State.commitRefusal (s : State) (target : Nat) : Option Status :=
  match s.crs.staged with
  | none => some .state
  | some p =>
    if !s.flag Fl.CRS_STAGE_SEAL_SEAL || s.crs.pending.isSome then some .state
    else if p.expertRidge && !s.flag Fl.GLB_EXPERT_EN_EN then some .state
    else if decide (target < s.course + 16) || decide (s.course + 2 ^ 24 < target) || s.periodMisfit p target then some .range
    else none

/-- PLAN_COMMIT (R77). A standby unit that is paired confirms what it has staged (R459). -/
def planCommitEffect (c : Cmd) (target : BitVec 64) (s : State) : State :=
  match s.commitRefusal target.toNat, s.crs.staged with
  | some st, _ => s.complete 0x12 c st
  | none, none => s
  | none, some p =>
    let s := { s with crs := { s.crs with pending := some ⟨c, target.toNat⟩, standbyConfirmed := false, decided := none } }
    let s := (s.putFlag Fl.CRS_PLAN_STATUS_COMMIT_PENDING true).put64 Reg.CRS_COMMIT_TARGET_LO target.toNat
    let s := s.eavPending p target.toNat
    if s.get Fl.RDG_STATE_STATE = 2 then s.bulk 2 0 s.confirmation else s

/-- A pending commit finishes (Table 2.15): its result is shown and its completion posted, once the units that store the plan are
written (R321). -/
def State.endCommitAfter (s : State) (units : List Nat) (reason : Nat) (st : Status) : State :=
  match s.crs.pending with
  | none => s
  | some p =>
    let s := { s with crs := { s.crs with pending := none, decided := none } }
    let s := (s.putFlag Fl.CRS_COMMIT_STATUS_VALID true).put Fl.CRS_COMMIT_STATUS_REASON reason
    let s := (s.put Fl.CRS_COMMIT_STATUS_RESULT st.code).putFlag Fl.CRS_PLAN_STATUS_COMMIT_PENDING false
    if units.isEmpty || s.rdg.applying then s.complete 0x12 p.cmd st reason (le 8 p.target)
    else
      { s with arc := { s.arc with
        hostWrites := s.arc.hostWrites ++ [{ op := 0x12, cmd := p.cmd, left := units, result := le 8 p.target }] } }

/-- A pending commit finishes without a plan to store. -/
def State.endCommit (s : State) (reason : Nat) (st : Status) : State := s.endCommitAfter [] reason st

/-- PLAN_CANCEL (R80). -/
def planCancelEffect (c : Cmd) (s : State) : State :=
  match s.crs.pending with
  | none => s.complete 0x13 c .state
  | some p =>
    if p.target < s.course + 8 then s.complete 0x13 c .state
    else ((s.complete 0x13 c .ok).endCommit 8 .aborted).raise 84

/-- The reason of the first failing row of Table 2.15, 0 when none fails. -/
def State.commitCheck (s : State) (p : Plan) : Nat :=
  let ref := fun k => p.refs.getD k (0, [])
  if s.get Fl.CRS_STAGE_TABLES_LOADING ≠ 0 then 1
  else if (List.range 5).any fun k => decide ((ref k).1 ≠ 0) && (s.stagedTable k).isNone then 2
  else if !p.tablesMet s.crs.tables then 3
  else if s.paired && s.get Fl.RDG_STATE_STATE == 1 && !s.crs.standbyConfirmed then 4
  else if p.expertRidge && !s.flag Fl.GLB_EXPERT_EN_EN then 5
  else if ((List.range 40).zip p.roles).any fun x => x.2.1 != 0 && !s.flag (Fl.LANE_GRP_STATUS_REFCLK_OK x.1) then 6
  else 0

/-- A commit from plan `old` sends a SET for the stream of a cell, or its eave is new there, so that the stream settles (R112, R124,
R157). -/
def Plan.settles (p old : Plan) (c : Nat) : Bool :=
  match p.eaveOf c with
  | none => false
  | some (ch, e) => [0, 1, 2, 3].any fun k => p.streamCell e k == some c && p.setDiffers (some old) ch.lane e k

/-- The streams that settle cut their frames in transmission (R112, R130, R166). Cells that change their medium, cluster, band or channel
stop; cells that the plan no longer has end their queues (R150, R184). A cell number that changes its medium keeps its queue (DESIGN
CHOICE, log entry 126). -/
def State.stopCells (s : State) (p : Plan) : State :=
  s.plan.cells.foldl (fun s x =>
    let s := if p.settles s.plan x.cell then s.txCut x.cell true else s
    if s.plan.airOf x.cell = p.airOf x.cell then s else s.stopCell x.cell (p.cell x.cell).isNone) s

/-- A plan comes into force at a boundary: its period, identity and roles, and with it the cells, eaves, hubs and overflow region.
The course that starts takes its number from the new period (R50, R51, Table 2.14 steps 4 and 5). -/
def State.takePlan (s : State) (p : Plan) (image : Octets) : State :=
  let s := { s with crs := { s.crs with active := p, activeImage := image, lateClasses := [] } }
  let s := ((s.put Fl.CRS_TIMING_PERIOD p.period).put Fl.CRS_OVERRUN_FLAGS_CONSEC 0).put64 Reg.CRS_PLAN_ID_LO p.planId
  let s := s.putFlag Fl.CRS_PLAN_STATUS_RESIDENT p.survey
  s.put64 Reg.CRS_COURSE_LO (s.now / periodNs p.period)

/-- What follows the change of plan in the cells, the lanes, the switch core and the archive. -/
def State.planFollow (s : State) (old : Plan) : State :=
  let s := ((s.plcCommit old).radCommit old).eavCommit old
  ((s.laneRoles s.plan.roles).setOverflow (s.plan.total 8)).hubPresence

/-- Route tables and tone-map defaults of the new epoch; sections and records of cells that are no power-line cells of the plan are ignored
(R139, R143). -/
def State.takeRoutes (s : State) (routes : Option (List (Nat × List RouteEntry))) (tones : Option (List (Nat × ToneDefault))) :
    State :=
  let s := match routes with
    | some l => { s with cel := { s.cel with routes := (l.filter fun x => s.plan.isPlc x.1).foldl (fun m x => FMap.set [] m x.1 x.2) [] } }
    | none => s
  match tones with
  | some l => { s with cel := { s.cel with tones := (l.filter fun x => s.plan.isPlc x.1).foldl (fun m x => FMap.set none m x.1 (some x.2)) [] } }
  | none => s

/-- What STORE keeps of the plan in force (R321): the meter table as the post-commit pass leaves it. -/
def State.storedNow (s : State) (tables : FMap (Option StagedTable)) : StoredPlan :=
  { image := s.crs.activeImage, plan := s.plan, epoch := s.get Fl.CRS_EPOCH_CUR, tables := tables
    slots := FMap.mapVals {} (fun _ x => passSlot s.curBit x) s.mtb.slots
    routes := s.cel.routes, tones := s.cel.tones, tariff := s.bill.tariff, tree := s.val.tree
    seed0 := s.get Fl.MTB_HASH_SEED0_SEED, seed1 := s.get Fl.MTB_HASH_SEED1_SEED }

/-- The units that the stored plan takes, counted from the first of STORE; none while the archive is not mounted. -/
def State.planUnits (s : State) (tables : FMap (Option StagedTable)) : List Nat :=
  let octets := (tables.map fun x => match x.2 with | some t => t.octets.length | none => 0).foldl (· + ·) s.crs.activeImage.length
  if s.flag Fl.ARC_STATE_MOUNTED then List.range (octets / 65536 + 1) else []

/-- The stored plan is written while the archive is mounted (R321). -/
def State.storePlan (s : State) (tables : FMap (Option StagedTable)) : State :=
  if !s.flag Fl.ARC_STATE_MOUNTED then s else
  ({ s with arc := { s.arc with stored := some (s.storedNow tables) } }).hotWrites (s.planUnits tables)

/-- Steps 4 to 6 of Table 2.14 on success. -/
def State.commitNow (s : State) (p : Plan) : State :=
  let old := s.plan
  let e := s.get Fl.CRS_EPOCH_CUR + 1
  let tables := s.crs.tables
  let image := s.crs.stagedImage
  let of := fun (k : Nat) => if (p.refs.getD k (0, [])).1 = 0 then none else (s.stagedTable k).map (·.octets)
  let s := s.stopCells p
  let s := s.put Fl.CRS_EPOCH_CUR e
  let e := s.get Fl.CRS_EPOCH_CUR
  let s := s.takePlan p image
  let s := { s with crs := { s.crs with staged := none, stagedImage := [], tables := [] } }
  let s := (s.putFlag Fl.CRS_PLAN_STATUS_STAGED false).setWord Reg.CRS_STAGE_TABLES 0#32
  let s := s.takeRoutes ((of 1).bind (routesOf e)) ((of 2).bind (tonesOf e))
  let s := ((s.mtbCommit.recordCommit ((of 3).bind (tariffOf e))).valCommit ((of 4).bind (valTreeOf e))).planFollow old
  let s := tables.foldl (fun s x => s.note 6 (le 1 x.1 ++ le 4 e)) s
  ((s.storePlan tables).raise 82).endCommitAfter (s.planUnits tables) 0 .ok

/-- The staging check and the switch at the target course (R78, R79); a paired unit takes the result that the log carries. -/
def State.commitAt (s : State) : State :=
  match s.crs.staged with
  | none => s
  | some p =>
    let reason := s.crs.decided.getD (s.commitCheck p)
    if reason = 0 then s.commitNow p else (s.raise 83).endCommit reason .stale

/-- The stored plan and its epoch come into force without a staging check (R514). -/
def State.resumePlan (s : State) : State :=
  let s := { s with crs := { s.crs with resuming := false } }
  match s.arc.stored with
  | none => s
  | some st =>
    let old := s.plan
    let s := (s.stopCells st.plan).put Fl.CRS_EPOCH_CUR st.epoch
    let s := (s.put Fl.MTB_HASH_SEED0_SEED st.seed0).put Fl.MTB_HASH_SEED1_SEED st.seed1
    let s := s.takePlan st.plan st.image
    let s := { s with cel := { s.cel with routes := st.routes, tones := st.tones } }
    let s := s.setSlots st.slots (st.slots.map (·.1))
    let s := { s with mtb := { s.mtb with base := st.slots } }
    let s := ((s.recordCommit (some st.tariff)).valCommit (some st.tree)).planFollow old
    (s.putFlag Fl.OTP_BOOT_STATUS_RESUMED true).raise 586

/-! ### The fallback (R84, R85) -/

/-- The resident plan that the running image gives. -/
def State.imageResident (s : State) : Plan :=
  match (s.otp.nor (s.get Fl.OTP_BOOT_STATUS_SLOT)).image.bind fun im => s.residentOf (im.components.getD 3 []) with
  | some p => s.residentPlan p
  | none => s.residentPlan {}

/-- The resident plan takes over (R84); the epoch, its tables, the staged tables and ownership stay (R85). -/
def State.fallBack (s : State) (cause : Nat) : State :=
  let s := if s.crs.pending.isSome then (s.endCommit 7 .aborted).raise 84 else s
  let old := s.plan
  let p := s.imageResident
  let s := s.discardStaged.stopCells p
  let s := (s.takePlan p []).planFollow old
  let s := { s with crs := { s.crs with fallback := none } }
  let s := ((s.putFlag Fl.CRS_PLAN_STATUS_FELL_BACK true).put Fl.CRS_FALLBACK_CAUSE cause).bump Fl.CRS_FALLBACK_COUNT
  s.raise 88

/-! ### Answers -/

/-- A load that rows 1 to 3 of Table 11.7 refuse raises its event too (Table 2.17). -/
def State.loadCommand (s : State) (op : Nat) (c : Cmd) (params data : Octets) (bad : Bool) (source : Nat) (effect : State → State) :
    State :=
  if s.decommissioned then s else
  match s.gateRefusal c bad with
  | some st => ((s.accepted c).post' op c st).raise source
  | none => if s.logsCommands then s.cacheCommand op c params data else effect (s.accepted c)

def execPlanLoad (c : Cmd) (data : Octets) (s : State) : Answer :=
  .next (s.loadCommand 0x10 c [] data (c.len == 0) 81 (planLoadEffect c data))
def execTableLoad (c : Cmd) (kind mode : Byte) (reserved : BitVec 16) (epoch : BitVec 32) (data : Octets) (s : State) : Answer :=
  .next (s.loadCommand 0x11 c (le 1 kind.toNat ++ le 1 mode.toNat ++ le 2 reserved.toNat ++ le 4 epoch.toNat) data
    (tableLoadIllegal c kind mode reserved) 86 (tableLoadEffect c kind mode epoch data))
def execPlanCommit (c : Cmd) (target : BitVec 64) (s : State) : Answer :=
  .next (s.writeCommand 0x12 c (le 8 target.toNat) [] (c.len != 0) (planCommitEffect c target))
def execPlanCancel (c : Cmd) (s : State) : Answer := .next (s.writeCommand 0x13 c [] [] (c.len != 0) (planCancelEffect c))

end Sys2Proof.Machine
end

