-- ==== Sys2Proof/Machine/Host.lean ====
section
/-!
DEFINITION. Machine/Host.lean: the host interface (chapter 11): ownership (R350 to R353), fences (R357 to R359), rings and doorbells
(R338 to R341, R355, R356, R360), the acceptance of commands (R345, R346), and the commands that no other chapter owns (R347).
-/

namespace Sys2Proof.Machine

/-! ### Ownership (Table 11.8) -/

/-- The lease, ns (HST_LEASE_CFG). -/
def State.leaseNs (s : State) : Nat := s.get Fl.HST_LEASE_CFG_LEASE_MS * 1000000

/-- LEASE_END of a lease that started at an instant (R351). -/
def State.leaseEnd (s : State) (start : Nat) : Nat := s.courseAfter start s.leaseNs

/-- HST_OWNER.LEASE_LEFT: whole milliseconds to the start of course LEASE_END, 0 without an owner. -/
def State.leaseLeft (s : State) : Nat :=
  match s.hst.ownership with
  | .owned _ start => (s.leaseEnd start * s.period - s.now) / 1000000
  | _ => 0

/-- INFO naming the owner: bit 7 valid, bits [1:0] function (Table 11.4). -/
def State.ownerInfo (s : State) : Nat := match s.owner with | some f => 128 + f | none => 0

/-- RESULT of CLAIM: OWNER and LEASE_END. -/
def State.ownerResult (s : State) : Octets :=
  match s.hst.ownership with
  | .owned f start => le 1 f ++ le 8 (s.leaseEnd start)
  | _ => zeros 9

/-- Ownership becomes as given. -/
def State.setOwnership (s : State) (o : Ownership) : State := { s with hst := { s.hst with ownership := o } }

/-- A lease starts or restarts for function `f` now (R351). -/
def State.startLease (s : State) (f : Nat) : State :=
  { s with hst := { s.hst with ownership := .owned f s.now, leaseShortArmed := true } }

/-- GLB_EXPERT_EN.EN clears itself (R40). -/
def State.expertOff (s : State) : State :=
  if s.flag Fl.GLB_EXPERT_EN_EN then (s.putFlag Fl.GLB_EXPERT_EN_EN false).raise 4 (le 1 2) else s

/-- The effects of a change of owner on replicated state (R40, R211, R352); in ACTIVE it enters the input log (Table 15.6). -/
def State.ownerChanged (s : State) (now : Option Nat) (cause : Nat) : State :=
  let s := s.expertOff.shadowCheck
  if s.get Fl.RDG_STATE_STATE = 1 then
    s.logItem (.owner now cause)
  else s

/-- CLAIM takes effect (Table 11.8). -/
def claimEffect (c : Cmd) (bid : BitVec 64) (s : State) : State :=
  match s.hst.ownership with
  | .noOwner => (s.setOwnership (.election s.now [(c, bid.toNat)])).raise 418 (le 1 c.func.val)
  | .election opened claims => s.setOwnership (.election opened (claims ++ [(c, bid.toNat)]))
  | .owned _ _ => s.complete 1 c .state s.ownerInfo s.ownerResult

/-- An ownership command takes effect for the owner only; otherwise it has no effect and completes with NOT_OWNER (R350). -/
def State.ownerOnly (s : State) (op : Nat) (c : Cmd) (act : State → State) : State :=
  if s.owner = some c.func.val then act s else s.complete op c .notOwner

/-- HEARTBEAT takes effect. -/
def heartbeatEffect (c : Cmd) (s : State) : State :=
  s.ownerOnly 2 c fun s => (s.startLease c.func.val).complete 2 c .ok 0 (le 8 (s.leaseEnd s.now))

/-- HANDOVER takes effect: TARGET is present, not fenced and not the owner, else STATE. -/
def handoverEffect (c : Cmd) (target : Byte) (s : State) : State :=
  let t := target.toNat
  s.ownerOnly 3 c fun s =>
    if !s.present t || (s.fn t).fenced || t == c.func.val then s.complete 3 c .state
    else (((s.startLease t).raise 416 (le 1 t)).ownerChanged (some t) 0).complete 3 c .ok

/-- RELEASE takes effect. -/
def releaseEffect (c : Cmd) (s : State) : State :=
  s.ownerOnly 4 c fun s =>
    (((s.setOwnership .noOwner).raise 416 (le 1 c.func.val)).ownerChanged none 0).complete 4 c .ok

/-- The winning claim among claims: the lowest bid, ties to the lowest function. -/
def bestClaim : List (Cmd × Nat) → Option (Cmd × Nat)
  | [] => none
  | x :: l =>
    match bestClaim l with
    | none => some x
    | some y => if y.2 < x.2 ∨ (y.2 = x.2 ∧ y.1.func < x.1.func) then some y else some x

/-- The claim window closes (R350): the winner's CLAIM completes with OK, every other one with STATE. -/
def State.closeElection (s : State) (claims : List (Cmd × Nat)) : State :=
  let s := s.setOwnership .noOwner
  match bestClaim (claims.filter fun x => !(s.fn x.1.func.val).fenced) with
  | none => claims.foldl (fun s x => s.complete 1 x.1 .state) s
  | some w =>
    let f := w.1.func.val
    let s := (s.startLease f).raise 416 (le 1 f)
    let s := s.ownerChanged (some f) 0
    claims.foldl (fun s x => s.complete 1 x.1 (if x = w then .ok else .state) s.ownerInfo s.ownerResult) s

/-- ELECTION_CLOSE: the first boundary at least 10 ms after the opening. -/
def electionCloseEffect (s : State) : State :=
  match s.hst.ownership with
  | .election opened claims => if s.now < opened + 10000000 then s else s.closeElection claims
  | _ => s

/-- LEASE_SHORT_WARNING (R351). -/
def leaseShortWarningEffect (s : State) : State :=
  match s.owner with
  | some f =>
    if !s.hst.leaseShortArmed || 50 ≤ s.leaseLeft then s
    else ({ s with hst := { s.hst with leaseShortArmed := false } }).raise 426 (le 1 f)
  | none => s

/-! ### Fences (Table 11.9, R358, R359) -/

/-- A ring at the fence of its function: disabled, its cache gone; accepted commands run on. -/
def Ring.atFence (x : Ring) : Ring :=
  { x with enabled := false, cache := [], reserved := 0, moderating := false, messageOwed := false, dropsOwed := false }

/-- Held _LO values of a function are discarded (R17). -/
def State.dropHeld (s : State) (f : Nat) : State := { s with held := FMap.erase s.held f }

/-- A function is fenced with a cause; only the first cause is kept (R357, R358). -/
def State.fence (s : State) (f cause : Nat) : State :=
  let x := s.fn f
  if x.fenced then s else
  let s := s.setFn f { x with fenced := true, cause := cause, rings := FMap.mapVals {} (fun _ r => Ring.atFence r) x.rings }
  ((s.dropHeld f).abortScansOf f).shadowCheck.raise 419 (le 1 f)

/-- LEASE_LAPSE: the lease has passed since the boundary that last started it (R351). -/
def leaseLapseEffect (s : State) : State :=
  match s.hst.ownership with
  | .owned f start =>
    if s.now < start + s.leaseNs then s
    else (((s.setOwnership .noOwner).fence f 5).raise 417 (le 1 f)).ownerChanged none 5
  | _ => s

/-- Ownership of an owner that is fenced for a cause other than LEASE ends at a boundary (R350). -/
def State.fencedOwner (s : State) : State :=
  match s.hst.ownership with
  | .owned f _ =>
    if (s.fn f).fenced then ((s.setOwnership .noOwner).raise 417 (le 1 f)).ownerChanged none (s.fn f).cause else s
  | _ => s

/-- A hardware cause begins to hold, or holds no longer; beginning fences the function. -/
def State.hardCause (s : State) (f cause : Nat) (holds : Bool) (mark : FuncState → FuncState) : State :=
  let s := s.setFn f (mark (s.fn f))
  if holds then s.fence f cause else s

def fenceLinkDownEffect (func : Fin 4) (holds : Bool) (s : State) : State :=
  s.hardCause func.val 1 holds fun x => { x with linkDown := holds }

/-- FENCE_FLR: the per-function registers return to their reset values with the fence (R358, R362); commands already accepted run to
their end. -/
def fenceFlrEffect (func : Fin 4) (holds : Bool) (s : State) : State :=
  let f := func.val
  let s := s.hardCause f 2 holds fun x => { x with flr := holds }
  if !holds then s else
  let other := fun (p : Nat × Word) => p.1 / 2 ^ 22 != f
  let s := ({ s with fregs := s.fregs.filter other, latch := s.latch.filter other }).dropHeld f
  s.setFn f { s.fn f with rings := FMap.mapVals {} (fun _ (r : Ring) => { ({} : Ring) with active := r.active }) (s.fn f).rings }

def fenceMasterClearEffect (func : Fin 4) (holds : Bool) (s : State) : State :=
  s.hardCause func.val 3 holds fun x => { x with masterClear := holds }
def fenceD3hotEffect (func : Fin 4) (holds : Bool) (s : State) : State :=
  s.hardCause func.val 4 holds fun x => { x with d3hot := holds }

/-- PCIE_PERST: PCIE_PERST_N of a link is driven low, or released; low fences the link's function under cause LINK (R555). -/
def pciePerstEffect (link : Fin 4) (low : Bool) (s : State) : State :=
  s.hardCause link.val 1 low fun x => { x with linkDown := low }

/-- FENCE_DMA_ERROR: a descriptor fetch, entry write or write-back ended in error (R357). -/
def fenceDmaErrorEffect (func : Fin 4) (s : State) : State :=
  if (s.fn func.val).fenced then s else (s.bump Fl.HST_DMA_ERR_COUNT_COUNT).fence func.val 7

/-- FENCE_OWNER_CMD: a write of HST_FENCE_CMD (R14, R357). -/
def fenceOwnerCmdEffect (func : Fin 4) (mask : BitVec 4) (s : State) : State :=
  let f := func.val
  if !s.isOwner f then s.capture f Reg.HST_FENCE_CMD .notOwner
  else if s.standbyOrHold then s.capture f Reg.HST_FENCE_CMD .blockState
  else (List.range 4).foldl (fun s k => if bitOf k mask.toNat && k != f && s.present k then s.fence k 6 else s) s

/-- UNFENCE: a function writes HST_FENCE.UNFENCE (R359). -/
def unfenceEffect (func : Fin 4) (s : State) : State :=
  let f := func.val
  let x := s.fn f
  if !x.fenced then s
  else if x.linkDown || x.flr || x.masterClear || x.d3hot then s.capture f Reg.HST_FENCE .blockState
  else (s.setFn f { x with fenced := false, cause := 0 }).raise 420 (le 1 f)

/-- WSW_STICKY_CLEAR: 1 is written to STICKY (R354). -/
def wswStickyClearEffect (func : Fin 4) (s : State) : State :=
  let f := func.val
  if s.fget f Fl.HST_WSW_STATUS_STICKY = 0 then s
  else (s.setFword f Reg.HST_WSW_STATUS 0#32).setFword f Reg.HST_WSW_ADDR 0#32

/-! ### Rings (R339 to R341, R355, R356, R360) -/

/-- The ring that a function's HST_RING_SEL names. -/
def State.ringSel (s : State) (f : Nat) : Nat := s.fget f Fl.HST_RING_SEL_RING

/-- RING_ENABLE: ENABLE = 1 is written (R355). -/
def ringEnableEffect (func : Fin 4) (s : State) : State :=
  let f := func.val
  let r := s.ringSel f
  let x := s.ring f r
  if x.enabled then s
  else if !x.idle then s.capture f Reg.HST_RING_CTRL .blockState
  else s.setRing f r { x with enabled := true, err := false, pidx := 0#32, cidx := 0#32, drops := 0#32 }

/-- A COMPLETION ring is named by a COMMAND ring of its function that is enabled or not idle (R355). -/
def State.ringNeeded (s : State) (f r : Nat) : Bool :=
  (s.ring f r).type == 1 && (s.fn f).rings.any fun p => p.2.type == 0 && p.2.cplRing == r && (p.2.enabled || !p.2.idle)

/-- RING_DISABLE: ENABLE = 0 is written (R355). -/
def ringDisableEffect (func : Fin 4) (s : State) : State :=
  let f := func.val
  let r := s.ringSel f
  let x := s.ring f r
  if !x.enabled then s
  else if s.ringNeeded f r then s.capture f Reg.HST_RING_CTRL .blockState
  else s.setRing f r { x with enabled := false }

/-- The command of a descriptor (Table 11.3): its issuer, TAG, HIGH and data buffer. -/
def cmdOf (f r : Nat) (d : Octets) : Cmd :=
  { func := Fin.ofNat 4 f, ring := Fin.ofNat 256 r, tag := BitVec.ofNat 32 (leAt d 4 4), high := bitOf 0 (leAt d 1 1)
    addr := BitVec.ofNat 64 (leAt d 8 8), len := BitVec.ofNat 32 (leAt d 16 4) }

/-- The first cached descriptor leaves the cache as a command that the ring has accepted. -/
def State.takeCached (s : State) (f r : Nat) : State :=
  let x := s.ring f r
  s.setRing f r { x with cache := x.cache.tail, active := x.active + 1 }

/-- The first cached descriptor completes without entering the log; loads raise their events (R346, R356, Table 2.17). -/
def State.refuseCached (s : State) (f r : Nat) (op : Nat) (c : Cmd) (st : Status) : State :=
  let s := (s.takeCached f r).post' op c st
  if op = 0x10 then s.raise 81 else if op = 0x11 then s.raise 86 else s

/-- Completes every cached descriptor with ABORTED (R356). -/
def State.abortCache (s : State) (f r : Nat) : State :=
  (s.ring f r).cache.foldl (fun s d => s.refuseCached f r (leAt d.octets 0 1) (cmdOf f r d.octets) .aborted) s

/-- RING_ABORT: a write of HST_RING_CTRL with ABORT = 1 (R356). -/
def ringAbortEffect (func : Fin 4) (enable : Bool) (s : State) : State :=
  let f := func.val
  let r := s.ringSel f
  let x := s.ring f r
  if !enable && x.idle then s
  else if enable || x.type != 0 then s.capture f Reg.HST_RING_CTRL .blockState
  else (s.setRing f r { x with enabled := false }).abortCache f r

/-- DROPS_WRITEBACK (R340). -/
def dropsWritebackEffect (func : Fin 4) (ring : Fin 256) (s : State) : State :=
  let x := s.ring func.val ring.val
  if !x.dropsOwed then s else
  let s' := s.setRing func.val ring.val { x with dropsOwed := false }
  if x.enabled && !x.err && !(s.fn func.val).fenced then s'.emit (.writeBack func.val ring.val x.pidx x.drops) else s'

/-- MSIX_MODERATION_EXPIRY (R360). -/
def msixModerationExpiryEffect (func : Fin 4) (ring : Fin 256) (s : State) : State :=
  let x := s.ring func.val ring.val
  if !x.moderating then s
  else if x.messageOwed then
    (s.setRing func.val ring.val { x with messageOwed := false }).msix func.val (bitsOf 5 0 x.cfg.toNat)
  else s.setRing func.val ring.val { x with moderating := false }

/-- A doorbell write is ignored, counted and reported (R341). -/
def State.doorbellError (s : State) (f : Nat) : State := (s.bump Fl.HST_DB_ERR_COUNT_COUNT).raise 425 (le 1 f)

/-- A new host index is valid on a ring (R341). -/
def Ring.indexValid (x : Ring) (new : Word) : Bool :=
  if x.type = 0 then decide ((new - x.cidx).toNat ≤ x.size) && decide ((x.pidx - x.cidx).toNat ≤ (new - x.cidx).toNat)
  else decide ((new - x.cidx).toNat ≤ (x.pidx - x.cidx).toNat)

/-- DOORBELL_WRITE at an offset of BAR2 (R341). -/
def doorbellWriteEffect (func : Fin 4) (offset : BitVec 20) (eight : Bool) (value : BitVec 64) (s : State) : State :=
  let f := func.val
  let r := offset.toNat / 8
  let v := value.toNat
  if s.decommissioned ∨ 0x800 ≤ offset.toNat then s else
  let x := s.ring f r
  if !eight || offset.toNat % 8 != 0 || bitsOf 39 32 v != r || bitsOf 63 40 v != 0 || !x.enabled || x.err then s.doorbellError f
  else
    let new : Word := BitVec.ofNat 32 v
    let x := { x with lastDoorbell := value }
    if !x.indexValid new then (s.setRing f r { x with err := true }).raise 423 (le 1 f)
    else s.setRing f r (if x.type = 0 then { x with pidx := new } else { x with cidx := new })

/-! ### Commands that no other chapter owns (R347) -/

/-- NOP. -/
def nopEffect (c : Cmd) (s : State) : State :=
  if c.len ≠ 0 then s.complete 5 c .illegal else s.complete 5 c .ok 0 (le 8 s.course)

/-- METER_LOOKUP (R193, R194): bit 31 of INDEX tells that the lookup is a hit. -/
def meterLookupEffect (c : Cmd) (key : BitVec 64) (s : State) : State :=
  if c.len ≠ 0 then s.complete 0x18 c .illegal
  else match s.lookup key.toNat with
    | some (i, pinned) => s.complete 0x18 c .ok 0 (le 4 (i + 2 ^ 31) ++ le 1 (b2n pinned))
    | none => s.complete 0x18 c .ok 0 (zeros 5)

/-- METER_STATE_READ: each record is copied whole. -/
def meterStateReadEffect (c : Cmd) (first count : BitVec 32) (s : State) : State :=
  let i := first.toNat
  let n := count.toNat
  if c.len.toNat ≠ 256 * n then s.complete 0x19 c .illegal
  else if n = 0 ∨ 4096 < n ∨ 1048576 < i + n then s.complete 0x19 c .range
  else (s.returnData c ((List.range n).map fun k => (s.meterRec (i + k)).octets).flatten).complete 0x19 c .ok

/-- METER_STATE_WRITE breaks row 1: an undefined OP, or a DATA_LEN that it does not take. -/
def stateWriteIllegal (c : Cmd) (op : Byte) : Bool :=
  op == 0 || decide (4 < op.toNat) || decide (c.len.toNat ≠ if op = 1 then 16 else 0)

/-- METER_STATE_WRITE takes effect (R347); a meter whose UNREACHABLE it clears raises RAD_REACHABLE (Table 5.10). -/
def meterStateWriteEffect (c : Cmd) (index : BitVec 32) (op : Byte) (data : Octets) (s : State) : State :=
  let i := index.toNat
  if (s.memberByIndex i).isNone then s.complete 0x1A c .state
  else
    let was := (s.meterRec i).rad.unreachable
    let s := s.modMeter i fun m =>
      match op.toNat with
      | 1 => { m with host := padTo 16 data }
      | 2 => { m with rad := { m.rad with rxFc := 0 } }
      | 3 => { m with plc := { m.plc with rxFc := 0 } }
      | _ => { m with
          rad := { m.rad with unreachable := false, cslFails := 0 }
          plc := { m.plc with neighFail := false, routeFail := false, altFail := false } }
    let s := if op = 4 ∧ was = true then s.raise 198 else s
    s.complete 0x1A c .ok

/-- FRAME_SEND breaks row 1: an undefined MEDIUM or ACK_REQ, or a DATA_LEN outside 1 to 1,280. -/
def frameSendIllegal (c : Cmd) (medium ackReq : Byte) : Bool :=
  (medium != 1 && medium != 2) || decide (1 < ackReq.toNat) || c.len == 0 || decide (1280 < c.len.toNat)

/-- FRAME_SEND takes effect: the frame is queued, and completes with its delivery result (R151, R185); with its medium's block disabled it
completes with STATE (R148, R183). -/
def frameSendEffect (c : Cmd) (index : BitVec 32) (medium ackReq : Byte) (data : Octets) (s : State) : State :=
  if !s.enabled (if medium = 1 then 4 else 5) then s.complete 0x20 c .state
  else if medium = 1 then s.plcSend (.host c) index.toNat (ackReq == 1) c.high data
  else s.radSend (.host c) index.toNat (ackReq == 1) c.high data

/-! ### Descriptors (Tables 11.3 and 11.5) -/

/-- The form of a descriptor under R342 that does not depend on its opcode. -/
def descriptorOk (d : Octets) : Bool :=
  let flags := leAt d 1 1
  let count := leAt d 20 4
  d.length == 64 && decide (flags < 8) && leAt d 2 2 == 0
    && (if bitOf 1 flags then decide (1 ≤ count) && decide (count ≤ 4096) && leAt d 8 8 % 16 == 0 else count == 0)

/-- A scatter list under R342, for its count and DATA_LEN. -/
def scatterOk (d : Octets) (l : List ScatterEntry) : Bool :=
  l.length == leAt d 20 4
    && l.all (fun e => e.addr.toNat % 4 == 0 && e.len.toNat % 4 == 0 && decide (4 ≤ e.len.toNat) && e.reserved == 0)
    && (l.map fun e => e.len.toNat).foldl (· + ·) 0 == leAt d 16 4

/-- The command that a descriptor with its data spells (Table 11.5); none for an undefined opcode or for octets of PARAMS that its
command reserves or does not use and that are not 0. -/
def commandOf (f r : Nat) (d data : Octets) : Option Instr :=
  let c := cmdOf f r d
  let p := slice d 24 40
  let n := fun (w o : Nat) => BitVec.ofNat (8 * w) (leAt p o w)
  let tail := fun (used : Nat) (i : Instr) => if allZero (p.drop used) then some i else none
  let gap := fun (o k : Nat) (x : Option Instr) => if allZero (slice p o k) then x else none
  if !descriptorOk d then none else
  match leAt d 0 1 with
  | 0x01 => tail 8 (.claim c (n 8 0))
  | 0x02 => tail 0 (.heartbeat c)
  | 0x03 => tail 1 (.handover c (n 1 0))
  | 0x04 => tail 0 (.release c)
  | 0x05 => tail 0 (.nop c)
  | 0x10 => tail 0 (.planLoad c data)
  | 0x11 => tail 8 (.tableLoad c (n 1 0) (n 1 1) (n 2 2) (n 4 4) data)
  | 0x12 => tail 8 (.planCommit c (n 8 0))
  | 0x13 => tail 0 (.planCancel c)
  | 0x18 => tail 8 (.meterLookup c (n 8 0))
  | 0x19 => tail 8 (.meterStateRead c (n 4 0) (n 4 4))
  | 0x1A => tail 5 (.meterStateWrite c (n 4 0) (n 1 4) data)
  | 0x20 => tail 6 (.frameSend c (n 4 0) (n 1 4) (n 1 5) data)
  | 0x21 => tail 6 (.imagePush c (n 1 0) (n 1 1) (n 2 2) (n 2 4) data)
  | 0x22 => tail 5 (.switchReq c (n 4 0) (n 1 4))
  | 0x28 => tail 10 (.prepayTopup c (n 4 0) (n 4 4) (n 2 8))
  | 0x30 => tail 28 (.valleyRetro c ⟨n 8 0, n 8 8, n 2 16, n 1 18, n 1 19, n 1 20, n 3 21, n 4 24⟩)
  | 0x38 => tail 8 (.archiveFormat c (n 1 0) (n 1 1) (n 1 2) (n 1 3) (n 4 4))
  | 0x39 => tail 1 (.archiveAdopt c (n 1 0))
  | 0x3A => tail 30 (.archiveScan c ⟨n 8 0, n 8 8, n 4 16, n 4 20, n 4 24, n 1 28, Fin.ofNat 256 (leAt p 29 1)⟩)
  | 0x3B => tail 8 (.archiveHostRead c (n 4 0) (n 4 4))
  | 0x3C => tail 8 (.archiveHostWrite c (n 4 0) (n 4 4) data)
  | 0x40 => tail 16 (.keyWrite c ⟨n 1 0, n 1 1, n 1 2, n 1 3, n 1 4, n 1 5, n 1 6, n 1 7, n 8 8⟩ data)
  | 0x41 => gap 6 2 (tail 24 (.keyGenerate c ⟨n 1 0, n 1 1, n 1 2, n 1 3, n 1 4, n 1 5, slice p 8 16, data⟩))
  | 0x42 => tail 2 (.keyDestroy c (n 1 0) (n 1 1))
  | 0x43 => gap 1 7 (tail 40 (.keyAttest c (n 1 0) (slice p 8 32)))
  | 0x44 => tail 0 (.randomRead c)
  | 0x48 => gap 1 3 (tail 12 (.timeSet c (n 1 0) (n 8 4)))
  | 0x49 => tail 2 (.timeRef c (n 1 0) (n 1 1))
  | 0x50 => tail 4 (.safeReset c (n 4 0))
  | 0x58 => tail 8 (.eventClear c (n 8 0))
  | 0x60 => tail 8 (.lifecycle c (n 1 0) (n 3 1) (n 4 4))
  | 0x61 => tail 0 (.calWrite c data)
  | 0x62 => tail 0 (.defaultsWrite c data)
  | _ => none

/-- A breach of row 1 of Table 11.7 in what a write-class command carries. DATA_LEN stands for the length of data that is still to be
read. -/
def commandBad : Instr → Bool
  | .claim c _ | .heartbeat c | .release c | .planCommit c _ | .planCancel c | .prepayTopup c _ _ _ | .archiveAdopt c _
  | .safeReset c _ => c.len != 0
  | .handover c t => decide (3 < t.toNat) || c.len != 0
  | .planLoad c _ => c.len == 0
  | .tableLoad c k m r _ _ => tableLoadIllegal c k m r
  | .meterStateWrite c _ op _ => stateWriteIllegal c op
  | .frameSend c _ m a _ => frameSendIllegal c m a
  | .imagePush c k _ n m _ => pushIllegal k n m (zeros c.len.toNat)
  | .switchReq c _ a => c.len != 0 || (a != 1 && a != 2)
  | .valleyRetro c p => retroIllegal c p
  | .archiveFormat c _ _ _ r _ => c.len != 0 || r != 0
  | .archiveHostWrite c _ n _ => decide (c.len.toNat ≠ 65536 * n.toNat)
  | .keyWrite c p _ => keyWriteIllegal p c.len.toNat
  | .keyGenerate c p => keyGenerateIllegal p || c.len != 0
  | .keyDestroy c t _ => decide (1 < t.toNat) || c.len != 0
  | .timeSet c m _ => c.len != 0 || m == 0 || decide (3 < m.toNat)
  | .timeRef c o k => c.len != 0 || timeRefIllegal o k
  | .eventClear c n => decide (2 ^ 48 ≤ n.toNat) || c.len != 0
  | .lifecycle c t r _ => c.len != 0 || r != 0 || t == 0 || decide (5 < t.toNat)
  | .calWrite c _ => c.len != 128#32
  | .defaultsWrite c _ => c.len != 256#32
  | _ => false

/-- A SAFE_RESET of the partner's log acts only where this unit's own SAFE_RST_N has armed it (R435). -/
def State.loggedSafeReset (s : State) (c : Cmd) (confirm : BitVec 32) : State :=
  if s.rdg.applying && !s.flag Fl.SAF_PINS_ARMED then s.raise 498 else safeResetEffect c confirm s

/-- The effect of a logged command at the boundary that ends its course (R346). -/
def runCommand : Instr → State → State
  | .claim c b, s => claimEffect c b s
  | .heartbeat c, s => heartbeatEffect c s
  | .handover c t, s => handoverEffect c t s
  | .release c, s => releaseEffect c s
  | .planLoad c d, s => planLoadEffect c d s
  | .tableLoad c k m _ e d, s => tableLoadEffect c k m e d s
  | .planCommit c t, s => planCommitEffect c t s
  | .planCancel c, s => planCancelEffect c s
  | .meterStateWrite c i o d, s => meterStateWriteEffect c i o d s
  | .frameSend c i m a d, s => frameSendEffect c i m a d s
  | .imagePush c k t n m d, s => imagePushEffect c k t n m d s
  | .switchReq c i a, s => s.loggedSwitchReq c i a
  | .prepayTopup c i a t, s => prepayTopupEffect c i a t s
  | .valleyRetro c p, s => valleyRetroEffect c p s
  | .archiveFormat c m o p r h, s => archiveFormatEffect c m o p r h s
  | .archiveAdopt c h, s => archiveAdoptEffect c h s
  | .archiveHostWrite c u n d, s => archiveHostWriteEffect c u n d s
  | .keyWrite c p d, s => keyWriteEffect c p d s
  | .keyGenerate c p, s => keyGenerateEffect c p s
  | .keyDestroy c t i, s => keyDestroyEffect c t i s
  | .timeSet c m d, s => timeSetEffect c m d s
  | .timeRef c o k, s => timeRefEffect c o k s
  | .safeReset c x, s => s.loggedSafeReset c x
  | .eventClear c n, s => eventClearEffect c n s
  | .lifecycle c t r x, s => lifecycleEffect c t r x s
  | .calWrite c d, s => calWriteEffect c d s
  | .defaultsWrite c d, s => defaultsWriteEffect c d s
  | _, s => s

/-- A read-class command runs when it is accepted (R346). -/
def runRead : Instr → State → State
  | .nop c, s => nopEffect c s
  | .meterLookup c k, s => meterLookupEffect c k s
  | .meterStateRead c i n, s => meterStateReadEffect c i n s
  | .archiveScan c p, s => archiveScanEffect c p s
  | .archiveHostRead c u n, s => archiveHostReadEffect c u n s
  | .keyAttest c k n, s => keyAttestEffect c k n s
  | .randomRead c, s => randomReadEffect c s
  | _, s => s

/-! ### Acceptance (R345, R346, R349, R395, R396, R457) -/

/-- Commands in the input log of the course. -/
def State.loggedCommands (s : State) : Nat :=
  (s.hst.inputLog.filter fun x => match x with | .command _ _ _ _ _ => true | _ => false).length

/-- What a KEY_GENERATE is logged with: MODE RANDOM draws its octets now, and in a pair MODE DEVICE carries the derived key (R395,
R412). -/
def State.drawnFor (s : State) (i : Instr) : Option Octets × State :=
  match i with
  | .keyGenerate _ p =>
    if p.mode = 1 then
      if s.get Fl.KEY_ENGINE_STATE_RNG = 1 then
        let (bs, s) := s.drbg p.len.toNat
        (some bs, s)
      else (none, s)
    else if s.get Fl.RDG_STATE_STATE = 1 ∧ s.otp.identValid = true ∧ s.otp.rootseedValid = true then
      (some (s.deviceKey p.label p.attr.toNat p.len.toNat), s)
    else (none, s)
  | _ => (none, s)

/-- What the acceptance of a write-class command itself does, besides entering the log. -/
def State.onAccept (s : State) (i : Instr) : State :=
  match i with
  | .tableLoad c k _ _ e _ => s.loadAccepted c k.toNat e.toNat
  | .calWrite c _ =>
    if s.flag Fl.SAF_PINS_SEAL_OPEN then s else { s with met := { s.met with sealedAt := s.met.sealedAt ++ [c] } }
  | .safeReset c _ =>
    { s with saf := { s.saf with accepted := s.saf.accepted ++ [(c, s.flag Fl.SAF_PINS_ARMED)] } }
  | _ => s

/-- A command enters the input log of the course in which it is accepted (R346). CLAIM is not counted in HST_CMD_COUNT. -/
def State.logCommand (s : State) (f r : Nat) (d : Cached) (i : Instr) : State :=
  let (drawn, s) := s.drawnFor i
  let s := (s.takeCached f r).onAccept i
  let s := if leAt d.octets 0 1 = 1 then s else s.bump Fl.HST_CMD_COUNT_COUNT
  { s with hst := { s.hst with
    inputLog := s.hst.inputLog ++ [.command f r d.octets (drawn.getD d.data) d.object] } }

/-- The object that mirrors a command's data still waits for its acknowledgement (R457). -/
def State.objectOut (s : State) (object : Nat) : Bool :=
  (s.rdg.unacked ++ s.rdg.backlog).any fun x => x.kind == 1 && x.object == object

/-- A command's data goes to the standby unit as an object. -/
def State.mirrorData (s : State) (f r : Nat) (d : Cached) (rest : List Cached) : State :=
  let object := s.rdg.nextObject + 1
  let s := { s with rdg := { s.rdg with nextObject := object } }
  (s.setRing f r { s.ring f r with cache := { d with object := object } :: rest }).bulk 1 object d.data

/-- A write-class command at the head of its cache: refused, accepted into the log, or left to wait; the flag tells whether the
cache moved on. -/
def State.acceptWrite (s : State) (f r : Nat) (d : Cached) (rest : List Cached) (i : Instr) : Bool × State :=
  let op := leAt d.octets 0 1
  let c := cmdOf f r d.octets
  let refusal := if op = 1 then (if commandBad i || malformed c then some .illegal else none) else s.gateRefusal c (commandBad i)
  match refusal with
  | some st => (true, s.refuseCached f r op c st)
  | none =>
    let random := match i with | .keyGenerate _ p => p.mode == 1 | _ => false
    let rng := s.get Fl.KEY_ENGINE_STATE_RNG
    if (c.len != 0 && !d.fetched) || decide (256 ≤ s.loggedCommands) || (random && (rng == 0 || rng == 2)) then (false, s)
    else if s.get Fl.RDG_STATE_STATE = 1 ∧ s.paired = true ∧ d.data ≠ [] ∧ d.object = 0 then (false, s.mirrorData f r d rest)
    else if d.object ≠ 0 ∧ s.objectOut d.object = true then (false, s)
    else (true, s.logCommand f r d i)

/-- Accepts the descriptor at the head of a COMMAND ring's cache where it can be (R345, R346); tells whether the cache moved on. -/
def State.acceptHead (s : State) (f r : Nat) : Bool × State :=
  let x := s.ring f r
  match x.cache with
  | [] => (false, s)
  | d :: rest =>
    let op := leAt d.octets 0 1
    let c := cmdOf f r d.octets
    let flags := leAt d.octets 1 1
    if x.err || (bitOf 2 flags && decide (0 < x.active)) then (false, s)
    else match commandOf f r d.octets d.data with
      | none => (true, s.refuseCached f r op c .illegal)
      | some i =>
        if bitOf 1 flags && !d.fetched then (false, s)
        else if bitOf 1 flags && !scatterOk d.octets d.sgl then (true, s.refuseCached f r op c .illegal)
        else if readClass op then
          let s := s.takeCached f r
          (true, if malformed c then s.complete op c .illegal else runRead i s)
        else s.acceptWrite f r d rest i

/-- Accepts a ring's cached descriptors in ring order until one has to wait. -/
def State.acceptRing : Nat → Nat → Nat → State → State
  | 0, _, _, s => s
  | k + 1, f, r, s =>
    let (moved, s) := s.acceptHead f r
    if moved then State.acceptRing k f r s else s

/-- Accepts what can be accepted on every ring. -/
def State.acceptRings (s : State) : State :=
  (List.range 4).foldl (fun s f =>
    (s.fn f).rings.foldl (fun s p => if p.2.cache.isEmpty then s else State.acceptRing 17 f p.1 s) s) s

/-- DESCRIPTOR_PREFETCH: the next descriptor of a COMMAND ring is read once its completion has a slot (R345). -/
def descriptorPrefetchEffect (func : Fin 4) (ring : Fin 256) (octets : Octets) (s : State) : State :=
  let f := func.val
  let r := ring.val
  let x := s.ring f r
  let q := s.ring f x.cplRing
  if s.decommissioned || !x.enabled || x.err || x.type != 0 || (s.fn f).fenced || x.pidx == x.cidx || decide (16 ≤ x.cache.length)
      || !q.enabled || q.err || q.type != 1 || decide (q.size ≤ q.held + q.reserved) then s
  else
    let x := { x with cidx := x.cidx + 1, cache := x.cache ++ [{ octets := octets }] }
    let s := (s.setRing f r x).setRing f x.cplRing { q with reserved := q.reserved + 1 }
    State.acceptRing 17 f r (s.emit (.writeBack f r x.cidx 0#32))

/-- ENTROPY_SAMPLE: a noise sample; commands that waited for the source are accepted at the instant it becomes READY (R396, R408). -/
def readySampleEffect (sample : Byte) (s : State) : State :=
  let t := entropySampleEffect sample s
  if s.get Fl.KEY_ENGINE_STATE_RNG ≠ 1 ∧ t.get Fl.KEY_ENGINE_STATE_RNG = 1 then t.acceptRings else t

def execEntropySample (sample : Byte) (s : State) : Answer := .next (readySampleEffect sample s)

/-- The data buffer, or the scatter list, of the descriptor at the head of a cache is still to be read (R346). -/
def State.fetchOwed (s : State) (f r : Nat) : Option (Cached × List Cached) :=
  match (s.ring f r).cache with
  | [] => none
  | d :: rest =>
    let op := leAt d.octets 0 1
    let needs := (!readClass op && leAt d.octets 16 4 != 0) || bitOf 1 (leAt d.octets 1 1)
    if needs && !d.fetched && !(s.fn f).fenced then some (d, rest) else none

/-- COMMAND_DATA_FETCHED: the read of the scatter list and the data ends in full (R346). -/
def commandDataFetchedEffect (func : Fin 4) (ring : Fin 256) (sgl : List ScatterEntry) (data : Octets) (s : State) : State :=
  let f := func.val
  let r := ring.val
  match s.fetchOwed f r with
  | none => s
  | some (d, rest) =>
    let data := if readClass (leAt d.octets 0 1) then [] else padTo (leAt d.octets 16 4) data
    let d := { d with fetched := true, sgl := sgl, data := data }
    State.acceptRing 17 f r (s.setRing f r { s.ring f r with cache := d :: rest })

/-- DATA_DMA_ERROR: the read ends in error; the command completes with HW_FAULT and the function is not fenced (R346, R357). -/
def dataDmaErrorEffect (func : Fin 4) (ring : Fin 256) (s : State) : State :=
  let f := func.val
  let r := ring.val
  match s.fetchOwed f r with
  | none => s
  | some (d, _) =>
    let op := leAt d.octets 0 1
    let c := cmdOf f r d.octets
    let bad := match commandOf f r d.octets d.data with | some i => commandBad i | none => true
    let s := (s.bump Fl.HST_DMA_ERR_COUNT_COUNT).raise 424 (le 1 f)
    let refusal := if readClass op || op == 1 then none else s.gateRefusal c bad
    let s := s.refuseCached f r op c (refusal.getD .hwFault)
    State.acceptRing 17 f r s

/-! ### Answers -/

/-- CLAIM is open to every function in every unit state (R347, R444). -/
def execClaim (c : Cmd) (bid : BitVec 64) (s : State) : Answer :=
  .next (s.readCommand 1 c fun t =>
    if c.len ≠ 0 then t.complete 1 c .illegal
    else if s.logsCommands then s.cacheCommand 1 c (le 8 bid.toNat) [] else claimEffect c bid t)
def execHeartbeat (c : Cmd) (s : State) : Answer := .next (s.writeCommand 2 c [] [] (c.len != 0) (heartbeatEffect c))
def execHandover (c : Cmd) (target : Byte) (s : State) : Answer :=
  .next (s.writeCommand 3 c (le 1 target.toNat) [] (decide (3 < target.toNat) || c.len != 0) (handoverEffect c target))
def execRelease (c : Cmd) (s : State) : Answer := .next (s.writeCommand 4 c [] [] (c.len != 0) (releaseEffect c))
def execNop (c : Cmd) (s : State) : Answer := .next (s.readCommand 5 c (nopEffect c))
def execMeterLookup (c : Cmd) (key : BitVec 64) (s : State) : Answer := .next (s.readCommand 0x18 c (meterLookupEffect c key))
def execMeterStateRead (c : Cmd) (first count : BitVec 32) (s : State) : Answer :=
  .next (s.readCommand 0x19 c (meterStateReadEffect c first count))
def execMeterStateWrite (c : Cmd) (index : BitVec 32) (op : Byte) (data : Octets) (s : State) : Answer :=
  .next (s.writeCommand 0x1A c (le 4 index.toNat ++ le 1 op.toNat) data (stateWriteIllegal c op) (meterStateWriteEffect c index op data))
def execFrameSend (c : Cmd) (index : BitVec 32) (medium ackReq : Byte) (data : Octets) (s : State) : Answer :=
  .next (s.writeCommand 0x20 c (le 4 index.toNat ++ le 1 medium.toNat ++ le 1 ackReq.toNat) data (frameSendIllegal c medium ackReq) (frameSendEffect c index medium ackReq data))
def execElectionClose (s : State) : Answer := .next (electionCloseEffect s)
def execLeaseLapse (s : State) : Answer := .next (leaseLapseEffect s)
def execLeaseShortWarning (s : State) : Answer := .next (leaseShortWarningEffect s)
def execDoorbellWrite (func : Fin 4) (offset : BitVec 20) (eight : Bool) (value : BitVec 64) (s : State) : Answer :=
  .next (doorbellWriteEffect func offset eight value s)
def execDescriptorPrefetch (func : Fin 4) (ring : Fin 256) (octets : Octets) (s : State) : Answer :=
  .next (descriptorPrefetchEffect func ring octets s)
def execCommandDataFetched (func : Fin 4) (ring : Fin 256) (sgl : List ScatterEntry) (data : Octets) (s : State) : Answer :=
  .next (commandDataFetchedEffect func ring sgl data s)
def execDataDmaError (func : Fin 4) (ring : Fin 256) (s : State) : Answer := .next (dataDmaErrorEffect func ring s)
def execDropsWriteback (func : Fin 4) (ring : Fin 256) (s : State) : Answer := .next (dropsWritebackEffect func ring s)
def execMsixModerationExpiry (func : Fin 4) (ring : Fin 256) (s : State) : Answer :=
  .next (msixModerationExpiryEffect func ring s)
def execFenceLinkDown (func : Fin 4) (holds : Bool) (s : State) : Answer := .next (fenceLinkDownEffect func holds s)
def execFenceFlr (func : Fin 4) (holds : Bool) (s : State) : Answer := .next (fenceFlrEffect func holds s)
def execFenceMasterClear (func : Fin 4) (holds : Bool) (s : State) : Answer := .next (fenceMasterClearEffect func holds s)
def execFenceD3hot (func : Fin 4) (holds : Bool) (s : State) : Answer := .next (fenceD3hotEffect func holds s)
def execFenceDmaError (func : Fin 4) (s : State) : Answer := .next (fenceDmaErrorEffect func s)
def execPciePerst (link : Fin 4) (low : Bool) (s : State) : Answer := .next (pciePerstEffect link low s)

end Sys2Proof.Machine
end

