-- ==== Sys2Proof/Machine/RegView.lean ====
section
/-!
DEFINITION. Machine/RegView.lean: what a read of BAR0 shows (R11, R12, R35, Table 0.4): the register's fields as held, and the
fields that the chapters compute when they are read.
-/

namespace Sys2Proof.Machine

/-- PLC_CELL_STATE of a cell (chapter 4). -/
def State.plcCellWord (s : State) (c : Nat) : Nat :=
  if !s.plan.isPlc c then 0 else
  let m := s.mac c
  s.plan.panId c * 2 ^ 16 + 2 ^ 15 + 2 ^ 14 * b2n m.foreign + 2 ^ 13 * b2n m.rx + 2 ^ 12 * b2n (m.tx.isSome || m.ackTx)
    + 2 ^ 11 * b2n (!m.ackOwed.isEmpty) + 2 ^ 10 * (m.keyIndex % 2) + min m.queue.length 255

/-- RAD_CELL_STATE of a cell (chapter 5). -/
def State.radCellWord (s : State) (c : Nat) : Nat :=
  if !s.plan.isRad c then 0 else
  let m := s.mac c
  s.plan.panId c * 2 ^ 16 + 2 ^ 15 + 2 ^ 14 * b2n m.foreign + 2 ^ 13 * b2n m.rx + 2 ^ 12 * b2n (m.tx.isSome || m.ackTx)
    + 2 ^ 11 * b2n (!m.ackOwed.isEmpty) + 2 ^ 10 * b2n m.wus + min m.queue.length 255

/-- RAD_CELL_LOAD of a cell: pending list, associated meters, air time in 0.01 % of 3,600 s. -/
def State.radLoadWord (s : State) (c : Nat) : Nat :=
  if !s.plan.isRad c then 0 else
  min (s.mac c).pendingList.length 31 * 2 ^ 27 + min (s.associated c).length 4095 * 2 ^ 15 + min (s.airUsed c / 360000000) 10000

/-- REC_CAL_STATUS of a calendar number. -/
def State.calStatusWord (s : State) (n : Nat) : Nat :=
  match s.bill.tariff.cals.find? fun c => c.cal == n with
  | none => 0
  | some c => 2 ^ 31 + 2 ^ 30 * b2n c.b.isSome + 2 ^ 29 * b2n (c.version s.second).2

/-- REC_CAL_VERSION of a calendar number. -/
def State.calVersionWord (s : State) (n : Nat) : Nat :=
  match s.bill.tariff.cals.find? fun c => c.cal == n with
  | none => 0
  | some c => (c.version s.second).1.versionId

/-- REC_STAGING: FULL as held, SECONDS from the oldest record in staging. -/
def State.stagingWord (s : State) : Nat :=
  let age := match s.arc.staging with | [] => 0 | r :: _ => (s.now - r.at') / 1000000000
  2 ^ 31 * s.get Fl.REC_STAGING_FULL + min age 0xFFFF

/-- Cells of a class on chip, shared pool included. -/
def State.classOnChip (s : State) (k : Nat) : Nat := s.packetSum (fun p => p.cls == k) fun p => p.reserve + p.pool

/-- Cells of a class in the overflow region. -/
def State.classDram (s : State) (k : Nat) : Nat := s.packetSum (fun p => p.cls == k) (·.waiting)

/-- ARC_HUB_STATE of a hub position. -/
def State.hubStateWord (s : State) (h : Nat) : Nat :=
  let x := s.hub h
  min x.outstanding.length 0xFFFF * 2 ^ 16 + x.epoch % 256 * 2 ^ 8 + x.state

/-- ARC_HUB_ID of a hub position: the HUB_ID of the format. -/
def State.hubFormatId (s : State) (h : Nat) : Nat :=
  match s.arc.format with
  | none => 0
  | some f => match FMap.get none f.hubs h with | some m => m.hubId | none => 0

/-- HST_OWNER. -/
def State.ownerWord (s : State) : Nat :=
  match s.hst.ownership with
  | .noOwner => 0
  | .election _ _ => 2 ^ 30
  | .owned f _ => 2 ^ 31 + f * 2 ^ 28 + min s.leaseLeft 0xFFFF

/-- HST_FENCE as a function reads it. -/
def State.fenceWord (s : State) (f : Nat) : Nat :=
  (List.range 4).foldl (fun n k => n + 2 ^ (16 + k) * b2n (s.fn k).fenced) 0 + (s.fn f).cause

/-- HST_RING_STATUS of a ring. -/
def Ring.statusWord (x : Ring) : Nat :=
  min x.cache.length 31 * 2 ^ 16 + 8 * b2n x.err + 4 * b2n x.aborting + 2 * b2n x.enabled + b2n x.idle

/-- KEY_SLOT_INFO of a slot. -/
def State.slotInfoWord (s : State) (k : Nat) : Nat :=
  let x := s.keySlot k
  if !x.loaded then 0 else
  2 ^ 31 + x.attr % 8 * 2 ^ 28 + (if x.key.length = 32 then 2 else 1) * 2 ^ 26 + x.origin % 4 * 2 ^ 24 + s.purposeOf k

/-- The key check value of a slot, octet 0 in the highest bits; 0 when the slot is empty. -/
def State.slotKcv (s : State) (k : Nat) : Nat := if (s.keySlot k).loaded then unBe (s.keySlot k).kcv else 0

/-- A record of the tamper log as TMP_LOG_REC shows it: _LO and _HI; 0 when it is not held. -/
def State.tamperWord (s : State) (n : Nat) : Nat :=
  match s.tmp.log.find? fun r => r.seq == n with
  | none => 0
  | some r => n % 2 ^ 32 + (r.kind * 2 ^ 24 + r.arg * 2 ^ 16 + r.state * 2 ^ 8) * 2 ^ 32

/-- The survey record of a number, if the ring still holds it: `survey` lists the newest first, and the newest is number
COUNT - 1. -/
def State.surveyAt (s : State) (n : Nat) : Octets :=
  let count := s.get Fl.OTP_SURVEY_HEAD_COUNT
  if count ≤ n then zeros 64 else s.otp.survey.getD (count - 1 - n) (zeros 64)

/-- EVT_STATUS. -/
def State.evtStatusWord (s : State) : Nat :=
  2 ^ 31 * b2n s.evt.provisional + 2 ^ 30 * b2n (s.flag Fl.ARC_STATE_MOUNTED && !s.evt.provisional) + min s.evt.records.length 65536

/-- EVT_WIN_STATUS as a function reads it. -/
def State.winStatusWord (s : State) (f : Nat) : Nat :=
  16 * b2n (FMap.get false s.evt.fetching f)
    + (List.range 4).foldl (fun n i => n + 2 ^ i * b2n (s.evtShown f i).isSome) 0

/-- A word of a window record: word 0 live, the others as latched (R525). -/
def State.winWord (s : State) (f w : Nat) : Nat :=
  let i := w / 8
  if w % 8 = 0 then (match s.evtShown f i with | some e => leAt e.octets 0 4 | none => 0)
  else leAt (FMap.get [] s.evt.latched (4 * f + i)) (4 * (w % 8)) 4

/-- SAF_LANE_STATE of a lane: the grant of the course in progress, the grant published now, the mask in force. -/
def State.laneStateWord (s : State) (l : Nat) : Nat :=
  2 ^ 31 * b2n (bitOf l s.saf.inForce) + 2 ^ 30 * b2n (s.published l) + s.laneMask l

/-- VAL_RETRO_STATUS: PAUSED while shedding holds a run (R292). -/
def State.retroWord (s : State) : Nat :=
  (s.word Reg.VAL_RETRO_STATUS).toNat
    + 2 ^ 30 * b2n (s.val.retro.isSome && decide (2 ≤ s.get Fl.SWC_SHED_LEVEL))

/-- BLK_STATUS.EXPERT_ACTIVE: an override is in force in the block (R37). The seeds never count (R190). -/
def State.expertActive (s : State) (block : Nat) : Bool :=
  s.overrides.any fun a => a / 0x10000 == block && a != Reg.MTB_HASH_SEED0 && a != Reg.MTB_HASH_SEED1

/-- The values computed at a read, for the registers that show the host interface. -/
def State.hostWord (s : State) (f a : Nat) : Option Nat :=
  let x := s.ring f (s.ringSel f)
  if a = Reg.HST_SELF then some (s.hst.bifurcation * 4 + f)
  else if a = Reg.HST_OWNER then some s.ownerWord
  else if a = Reg.HST_FENCE then some (s.fenceWord f)
  else if a = Reg.HST_RING_CFG then some x.cfg.toNat
  else if a = Reg.HST_RING_BASE_LO then some (bitsOf 31 0 x.base.toNat)
  else if a = Reg.HST_RING_BASE_HI then some (bitsOf 63 32 x.base.toNat)
  else if a = Reg.HST_RING_WB_LO then some (bitsOf 31 0 x.wb.toNat)
  else if a = Reg.HST_RING_WB_HI then some (bitsOf 63 32 x.wb.toNat)
  else if a = Reg.HST_RING_CTRL then some (b2n x.enabled)
  else if a = Reg.HST_RING_STATUS then some x.statusWord
  else if a = Reg.HST_RING_PIDX then some x.pidx.toNat
  else if a = Reg.HST_RING_CIDX then some x.cidx.toNat
  else none

/-- The values computed at a read, for the registers of the cells, the tables and the switch core. -/
def State.engineWord (s : State) (f a : Nat) : Option Nat :=
  let plc := s.fget f Fl.PLC_CELL_SEL_CELL
  let rad := s.fget f Fl.RAD_CELL_SEL_CELL
  let node := s.fget f Fl.VAL_NODE_SEL_NODE
  let cal := s.fget f Fl.REC_CAL_SEL_CAL
  if a = Reg.PLC_CELL_STATE then some (s.plcCellWord plc)
  else if a = Reg.PLC_CELL_FC then some (if s.plan.isPlc plc then (s.mac plc).fc else 0)
  else if a = Reg.RAD_CELL_STATE then some (s.radCellWord rad)
  else if a = Reg.RAD_CELL_FC then some (if s.plan.isRad rad then (s.mac rad).fc else 0)
  else if a = Reg.RAD_CELL_LOAD then some (s.radLoadWord rad)
  else if a = Reg.REC_CAL_STATUS then some (s.calStatusWord cal)
  else if a = Reg.REC_CAL_VERSION then some (s.calVersionWord cal)
  else if a = Reg.REC_STAGING then some s.stagingWord
  else if a = Reg.VAL_NODE_STATE then some (s.nodeStateWord node).toNat
  else if a = Reg.VAL_NODE_RESID then some (s.nodeResidWord node).toNat
  else if a = Reg.VAL_RETRO_STATUS then some s.retroWord
  else if a = Reg.SWC_CLASS_ONCHIP then some (s.classOnChip (s.fget f Fl.SWC_CLASS_SEL_CLASS))
  else if a = Reg.SWC_CLASS_DRAM then some (s.classDram (s.fget f Fl.SWC_CLASS_SEL_CLASS))
  else none

/-- The values computed at a read, for the other registers. -/
def State.systemWord (s : State) (f a : Nat) : Option Nat :=
  let hub := s.fget f Fl.ARC_HUB_SEL_HUB
  let slot := s.fget f Fl.KEY_SLOT_SEL_SLOT
  if a = Reg.ARC_HUB_STATE then some (s.hubStateWord hub)
  else if a = Reg.ARC_HUB_ID_LO then some (bitsOf 31 0 (s.hubFormatId hub))
  else if a = Reg.ARC_HUB_ID_HI then some (bitsOf 63 32 (s.hubFormatId hub))
  else if a = Reg.TIM_NOW_SEC_LO then some (bitsOf 31 0 s.second)
  else if a = Reg.TIM_NOW_SEC_HI then some (bitsOf 63 32 s.second)
  else if a = Reg.TIM_NOW_NS then some (s.now % 1000000000)
  else if a = Reg.TIM_NOW_FRAC then some (s.tim.frac % 65536)
  else if a = Reg.KEY_SLOT_INFO then some (s.slotInfoWord slot)
  else if a = Reg.KEY_SLOT_KCV_LO then some (bitsOf 31 0 (s.slotKcv slot))
  else if a = Reg.KEY_SLOT_KCV_HI then some (bitsOf 63 32 (s.slotKcv slot))
  else if a = Reg.SAF_PINS then some ((s.word a).toNat % 65536 + min s.armLeft 0xFFFF * 65536)
  else if a = Reg.SAF_CFG_CRC then some s.safStagedCrc
  else if Reg.SAF_LANE_STATE 0 ≤ a ∧ a < Reg.SAF_LANE_STATE 320 then some (s.laneStateWord ((a - Reg.SAF_LANE_STATE 0) / 4))
  else if a = Reg.TMP_LOG_REC_LO then some (bitsOf 31 0 (s.tamperWord (s.fget f Fl.TMP_LOG_SEL_SEQ)))
  else if a = Reg.TMP_LOG_REC_HI then some (bitsOf 63 32 (s.tamperWord (s.fget f Fl.TMP_LOG_SEL_SEQ)))
  else if Reg.OTP_SURVEY_DATA 0 ≤ a ∧ a < Reg.OTP_SURVEY_DATA 16 then
    some (leAt (s.surveyAt (s.fget f Fl.OTP_SURVEY_SEL_RECORD)) (a - Reg.OTP_SURVEY_DATA 0) 4)
  else none

/-- The values computed at a read, for the event recorder. -/
def State.recorderWord (s : State) (f a : Nat) : Option Nat :=
  if a = Reg.EVT_HEAD_LO then some (bitsOf 31 0 s.evtHead)
  else if a = Reg.EVT_HEAD_HI then some (bitsOf 47 32 s.evtHead)
  else if a = Reg.EVT_TAIL_LO then some (bitsOf 31 0 s.evtTail)
  else if a = Reg.EVT_TAIL_HI then some (bitsOf 47 32 s.evtTail)
  else if a = Reg.EVT_CHIP_TAIL_LO then some (bitsOf 31 0 s.evtChipTail)
  else if a = Reg.EVT_CHIP_TAIL_HI then some (bitsOf 47 32 s.evtChipTail)
  else if a = Reg.EVT_STATUS then some s.evtStatusWord
  else if a = Reg.EVT_WIN_STATUS then some (s.winStatusWord f)
  else if Reg.EVT_WIN 0 ≤ a ∧ a < Reg.EVT_WIN 32 then some (s.winWord f ((a - Reg.EVT_WIN 0) / 4))
  else none

/-- BLK_STATUS at offset 0008h of a block with the common header. -/
def State.statusWord (s : State) (a : Nat) : Option Nat :=
  let block := a / 0x10000
  if a % 0x10000 = 8 ∧ block ≠ 0 ∧ block ≠ 19 ∧ block < 22 then
    some ((s.word a).toNat % 8 + 8 * b2n (s.expertActive block))
  else none

/-- The live value that a read by function `f` at BAR0 offset `a` shows; undefined offsets read 0 (R35). -/
def State.liveWord (s : State) (f a : Nat) : Word :=
  match regRow a with
  | none => 0#32
  | some r =>
    let computed := match a / 0x10000 with
      | 11 => s.hostWord f a
      | 19 => s.recorderWord f a
      | 4 | 5 | 7 | 8 | 9 => s.engineWord f a
      | _ => s.systemWord f a
    match (s.statusWord a).orElse fun _ => computed with
    | some v => BitVec.ofNat 32 v
    | none => if r.perFunc then s.fword f a else s.word a

end Sys2Proof.Machine
end

