-- ==== Sys2Proof/Machine/RegOps.lean ====
section
/-!
DEFINITION. Machine/RegOps.lean: accesses of a host function to BAR0: the judgement of a write (R14, R18, R354), what takes effect at
once and what at the next course boundary (R39), presets and overrides (R37, R38), disabling and aborting blocks (R42 to R46),
64-bit quantities (R16, R17), reads that clear (R15), accesses that hang (R19, R543), and the mirrored writes (R41, R458).
-/

namespace Sys2Proof.Machine

/-! ### Fields of a register -/

/-- The field keeps what is written to it. -/
def FieldRow.held (x : FieldRow) : Bool := x.acc == .rw || x.acc == .rwo || x.acc == .rws

/-- The field's part of a word. -/
def FieldRow.of (x : FieldRow) (v : Word) : Nat := bitsOf x.hi x.lo v.toNat

/-- The register holds an RWO or RWS field, so only the owner writes it (R14). -/
def RegRow.owned (r : RegRow) : Bool := r.fields.any fun x => x.acc == .rwo || x.acc == .rws

/-- The register holds an RWS field. -/
def RegRow.sealedFields (r : RegRow) : Bool := r.fields.any fun x => x.acc == .rws

/-- The word with the chosen fields that keep a written value replaced. -/
def RegRow.merge (r : RegRow) (p : FieldRow → Bool) (old v : Word) : Word :=
  BitVec.ofNat 32 (r.fields.foldl (fun n x => if p x && x.held then putBits x.hi x.lo n (x.of v) else n) old.toNat)

/-- The word with W1C bits cleared where a 1 is written; a 1 in MTB_STASH.PEAK clears the whole field. -/
def RegRow.cleared (r : RegRow) (a : Nat) (old v : Word) : Word :=
  BitVec.ofNat 32 (r.fields.foldl (fun n x =>
    if x.acc == .w1c then
      let keep := if a = Reg.MTB_STASH ∧ x.of v ≠ 0 then 0 else x.of (old &&& ~~~v)
      putBits x.hi x.lo n keep
    else n) old.toNat)

/-! ### Blocks (R38, R42 to R46) -/

/-- The blocks of Table 1.9. -/
def disablable (b : Nat) : Bool := b == 4 || b == 5 || b == 6 || b == 7 || b == 8 || b == 10 || b == 16

/-- The block has the common header (R36). -/
def hasHeader (b : Nat) : Bool := b != 0 && b != 19 && decide (b < 22)

/-- The greatest PROFILE code that a block defines (R86, R115, R153, R186, R215, R250, R275, R298, R334, R362, R387). -/
def profileMost (b : Nat) : Nat :=
  if b = 4 ∨ b = 5 then 2 else if b = 3 ∨ b = 6 ∨ b = 7 ∨ b = 8 ∨ b = 9 ∨ b = 10 ∨ b = 12 then 1 else 0

/-- The first event source of a disablable block: its idle event. -/
def idleEvent (b : Nat) : Nat :=
  if b = 4 then 136 else if b = 5 then 184 else if b = 6 then 224 else if b = 7 then 248 else if b = 8 then 296
  else if b = 10 then 368 else 544

/-- The block has no in-flight item (Table 1.9, R148, R183, R210, R249, R271, R333). A conversion of MET ends within the course. -/
def State.quiet (s : State) (b : Nat) : Bool :=
  if b = 4 then s.cellsIdle false else if b = 5 then s.cellsIdle true
  else if b = 6 then !s.flag Fl.MTB_COMB_STATUS_RUNNING && !s.flag Fl.MTB_SCRUB_STATUS_RUNNING && s.mtb.mismatches.isEmpty
  else if b = 7 then s.bill.current.isNone
  else if b = 8 then s.val.running.isNone && s.val.retro.isNone
  else if b = 10 then s.arc.scans.isEmpty
  else true

/-- IDLE is set, ABORTING cleared, and the block's idle event raised. -/
def State.setIdle (s : State) (b : Nat) : State :=
  ((s.putFlag (Fl.STATUS_IDLE b) true).putFlag (Fl.STATUS_ABORTING b) false).raise (idleEvent b)

/-- A disabled block that has not yet set IDLE. -/
def State.draining (s : State) (b : Nat) : Bool :=
  disablable b && !s.flag (Fl.CTRL_ENABLE b) && !s.enabled b && !s.flag (Fl.STATUS_IDLE b)

/-- BLOCK_DRAIN_DONE: IDLE once the last in-flight item has ended (R43). -/
def blockDrainDoneEffect (block : Fin 22) (s : State) : State :=
  if s.draining block.val && s.quiet block.val then s.setIdle block.val else s

/-- The effective enable changes at a boundary (R43, R45); MET settles when it is enabled again (R481). -/
def State.setEnabled (s : State) (b : Nat) (on : Bool) : State :=
  let was := s.enabled b
  let s := s.putFlag (Fl.STATUS_ENABLED b) on
  if !on then s
  else
    let s := s.putFlag (Fl.STATUS_IDLE b) false
    if b = 16 ∧ was = false then s.metSettle 12 else s

/-- MTB ends the current passes at their positions; the next ones start at slot 0 (R210). -/
def State.mtbAbort (s : State) : State :=
  let s := (s.putFlag Fl.MTB_COMB_STATUS_RUNNING false).putFlag Fl.MTB_COMB_STATUS_PAUSED false
  let s := (s.putFlag Fl.MTB_SCRUB_STATUS_RUNNING false).putFlag Fl.MTB_SCRUB_STATUS_PAUSED false
  { s with mtb := { s.mtb with combOwed := false, mismatches := [] } }

/-- A block that has stopped intake and has not yet set IDLE. -/
def State.stopped (s : State) (b : Nat) : Bool := disablable b && !s.enabled b && !s.flag (Fl.STATUS_IDLE b)

/-- An accepted ABORT discards the block's in-flight items and completes its outstanding commands at the boundary, whatever a later
write of the course has set ENABLE to (R39, R44). -/
def State.abortBlock (s : State) (b : Nat) : State :=
  if !s.stopped b then s.putFlag (Fl.STATUS_ABORTING b) false else
  let cells := fun (rad : Bool) =>
    (s.cel.macs.map (·.1)).foldl (fun s c => if s.plan.isRad c == rad then s.abortCell c else s) s
  let s := match b with
    | 4 => cells false
    | 5 => cells true
    | 6 => s.mtbAbort
    | 7 => s.recordAbort
    | 8 => s.abandonEvaluation.retroAbort
    | 10 => s.abortScans
    | _ => s.metMissing s.second
  s.setIdle b

/-- Every expert field of a register at its value in the standard preset (R38). -/
def State.presetWord (s : State) (a : Nat) : State :=
  match regRow a with
  | none => s
  | some r => s.setWord a (BitVec.ofNat 32 (r.fields.foldl (fun n x =>
      if x.expert then putBits x.hi x.lo n (fieldReset a x) else n) (s.word a).toNat))

/-- The seeds are parameters of no preset (R190). -/
def isSeed (a : Nat) : Bool := a == Reg.MTB_HASH_SEED0 || a == Reg.MTB_HASH_SEED1

/-- A preset is loaded: the block's overrides are cleared and its expert fields take the preset's values (R38). Presets that differ
from the standard one: EAV 01h (R115), MTB 01h (R215), ARC 01h (R334). -/
def State.loadProfile (s : State) (b code : Nat) : State :=
  let s := s.regs.foldl (fun s p => if p.1 / 0x10000 == b && !isSeed p.1 then s.presetWord p.1 else s) s
  let s := { s with
    overrides := s.overrides.filter fun a => a / 0x10000 != b
    arc := { s.arc with settingsDirty := true } }
  let s := s.put (Fl.PROFILE_PROFILE b) code
  match b with
  | 3 => if code = 1 then s.put Fl.EAV_RANGE_CFG_INTERVAL 0 else s
  | 6 => s.putFlag Fl.MTB_AGE_CFG_AGE_EN (code == 0)
  | 9 => s.swcSync
  | 10 => if code = 1 then s.put Fl.ARC_SCAN_CFG_SHARE 25 else s
  | _ => s

/-! ### The judgement of a write (R14, R18, R354) -/

/-- The write would place a reserved encoding in a field. Expert fields are not written while EN reads 0. In REC_DELIVERY the
last tile ring, FIRST_RING + RINGS − 1, is at most 255 (R250); a value beyond it is refused with the fields out of their range. -/
def RegRow.reservedIn (r : RegRow) (a : Nat) (v : Word) (en : Bool) : Bool :=
  r.fields.any (fun x => x.held && (!x.expert || en) && (decide (x.of v < x.least) || decide (x.most < x.of v)))
    || (a % 0x10000 == 4 && hasHeader (a / 0x10000) && decide (profileMost (a / 0x10000) < v.toNat % 256))
    || (a == Reg.REC_DELIVERY && decide (255 < v.toNat % 256 + bitsOf 14 8 v.toNat - 1))

/-- The state of the block, of the unit or of the ring forbids the write. -/
def State.writeBlocked (s : State) (f a : Nat) (v : Word) (owned : Bool) : Bool :=
  let on := bitOf 0 v.toNat
  let b := a / 0x10000
  let entries := s.get Fl.MTB_OCCUPANCY_ENTRIES != 0
  if owned && s.standbyOrHold then true
  else if hasHeader b && a % 0x10000 == 0 then
    if !disablable b then !on || bitOf 1 v.toNat
    else (on && bitOf 1 v.toNat)
      || (on && !s.flag (Fl.CTRL_ENABLE b) && !s.enabled b && !s.flag (Fl.STATUS_IDLE b))
  else if a = Reg.CRS_STAGE_SEAL then !on && s.flag Fl.CRS_PLAN_STATUS_COMMIT_PENDING
  else if isSeed a then entries
  else if a = Reg.REC_BILL_CFG then entries && v.toNat % 4 != s.get Fl.REC_BILL_CFG_RES
  else if Reg.HST_RING_CFG ≤ a ∧ a ≤ Reg.HST_RING_WB_HI then !(s.ring f (s.ringSel f)).idle
  else false

/-- The reason for which a write is ignored in full, if any: the first that applies (R354). -/
def State.writeRefusal (s : State) (f a : Nat) (v : Word) (r : RegRow) : Option WswReason :=
  if r.owned && !s.isOwner f then some .notOwner
  else if r.sealedFields && !s.flag Fl.SAF_PINS_SEAL_OPEN then some .sealClosed
  else if r.reservedIn a v (s.flag Fl.GLB_EXPERT_EN_EN) then some .reservedCode
  else if s.writeBlocked f a v r.owned then some .blockState
  else none

/-- A write accepted while EN reads 0 is recorded when it carries another value in an expert field (R18). -/
def State.carriesExpert (s : State) (a : Nat) (v : Word) (r : RegRow) : Bool :=
  !s.flag Fl.GLB_EXPERT_EN_EN && r.fields.any fun x => x.expert && x.of v != x.of (s.word a)

/-! ### Writes in effect -/

/-- A seed write takes effect, or is discarded and recorded when the table holds an entry again (R190). -/
def State.takeSeed (s : State) (f a : Nat) (v : Word) : State :=
  if s.get Fl.MTB_OCCUPANCY_ENTRIES ≠ 0 then (if s.rdg.applying then s else s.capture f a .blockState) else s.setWord a v

/-- What follows from a change of a register (R76, R211, R489, R491, R561). -/
def State.afterWrite (s old : State) (f a : Nat) : State :=
  if a = Reg.CRS_STAGE_SEAL then s.putFlag Fl.CRS_PLAN_STATUS_SEALED (s.flag Fl.CRS_STAGE_SEAL_SEAL)
  else if a = Reg.MTB_SHADOW_HI then
    let s := { s with mtb := { s.mtb with shadowFunc := f } }
    if s.rdg.applying then s else s.shadowCheck
  else if s.word a = old.word a then s
  else if a = Reg.REC_BILL_CFG then s.soffitPowered 9 (s.get Fl.REC_BILL_CFG_RES)
  else if a = Reg.TMP_CFG then s.soffitPowered 10 (s.get Fl.TMP_CFG_EN + 16 * s.get Fl.TMP_CFG_POL)
  else if Reg.LANE_ELEC_CFG 0 ≤ a ∧ a < Reg.LANE_ELEC_CFG 40 then (s.retrain ((a - Reg.LANE_ELEC_CFG 0) / 4)).hubPresence
  else s

/-- A write of RWO and RWS fields takes effect: the basic fields, the expert fields, or both. An expert field that is written is
overridden (R37). SWC_QLIMIT[0] and SWC_QLIMIT[1] ignore writes. -/
def State.takeWrite (s : State) (f a : Nat) (v : Word) (basic expert : Bool) : State :=
  match regRow a with
  | none => s
  | some r =>
    if isSeed a then (if expert then s.takeSeed f a v else s)
    else if a = Reg.SWC_QLIMIT 0 ∨ a = Reg.SWC_QLIMIT 1 then s
    else
      let old := s
      let s := s.setWord a (r.merge (fun x => if x.expert then expert else basic) (s.word a) v)
      let beyond := expert && r.fields.any (·.expert) && !s.overrides.contains a
      let s := { s with
        overrides := if beyond then a :: s.overrides else s.overrides
        arc := { s.arc with settingsDirty := true } }
      s.afterWrite old f a

/-- GLB_EXPERT_EN.EN takes a value (R39, R41). -/
def State.setExpert (s : State) (on : Bool) (f : Nat) : State :=
  if s.flag Fl.GLB_EXPERT_EN_EN = on then s
  else
    let s := s.putFlag Fl.GLB_EXPERT_EN_EN on
    if on then s.raise 3 (le 1 f) else s.raise 4 (le 1 1)

/-- A write of the log of a course takes effect at the boundary that ends the course (R41, R458). On the standby unit it is applied
whatever that unit's own EN and seal read. -/
def State.loggedWrite (s : State) (f a : Nat) (v : Word) (expert : Bool) : State :=
  let b := a / 0x10000
  let on := bitOf 0 v.toNat
  let sealedReg := match regRow a with | some r => r.sealedFields | none => false
  let s := if s.rdg.applying && sealedReg && !s.flag Fl.SAF_PINS_SEAL_OPEN then s.raise 535 else s
  if hasHeader b && a % 0x10000 == 0 then
    let s := if s.rdg.applying then s.putFlag (Fl.CTRL_ENABLE b) on else s
    let s := if disablable b then s.setEnabled b on else s
    if bitOf 1 v.toNat then s.abortBlock b else s
  else if hasHeader b && a % 0x10000 == 4 then s.loadProfile b (v.toNat % 256)
  else if a = Reg.GLB_EXPERT_EN then (if s.rdg.applying then s.setExpert on f else s)
  else if a = Reg.SAF_OTP then (if on then s.safProgram else s)
  else if a = Reg.OTP_FW_CTRL then s.fwCtrl v
  else if a = Reg.RDG_HOLD_CTRL then
    if s.rdg.applying then { s with rdg := { s.rdg with switchover := some (s.course + 1) } } else s
  else s.takeWrite f a v true expert

/-- A write that waited for the boundary of a unit in ALONE takes effect (R39). -/
def State.pendedWrite (s : State) (w : CfgWrite) : State :=
  match w with
  | .enable b on => s.setEnabled b on
  | .abort b => s.abortBlock b
  | .profile b code => s.loadProfile b code
  | .fields f a v expert => s.takeWrite f a v (!expert) expert

/-- The writes that waited, in the order in which they completed. -/
def State.boundaryWrites (s : State) : State := s.cfgPend.foldl State.pendedWrite { s with cfgPend := [] }

/-- IDLE of the blocks that have stopped intake with nothing in flight (R43). The conversion of MET that runs when intake stops is
still in flight. -/
def State.idleBlocks (s : State) (wasMet : Bool) : State :=
  [4, 5, 6, 7, 8, 10, 16].foldl (fun s b =>
    if s.draining b && s.quiet b && !(b == 16 && wasMet) then s.setIdle b else s) s

/-! ### Accepted writes -/

/-- Writes of the register block of the ridge are never mirrored; other accepted RWO and RWS writes of an ACTIVE unit are (R458). -/
def State.mirrors (s : State) (a : Nat) : Bool := s.get Fl.RDG_STATE_STATE == 1 && a / 0x10000 != 15

/-- The write enters the input log. -/
def State.logWrite (s : State) (f a : Nat) (v : Word) (expert : Bool) : State :=
  s.logItem (.regWrite f a v expert)

/-- Writes wait for the boundary. -/
def State.deferWrites (s : State) (l : List CfgWrite) : State := { s with cfgPend := s.cfgPend ++ l }

/-- An accepted write of BLK_CTRL (R42 to R45): ENABLE shows it at once, and the block follows at the boundary. A write of ENABLE = 1
to a block that cannot be disabled changes nothing and is mirrored like the others (R41). -/
def State.writeCtrl (s : State) (f b : Nat) (v : Word) : State :=
  if !disablable b then (if s.mirrors (b * 0x10000) then s.logWrite f (b * 0x10000) 1#32 false else s) else
  let on := bitOf 0 v.toNat
  let idle := s.flag (Fl.STATUS_IDLE b)
  let ab := bitOf 1 v.toNat && !idle
  let s := s.putFlag (Fl.CTRL_ENABLE b) on
  let s := if on && idle then s.putFlag (Fl.STATUS_IDLE b) false else s
  let s := if ab then s.putFlag (Fl.STATUS_ABORTING b) true else s
  if s.mirrors (b * 0x10000) then s.logWrite f (b * 0x10000) (BitVec.ofNat 32 (b2n on + 2 * b2n ab)) false
  else s.deferWrites ([.enable b on] ++ if ab then [.abort b] else [])

/-- The fields of the register take effect at the boundary although they are basic (R561). -/
def boundaryBasic (a : Nat) : Bool := decide (Reg.LANE_ELEC_CFG 0 ≤ a) && decide (a < Reg.LANE_ELEC_CFG 40)

/-- An accepted write of a register with RWO or RWS fields. -/
def State.ownedWrite (s : State) (f a : Nat) (v : Word) (r : RegRow) : State :=
  let b := a / 0x10000
  let en := s.flag Fl.GLB_EXPERT_EN_EN
  if hasHeader b && a % 0x10000 == 0 then s.writeCtrl f b v
  else if hasHeader b && a % 0x10000 == 4 then
    if s.mirrors a then s.logWrite f a v false else s.deferWrites [.profile b (v.toNat % 256)]
  else if a = Reg.GLB_EXPERT_EN then
    let s := s.setExpert (bitOf 0 v.toNat) f
    if s.mirrors a then s.logWrite f a v false else s
  else if s.mirrors a then s.logWrite f a v en
  else
    let s := if boundaryBasic a then s.deferWrites [.fields f a v false] else s.takeWrite f a v true false
    if en && r.fields.any (·.expert) then s.deferWrites [.fields f a v true] else s

/-- The _LO register of a writable 64-bit quantity that a register belongs to (R17). -/
def pairLo (a : Nat) : Option Nat :=
  if a = Reg.HST_RING_BASE_LO ∨ a = Reg.HST_RING_BASE_HI then some Reg.HST_RING_BASE_LO
  else if a = Reg.HST_RING_WB_LO ∨ a = Reg.HST_RING_WB_HI then some Reg.HST_RING_WB_LO
  else if a = Reg.EVT_CURSOR_LO ∨ a = Reg.EVT_CURSOR_HI then some Reg.EVT_CURSOR_LO
  else if a = Reg.MTB_SHADOW_LO ∨ a = Reg.MTB_SHADOW_HI then some Reg.MTB_SHADOW_LO
  else none

/-- An ignored write to either half of a quantity discards the held value of its function (R17). -/
def State.dropPair (s : State) (f a : Nat) : State :=
  if (pairLo a).isSome then { s with held := FMap.erase s.held f } else s

/-- An accepted _LO write replaces the held value of its function (R17). -/
def State.holdLo (s : State) (f : Nat) (v : Word) : State :=
  { s with held := FMap.place (FMap.erase s.held f) f v }

/-- The bits of a register that its fields cover. -/
def RegRow.mask (r : RegRow) (v : Word) : Word := r.merge (fun _ => true) 0#32 v

/-- The bits of a held value that the _LO register at `a` has. -/
def lowMask (a : Nat) (v : Word) : Word := match regRow a with | some r => r.mask v | none => v

/-- An accepted write of a ring's set-up registers (R338, R339). -/
def State.ringWrite (s : State) (f a : Nat) (v : Word) (r : RegRow) : State :=
  let k := s.ringSel f
  let x := s.ring f k
  let join := fun (lo hi : Word) => BitVec.ofNat 64 (lo.toNat + 2 ^ 32 * hi.toNat)
  if a = Reg.HST_RING_CFG then s.setRing f k { x with cfg := r.mask v }
  else if a = Reg.HST_RING_BASE_HI then
    let (lo, s) := s.takeHeld f (BitVec.ofNat 32 x.base.toNat)
    s.setRing f k { x with base := join (lowMask Reg.HST_RING_BASE_LO lo) v }
  else
    let (lo, s) := s.takeHeld f (BitVec.ofNat 32 x.wb.toNat)
    s.setRing f k { x with wb := join (lowMask Reg.HST_RING_WB_LO lo) v }

/-- An accepted write of MTB_SHADOW_HI applies both halves in one step (R17, R211). -/
def State.shadowWrite (s : State) (f : Nat) (v : Word) : State :=
  let (lo, s) := s.takeHeld f (s.word Reg.MTB_SHADOW_LO)
  if s.mirrors Reg.MTB_SHADOW_LO then (s.logWrite f Reg.MTB_SHADOW_LO lo false).logWrite f Reg.MTB_SHADOW_HI v false
  else (s.takeWrite f Reg.MTB_SHADOW_LO lo true false).takeWrite f Reg.MTB_SHADOW_HI v true false

/-- The effect of a write that is accepted. -/
def State.acceptWord (s : State) (f a : Nat) (v : Word) (r : RegRow) : State :=
  let s := s.setWord a (if r.perFunc then s.word a else r.cleared a (s.word a) v)
  if pairLo a = some a then s.holdLo f (r.mask v)
  else if a = Reg.MTB_SHADOW_HI then s.shadowWrite f v
  else if Reg.HST_RING_CFG ≤ a ∧ a ≤ Reg.HST_RING_WB_HI then s.ringWrite f a v r
  else if r.owned then s.ownedWrite f a v r
  else if r.perFunc then s.setFword f a (r.merge (fun _ => true) (s.fword f a) v)
  else s

/-- A write that no register treats specially: judged as a whole, recorded or taken (R14, R18). -/
def State.judgedWrite (s : State) (f a : Nat) (v : Word) (r : RegRow) : State :=
  match s.writeRefusal f a v r with
  | some reason => (s.dropPair f a).capture f a reason
  | none =>
    let s := if s.carriesExpert a v r then s.capture f a .noExpert else s
    s.acceptWord f a v r

/-- RDG_HOLD_CTRL: SWITCHOVER, REJOIN, or both (R446, R465). -/
def State.holdCtrlWrite (s : State) (f : Fin 4) (v : Word) (r : RegRow) : State :=
  match v.toNat % 4 with
  | 1 => rejoinEffect f s
  | 2 => switchoverEffect f s
  | 3 => s.capture f.val Reg.RDG_HOLD_CTRL (if s.isOwner f.val then .blockState else .notOwner)
  | _ => match s.writeRefusal f.val Reg.RDG_HOLD_CTRL v r with
    | some reason => s.capture f.val Reg.RDG_HOLD_CTRL reason
    | none => s

/-- A 32-bit aligned write of function `f` reaches its register. Writes to undefined offsets are ignored (R35). -/
def State.writeWord (s : State) (f : Fin 4) (a : Nat) (v : Word) : State :=
  let n := v.toNat
  match regRow a with
  | none => s
  | some r =>
    if a = Reg.HST_FENCE then (if bitOf 3 n then unfenceEffect f s else s)
    else if a = Reg.HST_FENCE_CMD then fenceOwnerCmdEffect f (BitVec.ofNat 4 n) s
    else if a = Reg.HST_WSW_STATUS then (if bitOf 31 n then wswStickyClearEffect f s else s)
    else if a = Reg.HST_RING_CTRL then
      if bitOf 1 n then ringAbortEffect f (bitOf 0 n) s else if bitOf 0 n then ringEnableEffect f s else ringDisableEffect f s
    else if a = Reg.EVT_CURSOR_HI then evtCursorWriteEffect f v s
    else if a = Reg.RDG_HOLD_CTRL then s.holdCtrlWrite f v r
    else if a = Reg.SAF_OTP ∧ bitOf 0 n = true then safeOtpProgramEffect f s
    else if a = Reg.OTP_FW_CTRL then s.fwCtrlWrite f.val (bitsOf 5 4 n) (n % 2)
    else s.judgedWrite f.val a v r

/-! ### Reads -/

/-- The _HI registers that a read of a _LO register latches for the reader (R16). -/
def latchedBy (a : Nat) : List Nat :=
  if a = Reg.TIM_NOW_SEC_LO then [Reg.TIM_NOW_SEC_HI, Reg.TIM_NOW_NS, Reg.TIM_NOW_FRAC]
  else if [Reg.CRS_COURSE_LO, Reg.CRS_PLAN_ID_LO, Reg.CRS_COMMIT_TARGET_LO, Reg.MTB_SHADOW_LO, Reg.VAL_EVAL_LO, Reg.ARC_HUB_ID_LO,
      Reg.HST_RING_BASE_LO, Reg.HST_RING_WB_LO, Reg.TIM_STEP_PEND_LO, Reg.KEY_SLOT_KCV_LO, Reg.RDG_PARTNER_LO,
      Reg.RDG_MISMATCH_COURSE_LO, Reg.MET_SEC_LO, Reg.TMP_LOG_REC_LO, Reg.EVT_HEAD_LO, Reg.EVT_TAIL_LO, Reg.EVT_CHIP_TAIL_LO,
      Reg.EVT_CURSOR_LO].contains a then [a + 4]
  else if Reg.KEY_VKEY_ID_LO 0 ≤ a ∧ a < Reg.KEY_VKEY_ID_LO 8 ∧ (a - Reg.KEY_VKEY_ID_LO 0) % 8 = 0 then [a + 4]
  else []

/-- Latches the live value of a register for a function. -/
def State.latchWord (s : State) (f a : Nat) : State :=
  { s with latch := FMap.place (FMap.erase s.latch (funcKey f a)) (funcKey f a) (s.liveWord f a) }

/-- The value that a read returns: the latched one where the function has latched it. -/
def State.shownWord (s : State) (f a : Nat) : Word :=
  match s.latch.find? fun p => p.1 == funcKey f a with
  | some p => p.2
  | none => s.liveWord f a

/-- What a read does besides returning a value: latches, and RC fields that clear (R13, R15). A cleared field is again at its reset
value, which is 0 but in HLT_VOLT.MIN; the register's other fields stay. -/
def State.afterRead (s : State) (f a : Nat) : State :=
  let s := (latchedBy a).foldl (fun s x => s.latchWord f x) s
  match regRow a with
  | none => s
  | some r =>
    if r.fields.any (fun x => x.acc == .rc) then
      s.setWord a (BitVec.ofNat 32 (r.fields.foldl (fun n x => if x.acc == .rc then putBits x.hi x.lo n x.rst else n) (s.word a).toNat))
    else s

/-- A read of a register that takes noise or random output (R411). -/
def State.readRandom (s : State) (f a : Nat) : State :=
  let mfg := s.get Fl.OTP_LIFECYCLE_CODE == 1
  if a = Reg.KEY_RNG_DATA then
    if mfg && s.get Fl.KEY_ENGINE_STATE_RNG == 1 && !s.key.reseedWaiting then
      let (bs, s) := s.drbg 4
      s.emit (.readData f a (BitVec.ofNat 32 (leAt bs 0 4)))
    else s.emit (.readData f a 0#32)
  else
    let v := if mfg then (s.key.noise.headD 0#8).toNat else 0
    let s := if mfg then { s with key := { s.key with noise := s.key.noise.tail } } else s
    s.emit (.readData f a (BitVec.ofNat 32 v))

/-- A 32-bit aligned read of function `f`. -/
def State.readWord (s : State) (f : Fin 4) (a : Nat) : State :=
  if a = Reg.KEY_RNG_DATA ∨ a = Reg.KEY_NOISE_RAW then s.readRandom f.val a
  else if Reg.EVT_WIN 0 ≤ a ∧ a < Reg.EVT_WIN 32 ∧ (a - Reg.EVT_WIN 0) % 32 = 0 then
    evtWindowLatchEffect f (Fin.ofNat 4 ((a - Reg.EVT_WIN 0) / 32)) s
  else (s.emit (.readData f.val a (s.shownWord f.val a))).afterRead f.val a

/-! ### Accesses (R11, R19, R35, R543) -/

/-- An access to the offset hangs: its block's clock is stopped. EVT and HLT registers and undefined offsets never hang. -/
def State.hangs (s : State) (a : Nat) : Bool :=
  (regRow a).isSome && a / 0x10000 != 19 && a / 0x10000 != 20 && !s.clockAlive (a / 0x10000)

/-- An access takes place. While the WG20 is in reset a read completes with an error and a write is discarded (R542); in life-cycle
state DECOMMISSIONED there are only reads (Table 1.10). -/
def State.access (s : State) (f : Fin 4) (a : Nat) (w : Option Word) : State :=
  match w with
  | none => if s.otp.inReset then s.emit (.readAbort f.val a) else s.readWord f a
  | some v => if s.otp.inReset || s.decommissioned then s else s.writeWord f a v

/-- A host function accesses BAR0. An access of a size other than 32 bits, or not aligned, reads 0 or is ignored (R11). An access that
hangs holds every later one of its function (R543). -/
def State.busAccess (s : State) (f : Fin 4) (a bytes : Nat) (w : Option Word) : State :=
  if !s.present f.val then s
  else if bytes ≠ 4 ∨ a % 4 ≠ 0 then (if w.isNone then s.emit (.readData f.val a 0#32) else s)
  else if (s.hung.any fun h => h.func == f.val) || (s.hangs a && !s.otp.inReset) then
    { s with hung := s.hung ++ [⟨f.val, a, w⟩] }
  else s.access f a w

/-- Completes a function's held accesses in order while the clocks that they need run. -/
def State.resumeAccesses : Nat → Fin 4 → State → State
  | 0, _, s => s
  | k + 1, f, s =>
    match s.hung.find? fun h => h.func == f.val with
    | none => s
    | some h =>
      if s.hangs h.addr then s
      else State.resumeAccesses k f (({ s with hung := s.hung.erase h }).access f h.addr h.write)

/-- STOPPED_ACCESS_RESUME (R543). -/
def stoppedAccessResumeEffect (func : Fin 4) (s : State) : State := State.resumeAccesses s.hung.length func s

/-- A 32-bit write of a function to BAR0. -/
def State.hostWrite (s : State) (f : Fin 4) (a : Nat) (v : Word) : State := s.busAccess f a 4 (some v)

/-! ### Answers -/

def execRegisterWrite (func : Fin 4) (offset : BitVec 22) (bytes : Fin 17) (value : Word) (s : State) : Answer :=
  .next (s.busAccess func offset.toNat bytes.val (some value))
def execLoReadLatch (func : Fin 4) (offset : BitVec 22) (s : State) : Answer := .next (s.busAccess func offset.toNat 4 none)
def execLoWriteHold (func : Fin 4) (offset : BitVec 22) (value : Word) (s : State) : Answer :=
  .next (s.hostWrite func offset.toNat value)
def execHiWriteApply (func : Fin 4) (offset : BitVec 22) (value : Word) (s : State) : Answer :=
  .next (s.hostWrite func offset.toNat value)
def execCounterReadClear (func : Fin 4) (offset : BitVec 22) (bytes : Fin 17) (s : State) : Answer :=
  .next (s.busAccess func offset.toNat bytes.val none)
def execStoppedAccessResume (func : Fin 4) (s : State) : Answer := .next (stoppedAccessResumeEffect func s)
def execBlockDisable (func : Fin 4) (block : Fin 22) (s : State) : Answer := .next (s.hostWrite func (block.val * 0x10000) 0#32)
def execBlockEnable (func : Fin 4) (block : Fin 22) (s : State) : Answer := .next (s.hostWrite func (block.val * 0x10000) 1#32)
def execBlockAbort (func : Fin 4) (block : Fin 22) (enable : Bool) (s : State) : Answer :=
  .next (s.hostWrite func (block.val * 0x10000) (BitVec.ofNat 32 (2 + b2n enable)))
def execBlockDrainDone (block : Fin 22) (s : State) : Answer := .next (blockDrainDoneEffect block s)
def execProfileWrite (func : Fin 4) (block : Fin 22) (code : Byte) (s : State) : Answer :=
  .next (s.hostWrite func (block.val * 0x10000 + 4) (BitVec.ofNat 32 code.toNat))
def execExpertEnableWrite (func : Fin 4) (on : Bool) (s : State) : Answer :=
  .next (s.hostWrite func Reg.GLB_EXPERT_EN (BitVec.ofNat 32 (b2n on)))
def execStageSealWrite (func : Fin 4) (sealed : Bool) (s : State) : Answer :=
  .next (s.hostWrite func Reg.CRS_STAGE_SEAL (BitVec.ofNat 32 (b2n sealed)))
def execHashSeedWrite (func : Fin 4) (second : Bool) (seed : Word) (s : State) : Answer :=
  .next (s.hostWrite func (if second then Reg.MTB_HASH_SEED1 else Reg.MTB_HASH_SEED0) seed)
/-- SHADOW_ENABLE: the _LO write, with EN, and then the _HI write (R17, R211). -/
def execShadowEnable (func : Fin 4) (low high : Word) (s : State) : Answer :=
  .next ((s.hostWrite func Reg.MTB_SHADOW_LO low).hostWrite func Reg.MTB_SHADOW_HI high)
def execBillResWrite (func : Fin 4) (res : Fin 4) (s : State) : Answer :=
  .next (s.hostWrite func Reg.REC_BILL_CFG (BitVec.ofNat 32 res.val))
def execTamperCfgWrite (func : Fin 4) (pol en : BitVec 4) (s : State) : Answer :=
  .next (s.hostWrite func Reg.TMP_CFG (BitVec.ofNat 32 (16 * pol.toNat + en.toNat)))
/-- RING_ENABLE, RING_DISABLE and RING_ABORT are writes of HST_RING_CTRL (R355, R356). -/
def execRingEnable (func : Fin 4) (s : State) : Answer := .next (s.hostWrite func Reg.HST_RING_CTRL 1#32)
def execRingDisable (func : Fin 4) (s : State) : Answer := .next (s.hostWrite func Reg.HST_RING_CTRL 0#32)
def execRingAbort (func : Fin 4) (enable : Bool) (s : State) : Answer :=
  .next (s.hostWrite func Reg.HST_RING_CTRL (BitVec.ofNat 32 (2 + b2n enable)))
def execFenceOwnerCmd (func : Fin 4) (mask : BitVec 4) (s : State) : Answer :=
  .next (s.hostWrite func Reg.HST_FENCE_CMD (BitVec.ofNat 32 mask.toNat))
def execUnfence (func : Fin 4) (s : State) : Answer := .next (s.hostWrite func Reg.HST_FENCE 8#32)
def execWswStickyClear (func : Fin 4) (s : State) : Answer := .next (s.hostWrite func Reg.HST_WSW_STATUS 0x80000000#32)
def execSafeOtpProgram (func : Fin 4) (s : State) : Answer := .next (s.hostWrite func Reg.SAF_OTP 1#32)
/-- RDG_HOLD_CTRL: SWITCHOVER is bit 1, REJOIN bit 0 (R446, R465). -/
def execSwitchover (func : Fin 4) (s : State) : Answer := .next (s.hostWrite func Reg.RDG_HOLD_CTRL 2#32)
def execRejoin (func : Fin 4) (s : State) : Answer := .next (s.hostWrite func Reg.RDG_HOLD_CTRL 1#32)
/-- OTP_FW_CTRL: NEXT in bits [5:4], RESET in bit 0 (R501, R506). -/
def execFwReset (func next : Fin 4) (s : State) : Answer :=
  .next (s.hostWrite func Reg.OTP_FW_CTRL (BitVec.ofNat 32 (16 * next.val + 1)))
def execNextSlotSelect (func next : Fin 4) (s : State) : Answer :=
  .next (s.hostWrite func Reg.OTP_FW_CTRL (BitVec.ofNat 32 (16 * next.val)))
def execEvtCursorWrite (func : Fin 4) (high : BitVec 32) (s : State) : Answer := .next (s.hostWrite func Reg.EVT_CURSOR_HI high)
/-- EVT_WINDOW_LATCH: a read of word 0 of the record at a position of the window (R525). -/
def execEvtWindowLatch (func position : Fin 4) (s : State) : Answer :=
  .next (s.busAccess func (Reg.EVT_WIN (8 * position.val)) 4 none)
def execLaneModeWrite (func : Fin 4) (group : Fin 40) (mode : Fin 4) (s : State) : Answer :=
  .next (s.hostWrite func (Reg.LANE_ELEC_CFG group.val) (BitVec.ofNat 32 mode.val))

end Sys2Proof.Machine
end

