-- ==== Sys2Proof/Machine/Course.lean ====
section
/-!
DEFINITION. Machine/Course.lean: battens and course boundaries (R49 to R52, R60 to R63, R81 to R84): the work items of a batten, the
barrier and the overrun count, the boundary actions in their order, the input logs of both units of a pair (R346, R452), and the
start of the first course. COURSE_BOUNDARY and BATTEN_START carry the time scale of a running course (R50).
-/

namespace Sys2Proof.Machine

/-! ### The items of a batten (R60 to R63) -/

/-- The batten in progress (CRS_TIMING.BATTEN). -/
def State.battenNow (s : State) : Nat := s.get Fl.CRS_TIMING_BATTEN

/-- The record of the batten in progress (Table 2.5). -/
def State.record' (s : State) : BattenRec := s.plan.batten s.crs.courseType s.battenNow

/-- The work items of the batten in progress, cluster by cluster, each in list order (R60, R61). -/
def State.battenItems (s : State) : List WorkItem :=
  ((List.range 128).map fun k => s.plan.items s.record'.workSet k).flatten

/-- The half of the resident plan that listens to a power-line cell in the present course (R515). -/
def State.residentHalf (s : State) (c : Nat) : Bool :=
  s.get Fl.GLB_DEVICE_ID_GRADE == 1 || (c / 4 % 2 == 0) == decide (s.course % 1000 < 500)

/-- The condition of an item holds (Table 2.7). -/
def State.condHolds (s : State) (i : WorkItem) : Bool :=
  let m := s.mac i.cell
  match i.cond with
  | 0 => true
  | 1 => m.choice i.param == some false
  | 2 => m.choice i.param == some true
  | 3 => s.ackDue i.cell
  | _ => m.tx.isSome

/-- A receive item of a cell runs in the batten in progress (R61; R515 for the resident plan). -/
def State.listens (s : State) (c : Nat) : Bool :=
  if s.resident then s.plan.isRad c || (s.plan.isPlc c && s.residentHalf c)
  else s.battenItems.any fun i => i.cell == c && (i.op == 1 || i.op == 4) && s.condHolds i

/-- A reception starts on a cell, unless its block is disabled, its receive item does nothing or what the batten consumes is muted to its
end (R113, R121, R122, R148, R161, R162, R183). -/
def State.rxBegin (s : State) (c : Nat) : State :=
  let hi := (s.consumed c).2
  if s.enabled (s.cellBlock c) && !s.mutedIn c (hi - 31250) hi && s.listens c && !s.reconsumes c then
    s.modMac c fun m => { m with rx := true, rxBad := false, rxLate := false }
  else s

/-- Muting begins in what the batten consumes: a frame in reception is lost (R122, R162). -/
def State.muteStep (s : State) (c : Nat) : State :=
  if (s.mac c).rx && s.mutedIn c (s.consumed c).1 (s.consumed c).2 then s.rxLost c else s

/-- The receive item of a cell with a frame in reception: erasures among its samples, and the item being late (R82, R100). -/
def State.rxMark (s : State) (late : List (Fin 32768)) (c : Nat) : State :=
  if !s.listens c || s.reconsumes c then s
  else
    let bad := s.erasedIn c (s.consumed c).1 (s.consumed c).2
    let slow := late.any fun x => x.val == c
    s.modMac c fun m => { m with rxBad := m.rxBad || bad, rxLate := m.rxLate || slow }

/-- Start of play batten `p` of the course, ns (R63). -/
def State.playStart (s : State) (p : Nat) : Nat := (16 * s.course + p) * s.period / 16

/-- Contention entry `k` of a cell in the course. -/
def State.entry (s : State) (c k : Nat) : Nat := s.plan.cw c s.crs.courseType k

/-- What waits in the transmit buffer at the start of the batten (R127); a frame to a sleeping meter is judged at the primary play start
of its first usable entry (R178). -/
def State.waitingToken (s : State) (c : Nat) : Nat :=
  s.head c fun f =>
    !s.plan.isRad c || match (s.entryOrder c).find? fun k => s.usable c k (frameToken f) with
      | some k => s.eligible c f (s.playStart (bitsOf 11 8 (s.entry c k)))
      | none => true

/-- The busy criterion of the cell's medium (R125, R163). -/
def State.mediumBusy (s : State) (c : Nat) (o : SenseObs) (play : Nat) (late : Bool) : Bool :=
  if s.plan.isRad c then s.radBusy c o late else s.plcBusy c o play late

/-- A sense window without any observation: an idle medium. -/
def quietObs (c : Nat) : SenseObs := { cell := Fin.ofNat 32768 c, corr := 0, preamble := false, level := 255, invalid := false }

/-- One decision of a sense item, where the sense batten of the entry is the one whose samples the item consumes (R63, R125). -/
def State.senseOne (s : State) (c t : Nat) (o : SenseObs) (late : Bool) (k : Nat) (alternate : Bool) : State :=
  let w := s.entry c k
  let sense := if alternate then bitsOf 7 4 w else bitsOf 15 12 w
  let play := if alternate then bitsOf 3 0 w else bitsOf 11 8 w
  if w = 0xFFFF ∨ s.battenNow ≠ sense + s.plan.dRx c then s
  else s.decide' c k alternate (s.mediumBusy c o (s.playStart play) late) (if s.usable c k t then t else 0)

/-- A PLC_SENSE or RAD_SENSE item: its decisions for every contention entry of the cell (R125, R128, R163, R164). -/
def State.senseItem (s : State) (c : Nat) (obs : List SenseObs) (late : Bool) : State :=
  let t := s.waitingToken c
  let o := (obs.find? fun x => x.cell.val == c).getD (quietObs c)
  let o := { o with invalid := o.invalid || s.capturedBad c (s.senseWindow c).1 (s.senseWindow c).2 }
  [0, 1, 2, 3].foldl (fun s k => (s.senseOne c t o late k false).senseOne c t o late k true) s

/-- A frame starts in a play batten: on a radio cell within its duty cycle (R165) and with its wake-up sequence (R177). -/
def State.startFrame (s : State) (c : Nat) (f : Frame) (play : Nat) : State :=
  if s.plan.isRad c then
    let (rendezvous, copies, air) := s.radPlan c f play
    if s.dutyFits c air then (s.countAir c air).beginTx c f rendezvous copies else s.dutyRefuse c f
  else s.beginTx c f [] 0

/-- A transmit item with condition PRIMARY_IDLE or ALTERNATE_IDLE (R62, R128). A late one starts nothing that lasts: its slot carries
zero-valued samples (Table 2.16). -/
def State.startItem (s : State) (i : WorkItem) (late : Bool) : State :=
  let c := i.cell
  let alternate := i.cond == 2
  let t := s.starter c i.param alternate
  if t = 0 ∨ (i.op == 8) ≠ (t == 1) then s
  else match s.takeToken c t with
    | (none, s) => s
    | (some f, s) =>
      let w := s.entry c i.param
      let s := s.startFrame c f (s.playStart (if alternate then bitsOf 3 0 w else bitsOf 11 8 w))
      if late then s.txCut c false else s

/-- One item that is not an acknowledgement (R60, R61): with a false condition it does nothing, nor does a receive item whose captures
have been consumed (R113). -/
def State.runItem (s : State) (x : BattenIn) (cluster : Nat) (i : WorkItem) : State :=
  let late := fun (l : List (Fin 32768)) => l.any fun c => c.val == i.cell
  match i.op with
  | 3 | 6 => if s.condHolds i && !s.reconsumes i.cell then s.senseItem i.cell x.sense (late x.lateRx) else s
  | 2 | 5 | 8 => if i.cond = 1 ∨ i.cond = 2 then s.startItem i (late x.lateTx) else s
  | 10 => if s.condHolds i then s.metroItem cluster (x.lateMetro.any fun k => k.val == cluster) else s
  | _ => s

/-- The items of every cluster; the resident plan unpacks metrology on every cluster. -/
def State.runItems (s : State) (x : BattenIn) : State :=
  (List.range 128).foldl (fun s k =>
    if s.resident then (if s.eav.sets.isEmpty then s else s.metroItem k (x.lateMetro.any fun y => y.val == k))
    else (s.plan.items s.record'.workSet k).foldl (fun s i => s.runItem x k i) s) s

/-- A transmission that began in an earlier batten continues under an IN_FRAME item of its cell, or ends (R62, R130, R166); in a block
that listens only it ends too (R153, R186; DEDUCED, log entry 125). -/
def State.continueTx (s : State) (items : List WorkItem) (lateTx : List (Fin 32768)) (c : Nat) : State :=
  let m := s.mac c
  let beacon := match m.tx with | some f => f.kind == .beacon | none => false
  let item := items.any fun i => i.cell == c && i.cond == 4 && (i.op == 2 || i.op == 5 || (i.op == 8 && beacon))
  if !item then s.txCut c true
  else if s.listenOnly c || lateTx.any fun x => x.val == c then s.txCut c false
  else s

/-- The acknowledgement step of a cell; one on a radio cell counts towards the duty cycle (R132, R165, R168). -/
def State.ackCell (s : State) (items : List WorkItem) (lateTx : List (Fin 32768)) (c : Nat) : State :=
  let item := items.any fun i => i.cell == c && i.op == 7 && i.cond == 3
  let was := (s.mac c).ackTx
  let s := s.ackStep c item (lateTx.any fun x => x.val == c)
  if s.plan.isRad c && (s.mac c).ackTx && !was then s.countAir c (s.plan.radAir c (3 + s.plan.fcsOctets c)) else s

/-- What ended or began on the cells before the items of the batten. -/
def State.cellInputs (s : State) (x : BattenIn) : State :=
  let s := (s.cel.macs.map (·.1)).foldl State.muteStep s
  let s := x.txEnd.foldl (fun s c => s.txEnded c.1.val c.2) s
  let s := x.wusEnd.foldl (fun s c => s.modMac c.val fun m => { m with wus := false }) s
  let s := x.rxLost.foldl (fun s c => s.rxLost c.val) s
  x.rxStart.foldl (fun s c => s.rxBegin c.val) s

/-- The cells' part of a batten. -/
def State.cellBatten (s : State) (x : BattenIn) : State :=
  let s := s.cellInputs x
  let hearing := (s.cel.macs.filter fun p => p.2.rx).map (·.1)
  let s := hearing.foldl (fun s c => s.rxMark x.lateRx c) s
  let items := s.battenItems
  let going := (s.cel.macs.filter fun p => p.2.tx.isSome || p.2.ackTx).map (·.1)
  let s := going.foldl (fun s c => s.continueTx items x.lateTx c) s
  let s := s.runItems x
  let owed := (s.cel.macs.filter fun p => !p.2.ackOwed.isEmpty).map (·.1)
  let s := owed.foldl (fun s c => s.ackCell items x.lateTx c) s
  let playing := (s.cel.macs.filter fun p => p.2.tx.isSome || p.2.ackTx).map (·.1)
  let s := playing.foldl State.addPlay s
  let runs := fun (l : List (Fin 32768)) => l.any fun c => s.enabled (s.cellBlock c.val)
  let cls := (if runs x.lateRx || !x.lateMetro.isEmpty then [0] else [])
    ++ (if runs x.lateTx || !x.lateCtrl.isEmpty then [1] else [])
  { s with
    crs := { s.crs with lateClasses := cls ++ s.crs.lateClasses }
    eav := { s.eav with ctrlLate := x.lateCtrl.map (·.val) } }

/-! ### A batten (R50, R59) -/

/-- The entry of kind PLAN for the boundary that ends the course: the staging check's result at the copy point, and a fallback that
was triggered (Table 15.6). -/
def State.planEntry (s : State) : Option RidgeLog × State :=
  let due := match s.crs.pending with | some p => decide (p.target = s.course + 1) | none => false
  let check := match s.crs.staged with | some p => if due then some (s.commitCheck p) else none | none => none
  let s := match check with | some r => { s with crs := { s.crs with decided := some r } } | none => s
  if check.isNone && s.crs.fallback.isNone then (none, s)
  else (some (.plan (BitVec.ofNat 8 (check.getD 0)) (s.crs.fallback.map (BitVec.ofNat 8)) false), s)

/-- The ridge copy point (R453): an ACTIVE unit decides what its log says of the plan. -/
def State.copyPoint (s : State) : State :=
  if s.get Fl.RDG_STATE_STATE = 1 ∧ s.sendsCx = true then
    let (e, s) := s.planEntry
    s.ridgeCopy e
  else s.ridgeCopy none

/-- The flags of the batten (Table 2.5). -/
def State.battenFlags (s : State) (nodes : Nat) : State :=
  let r := s.record'
  let s := s.recordBatten (if s.resident then 0 else r.quota)
  let s := if r.valley then s.valleyPoint nodes else s
  let s := if r.flush then s.flushPoint else s
  if r.ridgeCopy then s.copyPoint else s

/-- Courses run: the time scale is not held, and the device has not stopped for its temperature (R368, R541). -/
def State.running (s : State) : Bool := !s.tim.held && !s.hlt.tripped

/-- Errors found in on-chip memory: in slots of the meter table, and an uncorrectable one in the active plan buffer, which the resident
plan does not use (R84, R195). -/
def State.battenErrors (s : State) (x : BattenIn) : State :=
  let s := x.slotErrors.foldl State.slotError s
  if x.planError && !s.resident then { s with crs := { s.crs with planBad := true } } else s

/-- The next batten of the course begins at its instant (R50); what waits in the output queues leaves them (R296). -/
def State.runBatten (s : State) (x : BattenIn) : State :=
  let b := s.crs.nextBatten
  if !s.running || decide (16 ≤ b) then s
  else
    let s := { s with
      tim := { s.tim with now := s.course * s.period + b * s.period / 16 }
      crs := { s.crs with nextBatten := b + 1 } }
    let s := (s.put Fl.CRS_TIMING_BATTEN b).battenErrors x
    let s := (s.laneSync.cellBatten x).battenFlags x.valleyNodes
    (s.sendErase s.course b).drainPorts.acceptRings

/-- A batten in which nothing is observed, nothing is late, and the valley engine keeps its time. -/
def quietBatten : BattenIn :=
  { sense := [], rxStart := [], rxLost := [], txEnd := [], wusEnd := [], lateRx := [], lateTx := [],
    lateMetro := [], lateCtrl := [], valleyNodes := 16384,
    slotErrors := [], planError := false }

/-- The battens of the course that have not begun, without any observation. -/
def State.quietBattens : Nat → State → State
  | 0, s => s
  | k + 1, s => State.quietBattens k (s.runBatten quietBatten)

/-! ### The barrier and the overrun count (R82, R83) -/

/-- The overrun bookkeeping of the course that ends; the answer tells that CONSEC has reached 3 and no fallback waits. -/
def State.overrun (s : State) : Bool × State :=
  let l := [0, 1, 2, 3, 4].filter fun k => s.crs.lateClasses.contains k
  let s := { s with crs := { s.crs with lateClasses := [] } }
  if l.isEmpty then (false, s.put Fl.CRS_OVERRUN_FLAGS_CONSEC 0)
  else
    let run := min 3 (s.get Fl.CRS_OVERRUN_FLAGS_CONSEC + 1)
    let mask := (l.map fun k => 2 ^ k).foldl (· ||| ·) (s.get Fl.CRS_OVERRUN_FLAGS_CLASS)
    let s := (s.bump Fl.CRS_OVERRUN_COUNT_COUNT).put Fl.CRS_OVERRUN_FLAGS_CONSEC run
    let s := (s.put Fl.CRS_OVERRUN_FLAGS_CLASS mask).raise 87
    (run == 3 && s.crs.fallback.isNone, s)

/-- A fallback that waits takes effect at a boundary that is a multiple of 1 ms (R84). -/
def State.fallbackStep (s : State) : State :=
  match s.crs.fallback with
  | some cause => if s.now % 1000000 = 0 then s.fallBack cause else s
  | none => s

/-- What triggers a fallback at this boundary, none while one waits: an uncorrectable error in the active plan buffer, or three
consecutive overrun courses (R83, R84). -/
def State.triggerCause (s : State) (hit : Bool) : Option Nat :=
  if s.crs.fallback.isSome then none else if s.crs.planBad then some 2 else if hit then some 1 else none

/-- A fallback is triggered. In a pair the trigger goes through the log of the active unit, and the standby unit never triggers one
(Table 15.6). -/
def State.trigger (s : State) (cause : Option Nat) : State :=
  match cause with
  | some c => { s with crs := { s.crs with fallback := some c } }
  | none => s

/-! ### The input logs (R346, R452) -/

/-- A write-class command of a log takes effect. -/
def State.runLogged (s : State) (f r : Nat) (d data : Octets) : State :=
  match commandOf f r d data with
  | some i => runCommand i s
  | none => s

/-- An item of this unit's own log takes effect. Ownership acted when it changed, and a second of metrology when it was formed. -/
def State.ownItem (s : State) (i : LogItem) : State :=
  match i with
  | .command f r d data _ => s.runLogged f r d data
  | .regWrite f a v e => s.loggedWrite f a v e
  | .owner _ _ => s
  | .metro _ => s
  | .repair j octets => s.repairSlot j octets

/-- This unit's own log at a boundary: in a pair an ACTIVE unit runs what its exchange carried (R453). -/
def State.runOwnLog (s : State) : State :=
  let l := s.hst.inputLog
  let n := if s.get Fl.RDG_STATE_STATE = 1 ∧ s.sendsCx = true then s.rdg.copied else l.length
  let s := { s with
    hst := { s.hst with inputLog := l.drop n }
    rdg := { s.rdg with copied := 0 } }
  (l.take n).foldl State.ownItem s

/-- The effects of a change of the partner's owner on replicated state (R40, R211, R352). -/
def State.partnerOwner (s : State) (now : Option Nat) : State :=
  let s := s.expertOff
  if now = some s.mtb.shadowFunc then s else s.putFlag Fl.MTB_SHADOW_LO_EN false

/-- A command of the partner's log (R346, R457): commands on ownership have no effect here (Table 15.8), and a KEY_GENERATE takes
the value that the entry before it carries (R412). -/
def State.partnerCommand (s : State) (f r : Nat) (d : Octets) (object : Nat) (random : Octets) : State :=
  let op := leAt d 0 1
  if op < 5 then s
  else
    let data := if op = 0x41 then random else (FMap.get ([], 0) s.rdg.objects object).1
    let s := s.runLogged f r d data
    if object = 0 then s else { s with rdg := { s.rdg with objects := FMap.erase s.rdg.objects object } }

/-- An entry of the partner's log takes effect on the standby unit (Table 15.6); the octets are those of the last RANDOM entry. -/
def State.partnerEntry (p : Octets × State) (e : RidgeLog) : Octets × State :=
  let (r, s) := p
  match e with
  | .command f ring d o _ => ([], s.partnerCommand f.val ring.toNat d o.toNat r)
  | .regWrite f a v x => (r, s.loggedWrite f.val a.toNat v x)
  | .owner now _ => (r, s.partnerOwner (now.map (·.val)))
  | .random _ octets => (octets, s)
  | .grant g => (r, { s with saf := { s.saf with partnerSample := g.toNat } })
  | .time st _ smear _ => (r, { s with rdg := { s.rdg with partnerTime := st.toNat, partnerSmear := smear } })
  | .metro second v =>
    let m : Option Measure := v.bind fun x =>
      match x.1, x.2 with
      | [a, b, c, part], [i, j, k] => some { e := ⟨a, b, c⟩, i := ⟨i, j, k⟩, part := part != 0 }
      | _, _ => none
    (r, s.setStation second.toNat m)
  | .plan _ _ _ => (r, s)
  | .shed level => (r, s.put Fl.SWC_SHED_LEVEL level.val)
  | .repair j octets => (r, s.writeRepair j.toNat (s.repaired j.toNat (slotOf octets)))

/-- What the partner's log says of the plan is known before the boundary's commit and fallback (R78, R84). -/
def State.partnerPlan (s : State) (x : RidgeCx) : State :=
  x.log.foldl (fun s e =>
    match e with
    | .plan check fb _ => { s with crs := { s.crs with
        decided := some check.toNat
        fallback := match fb with | some c => some c.toNat | none => s.crs.fallback } }
    | _ => s) s

/-- The partner's log at a boundary (R452). -/
def State.runPartnerLog (s : State) (x : RidgeCx) : State :=
  let s := { s with rdg := { s.rdg with applying := true } }
  let s := (x.log.foldl State.partnerEntry ([], s)).2
  { s with rdg := { s.rdg with applying := false } }

/-! ### The course that starts -/

/-- Fields that the settings record holds: RWO fields of registers that no function has of its own, but for the five registers of
R507. -/
def settingsReg (a : Nat) : Bool :=
  match regRow a with
  | none => false
  | some r =>
    !r.perFunc && r.fields.any (fun x => x.acc == .rwo) && !(hasHeader (a / 0x10000) && a % 0x10000 == 0)
      && a != Reg.GLB_EXPERT_EN && a != Reg.HST_FENCE_CMD && a != Reg.RDG_HOLD_CTRL && a != Reg.OTP_FW_CTRL

/-- The unit of region STORE that holds the settings record. Its place there is the model's. -/
def settingsUnit : Nat := 65534

/-- The settings record is written within 1 s of a change (R507). -/
def State.storeSettings (s : State) : State :=
  if !s.arc.settingsDirty || !s.flag Fl.ARC_STATE_MOUNTED then s
  else
    let x : Settings :=
      { fmt := s.get Fl.OTP_FW_FMT_VALUE % 65536, words := s.regs.filter fun p => settingsReg p.1, overrides := s.overrides }
    { s with arc := { s.arc with
      settings := some x, settingsDirty := false, hotOwed := s.arc.hotOwed.filter (· != settingsUnit) ++ [settingsUnit] } }

/-- What the first course of a second does. -/
def State.firstOfSecond (s : State) : State :=
  if s.now % 1000000000 ≠ 0 then s
  else
    let s := s.calendarsNow.surveyTick
    let s := if s.arc.fcsErr then ({ s with arc := { s.arc with fcsErr := false } }).raise 375 else s
    let s := s.storeSettings
    if s.second % 86400 = 0 then s.expire.snapshotDay else s

/-- A standby unit that is paired follows its partner's log. -/
def State.follows (s : State) : Bool := s.get Fl.RDG_STATE_STATE == 2 && s.paired

/-- The shed level of the course, and what it pauses (R292, R293). -/
def State.shedStep (s : State) : State :=
  let s := if s.follows then s else s.shedUpdate
  s.mtbShed (decide (1 ≤ s.get Fl.SWC_SHED_LEVEL))

/-- Frame counters are reserved for the cells of the plan while the archive is mounted (R142, R171). -/
def State.reserveAll (s : State) : State :=
  if !s.flag Fl.ARC_STATE_MOUNTED then s
  else s.plan.cells.foldl (fun s x => if (s.mac x.cell).reserved then s else s.reserveFc x.cell) s

/-- The start of a course: its type, and what is sampled or started at every course (R52, R403, R422). -/
def State.openCourse (s : State) : State :=
  let s := { s with crs := { s.crs with courseType := s.plan.typeOf s.course, nextBatten := 0 } }
  let s := (s.put Fl.CRS_TIMING_BATTEN 0).joinCourse s.course
  let s := s.keyCourseStart.safUpdate.safCourseStart.takeRequests
  let s := (s.combCourse.shedStep).reserveAll
  (s.firstOfSecond.hotSync.writeReleased).acceptRings

/-! ### The boundary (R27, R81) -/

/-- The course number. -/
def State.setCourse (s : State) (n : Nat) : State := s.put64 Reg.CRS_COURSE_LO n

/-- Commit, resumed plan and fallback at a boundary; the time scale and the course number are those of the course that starts
(R78, R84, R514). -/
def State.planStep (s : State) (n : Nat) : State :=
  let due := match s.crs.pending with | some p => decide (p.target = n) | none => false
  let s := if due then s.commitAt else s
  let s := if s.crs.resuming ∧ s.now % (match s.arc.stored with | some x => periodNs x.plan.period | none => 1) = 0 then s.resumePlan
    else s
  s.fallbackStep

/-- The writes, the ownership and the commands of the course that ends. -/
def State.logStep (s : State) (theirs : Option RidgeCx) : State :=
  let wasMet := s.enabled 16
  let s := s.boundaryWrites.fencedOwner
  let s := match theirs with | some x => s.runPartnerLog x | none => s
  electionCloseEffect (leaseLapseEffect (s.runOwnLog.idleBlocks wasMet))

/-- The barrier of course n: what is late, the ridge's comparison, the overrun count. Answers whether this unit takes part as a
standby unit, and the cause of a fallback that is triggered. -/
def State.barrier (s : State) (n : Nat) : Option RidgeCx × Option Nat × State :=
  let s := s.deferAll.recordBarrier
  let theirs := if s.follows then s.cxOf n else none
  let own := !s.follows
  let (hit, s) := (s.ridgeBarrier n).overrun
  let cause := if own then s.triggerCause hit else none
  (theirs, cause, { s with crs := { s.crs with planBad := false } })

/-- The boundary that ends course n (R27, R81): the barrier, the plan, the log, and the start of the next course. -/
def State.boundary (s : State) : State :=
  let n := s.course
  let (theirs, cause, s) := s.barrier n
  let s := { s with tim := { s.tim with now := (n + 1) * s.period } }
  let s := s.setCourse (n + 1)
  let s := match theirs with | some x => s.partnerPlan x | none => s
  let paired := s.get Fl.RDG_STATE_STATE == 1 && s.sendsCx
  let s := if paired then s else s.trigger cause
  let s := s.planStep (n + 1)
  let s := if paired then s.trigger cause else s
  let c := s.course
  let s := ((s.setCourse (c - 1)).logStep theirs).setCourse c
  (s.ridgeBoundary n).openCourse

/-- COURSE_BOUNDARY: battens that no command began run without observations, then the course is closed. -/
def courseBoundaryEffect (s : State) : State :=
  if !s.running then s else (State.quietBattens 16 s).boundary

/-! ### The first course (R366, R368, R466 to R469, R514) -/

/-- A command after which courses may run: a stored plan that waits comes into force first, and the first course is opened. -/
def State.starting (s : State) (f : State → State) : State :=
  let t := f s
  if s.tim.held && !t.tim.held then (if s.crs.resuming then f s.resumePlan else t).openCourse else t

def execBattenStart (i : BattenIn) (s : State) : Answer := .next (s.runBatten i)
def execCourseBoundary (s : State) : Answer := .next (courseBoundaryEffect s)
def execTimeAcquireTimeout (s : State) : Answer := .next (s.starting timeAcquireTimeoutEffect)
def execTimeScaleStep (ridge : Bool) (seconds : BitVec 64) (ns : BitVec 32) (s : State) : Answer :=
  .next (s.starting (timeScaleStepEffect ridge seconds ns))
def execPartnerWaitTimeout (s : State) : Answer := .next (s.starting partnerWaitTimeoutEffect)
def execRidgeHelloRx (h : RidgeHdr) (m : RidgeHello) (s : State) : Answer := .next (s.starting (ridgeHelloRxEffect h m))
def execRidgeClaimRx (h : RidgeHdr) (serial : BitVec 64) (s : State) : Answer := .next (s.starting (ridgeClaimRxEffect h serial))
def execRidgeCxRx (h : RidgeHdr) (arrival : BitVec 64) (x : RidgeCx) (s : State) : Answer := .next (ridgeCxRxEffect h arrival x s)
def execRidgeBulkRx (h : RidgeHdr) (kind : Byte) (object offset total : BitVec 32) (octets : Octets) (s : State) : Answer :=
  .next (ridgeBulkRxEffect h kind object offset total octets s)
def execRidgeNopRx (h : RidgeHdr) (s : State) : Answer := .next (ridgeNopRxEffect h s)

end Sys2Proof.Machine
end

