-- ==== Sys2Proof/Machine/Dispatch.lean ====
section
/-!
DEFINITION. Machine/Dispatch.lean: the effect of a command on everything but the queue, one meaning per row of the table.
-/

namespace Sys2Proof.Machine

/-- The effect of a command. -/
def exec (i : Instr) (s : State) : Host.Outcome State Fault Refusal :=
  match i with
  | .powerOnReset unitB straps svcMode fit => Sys2Proof.Machine.execPowerOnReset unitB straps svcMode fit s
  | .porstAssert => Sys2Proof.Machine.execPorstAssert s
  | .warmReset => Sys2Proof.Machine.execWarmReset s
  | .rootseedProgram => Sys2Proof.Machine.execRootseedProgram s
  | .readyTimeout => Sys2Proof.Machine.execReadyTimeout s
  | .imageConfirmed => Sys2Proof.Machine.execImageConfirmed s
  | .tftpWriteRequest name octet blksize => Sys2Proof.Machine.execTftpWriteRequest name octet blksize s
  | .xmodemReceive octets => Sys2Proof.Machine.execXmodemReceive octets s
  | .imageReceived flashError => Sys2Proof.Machine.execImageReceived flashError s
  | .fwReset func next => Sys2Proof.Machine.execFwReset func next s
  | .nextSlotSelect func next => Sys2Proof.Machine.execNextSlotSelect func next s
  | .archiveMount anchorOk => Sys2Proof.Machine.execArchiveMount anchorOk s
  | .powerSafeStopDone => Sys2Proof.Machine.execPowerSafeStopDone s
  | .timeAcquireTimeout => Sys2Proof.Machine.execTimeAcquireTimeout s
  | .timeScaleStep ridge seconds ns => Sys2Proof.Machine.execTimeScaleStep ridge seconds ns s
  | .secondTick => Sys2Proof.Machine.execSecondTick s
  | .freqMonitorWindow ptp pps ridge => Sys2Proof.Machine.execFreqMonitorWindow ptp pps ridge s
  | .ptpSyncRx port m => Sys2Proof.Machine.execPtpSyncRx port m s
  | .ptpFollowUpRx port m => Sys2Proof.Machine.execPtpFollowUpRx port m s
  | .ptpAnnounceRx port m => Sys2Proof.Machine.execPtpAnnounceRx port m s
  | .pdelayReqRx port requester seq t2 => Sys2Proof.Machine.execPdelayReqRx port requester seq t2 s
  | .pdelayRespRx port m => Sys2Proof.Machine.execPdelayRespRx port m s
  | .pdelayReqTimer => Sys2Proof.Machine.execPdelayReqTimer s
  | .ptpUnsupportedRx port => Sys2Proof.Machine.execPtpUnsupportedRx port s
  | .txTimestampEntry port seq stamp => Sys2Proof.Machine.execTxTimestampEntry port seq stamp s
  | .announceTimeout port => Sys2Proof.Machine.execAnnounceTimeout port s
  | .syncTimeout => Sys2Proof.Machine.execSyncTimeout s
  | .ppsInEdge stamp => Sys2Proof.Machine.execPpsInEdge stamp s
  | .leapSmearStart => Sys2Proof.Machine.execLeapSmearStart s
  | .leapSmearEnd => Sys2Proof.Machine.execLeapSmearEnd s
  | .courseBoundary => Sys2Proof.Machine.execCourseBoundary s
  | .battenStart x => Sys2Proof.Machine.execBattenStart x s
  | .postCommitPassDone => Sys2Proof.Machine.execPostCommitPassDone s
  | .shedStepDown => Sys2Proof.Machine.execShedStepDown s
  | .combPassStart => Sys2Proof.Machine.execCombPassStart s
  | .replayDone agrees => Sys2Proof.Machine.execReplayDone agrees s
  | .electionClose => Sys2Proof.Machine.execElectionClose s
  | .leaseLapse => Sys2Proof.Machine.execLeaseLapse s
  | .claim c bid => Sys2Proof.Machine.execClaim c bid s
  | .heartbeat c => Sys2Proof.Machine.execHeartbeat c s
  | .handover c target => Sys2Proof.Machine.execHandover c target s
  | .release c => Sys2Proof.Machine.execRelease c s
  | .nop c => Sys2Proof.Machine.execNop c s
  | .planLoad c data => Sys2Proof.Machine.execPlanLoad c data s
  | .tableLoad c kind mode reserved epoch data => Sys2Proof.Machine.execTableLoad c kind mode reserved epoch data s
  | .planCommit c target => Sys2Proof.Machine.execPlanCommit c target s
  | .planCancel c => Sys2Proof.Machine.execPlanCancel c s
  | .meterLookup c key => Sys2Proof.Machine.execMeterLookup c key s
  | .meterStateRead c first count => Sys2Proof.Machine.execMeterStateRead c first count s
  | .meterStateWrite c index op data => Sys2Proof.Machine.execMeterStateWrite c index op data s
  | .frameSend c index medium ackReq data => Sys2Proof.Machine.execFrameSend c index medium ackReq data s
  | .imagePush c kind times payloadLen cells data => Sys2Proof.Machine.execImagePush c kind times payloadLen cells data s
  | .switchReq c index action => Sys2Proof.Machine.execSwitchReq c index action s
  | .prepayTopup c index amount topupId => Sys2Proof.Machine.execPrepayTopup c index amount topupId s
  | .valleyRetro c p => Sys2Proof.Machine.execValleyRetro c p s
  | .retroRunEnd => Sys2Proof.Machine.execRetroRunEnd s
  | .archiveFormat c mode coldOpen spare reserved hotGib => Sys2Proof.Machine.execArchiveFormat c mode coldOpen spare reserved hotGib s
  | .archiveAdopt c hub => Sys2Proof.Machine.execArchiveAdopt c hub s
  | .archiveScan c p => Sys2Proof.Machine.execArchiveScan c p s
  | .scanBatch scan => Sys2Proof.Machine.execScanBatch scan s
  | .archiveHostRead c unit count => Sys2Proof.Machine.execArchiveHostRead c unit count s
  | .archiveHostWrite c unit count data => Sys2Proof.Machine.execArchiveHostWrite c unit count data s
  | .keyWrite c p data => Sys2Proof.Machine.execKeyWrite c p data s
  | .keyGenerate c p => Sys2Proof.Machine.execKeyGenerate c p s
  | .keyDestroy c target index => Sys2Proof.Machine.execKeyDestroy c target index s
  | .keyAttest c slot nonce => Sys2Proof.Machine.execKeyAttest c slot nonce s
  | .randomRead c => Sys2Proof.Machine.execRandomRead c s
  | .timeSet c mode delta => Sys2Proof.Machine.execTimeSet c mode delta s
  | .timeRef c op cand => Sys2Proof.Machine.execTimeRef c op cand s
  | .safeReset c confirm => Sys2Proof.Machine.execSafeReset c confirm s
  | .eventClear c upTo => Sys2Proof.Machine.execEventClear c upTo s
  | .lifecycle c target reserved confirm => Sys2Proof.Machine.execLifecycle c target reserved confirm s
  | .calWrite c data => Sys2Proof.Machine.execCalWrite c data s
  | .calInForce => Sys2Proof.Machine.execCalInForce s
  | .defaultsWrite c data => Sys2Proof.Machine.execDefaultsWrite c data s
  | .otpProgramDone differs word => Sys2Proof.Machine.execOtpProgramDone differs word s
  | .doorbellWrite func offset eight value => Sys2Proof.Machine.execDoorbellWrite func offset eight value s
  | .descriptorPrefetch func ring octets => Sys2Proof.Machine.execDescriptorPrefetch func ring octets s
  | .ringEnable func => Sys2Proof.Machine.execRingEnable func s
  | .ringDisable func => Sys2Proof.Machine.execRingDisable func s
  | .ringAbort func enable => Sys2Proof.Machine.execRingAbort func enable s
  | .dropsWriteback func ring => Sys2Proof.Machine.execDropsWriteback func ring s
  | .msixModerationExpiry func ring => Sys2Proof.Machine.execMsixModerationExpiry func ring s
  | .fenceLinkDown func holds => Sys2Proof.Machine.execFenceLinkDown func holds s
  | .fenceFlr func holds => Sys2Proof.Machine.execFenceFlr func holds s
  | .fenceMasterClear func holds => Sys2Proof.Machine.execFenceMasterClear func holds s
  | .fenceD3hot func holds => Sys2Proof.Machine.execFenceD3hot func holds s
  | .fenceDmaError func => Sys2Proof.Machine.execFenceDmaError func s
  | .pciePerst link low => Sys2Proof.Machine.execPciePerst link low s
  | .fenceOwnerCmd func mask => Sys2Proof.Machine.execFenceOwnerCmd func mask s
  | .unfence func => Sys2Proof.Machine.execUnfence func s
  | .dataDmaError func ring => Sys2Proof.Machine.execDataDmaError func ring s
  | .wswStickyClear func => Sys2Proof.Machine.execWswStickyClear func s
  | .registerWrite func offset bytes value => Sys2Proof.Machine.execRegisterWrite func offset bytes value s
  | .loReadLatch func offset => Sys2Proof.Machine.execLoReadLatch func offset s
  | .loWriteHold func offset value => Sys2Proof.Machine.execLoWriteHold func offset value s
  | .hiWriteApply func offset value => Sys2Proof.Machine.execHiWriteApply func offset value s
  | .counterReadClear func offset bytes => Sys2Proof.Machine.execCounterReadClear func offset bytes s
  | .stoppedAccessResume func => Sys2Proof.Machine.execStoppedAccessResume func s
  | .crossingReset block accesses => Sys2Proof.Machine.execCrossingReset block accesses s
  | .blockDisable func block => Sys2Proof.Machine.execBlockDisable func block s
  | .blockEnable func block => Sys2Proof.Machine.execBlockEnable func block s
  | .blockAbort func block enable => Sys2Proof.Machine.execBlockAbort func block enable s
  | .blockDrainDone block => Sys2Proof.Machine.execBlockDrainDone block s
  | .profileWrite func block code => Sys2Proof.Machine.execProfileWrite func block code s
  | .expertEnableWrite func on => Sys2Proof.Machine.execExpertEnableWrite func on s
  | .stageSealWrite func sealed => Sys2Proof.Machine.execStageSealWrite func sealed s
  | .hashSeedWrite func second seed => Sys2Proof.Machine.execHashSeedWrite func second seed s
  | .shadowEnable func low high => Sys2Proof.Machine.execShadowEnable func low high s
  | .billResWrite func res => Sys2Proof.Machine.execBillResWrite func res s
  | .tamperCfgWrite func pol en => Sys2Proof.Machine.execTamperCfgWrite func pol en s
  | .laneModeWrite func group mode => Sys2Proof.Machine.execLaneModeWrite func group mode s
  | .safeOtpProgram func => Sys2Proof.Machine.execSafeOtpProgram func s
  | .switchover func => Sys2Proof.Machine.execSwitchover func s
  | .rejoin func => Sys2Proof.Machine.execRejoin func s
  | .evtCursorWrite func high => Sys2Proof.Machine.execEvtCursorWrite func high s
  | .evtWindowLatch func position => Sys2Proof.Machine.execEvtWindowLatch func position s
  | .windowFetchDone func => Sys2Proof.Machine.execWindowFetchDone func s
  | .laneGroupTrained group kr => Sys2Proof.Machine.execLaneGroupTrained group kr s
  | .laneTrainTimeout group => Sys2Proof.Machine.execLaneTrainTimeout group s
  | .blockLockChange lane lock hiBer errored => Sys2Proof.Machine.execBlockLockChange lane lock hiBer errored s
  | .refclkChange clock ok => Sys2Proof.Machine.execRefclkChange clock ok s
  | .krTrainingTimeout lane => Sys2Proof.Machine.execKrTrainingTimeout lane s
  | .krRetry lane => Sys2Proof.Machine.execKrRetry lane s
  | .subframeTx lane sf down => Sys2Proof.Machine.execSubframeTx lane sf down s
  | .subframeRx lane octets inTime => Sys2Proof.Machine.execSubframeRx lane octets inTime s
  | .helloRx lane position message => Sys2Proof.Machine.execHelloRx lane position message s
  | .rangeRspRx lane position rtt message => Sys2Proof.Machine.execRangeRspRx lane position rtt message s
  | .statusRx lane position message => Sys2Proof.Machine.execStatusRx lane position message s
  | .eaveLostTimeout lane position => Sys2Proof.Machine.execEaveLostTimeout lane position s
  | .rangingInterval => Sys2Proof.Machine.execRangingInterval s
  | .slotMapApply lane position => Sys2Proof.Machine.execSlotMapApply lane position s
  | .plcFrameRx f => Sys2Proof.Machine.execPlcFrameRx f s
  | .plcAckRx cell source ackEnd => Sys2Proof.Machine.execPlcAckRx cell source ackEnd s
  | .plcAckWaitExpiry cell => Sys2Proof.Machine.execPlcAckWaitExpiry cell s
  | .toneMapResponseRx r => Sys2Proof.Machine.execToneMapResponseRx r s
  | .lbpJoiningRx cell eui => Sys2Proof.Machine.execLbpJoiningRx cell eui s
  | .eapPskComplete cell eui ok => Sys2Proof.Machine.execEapPskComplete cell eui ok s
  | .routeRequestRx cell ask neighbour cost hops => Sys2Proof.Machine.execRouteRequestRx cell ask neighbour cost hops s
  | .rrepWaitExpiry cell ask => Sys2Proof.Machine.execRrepWaitExpiry cell ask s
  | .routeErrorRx cell dest => Sys2Proof.Machine.execRouteErrorRx cell dest s
  | .beaconRequestRx cell => Sys2Proof.Machine.execBeaconRequestRx cell s
  | .panConflictRx cell => Sys2Proof.Machine.execPanConflictRx cell s
  | .failMarkExpiry index => Sys2Proof.Machine.execFailMarkExpiry index s
  | .reassemblyTimeout cell => Sys2Proof.Machine.execReassemblyTimeout cell s
  | .gmkSwitch cell confirmed => Sys2Proof.Machine.execGmkSwitch cell confirmed s
  | .radFrameRx f => Sys2Proof.Machine.execRadFrameRx f s
  | .enhAckRx cell dsn span csl => Sys2Proof.Machine.execEnhAckRx cell dsn span csl s
  | .radAckWaitExpiry cell => Sys2Proof.Machine.execRadAckWaitExpiry cell s
  | .assocRequestRx cell eui => Sys2Proof.Machine.execAssocRequestRx cell eui s
  | .dataRequestRx cell eui => Sys2Proof.Machine.execDataRequestRx cell eui s
  | .pendingExpiry cell eui => Sys2Proof.Machine.execPendingExpiry cell eui s
  | .disassocNotifyRx cell eui => Sys2Proof.Machine.execDisassocNotifyRx cell eui s
  | .chainFaultTimer cell => Sys2Proof.Machine.execChainFaultTimer cell s
  | .yelmArrival => Sys2Proof.Machine.execYelmArrival s
  | .switchResultRx => Sys2Proof.Machine.execSwitchResultRx s
  | .stagingBoundChange => Sys2Proof.Machine.execStagingBoundChange s
  | .packetAdmit port cls bytes => Sys2Proof.Machine.execPacketAdmit port cls bytes s
  | .overflowReadReturn packet cells => Sys2Proof.Machine.execOverflowReadReturn packet cells s
  | .dramReadTimeout packet => Sys2Proof.Machine.execDramReadTimeout packet s
  | .overflowShrinkDone => Sys2Proof.Machine.execOverflowShrinkDone s
  | .slateHelloRx h => Sys2Proof.Machine.execSlateHelloRx h s
  | .slateGeometryRx h payload => Sys2Proof.Machine.execSlateGeometryRx h payload s
  | .slateCreditRx h cmdLimit wbufLimit => Sys2Proof.Machine.execSlateCreditRx h cmdLimit wbufLimit s
  | .slateCplRx h tag status data => Sys2Proof.Machine.execSlateCplRx h tag status data s
  | .bandVerifyDone band failed => Sys2Proof.Machine.execBandVerifyDone band failed s
  | .slateStopDoneRx h => Sys2Proof.Machine.execSlateStopDoneRx h s
  | .slateResendTimer hub => Sys2Proof.Machine.execSlateResendTimer hub s
  | .creditTimeout hub => Sys2Proof.Machine.execCreditTimeout hub s
  | .cmdTimeout hub => Sys2Proof.Machine.execCmdTimeout hub s
  | .hubLinkLost hub => Sys2Proof.Machine.execHubLinkLost hub s
  | .hubHelloTimer hub => Sys2Proof.Machine.execHubHelloTimer hub s
  | .hubLostTimeout hub => Sys2Proof.Machine.execHubLostTimeout hub s
  | .checkpointTimer => Sys2Proof.Machine.execCheckpointTimer s
  | .hotGc => Sys2Proof.Machine.execHotGc s
  | .scrubBlockRead failed block => Sys2Proof.Machine.execScrubBlockRead failed block s
  | .scrubConfirm slot failed octets => Sys2Proof.Machine.execScrubConfirm slot failed octets s
  | .entropySample sample => Sys2Proof.Machine.execEntropySample sample s
  | .drbgReseed => Sys2Proof.Machine.execDrbgReseed s
  | .safetyInputSample isoA isoB esiA esiB sealA sealB => Sys2Proof.Machine.execSafetyInputSample isoA isoB esiA esiB sealA sealB s
  | .inputDiscrepancyTimeout input => Sys2Proof.Machine.execInputDiscrepancyTimeout input s
  | .sealDiscrepancyTimeout => Sys2Proof.Machine.execSealDiscrepancyTimeout s
  | .channelExchange differ readbackBad => Sys2Proof.Machine.execChannelExchange differ readbackBad s
  | .safetyFault code spar => Sys2Proof.Machine.execSafetyFault code spar s
  | .safetySelfTestDone code spar => Sys2Proof.Machine.execSafetySelfTestDone code spar s
  | .safeRstPulse ms => Sys2Proof.Machine.execSafeRstPulse ms s
  | .armLapse => Sys2Proof.Machine.execArmLapse s
  | .telegramExpiry id => Sys2Proof.Machine.execTelegramExpiry id s
  | .pairDisagreeTimeout => Sys2Proof.Machine.execPairDisagreeTimeout s
  | .ridgeHelloRx h m => Sys2Proof.Machine.execRidgeHelloRx h m s
  | .ridgeClaimRx h serial => Sys2Proof.Machine.execRidgeClaimRx h serial s
  | .claimBackoffTimer => Sys2Proof.Machine.execClaimBackoffTimer s
  | .ridgeCxRx h arrival x => Sys2Proof.Machine.execRidgeCxRx h arrival x s
  | .ridgeEraseRx h course batten masks late => Sys2Proof.Machine.execRidgeEraseRx h course batten masks late s
  | .ridgeBulkRx h kind object offset total octets => Sys2Proof.Machine.execRidgeBulkRx h kind object offset total octets s
  | .ridgeResendTimer => Sys2Proof.Machine.execRidgeResendTimer s
  | .ridgeHelloTimer => Sys2Proof.Machine.execRidgeHelloTimer s
  | .ridgeLinkTimeout => Sys2Proof.Machine.execRidgeLinkTimeout s
  | .partnerWaitTimeout => Sys2Proof.Machine.execPartnerWaitTimeout s
  | .aloneDecision => Sys2Proof.Machine.execAloneDecision s
  | .splitResolve => Sys2Proof.Machine.execSplitResolve s
  | .joinRequest => Sys2Proof.Machine.execJoinRequest s
  | .joinTimeout => Sys2Proof.Machine.execJoinTimeout s
  | .catchupDone => Sys2Proof.Machine.execCatchupDone s
  | .metConversion second codes beyond missed => Sys2Proof.Machine.execMetConversion second codes beyond missed s
  | .metSecondRecord => Sys2Proof.Machine.execMetSecondRecord s
  | .tamperSample levels => Sys2Proof.Machine.execTamperSample levels s
  | .mainPowerOff => Sys2Proof.Machine.execMainPowerOff s
  | .mainPowerOn => Sys2Proof.Machine.execMainPowerOn s
  | .vbatCheck low => Sys2Proof.Machine.execVbatCheck low s
  | .soffitStart => Sys2Proof.Machine.execSoffitStart s
  | .temperatureRead readings => Sys2Proof.Machine.execTemperatureRead readings s
  | .thermalRestart => Sys2Proof.Machine.execThermalRestart s
  | .supplySample mv => Sys2Proof.Machine.execSupplySample mv s
  | .otpSupplySettled => Sys2Proof.Machine.execOtpSupplySettled s
  | .processMonitor counts => Sys2Proof.Machine.execProcessMonitor counts s
  | .fifoPush block fifo full entry last => Sys2Proof.Machine.execFifoPush block fifo full entry last s
  | .fifoPop block fifo empty => Sys2Proof.Machine.execFifoPop block fifo empty s
  | .fifoDrop block fifo => Sys2Proof.Machine.execFifoDrop block fifo s
  | .fifoFlush block fifo => Sys2Proof.Machine.execFifoFlush block fifo s
  | .patrolScrub error => Sys2Proof.Machine.execPatrolScrub error s
  | .ddrDeviceHot channel => Sys2Proof.Machine.execDdrDeviceHot channel s
  | .commandDataFetched func ring sgl data => Sys2Proof.Machine.execCommandDataFetched func ring sgl data s
  | .slateNopRx h type fcsBad => Sys2Proof.Machine.execSlateNopRx h type fcsBad s
  | .ridgeNopRx h => Sys2Proof.Machine.execRidgeNopRx h s
  | .ackNopTimer hub => Sys2Proof.Machine.execAckNopTimer hub s
  | .leaseShortWarning => Sys2Proof.Machine.execLeaseShortWarning s
  | .svcLinkChange up => Sys2Proof.Machine.execSvcLinkChange up s
  | .svcArpIcmpRx icmp target data => Sys2Proof.Machine.execSvcArpIcmpRx icmp target data s
  | .tftpDataRx block data => Sys2Proof.Machine.execTftpDataRx block data s
  | .mirrorObjectExpiry object => Sys2Proof.Machine.execMirrorObjectExpiry object s
  | .formatHubTimeout => Sys2Proof.Machine.execFormatHubTimeout s
  | .safeRstStuck => Sys2Proof.Machine.execSafeRstStuck s

end Sys2Proof.Machine
end

