-- ==== Sys2Proof/Safety.lean ====
section
/-!
DEFINITION. Safety.lean: the terms in which claims are stated: how a command ends, which host commands pass the checks common to all,
and the canonical form of the register files.
-/

namespace Sys2Proof.Machine

/-- A step that goes on: neither a fault nor a refusal. -/
def goesOn (s : State) : Prop := ∃ t, step s = .next t

/-- The command answers a next state, and the state satisfies `p`. -/
def Ends (i : Instr) (s : State) (p : State → Prop) : Prop := ∃ t, exec i s = .next t ∧ p t

/-- A write-class host command passes rows 1 to 3 of Table 11.7 as far as they do not depend on what it carries, and takes effect at
once: the device still fetches descriptors, the issuer is the owner and not fenced, the unit is neither STANDBY nor HOLD, the data buffer
is well formed, no batten of the course has begun, and the unit is not ACTIVE (R27, R346, R349). -/
def admits (c : Cmd) (s : State) : Bool := !s.decommissioned && ((s.accepted c).gateRefusal c false).isNone && !s.logsCommands

/-- A write-class host command passes rows 1 to 3 of Table 11.7 in a unit that carries it to a boundary in its input log (R346, R349). -/
def defers (c : Cmd) (s : State) : Bool := !s.decommissioned && ((s.accepted c).gateRefusal c false).isNone && s.logsCommands

/-- A read-class host command is taken: the device still fetches descriptors and the data buffer is well formed. -/
def opens (c : Cmd) (s : State) : Bool := !s.decommissioned && !malformed c

/-- The unit puts the end of a command out: it applies no partner's log, and for a write-class command it is no standby unit. -/
def posts (op : Nat) (s : State) : Bool := !s.rdg.applying && (s.get Fl.RDG_STATE_STATE != 2 || readClass op || op == 1)

/-- An access of a function to an offset takes place at once: the function exists, none of its accesses is held back, the clock that the
access needs runs, and the device is not in reset (R19, R542, R543). -/
def reaches (f : Fin 4) (a : Nat) (s : State) : Bool :=
  s.present f.val && !(s.hung.any fun h => h.func == f.val) && !s.hangs a && !s.otp.inReset

/-- A write of a function to an offset reaches its register: the access takes place, and writes are taken (R35, Table 1.10). -/
def writes (f : Fin 4) (a : Nat) (s : State) : Bool := reaches f a s && !s.decommissioned

/-- A write of a function to an offset reaches its register, and the function is the owner in a unit that is neither STANDBY nor HOLD. -/
def ownerReaches (f : Fin 4) (a : Nat) (s : State) : Bool :=
  reaches f a s && !s.decommissioned && s.isOwner f.val && !s.standbyOrHold

/-- The capture registers of a function show a write that was ignored or ignored in part (R354). -/
def captured (f : Fin 4) (a : Nat) (w : WswReason) (t : State) : Prop :=
  t.fget f.val Fl.HST_WSW_STATUS_STICKY = 1 ∧ t.fget f.val Fl.HST_WSW_STATUS_REASON = w.code ∧ t.fget f.val Fl.HST_WSW_ADDR_ADDR = a

/-- Offsets whose writes have a rule of their own. -/
def singular (a : Nat) : Bool :=
  [Reg.HST_FENCE, Reg.HST_FENCE_CMD, Reg.HST_WSW_STATUS, Reg.HST_RING_CTRL, Reg.EVT_CURSOR_HI, Reg.RDG_HOLD_CTRL, Reg.SAF_OTP,
    Reg.OTP_FW_CTRL].contains a

/-- Between `s` and `t` the device has put `o` out. -/
def putsOut (o : Out) (s t : State) : Prop := ∃ l m, t.out = l ++ o :: (m ++ s.out)

/-- Between `s` and `t` the end of a command has been put out with a status. -/
def ended (op : Nat) (c : Cmd) (st : Status) (s t : State) : Prop := ∃ i r, putsOut (.completed op c st i r) s t

/-- The register files are in canonical form: indexes rise, and no shared register is listed at its reset value (R35). -/
def State.filesOk (s : State) : Bool :=
  FMap.risingFrom 0 s.regs && (s.regs.all fun p => decide (p.2 ≠ BitVec.ofNat 32 (resetWord p.1)))
    && FMap.risingFrom 0 s.fregs && FMap.risingFrom 0 s.latch && FMap.risingFrom 0 s.held

/-- Between `s` and `t` the credits of a hub have been revoked: a new epoch with no credit, counted and reported, and no other hub
touched (R309). -/
def revoked (h : Nat) (s t : State) : Prop :=
  (t.hub h).state = 3 ∧ (t.hub h).epoch = ((s.hub h).epoch + 1) % 256 ∧ (t.hub h).cmdLimit = 0 ∧ (t.hub h).wbufLimit = 0
    ∧ (t.hub h).unacked = [] ∧ (t.hub h).hello = false ∧ (∀ k : Fin 128, k.val ≠ h → t.hub k.val = s.hub k.val)
    ∧ t.get Fl.ARC_REVOKE_COUNT_COUNT = min (s.get Fl.ARC_REVOKE_COUNT_COUNT + 1) (2 ^ 32 - 1)

/-- A hub waits for no PROGRAM: a revocation that makes no band close (R325). -/
def noProgram (h : Nat) (s : State) : Bool := ((s.hub h).outstanding ++ (s.hub h).waiting).all fun o => o.op != 2

/-- The newest record of the recorder is of a source with its data (R522). -/
def newest (k : Nat) (d : Octets) (t : State) : Bool :=
  match t.evt.records with
  | e :: _ => e.source == k && e.data == padTo 16 d
  | [] => false

/-- The frame that a FRAME_SEND asks for, before its route (R151, R185). -/
def hostFrame (c : Cmd) (i : Nat) (ack : Bool) (data : Octets) : Frame :=
  { origin := .host c, kind := .data, meter := some i, high := c.high, ackReq := ack, secured := true, payload := data }

/-- Of the shared registers, `t` differs from `s` at most in the drop counter of event rings and the counter of lost records. -/
def Counts (s t : State) : Prop := ∀ a, a ≠ Reg.HST_EVT_DROP_COUNT → a ≠ Reg.EVT_LOST_COUNT → t.word a = s.word a

/-- The frame group of a command, by what it leaves: 1 for commands of the host interface, time, lanes, health, soffit and ridge, 4 for
those of them that are accesses of a function; 2 for the archive, the slate link, keys, OTP images and fences, 5 for those of them that
are accesses; 3 for cells, tiles, the switch core and safety; 6 for command rings; 7 for loads and the meter table; 8 for scans, runs,
records and sub-frames; 9 for commits; 10 and 11 for eaves and meters that join; 0 for commands in no group. -/
def frameGroup (i : Instr) : Nat :=
  match i with
  | .secondTick .. | .freqMonitorWindow .. | .ptpSyncRx .. | .ptpFollowUpRx .. | .ptpAnnounceRx .. | .pdelayReqRx ..
  | .pdelayRespRx .. | .pdelayReqTimer .. | .ptpUnsupportedRx .. | .txTimestampEntry .. | .announceTimeout ..
  | .syncTimeout .. | .ppsInEdge .. | .leapSmearStart .. | .leapSmearEnd .. | .replayDone .. | .electionClose .. | .claim ..
  | .heartbeat .. | .handover .. | .release .. | .nop .. | .meterLookup .. | .meterStateRead .. | .keyAttest .. | .timeSet ..
  | .timeRef .. | .eventClear .. | .calInForce .. | .doorbellWrite .. | .dropsWriteback .. | .msixModerationExpiry ..
  | .blockDrainDone .. | .windowFetchDone .. | .laneTrainTimeout .. | .blockLockChange .. | .refclkChange ..
  | .krTrainingTimeout .. | .krRetry .. | .eaveLostTimeout .. | .chainFaultTimer .. | .stagingBoundChange ..
  | .pairDisagreeTimeout .. | .claimBackoffTimer .. | .ridgeCxRx .. | .ridgeEraseRx .. | .ridgeResendTimer ..
  | .ridgeHelloTimer .. | .ridgeLinkTimeout .. | .aloneDecision .. | .splitResolve .. | .joinRequest .. | .joinTimeout ..
  | .catchupDone .. | .metConversion .. | .tamperSample .. | .mainPowerOn .. | .vbatCheck .. | .soffitStart ..
  | .processMonitor .. | .fifoPush .. | .fifoPop .. | .fifoDrop .. | .fifoFlush .. | .patrolScrub .. | .ddrDeviceHot ..
  | .ridgeNopRx .. | .leaseShortWarning .. | .svcLinkChange .. | .svcArpIcmpRx .. | .mirrorObjectExpiry .. | .safeRstStuck .. => 1
  | .rootseedProgram .. | .imageConfirmed .. | .tftpWriteRequest .. | .xmodemReceive .. | .imageReceived .. | .leaseLapse ..
  | .archiveFormat .. | .archiveAdopt .. | .archiveScan .. | .archiveHostWrite .. | .keyWrite .. | .keyGenerate ..
  | .keyDestroy .. | .randomRead .. | .lifecycle .. | .calWrite .. | .defaultsWrite .. | .fenceLinkDown .. | .fenceFlr ..
  | .fenceMasterClear .. | .fenceD3hot .. | .fenceDmaError .. | .pciePerst .. | .slateHelloRx .. | .slateGeometryRx ..
  | .slateCreditRx .. | .slateCplRx .. | .bandVerifyDone .. | .slateStopDoneRx .. | .slateResendTimer .. | .creditTimeout ..
  | .cmdTimeout .. | .hubLinkLost .. | .hubHelloTimer .. | .hubLostTimeout .. | .checkpointTimer .. | .hotGc ..
  | .drbgReseed .. | .otpSupplySettled .. | .slateNopRx .. | .ackNopTimer .. | .tftpDataRx .. | .formatHubTimeout ..
  | .archiveHostRead .. | .laneGroupTrained .. => 2
  | .shedStepDown .. | .meterStateWrite .. | .frameSend .. | .imagePush .. | .switchReq .. | .prepayTopup .. | .safeReset ..
  | .plcFrameRx .. | .plcAckRx .. | .plcAckWaitExpiry .. | .toneMapResponseRx .. | .lbpJoiningRx .. | .routeRequestRx ..
  | .rrepWaitExpiry .. | .routeErrorRx .. | .beaconRequestRx .. | .panConflictRx .. | .failMarkExpiry ..
  | .reassemblyTimeout .. | .gmkSwitch .. | .enhAckRx .. | .radAckWaitExpiry .. | .assocRequestRx .. | .dataRequestRx ..
  | .pendingExpiry .. | .disassocNotifyRx .. | .yelmArrival .. | .switchResultRx .. | .packetAdmit ..
  | .overflowReadReturn .. | .dramReadTimeout .. | .overflowShrinkDone .. | .safetyInputSample ..
  | .inputDiscrepancyTimeout .. | .sealDiscrepancyTimeout .. | .channelExchange .. | .safetyFault .. | .safetySelfTestDone ..
  | .safeRstPulse .. | .armLapse .. | .telegramExpiry .. | .temperatureRead .. => 3
  | .ringEnable .. | .ringDisable .. | .ringAbort .. | .unfence .. | .wswStickyClear .. | .switchover .. | .rejoin ..
  | .evtCursorWrite .. | .evtWindowLatch .. => 4
  | .fenceOwnerCmd .. | .safeOtpProgram .. => 5
  | .entropySample .. | .descriptorPrefetch .. | .dataDmaError .. | .commandDataFetched .. => 6
  | .postCommitPassDone .. | .combPassStart .. | .planLoad .. | .tableLoad .. | .scrubBlockRead .. | .scrubConfirm .. => 7
  | .scanBatch .. | .valleyRetro .. | .retroRunEnd .. | .metSecondRecord .. | .subframeTx .. | .subframeRx ..
  | .rangingInterval .. => 8
  | .planCommit .. | .planCancel .. | .ridgeBulkRx .. => 9
  | .helloRx .. | .rangeRspRx .. | .statusRx .. | .slotMapApply .. => 10
  | .eapPskComplete .. | .radFrameRx .. => 11
  | _ => 0

end Sys2Proof.Machine
end

