-- ==== Sys2Proof/WellFormed.lean ====
section
/-!
DEFINITION. WellFormed.lean: what a command's operands satisfy beyond their types: lengths of measured lists and of data that comes with
a descriptor. The model gives an effect to ill-formed commands too; the check says which of them the block can receive.
-/

namespace Sys2Proof

/-- Data that comes with a descriptor has the length that DATA_LEN gives (R342). -/
def dataFits (c : Cmd) (data : Octets) : Bool := decide (data.length = c.len.toNat)

/-- A batten's inputs: depths and nodes within their ranges (R125, R163, R270). -/
def BattenIn.wf (x : BattenIn) : Bool :=
  decide (x.valleyNodes ≤ 16384) && x.sense.all fun o => decide (o.corr ≤ 256)

/-- SNR values for at most 24 tone groups, and a payload that a datagram can hold (Table 4.2, R152). -/
def PlcFrame.wf (f : PlcFrame) : Bool := decide (f.snr.length ≤ 24) && decide (f.payload.length ≤ 1280)

/-- A payload that a datagram can hold (R152, R182). -/
def RadFrame.wf (f : RadFrame) : Bool := decide (f.payload.length ≤ 1280)

/-- A course exchange holds seven class digests, and its digest 32 octets (Table 15.7). -/
def RidgeCx.wf (x : RidgeCx) : Bool :=
  decide (x.digest.length = 32) && decide (x.classes.length = 7) && (x.classes.all fun d => decide (d.length = 32))
    && match x.index with | some d => decide (d.1.length = 32) && decide (d.2.length = 32) | none => true

/-- The command is well formed. -/
def Instr.wf : Instr → Bool
  | .keyWrite c _ data | .imagePush c _ _ _ _ data | .calWrite c data | .defaultsWrite c data | .archiveHostWrite c _ _ data
  | .planLoad c data | .tableLoad c _ _ _ _ data | .meterStateWrite c _ _ data | .frameSend c _ _ _ data => dataFits c data
  | .keyGenerate _ p => decide (p.label.length = 16)
  | .keyAttest _ _ nonce => decide (nonce.length = 32)
  | .battenStart x => x.wf
  | .plcFrameRx f => f.wf
  | .radFrameRx f => f.wf
  | .ridgeCxRx _ _ x => x.wf
  | .scrubBlockRead _ block => decide (block.length = 4096)
  | .scrubConfirm _ _ octets => decide (octets.length = 16)
  | .metConversion _ codes _ _ => decide (codes.length = 8)
  | .temperatureRead readings => decide (readings.length = 16)
  | .supplySample mv => decide (mv.length = 24)
  | .processMonitor counts => decide (counts.length = 32)
  | .descriptorPrefetch _ _ octets => decide (octets.length = 64)
  | _ => true

end Sys2Proof
end

