-- ==== Sys2Proof/Certificates/Slice0/Obligations.lean ====
section
/-!
DEFINITION. Certificates/Slice0/Obligations.lean: the statements for the provers.
-/

open Sys2Proof Sys2Proof.Machine

/-- Commands on ownership. CLAIM without an owner opens an election with its bid at the present boundary, in an election joins
it, and with an owner ends STATE and leaves ownership; for the owner HEARTBEAT restarts the lease, HANDOVER gives ownership to
a present target that is not fenced and not the owner and ends STATE for any other target, and RELEASE ends ownership; each
that takes effect ends OK. After a batten of the course has begun, and on an ACTIVE unit, each waits in its ring with its
descriptor and takes no effect. A function that is not the owner gets NOT_OWNER. -/
def Obligations.OwnershipCommands : Prop :=
  (∀ c bid s, opens c s = true → s.logsCommands = false → c.len = 0 → s.hst.ownership = .noOwner → s.get Fl.RDG_STATE_STATE ≠ 2 →
    Ends (.claim c bid) s fun t => t.hst.ownership = .election s.now [(c, bid.toNat)] ∧ newest 418 (le 1 c.func.val) t = true)
  ∧ (∀ c bid s n l, opens c s = true → s.logsCommands = false → c.len = 0 → s.hst.ownership = .election n l →
    Ends (.claim c bid) s fun t => t.hst.ownership = .election n (l ++ [(c, bid.toNat)]) ∧ t.regs = s.regs ∧ t.out = s.out)
  ∧ (∀ c bid s f n, opens c s = true → s.logsCommands = false → c.len = 0 → posts 1 s = true → s.hst.ownership = .owned f n →
    Ends (.claim c bid) s fun t => t.hst.ownership = .owned f n ∧ ended 1 c .state s t)
  ∧ (∀ c s, admits c s = true → c.len = 0 → posts 2 s = true →
    Ends (.heartbeat c) s fun t => t.hst.ownership = .owned c.func.val s.now ∧ ended 2 c .ok s t ∧ Counts s t)
  ∧ (∀ c (target : Byte) s, admits c s = true → c.len = 0 → target.toNat ≤ 3 → s.present target.toNat = true →
    (s.fn target.toNat).fenced = false → target.toNat ≠ c.func.val → posts 3 s = true →
    Ends (.handover c target) s fun t => t.hst.ownership = .owned target.toNat s.now ∧ ended 3 c .ok s t)
  ∧ (∀ c (target : Byte) s, admits c s = true → c.len = 0 → target.toNat ≤ 3 →
    (s.present target.toNat = false ∨ (s.fn target.toNat).fenced = true ∨ target.toNat = c.func.val) → posts 3 s = true →
    Ends (.handover c target) s fun t => t.hst.ownership = s.hst.ownership ∧ ended 3 c .state s t)
  ∧ (∀ c s, admits c s = true → c.len = 0 → posts 4 s = true →
    Ends (.release c) s fun t => t.hst.ownership = .noOwner ∧ ended 4 c .ok s t)
  ∧ (∀ c s, defers c s = true → c.len = 0 → exec (.heartbeat c) s = .next (s.cacheCommand 2 c [] [])
    ∧ exec (.release c) s = .next (s.cacheCommand 4 c [] []))
  ∧ (∀ c (bid : BitVec 64) s, opens c s = true → s.logsCommands = true → c.len = 0 →
    exec (.claim c bid) s = .next (s.cacheCommand 1 c (le 8 bid.toNat) []))
  ∧ (∀ c s, s.decommissioned = false → malformed c = false → c.len = 0 → s.isOwner c.func.val = false →
    Ends (.heartbeat c) s (fun t => t.hst.ownership = s.hst.ownership ∧ ended 2 c .notOwner s t)
    ∧ Ends (.release c) s (fun t => t.hst.ownership = s.hst.ownership ∧ ended 4 c .notOwner s t))

/-- Closing of an election, lapse and warning of a lease. ELECTION_CLOSE at least 10 ms after the opening makes the claimant
with the lowest bid among those not fenced the owner and ends its CLAIM with OK, or leaves nobody the owner; before that it
changes nothing. LEASE_LAPSE at or after the end of the lease ends ownership and fences the old owner under cause LEASE, and
before that changes nothing. LEASE_SHORT_WARNING below 50 ms is raised once per lease period. -/
def Obligations.ElectionAndLease : Prop :=
  (∀ s n l w, s.hst.ownership = .election n l → n + 10000000 ≤ s.now → s.rdg.applying = false →
    bestClaim (l.filter fun x => !(s.fn x.1.func.val).fenced) = some w →
    Ends .electionClose s fun t => t.hst.ownership = .owned w.1.func.val s.now ∧ ended 1 w.1 .ok s t)
  ∧ (∀ s n l, s.hst.ownership = .election n l → n + 10000000 ≤ s.now → s.rdg.applying = false →
    bestClaim (l.filter fun x => !(s.fn x.1.func.val).fenced) = none →
    Ends .electionClose s fun t => t.hst.ownership = .noOwner ∧ ∀ x ∈ l, ended 1 x.1 .state s t)
  ∧ (∀ s n l, s.hst.ownership = .election n l → s.now < n + 10000000 → exec .electionClose s = .next s)
  ∧ (∀ s f n, s.hst.ownership = .owned f n → n + s.leaseNs ≤ s.now → (s.fn f).fenced = false →
    Ends .leaseLapse s fun t => t.hst.ownership = .noOwner ∧ (t.fn f).fenced = true ∧ (t.fn f).cause = 5)
  ∧ (∀ s f n, s.hst.ownership = .owned f n → s.now < n + s.leaseNs → exec .leaseLapse s = .next s)
  ∧ (∀ s f, s.owner = some f → s.hst.leaseShortArmed = true → s.leaseLeft < 50 → s.get Fl.RDG_STATE_STATE ≠ 2 →
    Ends .leaseShortWarning s fun t => t.hst.leaseShortArmed = false ∧ newest 426 (le 1 f) t = true ∧ t.hst.ownership = s.hst.ownership)
  ∧ (∀ s, (s.hst.leaseShortArmed = false ∨ 50 ≤ s.leaseLeft) → exec .leaseShortWarning s = .next s)

/-- Causes that fence a function. Each hardware cause of Table 11.9 that begins fences a function that was not fenced, with
its own code; PCIE_PERST driven low fences under cause LINK; a cause that ceases is noted and unfences nothing; FLR also
returns the per-function registers to their reset values; the owner fences the other present functions that it names, never
itself, and a write of another function is captured. A function that is fenced already keeps its first cause. A function that
is fenced has its rings disabled and their caches emptied. -/
def Obligations.FenceCauses : Prop :=
  (∀ (f : Fin 4) s, (s.fn f.val).fenced = false →
    Ends (.fenceLinkDown f true) s (fun t => (t.fn f.val).fenced = true ∧ (t.fn f.val).cause = 1 ∧ (t.fn f.val).linkDown = true)
    ∧ Ends (.fenceFlr f true) s (fun t => (t.fn f.val).fenced = true ∧ (t.fn f.val).cause = 2 ∧ (t.fn f.val).flr = true)
    ∧ Ends (.fenceMasterClear f true) s (fun t => (t.fn f.val).fenced = true ∧ (t.fn f.val).cause = 3 ∧ (t.fn f.val).masterClear = true)
    ∧ Ends (.fenceD3hot f true) s (fun t => (t.fn f.val).fenced = true ∧ (t.fn f.val).cause = 4 ∧ (t.fn f.val).d3hot = true)
    ∧ Ends (.fenceDmaError f) s (fun t => (t.fn f.val).fenced = true ∧ (t.fn f.val).cause = 7)
    ∧ Ends (.pciePerst f true) s (fun t => (t.fn f.val).fenced = true ∧ (t.fn f.val).cause = 1))
  ∧ (∀ (f : Fin 4) s, exec (.fenceLinkDown f false) s = .next (s.setFn f.val { s.fn f.val with linkDown := false })
    ∧ exec (.fenceFlr f false) s = .next (s.setFn f.val { s.fn f.val with flr := false })
    ∧ exec (.fenceMasterClear f false) s = .next (s.setFn f.val { s.fn f.val with masterClear := false })
    ∧ exec (.fenceD3hot f false) s = .next (s.setFn f.val { s.fn f.val with d3hot := false })
    ∧ exec (.pciePerst f false) s = .next (s.setFn f.val { s.fn f.val with linkDown := false }))
  ∧ (∀ (f : Fin 4) s (a : Nat), a < 2 ^ 22 →
    Ends (.fenceFlr f true) s fun t => t.fword f.val a = BitVec.ofNat 32 (resetWord a))
  ∧ (∀ (f k : Fin 4) (mask : BitVec 4) s, writes f Reg.HST_FENCE_CMD s = true → s.isOwner f.val = true → s.standbyOrHold = false →
    (s.fn k.val).fenced = false →
    Ends (.fenceOwnerCmd f mask) s fun t =>
      (t.fn k.val).fenced = (bitOf k.val mask.toNat && k != f && s.present k.val)
      ∧ ((t.fn k.val).fenced = true → (t.fn k.val).cause = 6))
  ∧ (∀ (f : Fin 4) (mask : BitVec 4) s, writes f Reg.HST_FENCE_CMD s = true → s.isOwner f.val = false →
    s.fget f.val Fl.HST_WSW_STATUS_STICKY = 0 →
    Ends (.fenceOwnerCmd f mask) s fun t => captured f Reg.HST_FENCE_CMD .notOwner t ∧ ∀ k : Fin 4, (t.fn k.val).fenced = (s.fn k.val).fenced)
  ∧ (∀ (f : Fin 4) s, (s.fn f.val).fenced = true →
    Ends (.fenceD3hot f true) s fun t => (t.fn f.val).fenced = true ∧ (t.fn f.val).cause = (s.fn f.val).cause)
  ∧ (∀ (f : Fin 4) (r : Fin 256) s, (s.fn f.val).fenced = false →
    Ends (.fenceD3hot f true) s fun t => (t.ring f.val r.val).enabled = false ∧ (t.ring f.val r.val).cache = [])

/-- A function unfences itself. A write of UNFENCE by a fenced function is accepted exactly when the causes LINK, FLR, MASTER
and D3 hold no longer: then the function is no longer fenced, HST_UNFENCED is raised, and a ring that it then enables starts
with its indexes at 0. Otherwise the write is ignored and captured: the function stays fenced, and with STICKY at 0 the
capture shows reason STATE (101b). -/
def Obligations.Unfencing : Prop :=
  (∀ (f : Fin 4) s, writes f Reg.HST_FENCE s = true → (s.fn f.val).fenced = true → (s.fn f.val).linkDown = false →
    (s.fn f.val).flr = false → (s.fn f.val).masterClear = false → (s.fn f.val).d3hot = false → s.get Fl.RDG_STATE_STATE ≠ 2 →
    Ends (.unfence f) s fun t => (t.fn f.val).fenced = false ∧ newest 420 (le 1 f.val) t = true)
  ∧ (∀ (f : Fin 4) s, writes f Reg.HST_RING_CTRL s = true → (s.ring f.val (s.ringSel f.val)).enabled = false →
    (s.ring f.val (s.ringSel f.val)).idle = true →
    Ends (.ringEnable f) s fun t =>
      (t.ring f.val (s.ringSel f.val)).enabled = true ∧ (t.ring f.val (s.ringSel f.val)).pidx = 0
      ∧ (t.ring f.val (s.ringSel f.val)).cidx = 0)
  ∧ (∀ (f : Fin 4) s, writes f Reg.HST_FENCE s = true → (s.fn f.val).fenced = true →
    ((s.fn f.val).linkDown = true ∨ (s.fn f.val).flr = true ∨ (s.fn f.val).masterClear = true ∨ (s.fn f.val).d3hot = true) →
    Ends (.unfence f) s fun t => (t.fn f.val).fenced = true
      ∧ (s.fget f.val Fl.HST_WSW_STATUS_STICKY = 0 → captured f Reg.HST_FENCE .blockState t))

/-- Ring control, doorbells, drops and moderation. ENABLE of a ring that is not enabled and not idle is captured. Disabling a
ring that no working COMMAND ring needs stops it, and one that is needed is captured; an ABORT with ENABLE 0 on a COMMAND ring
that is not idle disables it, empties its cache and ends every cached command with ABORTED. A doorbell of the right form on an
enabled ring out of ERROR moves the host index to a valid value, puts the ring into ERROR on an invalid one, and one of
another form is counted. Drops that are owed are written back; when the moderation time ends, one message covers what is owed.
Clearing STICKY clears the capture registers. -/
def Obligations.RingControl : Prop :=
  (∀ (f : Fin 4) s, writes f Reg.HST_RING_CTRL s = true → (s.ring f.val (s.ringSel f.val)).enabled = false →
    (s.ring f.val (s.ringSel f.val)).idle = false → s.fget f.val Fl.HST_WSW_STATUS_STICKY = 0 →
    Ends (.ringEnable f) s fun t => (t.ring f.val (s.ringSel f.val)).enabled = false ∧ captured f Reg.HST_RING_CTRL .blockState t)
  ∧ (∀ (f : Fin 4) s, writes f Reg.HST_RING_CTRL s = true → (s.ring f.val (s.ringSel f.val)).enabled = true →
    s.ringNeeded f.val (s.ringSel f.val) = false →
    exec (.ringDisable f) s = .next (s.setRing f.val (s.ringSel f.val) { s.ring f.val (s.ringSel f.val) with enabled := false }))
  ∧ (∀ (f : Fin 4) s, writes f Reg.HST_RING_CTRL s = true → (s.ring f.val (s.ringSel f.val)).enabled = true →
    s.ringNeeded f.val (s.ringSel f.val) = true → s.fget f.val Fl.HST_WSW_STATUS_STICKY = 0 →
    Ends (.ringDisable f) s fun t => (t.ring f.val (s.ringSel f.val)).enabled = true ∧ captured f Reg.HST_RING_CTRL .blockState t)
  ∧ (∀ (f : Fin 4) s, writes f Reg.HST_RING_CTRL s = true → (s.ring f.val (s.ringSel f.val)).type = 0 →
    (s.ring f.val (s.ringSel f.val)).idle = false →
    Ends (.ringAbort f false) s fun t =>
      (t.ring f.val (s.ringSel f.val)).enabled = false ∧ (t.ring f.val (s.ringSel f.val)).cache = []
      ∧ ∀ d ∈ (s.ring f.val (s.ringSel f.val)).cache,
          ended (leAt d.octets 0 1) (cmdOf f.val (s.ringSel f.val) d.octets) .aborted s t)
  ∧ (∀ (f : Fin 4) s, writes f Reg.HST_RING_CTRL s = true → s.fget f.val Fl.HST_WSW_STATUS_STICKY = 0 →
    Ends (.ringAbort f true) s fun t => captured f Reg.HST_RING_CTRL .blockState t
      ∧ (t.ring f.val (s.ringSel f.val)).cache = (s.ring f.val (s.ringSel f.val)).cache)
  ∧ (∀ (f : Fin 4) (r : Fin 256) (index : Word) s, s.decommissioned = false → (s.ring f.val r.val).enabled = true →
    (s.ring f.val r.val).err = false → (s.ring f.val r.val).indexValid index = true →
    Ends (.doorbellWrite f (BitVec.ofNat 20 (8 * r.val)) true (BitVec.ofNat 64 (r.val * 2 ^ 32 + index.toNat))) s fun t =>
      (t.ring f.val r.val).err = false
      ∧ (if (s.ring f.val r.val).type = 0 then (t.ring f.val r.val).pidx else (t.ring f.val r.val).cidx) = index)
  ∧ (∀ (f : Fin 4) (r : Fin 256) (index : Word) s, s.decommissioned = false → (s.ring f.val r.val).enabled = true →
    (s.ring f.val r.val).err = false → (s.ring f.val r.val).indexValid index = false → s.get Fl.RDG_STATE_STATE ≠ 2 →
    Ends (.doorbellWrite f (BitVec.ofNat 20 (8 * r.val)) true (BitVec.ofNat 64 (r.val * 2 ^ 32 + index.toNat))) s fun t =>
      (t.ring f.val r.val).err = true ∧ newest 423 (le 1 f.val) t = true)
  ∧ (∀ (f : Fin 4) (r : Fin 256) (v : BitVec 64) s, s.decommissioned = false → s.get Fl.RDG_STATE_STATE ≠ 2 →
    Ends (.doorbellWrite f (BitVec.ofNat 20 (8 * r.val)) false v) s fun t =>
      t.get Fl.HST_DB_ERR_COUNT_COUNT = min (s.get Fl.HST_DB_ERR_COUNT_COUNT + 1) (2 ^ 32 - 1) ∧ newest 425 (le 1 f.val) t = true)
  ∧ (∀ (f : Fin 4) (r : Fin 256) s, (s.ring f.val r.val).dropsOwed = true → (s.ring f.val r.val).enabled = true →
    (s.ring f.val r.val).err = false → (s.fn f.val).fenced = false →
    Ends (.dropsWriteback f r) s fun t => (t.ring f.val r.val).dropsOwed = false
      ∧ t.out = .writeBack f.val r.val (s.ring f.val r.val).pidx (s.ring f.val r.val).drops :: s.out)
  ∧ (∀ (f : Fin 4) (r : Fin 256) s, (s.ring f.val r.val).moderating = true → (s.fn f.val).fenced = false →
    Ends (.msixModerationExpiry f r) s fun t =>
      if (s.ring f.val r.val).messageOwed then
        (t.ring f.val r.val).messageOwed = false ∧ t.out = .msix f.val (bitsOf 5 0 (s.ring f.val r.val).cfg.toNat) :: s.out
      else (t.ring f.val r.val).moderating = false ∧ t.out = s.out)
  ∧ (∀ (f : Fin 4) s, writes f Reg.HST_WSW_STATUS s = true → s.fget f.val Fl.HST_WSW_STATUS_STICKY = 1 →
    Ends (.wswStickyClear f) s fun t => t.fword f.val Reg.HST_WSW_STATUS = 0 ∧ t.fword f.val Reg.HST_WSW_ADDR = 0)

/-- Reading descriptors and their data. DESCRIPTOR_PREFETCH of a descriptor that a doorbell has covered, with room in the
cache and in the completion ring, caches it, advances CIDX with its write-back, reserves a completion slot, and accepts from
the cache in ring order; a write-class descriptor whose data is still to be read waits there, and with nothing covered nothing
is read. COMMAND_DATA_FETCHED completes the data of the descriptor at the head and accepts on: a write-class command that the
gate passes enters the input log and is counted. DATA_DMA_ERROR ends that command with HW_FAULT, is counted and never fences.
-/
def Obligations.Descriptors : Prop :=
  (∀ (f : Fin 4) (r : Fin 256) (d : Octets) s, s.decommissioned = false → (s.ring f.val r.val).enabled = true →
    (s.ring f.val r.val).err = false → (s.ring f.val r.val).type = 0 → (s.fn f.val).fenced = false →
    (s.ring f.val r.val).pidx ≠ (s.ring f.val r.val).cidx → (s.ring f.val r.val).cache.length < 16 →
    (s.ring f.val (s.ring f.val r.val).cplRing).enabled = true → (s.ring f.val (s.ring f.val r.val).cplRing).err = false →
    (s.ring f.val (s.ring f.val r.val).cplRing).type = 1 →
    (s.ring f.val (s.ring f.val r.val).cplRing).held + (s.ring f.val (s.ring f.val r.val).cplRing).reserved
      < (s.ring f.val (s.ring f.val r.val).cplRing).size →
    ∃ u : State, exec (.descriptorPrefetch f r d) s = .next (State.acceptRing 17 f.val r.val u)
      ∧ (u.ring f.val r.val).cache.map (·.octets) = (s.ring f.val r.val).cache.map (·.octets) ++ [d]
      ∧ (u.ring f.val r.val).cidx = (s.ring f.val r.val).cidx + 1
      ∧ (u.ring f.val (s.ring f.val r.val).cplRing).reserved = (s.ring f.val (s.ring f.val r.val).cplRing).reserved + 1
      ∧ u.out = .writeBack f.val r.val ((s.ring f.val r.val).cidx + 1) 0 :: s.out)
  ∧ (∀ (f : Fin 4) (r : Fin 256) (d : Octets) s i, s.decommissioned = false → (s.ring f.val r.val).enabled = true →
    (s.ring f.val r.val).err = false → (s.ring f.val r.val).type = 0 → (s.fn f.val).fenced = false →
    (s.ring f.val r.val).pidx ≠ (s.ring f.val r.val).cidx → (s.ring f.val r.val).cache = [] →
    (s.ring f.val (s.ring f.val r.val).cplRing).enabled = true → (s.ring f.val (s.ring f.val r.val).cplRing).err = false →
    (s.ring f.val (s.ring f.val r.val).cplRing).type = 1 →
    (s.ring f.val (s.ring f.val r.val).cplRing).held + (s.ring f.val (s.ring f.val r.val).cplRing).reserved
      < (s.ring f.val (s.ring f.val r.val).cplRing).size →
    commandOf f.val r.val d [] = some i → readClass (leAt d 0 1) = false → commandBad i = false → s.isOwner f.val = true →
    s.standbyOrHold = false → malformed (cmdOf f.val r.val d) = false → (cmdOf f.val r.val d).len ≠ 0 →
    Ends (.descriptorPrefetch f r d) s fun t => (t.ring f.val r.val).cache = [{ octets := d }]
      ∧ (t.ring f.val r.val).cidx = (s.ring f.val r.val).cidx + 1
      ∧ (t.ring f.val (s.ring f.val r.val).cplRing).reserved = (s.ring f.val (s.ring f.val r.val).cplRing).reserved + 1
      ∧ t.out = .writeBack f.val r.val ((s.ring f.val r.val).cidx + 1) 0 :: s.out ∧ t.hst.inputLog = s.hst.inputLog)
  ∧ (∀ (f : Fin 4) (r : Fin 256) (d : Octets) s, (s.ring f.val r.val).pidx = (s.ring f.val r.val).cidx →
    exec (.descriptorPrefetch f r d) s = .next s)
  ∧ (∀ (f : Fin 4) (r : Fin 256) (sgl : List ScatterEntry) (data : Octets) s d rest,
    s.fetchOwed f.val r.val = some (d, rest) →
    ∃ u : State, exec (.commandDataFetched f r sgl data) s = .next (State.acceptRing 17 f.val r.val u)
      ∧ (u.ring f.val r.val).cache.map (·.octets) = (s.ring f.val r.val).cache.map (·.octets)
      ∧ ((u.ring f.val r.val).cache.head?.map (·.fetched)) = some true)
  ∧ (∀ (f : Fin 4) (r : Fin 256) (data : Octets) s d i, s.fetchOwed f.val r.val = some (d, []) →
    [0x10, 0x1A, 0x20, 0x21, 0x3C, 0x40, 0x62].contains (leAt d.octets 0 1) = true → bitOf 1 (leAt d.octets 1 1) = false →
    bitOf 2 (leAt d.octets 1 1) = false → data.length = leAt d.octets 16 4 → d.object = 0 →
    commandOf f.val r.val d.octets data = some i → commandBad i = false → (s.ring f.val r.val).err = false →
    s.isOwner f.val = true → s.get Fl.RDG_STATE_STATE = 0 → malformed (cmdOf f.val r.val d.octets) = false →
    s.loggedCommands < 256 →
    Ends (.commandDataFetched f r [] data) s fun t =>
      t.hst.inputLog = s.hst.inputLog ++ [.command f.val r.val d.octets data 0] ∧ (t.ring f.val r.val).cache = []
      ∧ t.get Fl.HST_CMD_COUNT_COUNT = min (s.get Fl.HST_CMD_COUNT_COUNT + 1) (2 ^ 32 - 1) ∧ t.out = s.out)
  ∧ (∀ (f : Fin 4) (r : Fin 256) s d, s.fetchOwed f.val r.val = some (d, []) → readClass (leAt d.octets 0 1) = true →
    Ends (.dataDmaError f r) s fun t => (t.ring f.val r.val).cache = [] ∧ (t.fn f.val).fenced = (s.fn f.val).fenced
      ∧ ended (leAt d.octets 0 1) (cmdOf f.val r.val d.octets) .hwFault s t
      ∧ t.get Fl.HST_DMA_ERR_COUNT_COUNT = min (s.get Fl.HST_DMA_ERR_COUNT_COUNT + 1) (2 ^ 32 - 1))
  ∧ (∀ (f : Fin 4) (r : Fin 256) s d i, s.fetchOwed f.val r.val = some (d, []) → readClass (leAt d.octets 0 1) = false →
    commandOf f.val r.val d.octets d.data = some i → commandBad i = false → malformed (cmdOf f.val r.val d.octets) = false →
    s.isOwner f.val = true → s.standbyOrHold = false →
    Ends (.dataDmaError f r) s fun t => (t.ring f.val r.val).cache = [] ∧ (t.fn f.val).fenced = false
      ∧ ended (leAt d.octets 0 1) (cmdOf f.val r.val d.octets) .hwFault s t)
  ∧ (∀ (f : Fin 4) (r : Fin 256) sgl data s, s.fetchOwed f.val r.val = none →
    exec (.commandDataFetched f r sgl data) s = .next s ∧ exec (.dataDmaError f r) s = .next s)

/-- Read-class commands of the host interface. NOP answers the current course. METER_LOOKUP answers whether the key hits and
does not count as a hit. METER_STATE_READ returns COUNT records of 256 octets to the data buffer, and a count out of range
ends RANGE. All of them are open to every function, end with a status, and change no register but the counters of dropped and
lost records. -/
def Obligations.ReadCommands : Prop :=
  (∀ c s, opens c s = true → c.len = 0 → s.rdg.applying = false →
    Ends (.nop c) s fun t => putsOut (.completed 5 c .ok 0 (padTo 48 (le 8 s.course))) s t ∧ Counts s t)
  ∧ (∀ c (key : BitVec 64) s i p, opens c s = true → c.len = 0 → s.rdg.applying = false → s.lookup key.toNat = some (i, p) →
    Ends (.meterLookup c key) s fun t =>
      putsOut (.completed 0x18 c .ok 0 (padTo 48 (le 4 (i + 2 ^ 31) ++ le 1 (b2n p)))) s t ∧ t.mtb = s.mtb ∧ Counts s t)
  ∧ (∀ c (key : BitVec 64) s, opens c s = true → c.len = 0 → s.rdg.applying = false → s.lookup key.toNat = none →
    Ends (.meterLookup c key) s fun t => putsOut (.completed 0x18 c .ok 0 (padTo 48 (zeros 5))) s t ∧ t.mtb = s.mtb ∧ Counts s t)
  ∧ (∀ c (first count : BitVec 32) s, opens c s = true → c.len.toNat = 256 * count.toNat → 1 ≤ count.toNat → count.toNat ≤ 4096 →
    first.toNat + count.toNat ≤ 1048576 → s.rdg.applying = false → (s.fn c.func.val).fenced = false →
    Ends (.meterStateRead c first count) s fun t => ended 0x19 c .ok s t ∧ t.meters = s.meters ∧ Counts s t
      ∧ putsOut (.hostData c ((List.range count.toNat).map fun k => (s.meterRec (first.toNat + k)).octets).flatten) s t)
  ∧ (∀ c (first count : BitVec 32) s, opens c s = true → c.len.toNat = 256 * count.toNat → s.rdg.applying = false →
    (count.toNat = 0 ∨ 4096 < count.toNat ∨ 1048576 < first.toNat + count.toNat) →
    Ends (.meterStateRead c first count) s fun t => ended 0x19 c .range s t ∧ t.meters = s.meters ∧ Counts s t)
  ∧ (∀ c (key : BitVec 64) s, opens c s = true → c.len ≠ 0 → s.rdg.applying = false →
    Ends (.meterLookup c key) s fun t => ended 0x18 c .illegal s t)

/-- Writes to registers. A write of another size than 32 bits, or not aligned, changes nothing; so does one to an undefined
offset, and one while the device is in reset. A write that hangs is held behind the others of its function. A write that is
refused leaves every register but the two counters of lost events and is captured with the first reason that applies; a
register of RWO or RWS fields refuses a function that is not the owner as NOT_OWNER, and one of RWS fields under a closed seal
the owner. A write that is accepted by a per-function register gives the writer the written fields, one that a shared register
of a unit that is not ACTIVE accepts from the owner gives it the basic fields, and one clears the W1C bits of a shared
register that holds nothing else to write. -/
def Obligations.RegisterWrites : Prop :=
  (∀ (f : Fin 4) (a : BitVec 22) (n : Fin 17) v s, (n.val ≠ 4 ∨ a.toNat % 4 ≠ 0) → exec (.registerWrite f a n v) s = .next s)
  ∧ (∀ (f : Fin 4) (a : BitVec 22) v s, reaches f a.toNat s = true → regRow a.toNat = none → exec (.registerWrite f a 4 v) s = .next s)
  ∧ (∀ (f : Fin 4) (a : BitVec 22) v s, s.otp.inReset = true → (s.hung.any fun h => h.func == f.val) = false →
    exec (.registerWrite f a 4 v) s = .next s)
  ∧ (∀ (f : Fin 4) (a : BitVec 22) v s, s.present f.val = true → a.toNat % 4 = 0 → s.otp.inReset = false → s.hangs a.toNat = true →
    exec (.registerWrite f a 4 v) s = .next { s with hung := s.hung ++ [⟨f.val, a.toNat, some v⟩] })
  ∧ (∀ (f : Fin 4) (a : BitVec 22) v s r w, writes f a.toNat s = true → a.toNat % 4 = 0 →
    regRow a.toNat = some r → singular a.toNat = false → s.writeRefusal f.val a.toNat v r = some w →
    Ends (.registerWrite f a 4 v) s fun t => Counts s t ∧ t.cfgPend = s.cfgPend ∧ t.hst.inputLog = s.hst.inputLog
      ∧ (s.fget f.val Fl.HST_WSW_STATUS_STICKY = 0 → captured f a.toNat w t))
  ∧ (∀ (f : Fin 4) (a : BitVec 22) v s r, writes f a.toNat s = true → a.toNat % 4 = 0 →
    regRow a.toNat = some r → singular a.toNat = false → r.owned = true → s.isOwner f.val = false →
    s.fget f.val Fl.HST_WSW_STATUS_STICKY = 0 →
    Ends (.registerWrite f a 4 v) s fun t => Counts s t ∧ captured f a.toNat .notOwner t)
  ∧ (∀ (f : Fin 4) (a : BitVec 22) v s r, ownerReaches f a.toNat s = true → a.toNat % 4 = 0 →
    regRow a.toNat = some r → singular a.toNat = false → r.sealedFields = true → s.flag Fl.SAF_PINS_SEAL_OPEN = false →
    s.fget f.val Fl.HST_WSW_STATUS_STICKY = 0 →
    Ends (.registerWrite f a 4 v) s fun t => Counts s t ∧ captured f a.toNat .sealClosed t)
  ∧ (∀ (f : Fin 4) (a : BitVec 22) v s r, writes f a.toNat s = true → a.toNat % 4 = 0 →
    regRow a.toNat = some r → singular a.toNat = false → s.writeRefusal f.val a.toNat v r = none → s.carriesExpert a.toNat v r = false →
    r.owned = false → r.perFunc = true → pairLo a.toNat = none → (a.toNat < Reg.HST_RING_CFG ∨ Reg.HST_RING_WB_HI < a.toNat) →
    Ends (.registerWrite f a 4 v) s fun t => t.fword f.val a.toNat = r.merge (fun _ => true) (s.fword f.val a.toNat) v
      ∧ (∀ b, t.word b = s.word b))
  ∧ (∀ (f : Fin 4) (a : BitVec 22) v s r, ownerReaches f a.toNat s = true → a.toNat % 4 = 0 →
    regRow a.toNat = some r → singular a.toNat = false → s.writeRefusal f.val a.toNat v r = none →
    s.flag Fl.GLB_EXPERT_EN_EN = false → s.carriesExpert a.toNat v r = false →
    r.owned = true → r.perFunc = false → hasHeader (a.toNat / 65536) = true → 8 ≤ a.toNat % 65536 → boundaryBasic a.toNat = false →
    a.toNat ∉ [Reg.CRS_STAGE_SEAL, Reg.MTB_SHADOW_LO, Reg.MTB_SHADOW_HI, Reg.REC_BILL_CFG, Reg.TMP_CFG] → isSeed a.toNat = false →
    a.toNat ≠ Reg.SWC_QLIMIT 0 → a.toNat ≠ Reg.SWC_QLIMIT 1 → s.get Fl.RDG_STATE_STATE ≠ 1 →
    Ends (.registerWrite f a 4 v) s fun t =>
      t.word a.toNat = r.merge (fun x => if x.expert then false else true) (r.cleared a.toNat (s.word a.toNat) v) v
      ∧ (∀ b, b ≠ a.toNat → t.word b = s.word b) ∧ t.fregs = s.fregs)
  ∧ (∀ (f : Fin 4) (a : BitVec 22) v s r, writes f a.toNat s = true → a.toNat % 4 = 0 →
    regRow a.toNat = some r → singular a.toNat = false → s.writeRefusal f.val a.toNat v r = none → s.carriesExpert a.toNat v r = false →
    r.owned = false → r.perFunc = false → pairLo a.toNat = none → (a.toNat < Reg.HST_RING_CFG ∨ Reg.HST_RING_WB_HI < a.toNat) →
    Ends (.registerWrite f a 4 v) s fun t => t.word a.toNat = r.cleared a.toNat (s.word a.toNat) v ∧ t.fregs = s.fregs)

/-- Reads of registers, 64-bit quantities and held accesses. A read puts out the value shown to its function; a read of a _LO
register latches for the reader the values of the registers that go with it; a read returns fields of the RC type and leaves
them at their reset value and the others as they were, so a counter then holds 0; a read of another size returns 0 and clears
nothing. The _LO write of a ring base is held and changes nothing yet, and the _HI write applies both halves in one step. An
access held back stays while its clock is stopped, and completes when the clock runs. In reset a read ends in an error. -/
def Obligations.RegisterReads : Prop :=
  (∀ (f : Fin 4) (a : BitVec 22) s, reaches f a.toNat s = true → a.toNat % 4 = 0 → latchedBy a.toNat ≠ [] →
    Ends (.loReadLatch f a) s fun t => t.out = .readData f.val a.toNat (s.shownWord f.val a.toNat) :: s.out
      ∧ (∀ b ∈ latchedBy a.toNat, t.shownWord f.val b = s.liveWord f.val b))
  ∧ (∀ (f : Fin 4) (a : BitVec 22) s r, reaches f a.toNat s = true → a.toNat % 4 = 0 → regRow a.toNat = some r →
    (r.fields.any fun x => x.acc == .rc) = true → latchedBy a.toNat = [] → a.toNat < Reg.EVT_WIN 0 →
    a.toNat ≠ Reg.KEY_RNG_DATA → a.toNat ≠ Reg.KEY_NOISE_RAW →
    Ends (.counterReadClear f a 4) s fun t => t.out = .readData f.val a.toNat (s.shownWord f.val a.toNat) :: s.out
      ∧ t.word a.toNat = BitVec.ofNat 32 (r.fields.foldl (fun n x => if x.acc == .rc then putBits x.hi x.lo n x.rst else n)
          (s.word a.toNat).toNat)
      ∧ (∀ b, b ≠ a.toNat → t.word b = s.word b))
  ∧ (∀ (f : Fin 4) s, reaches f Reg.HST_DB_ERR_COUNT s = true →
    Ends (.counterReadClear f (BitVec.ofNat 22 Reg.HST_DB_ERR_COUNT) 4) s fun t => t.word Reg.HST_DB_ERR_COUNT = 0#32)
  ∧ (∀ (f : Fin 4) (a : BitVec 22) (n : Fin 17) s, s.present f.val = true → n.val ≠ 4 →
    Ends (.counterReadClear f a n) s fun t => t.out = .readData f.val a.toNat 0#32 :: s.out ∧ t.regs = s.regs)
  ∧ (∀ (f : Fin 4) (a : BitVec 22) s, s.present f.val = true → (s.hung.any fun h => h.func == f.val) = false → a.toNat % 4 = 0 →
    s.otp.inReset = true → exec (.counterReadClear f a 4) s = .next (s.emit (.readAbort f.val a.toNat)))
  ∧ (∀ (f : Fin 4) v s, writes f Reg.HST_RING_BASE_LO s = true → (s.ring f.val (s.ringSel f.val)).idle = true →
    Ends (.loWriteHold f (BitVec.ofNat 22 Reg.HST_RING_BASE_LO) v) s fun t =>
      (t.held.find? fun p => p.1 == f.val) = some (f.val, v &&& 0xFFFFF000#32) ∧ t.hst = s.hst)
  ∧ (∀ (f : Fin 4) v lo s, writes f Reg.HST_RING_BASE_HI s = true → (s.ring f.val (s.ringSel f.val)).idle = true →
    (s.held.find? fun p => p.1 == f.val) = some (f.val, lo) →
    Ends (.hiWriteApply f (BitVec.ofNat 22 Reg.HST_RING_BASE_HI) v) s fun t =>
      (t.ring f.val (t.ringSel f.val)).base = BitVec.ofNat 64 ((lo &&& 0xFFFFF000#32).toNat + 2 ^ 32 * v.toNat)
      ∧ (t.held.find? fun p => p.1 == f.val) = none)
  ∧ (∀ (f : Fin 4) s h, s.hung = [h] → h.func = f.val → s.hangs h.addr = true → exec (.stoppedAccessResume f) s = .next s)
  ∧ (∀ (f : Fin 4) s h, s.hung = [h] → h.func = f.val → s.hangs h.addr = false →
    exec (.stoppedAccessResume f) s = .next (({ s with hung := [] }).access f h.addr h.write))
  ∧ (∀ (f : Fin 4) s h, s.hung = [h] → h.func = f.val → h.write = none → s.hangs h.addr = false → s.otp.inReset = false →
    h.addr < Reg.EVT_WIN 0 → h.addr ≠ Reg.KEY_RNG_DATA → h.addr ≠ Reg.KEY_NOISE_RAW →
    Ends (.stoppedAccessResume f) s fun t => t.hung = [] ∧ t.out = .readData f.val h.addr (s.shownWord f.val h.addr) :: s.out)

/-- Enabling, disabling and aborting blocks, presets and the expert enable. In a unit that is not ACTIVE, an accepted write of
BLK_CTRL shows ENABLE at once, leaves the effective enable of the block as it is and waits for the boundary; enabling an idle
block clears IDLE; ABORT on a block that is not idle shows ABORTING and waits with it, and ABORT with ENABLE is captured. In
ACTIVE the write enters the log instead. A block that cannot be disabled refuses the write as BLOCK_STATE, and a write of
ENABLE to it changes nothing. A disabled block with nothing in flight sets IDLE, clears ABORTING and raises its event; any
other stays. A defined preset waits for the boundary, an undefined code is refused as RESERVED_CODE. GLB_EXPERT_EN.EN takes
its value at once, with its event. -/
def Obligations.BlockControl : Prop :=
  (∀ (f : Fin 4) (b : Fin 22) s, disablable b.val = true → ownerReaches f (b.val * 0x10000) s = true → s.get Fl.RDG_STATE_STATE ≠ 1 →
    Ends (.blockDisable f b) s fun t => t.flag (Fl.CTRL_ENABLE b.val) = false ∧ t.enabled b.val = s.enabled b.val
      ∧ t.cfgPend = s.cfgPend ++ [.enable b.val false])
  ∧ (∀ (f : Fin 4) (b : Fin 22) s, disablable b.val = true → ownerReaches f (b.val * 0x10000) s = true → s.get Fl.RDG_STATE_STATE = 1 →
    Ends (.blockDisable f b) s fun t => t.flag (Fl.CTRL_ENABLE b.val) = false ∧ t.enabled b.val = s.enabled b.val
      ∧ t.cfgPend = s.cfgPend ∧ t.hst.inputLog = s.hst.inputLog ++ [.regWrite f.val (b.val * 0x10000) 0#32 false])
  ∧ (∀ (f : Fin 4) (b : Fin 22) s, disablable b.val = true → ownerReaches f (b.val * 0x10000) s = true → s.get Fl.RDG_STATE_STATE ≠ 1 →
    s.draining b.val = false →
    Ends (.blockEnable f b) s fun t => t.flag (Fl.CTRL_ENABLE b.val) = true ∧ t.flag (Fl.STATUS_IDLE b.val) = false
      ∧ t.enabled b.val = s.enabled b.val ∧ t.cfgPend = s.cfgPend ++ [.enable b.val true])
  ∧ (∀ (f : Fin 4) (b : Fin 22) s, disablable b.val = true → ownerReaches f (b.val * 0x10000) s = true → s.get Fl.RDG_STATE_STATE ≠ 1 →
    s.flag (Fl.STATUS_IDLE b.val) = false →
    Ends (.blockAbort f b false) s fun t => t.flag (Fl.CTRL_ENABLE b.val) = false ∧ t.flag (Fl.STATUS_ABORTING b.val) = true
      ∧ t.cfgPend = s.cfgPend ++ [.enable b.val false, .abort b.val])
  ∧ (∀ (f : Fin 4) (b : Fin 22) s, disablable b.val = true → ownerReaches f (b.val * 0x10000) s = true →
    s.fget f.val Fl.HST_WSW_STATUS_STICKY = 0 →
    Ends (.blockAbort f b true) s fun t => Counts s t ∧ t.cfgPend = s.cfgPend ∧ captured f (b.val * 0x10000) .blockState t)
  ∧ (∀ (f : Fin 4) (b : Fin 22) s, disablable b.val = false → hasHeader b.val = true → ownerReaches f (b.val * 0x10000) s = true →
    s.fget f.val Fl.HST_WSW_STATUS_STICKY = 0 →
    Ends (.blockDisable f b) s fun t => Counts s t ∧ captured f (b.val * 0x10000) .blockState t)
  ∧ (∀ (f : Fin 4) (b : Fin 22) s, disablable b.val = false → hasHeader b.val = true → ownerReaches f (b.val * 0x10000) s = true →
    s.get Fl.RDG_STATE_STATE ≠ 1 → Ends (.blockEnable f b) s fun t => Counts s t ∧ t.cfgPend = s.cfgPend)
  ∧ (∀ (b : Fin 22) s, s.draining b.val = true → s.quiet b.val = true → s.get Fl.RDG_STATE_STATE ≠ 2 →
    Ends (.blockDrainDone b) s fun t => t.flag (Fl.STATUS_IDLE b.val) = true ∧ t.flag (Fl.STATUS_ABORTING b.val) = false
      ∧ newest (idleEvent b.val) [] t = true)
  ∧ (∀ (b : Fin 22) s, s.quiet b.val = false → exec (.blockDrainDone b) s = .next s)
  ∧ (∀ (f : Fin 4) (b : Fin 22) (code : Byte) s, hasHeader b.val = true → ownerReaches f (b.val * 0x10000 + 4) s = true →
    s.get Fl.RDG_STATE_STATE ≠ 1 → code.toNat ≤ profileMost b.val →
    Ends (.profileWrite f b code) s fun t => t.cfgPend = s.cfgPend ++ [.profile b.val code.toNat] ∧ Counts s t)
  ∧ (∀ (f : Fin 4) (b : Fin 22) (code : Byte) s, hasHeader b.val = true → ownerReaches f (b.val * 0x10000 + 4) s = true →
    profileMost b.val < code.toNat → s.fget f.val Fl.HST_WSW_STATUS_STICKY = 0 →
    Ends (.profileWrite f b code) s fun t => t.cfgPend = s.cfgPend ∧ captured f (b.val * 0x10000 + 4) .reservedCode t)
  ∧ (∀ (f : Fin 4) on s, ownerReaches f Reg.GLB_EXPERT_EN s = true → s.get Fl.RDG_STATE_STATE = 0 →
    Ends (.expertEnableWrite f on) s fun t => t.flag Fl.GLB_EXPERT_EN_EN = on
      ∧ (s.flag Fl.GLB_EXPERT_EN_EN ≠ on → newest (if on then 3 else 4) (le 1 (if on then f.val else 1)) t = true))

/-- Register writes with a rule of their own. In a unit that is not ACTIVE: the seal of staging is set and cleared at once,
and cannot be cleared while a commit is pending; a seed is taken at the boundary under EN with an empty table, not before
that, and without EN it is ignored and captured as NO_EXPERT; both words of the shadow address act in one step and name the
writer; the billing resolution and the tamper configuration are written under the open seal; an electrical mode waits for the
boundary. -/
def Obligations.RegisterCommands : Prop :=
  (∀ (f : Fin 4) (x : Bool) s, ownerReaches f Reg.CRS_STAGE_SEAL s = true → s.get Fl.RDG_STATE_STATE ≠ 1 →
    (x = true ∨ s.flag Fl.CRS_PLAN_STATUS_COMMIT_PENDING = false) →
    Ends (.stageSealWrite f x) s fun t => t.flag Fl.CRS_STAGE_SEAL_SEAL = x ∧ t.flag Fl.CRS_PLAN_STATUS_SEALED = x)
  ∧ (∀ (f : Fin 4) s, ownerReaches f Reg.CRS_STAGE_SEAL s = true → s.flag Fl.CRS_PLAN_STATUS_COMMIT_PENDING = true →
    s.fget f.val Fl.HST_WSW_STATUS_STICKY = 0 →
    Ends (.stageSealWrite f false) s fun t => Counts s t ∧ captured f Reg.CRS_STAGE_SEAL .blockState t)
  ∧ (∀ (f : Fin 4) seed s, ownerReaches f Reg.MTB_HASH_SEED1 s = true → s.get Fl.RDG_STATE_STATE ≠ 1 →
    s.flag Fl.GLB_EXPERT_EN_EN = true → s.get Fl.MTB_OCCUPANCY_ENTRIES = 0 →
    Ends (.hashSeedWrite f true seed) s fun t => t.word Reg.MTB_HASH_SEED1 = s.word Reg.MTB_HASH_SEED1
      ∧ t.cfgPend = s.cfgPend ++ [.fields f.val Reg.MTB_HASH_SEED1 seed true])
  ∧ (∀ (f : Fin 4) seed s, ownerReaches f Reg.MTB_HASH_SEED0 s = true → s.get Fl.RDG_STATE_STATE ≠ 1 →
    s.flag Fl.GLB_EXPERT_EN_EN = false → s.get Fl.MTB_OCCUPANCY_ENTRIES = 0 → seed ≠ s.word Reg.MTB_HASH_SEED0 →
    s.fget f.val Fl.HST_WSW_STATUS_STICKY = 0 →
    Ends (.hashSeedWrite f false seed) s fun t => t.word Reg.MTB_HASH_SEED0 = s.word Reg.MTB_HASH_SEED0 ∧ t.cfgPend = s.cfgPend
      ∧ captured f Reg.MTB_HASH_SEED0 .noExpert t)
  ∧ (∀ (f : Fin 4) low high s, ownerReaches f Reg.MTB_SHADOW_LO s = true → ownerReaches f Reg.MTB_SHADOW_HI s = true →
    s.get Fl.RDG_STATE_STATE ≠ 1 →
    Ends (.shadowEnable f low high) s fun t => t.flag Fl.MTB_SHADOW_LO_EN = bitOf 0 low.toNat
      ∧ t.get Fl.MTB_SHADOW_LO_ADDR = bitsOf 31 12 low.toNat ∧ t.word Reg.MTB_SHADOW_HI = high ∧ t.mtb.shadowFunc = f.val)
  ∧ (∀ (f res : Fin 4) s, ownerReaches f Reg.REC_BILL_CFG s = true → s.get Fl.RDG_STATE_STATE ≠ 1 →
    s.flag Fl.SAF_PINS_SEAL_OPEN = true → s.get Fl.MTB_OCCUPANCY_ENTRIES = 0 →
    Ends (.billResWrite f res) s fun t => t.get Fl.REC_BILL_CFG_RES = res.val)
  ∧ (∀ (f : Fin 4) (pol en : BitVec 4) s, ownerReaches f Reg.TMP_CFG s = true → s.get Fl.RDG_STATE_STATE ≠ 1 →
    s.flag Fl.SAF_PINS_SEAL_OPEN = true →
    Ends (.tamperCfgWrite f pol en) s fun t => t.get Fl.TMP_CFG_POL = pol.toNat ∧ t.get Fl.TMP_CFG_EN = en.toNat)
  ∧ (∀ (f : Fin 4) (g : Fin 40) (mode : Fin 4) s, ownerReaches f (Reg.LANE_ELEC_CFG g.val) s = true → s.get Fl.RDG_STATE_STATE ≠ 1 →
    mode.val < 3 → Ends (.laneModeWrite f g mode) s fun t =>
      t.get (Fl.LANE_ELEC_CFG_MODE g.val) = s.get (Fl.LANE_ELEC_CFG_MODE g.val)
      ∧ t.cfgPend = s.cfgPend ++ [.fields f.val (Reg.LANE_ELEC_CFG g.val) (BitVec.ofNat 32 mode.val) false])

/-- The window and the clearing of the recorder. The write of EVT_CURSOR_HI moves the window to the held low half, or the
current one, with its own 16 bits, cancels the fetch in progress of its function. A read of word 0 of a window record puts out
the word that the record shows and latches the rest for its function. The end of a fetch shows the spilled records of the
window. EVENT_CLEAR up to a number between the oldest and the newest removes exactly the records up to it, on chip and
spilled; above the newest it ends RANGE. -/
def Obligations.RecorderWindow : Prop :=
  (∀ (f : Fin 4) (high : Word) s, writes f Reg.EVT_CURSOR_HI s = true → Ends (.evtCursorWrite f high) s fun t =>
    t.evtCursor f.val = ((s.held.find? fun p => p.1 == f.val).elim (s.fword f.val Reg.EVT_CURSOR_LO).toNat
      fun p => p.2.toNat) + 2 ^ 32 * (high.toNat % 2 ^ 16)
    ∧ FMap.get [] t.evt.loaded f.val = [] ∧ t.evt.records = s.evt.records)
  ∧ (∀ (f i : Fin 4) s e, reaches f (Reg.EVT_WIN (8 * i.val)) s = true → s.evtShown f.val i.val = some e →
    Ends (.evtWindowLatch f i) s fun t => FMap.get [] t.evt.latched (4 * f.val + i.val) = e.octets
      ∧ t.out = .readData f.val (Reg.EVT_WIN (8 * i.val)) (BitVec.ofNat 32 (leAt e.octets 0 4)) :: s.out)
  ∧ (∀ (f i : Fin 4) s, reaches f (Reg.EVT_WIN (8 * i.val)) s = true → s.evtShown f.val i.val = none →
    Ends (.evtWindowLatch f i) s fun t => FMap.get [] t.evt.latched (4 * f.val + i.val) = zeros 32
      ∧ t.out = .readData f.val (Reg.EVT_WIN (8 * i.val)) 0#32 :: s.out)
  ∧ (∀ (f : Fin 4) s, FMap.get false s.evt.fetching f.val = true → Ends (.windowFetchDone f) s fun t =>
    FMap.get false t.evt.fetching f.val = false
    ∧ FMap.get [] t.evt.loaded f.val
        = s.evt.spilled.filter fun e => decide (s.evtCursor f.val ≤ e.seq) && decide (e.seq < s.evtCursor f.val + 4))
  ∧ (∀ (f : Fin 4) s, FMap.get false s.evt.fetching f.val = false → exec (.windowFetchDone f) s = .next s)
  ∧ (∀ c (n : BitVec 64) s, admits c s = true → c.len = 0 → n.toNat < 2 ^ 48 → s.evtTail ≤ n.toNat → n.toNat ≤ s.evtHead →
    posts 0x58 s = true →
    Ends (.eventClear c n) s fun t => t.evt.records = s.evt.records.filter (fun e => decide (n.toNat < e.seq))
      ∧ t.evt.spilled = s.evt.spilled.filter (fun e => decide (n.toNat < e.seq)) ∧ ended 0x58 c .ok s t)
  ∧ (∀ c (n : BitVec 64) s, admits c s = true → c.len = 0 → n.toNat < 2 ^ 48 → s.evtHead < n.toNat → posts 0x58 s = true →
    Ends (.eventClear c n) s fun t => t.evt = s.evt ∧ ended 0x58 c .range s t)

/-- TIME_SET and TIME_REF. TIME_SET MODE 01h in UNLOCKED or HOLDOVER adds a delta of at most 1,000 s to the slew, and in
another state ends STATE; MODE 02h accepts every held-off candidate and holds none of them off any longer; MODE 03h stores the
delta as the pending step and sets STEP_PENDING where it is not 0. TIME_REF OP 01h forces and, outside free run, selects a
qualified candidate, 02h ends the force, 03h forces the loss of all candidates; a candidate that is not qualified ends STATE
and changes no force. Each that takes effect ends OK. -/
def Obligations.TimeCommands : Prop :=
  (∀ c (delta : BitVec 64) s, admits c s = true → c.len = 0 → (s.get Fl.TIM_STATE_STATE = 1 ∨ s.get Fl.TIM_STATE_STATE = 4) →
    delta.toInt.natAbs ≤ 10 ^ 12 → posts 0x48 s = true →
    Ends (.timeSet c 1#8 delta) s fun t => t.tim.slew = s.tim.slew + delta.toInt ∧ ended 0x48 c .ok s t)
  ∧ (∀ c (delta : BitVec 64) s, admits c s = true → c.len = 0 → s.get Fl.TIM_STATE_STATE ≠ 1 → s.get Fl.TIM_STATE_STATE ≠ 4 →
    posts 0x48 s = true → Ends (.timeSet c 1#8 delta) s fun t => t.tim = s.tim ∧ ended 0x48 c .state s t)
  ∧ (∀ c (delta : BitVec 64) s k, admits c s = true → c.len = 0 → (k = 1 ∨ k = 2 ∨ k = 3) → (s.cand k).heldOff = true →
    Ends (.timeSet c 2#8 delta) s fun t => (t.cand k).accepted = true ∧ (t.cand k).heldOff = false)
  ∧ (∀ c (delta : BitVec 64) s, admits c s = true → c.len = 0 → delta.toInt.natAbs < 2 ^ 62 →
    Ends (.timeSet c 3#8 delta) s fun t => t.get64 Reg.TIM_STEP_PEND_LO = delta.toNat
      ∧ t.flag Fl.TIM_STATE_STEP_PENDING = (delta != 0))
  ∧ (∀ c (cand : Byte) s, admits c s = true → c.len = 0 → 1 ≤ cand.toNat → cand.toNat ≤ 3 → (s.cand cand.toNat).qualified = true →
    s.freeRun = false → Ends (.timeRef c 1#8 cand) s fun t => t.tim.force = cand.toNat ∧ t.get Fl.TIM_STATE_SEL = cand.toNat)
  ∧ (∀ c (cand : Byte) s, admits c s = true → c.len = 0 → 1 ≤ cand.toNat → cand.toNat ≤ 3 → (s.cand cand.toNat).qualified = false →
    posts 0x49 s = true → Ends (.timeRef c 1#8 cand) s fun t => t.tim = s.tim ∧ ended 0x49 c .state s t)
  ∧ (∀ c (cand : Byte) s, admits c s = true → c.len = 0 → posts 0x49 s = true →
    Ends (.timeRef c 2#8 cand) s fun t => t.tim.force = 0 ∧ ended 0x49 c .ok s t)
  ∧ (∀ c (cand : Byte) s, admits c s = true → c.len = 0 →
    Ends (.timeRef c 3#8 cand) s fun t => t.tim.force = 4 ∧ t.get Fl.TIM_STATE_SEL = 0)

/-- Whole seconds, leap smear and the setting of the time scale. SECOND_TICK takes FREQ_MAX off the slew and the smear of one
second off the leap smear, towards 0; it leaves a running time scale alone, and moves a held one to its next whole second.
LEAP_SMEAR_START with PTP selected and a 61-second day announced starts a smear of one second, LEAP_SMEAR_END ends it. Before
courses run TIME_SCALE_STEP sets the time scale and SET, and TIME_ACQUIRE_TIMEOUT without a mounted archive gives provisional
time from the build time, or keeps a time that was set before; while the unit still waits for its partner (phase 0) neither
starts courses, and otherwise the first course starts at the first multiple of the period. -/
def Obligations.TimeScale : Prop :=
  (∀ s, Ends .secondTick s fun t => t.tim.slew = towardZero s.tim.slew (s.get Fl.TIM_LIMIT_CFG_FREQ_MAX * 1000 : Nat)
    ∧ t.tim.smearLeft = towardZero s.tim.smearLeft (smearStep s.tim.smearDone) ∧ (s.tim.held = false → t.now = s.now)
    ∧ (s.tim.held = true → t.now = (s.now / 1000000000 + 1) * 1000000000))
  ∧ (∀ s, s.tim.smearLeft = 0 → s.flag Fl.TIM_UTC_LEAP61 = true → s.get Fl.TIM_STATE_SEL = 1 → s.get Fl.RDG_STATE_STATE ≠ 2 →
    Ends .leapSmearStart s fun t => t.tim.smearLeft = -1000000000 ∧ t.tim.smearDone = 0 ∧ t.flag Fl.TIM_STATE_LEAP = true
      ∧ newest 458 [] t = true)
  ∧ (∀ s, s.flag Fl.TIM_STATE_LEAP = true → s.get Fl.RDG_STATE_STATE ≠ 2 →
    Ends .leapSmearEnd s fun t => t.tim.smearLeft = 0 ∧ t.flag Fl.TIM_STATE_LEAP = false ∧ newest 459 [] t = true)
  ∧ (∀ s (seconds : BitVec 64) (ns : BitVec 32), s.tim.held = true → s.tim.waiting = true → ns.toNat < 1000000000 → s.rdg.phase = 0 →
    Ends (.timeScaleStep false seconds ns) s fun t =>
      t.now = seconds.toNat * 1000000000 + ns.toNat ∧ t.tim.held = true ∧ t.tim.waiting = false ∧ t.flag Fl.TIM_STATE_SET = true)
  ∧ (∀ s (ridge : Bool) (seconds : BitVec 64) (ns : BitVec 32), s.tim.waiting = false →
    exec (.timeScaleStep ridge seconds ns) s = .next s)
  ∧ (∀ s, s.tim.held = true → s.tim.waiting = true → s.flag Fl.TIM_STATE_SET = false → s.flag Fl.ARC_STATE_MOUNTED = false →
    s.rdg.phase = 0 → s.get Fl.RDG_STATE_STATE ≠ 2 →
    Ends .timeAcquireTimeout s fun t => t.now = s.otp.buildTime * 1000000000 ∧ t.tim.held = true
      ∧ t.get Fl.TIM_STATE_STATE = 1 ∧ newest 457 [] t = true)
  ∧ (∀ s, s.tim.held = true → s.tim.waiting = true → s.flag Fl.TIM_STATE_SET = true → s.rdg.phase = 0 →
    Ends .timeAcquireTimeout s fun t => t.now = s.now ∧ t.tim.waiting = false
      ∧ t.get Fl.TIM_STATE_STATE = (if s.tim.everSelected then 4 else 1))
  ∧ (∀ s, s.tim.waiting = false → exec .timeAcquireTimeout s = .next s)
  ∧ (∀ s, s.tim.held = true → s.tim.waiting = true → s.flag Fl.TIM_STATE_SET = true → s.rdg.phase ≠ 0 → s.crs.resuming = false →
    s.flag Fl.TIM_STATE_STEP_PENDING = false →
    ∃ u : State, exec .timeAcquireTimeout s = .next u.openCourse ∧ u.tim.held = false
      ∧ u.course = (s.now + s.period - 1) / s.period % 2 ^ 64 ∧ u.now = (s.now + s.period - 1) / s.period * s.period)

/-- Timestamps, pulses, rates and link delay. On an enabled port PDELAY_REQ_RX is answered with its corrected ingress
timestamp, PDELAY_REQ_TIMER sends a request with the next sequence number, and PDELAY_RESP_RX of a one-step answer to the open
request, or the Follow_Up of a two-step one, gives the port its link delay. An egress timestamp of a Pdelay_Resp is sent in
its Follow_Up, any other enters the queue of its port, and one that finds 16 in it is discarded and counted. The first PPS_IN
edge near a second is kept, a second one ends the qualification. The first rate of the selected qualified candidate starts the
history. PTP_UNSUPPORTED_RX is counted. -/
def Obligations.TimeInputs : Prop :=
  (∀ (p : Fin 16) (who : BitVec 80) (seq : BitVec 16) (t2 : Int) s, s.portEnabled p.val = true →
    Ends (.pdelayReqRx p who seq t2) s fun t =>
      t.out = .pdelayResp p.val seq.toNat who.toNat (t2 - s.rxLatency p.val) :: s.out
      ∧ (t.ptpPort p.val).owed = (s.ptpPort p.val).owed ++ [(seq.toNat, who.toNat)])
  ∧ (∀ (p : Fin 16) s, s.portEnabled p.val = true →
    Ends .pdelayReqTimer s fun t => (t.ptpPort p.val).reqOpen = some (((s.ptpPort p.val).seq + 1) % 65536)
      ∧ (t.ptpPort p.val).respOpen = none ∧ putsOut (.pdelayReq p.val (((s.ptpPort p.val).seq + 1) % 65536)) s t)
  ∧ (∀ (p : Fin 16) (m : PdelayResp) (t1 : Int) s, s.portEnabled p.val = true → m.followUp = false → m.twoStep = false →
    (s.ptpPort p.val).reqOpen = some m.seq.toNat →
    ((s.ptpPort p.val).txq.find? fun q => q.1 == m.seq.toNat) = some (m.seq.toNat, t1) →
    Ends (.pdelayRespRx p m) s fun t =>
      (t.ptpPort p.val).delay = (m.t4 - s.rxLatency p.val - t1 - m.correction) / 2 ∧ (t.ptpPort p.val).reqOpen = none)
  ∧ (∀ (p : Fin 16) (m : PdelayResp) (t1 t2 t4 k : Int) s, s.portEnabled p.val = true → m.followUp = true →
    (s.ptpPort p.val).respOpen = some (m.seq.toNat, t1, t2, t4, k) →
    Ends (.pdelayRespRx p m) s fun t =>
      (t.ptpPort p.val).delay = (t4 - t1 - (m.t3 - t2) - (k + m.correction)) / 2 ∧ (t.ptpPort p.val).respOpen = none)
  ∧ (∀ (p : Fin 16) (seq : BitVec 16) (stamp : Int) s, (s.ptpPort p.val).txq.length < 16 →
    ((s.ptpPort p.val).owed.find? fun q => q.1 == seq.toNat) = none →
    Ends (.txTimestampEntry p seq stamp) s fun t =>
      (t.ptpPort p.val).txq = (s.ptpPort p.val).txq ++ [(seq.toNat, stamp + s.txLatency p.val)])
  ∧ (∀ (p : Fin 16) (seq : BitVec 16) (stamp : Int) (who : Nat) s, (s.ptpPort p.val).txq.length < 16 →
    ((s.ptpPort p.val).owed.find? fun q => q.1 == seq.toNat) = some (seq.toNat, who) →
    Ends (.txTimestampEntry p seq stamp) s fun t => (t.ptpPort p.val).txq = (s.ptpPort p.val).txq
      ∧ t.out = .pdelayFollowUp p.val seq.toNat who (stamp + s.txLatency p.val) :: s.out)
  ∧ (∀ (p : Fin 16) (seq : BitVec 16) (stamp : Int) s, 16 ≤ (s.ptpPort p.val).txq.length →
    Ends (.txTimestampEntry p seq stamp) s fun t => (t.ptpPort p.val).txq = (s.ptpPort p.val).txq
      ∧ t.get Fl.TIM_TXTS_OVF_COUNT_COUNT = min (s.get Fl.TIM_TXTS_OVF_COUNT_COUNT + 1) (2 ^ 32 - 1))
  ∧ (∀ (stamp : Int) s, s.get Fl.TIM_PPS_IN_CFG_EN = 1 →
    (s.cand 2).edge ≠ some ((stamp / 65536 + 500000000) / 1000000000 * 1000000000) →
    Ends (.ppsInEdge stamp) s fun t => (t.cand 2).edge = some ((stamp / 65536 + 500000000) / 1000000000 * 1000000000))
  ∧ (∀ (stamp : Int) s, s.get Fl.TIM_PPS_IN_CFG_EN = 1 →
    (s.cand 2).edge = some ((stamp / 65536 + 500000000) / 1000000000 * 1000000000) →
    Ends (.ppsInEdge stamp) s fun t => (t.cand 2).qualified = false ∧ (t.cand 2).good = 0)
  ∧ (∀ (r : Int) s, (s.cand 1).qualified = true → s.get Fl.TIM_STATE_SEL = 1 → s.tim.history = [] →
    Ends (.freqMonitorWindow (some r) none none) s fun t => t.tim.history = [r])
  ∧ (∀ (p : Fin 16) s, Ends (.ptpUnsupportedRx p) s fun t => t.tim = s.tim ∧
      t.get Fl.TIM_PTP_DISCARD_COUNT_COUNT = min (s.get Fl.TIM_PTP_DISCARD_COUNT_COUNT + 1) (2 ^ 32 - 1))

/-- Announce, Sync and Follow_Up. An Announce on an enabled port that has kept none is kept, and with no other port hearing a
master its port becomes the master port; ANNOUNCE_TIMEOUT forgets it together with an open Sync. A one-step Sync of the chosen
master gives its offset to PTP; a two-step Sync waits for its Follow_Up, which gives the offset and ends the wait.
SYNC_TIMEOUT ends the qualification of PTP. -/
def Obligations.PtpMaster : Prop :=
  (∀ (p : Fin 16) (m : PtpAnnounce) s, s.portEnabled p.val = true → (s.ptpPort p.val).announce = none →
    (∀ q : Fin 16, q ≠ p → (s.ptpPort q.val).announce = none) →
    Ends (.ptpAnnounceRx p m) s fun t => (t.ptpPort p.val).announce = some m ∧ t.tim.master = some p.val)
  ∧ (∀ (p : Fin 16) s, Ends (.announceTimeout p) s fun t =>
      (t.ptpPort p.val).announce = none ∧ (t.ptpPort p.val).syncOpen = none ∧ t.tim.master ≠ some p.val)
  ∧ (∀ (p : Fin 16) (m : PtpSync) (a : PtpAnnounce) s, s.portEnabled p.val = true → s.tim.master = some p.val →
    (s.ptpPort p.val).announce = some a → a.source = m.source → m.twoStep = true →
    Ends (.ptpSyncRx p m) s fun t =>
      (t.ptpPort p.val).syncOpen = some (m.seq.toNat, m.t2 - s.rxLatency p.val, m.correction))
  ∧ (∀ (p : Fin 16) (m : PtpSync) (a : PtpAnnounce) s, s.portEnabled p.val = true → s.tim.master = some p.val →
    (s.ptpPort p.val).announce = some a → a.source = m.source → m.twoStep = false →
    exec (.ptpSyncRx p m) s = .next (s.candOffset 1 (s.ptpTheta p.val (m.t2 - s.rxLatency p.val) m.t1 m.correction) s.ptpOk))
  ∧ (∀ (p : Fin 16) (m : PtpFollowUp) (a : PtpAnnounce) (t2 c : Int) s, s.portEnabled p.val = true → s.tim.master = some p.val →
    (s.ptpPort p.val).announce = some a → a.source = m.source → (s.ptpPort p.val).syncOpen = some (m.seq.toNat, t2, c) →
    Ends (.ptpFollowUpRx p m) s fun t => (t.ptpPort p.val).syncOpen = none)
  ∧ (∀ s, Ends .syncTimeout s fun t => (t.cand 1).qualified = false ∧ (t.cand 1).good = 0)

/-- Lane groups, block lock, reference clocks and interface fallback. A group with a role that completes training is TRAINED,
no longer CHANGING, shows the interface that runs, and where no hub is lost by it LANE_UP is raised; one that does not
complete in time raises its event. Block lock of a lane of the device shows in LANE_UP with its event, errored blocks are
counted, and a lane that the device does not have shows nothing. A reference clock shows in the groups of the device that it
serves. Under AUTO a lane without KR training frames runs SFI, and after 1 s without lock tries KR again; with KR alone it is
only reported. -/
def Obligations.LaneGroups : Prop :=
  (∀ (g : Fin 40) kr s, s.get (Fl.LANE_GRP_STATUS_ROLE g.val) ≠ 0 → s.flag (Fl.LANE_GRP_STATUS_TRAINED g.val) = false →
    s.get Fl.RDG_STATE_STATE ≠ 2 → (∀ h : Fin 128, s.hubPresent h.val = true ∨ (s.hub h.val).state = 0) →
    Ends (.laneGroupTrained g kr) s fun t =>
      t.flag (Fl.LANE_GRP_STATUS_TRAINED g.val) = true ∧ t.flag (Fl.LANE_GRP_STATUS_CHANGING g.val) = false
      ∧ t.get (Fl.LANE_ELEC_CFG_ACTUAL g.val)
          = (if s.get (Fl.LANE_ELEC_CFG_MODE g.val) = 0 then (if kr then 1 else 2) else s.get (Fl.LANE_ELEC_CFG_MODE g.val))
      ∧ newest 16 (le 1 g.val) t = true)
  ∧ (∀ (g : Fin 40) kr s, (s.get (Fl.LANE_GRP_STATUS_ROLE g.val) = 0 ∨ s.flag (Fl.LANE_GRP_STATUS_TRAINED g.val) = true) →
    exec (.laneGroupTrained g kr) s = .next s ∧ exec (.laneTrainTimeout g) s = .next s)
  ∧ (∀ (g : Fin 40) s, s.get (Fl.LANE_GRP_STATUS_ROLE g.val) ≠ 0 → s.flag (Fl.LANE_GRP_STATUS_TRAINED g.val) = false →
    s.get Fl.RDG_STATE_STATE ≠ 2 → Ends (.laneTrainTimeout g) s fun t =>
      t.flag (Fl.LANE_GRP_STATUS_TRAINED g.val) = false ∧ newest 17 (le 1 g.val) t = true ∧ t.lane = s.lane)
  ∧ (∀ (l : Fin 320) lock hiBer (e : BitVec 32) s, s.hasGroup (l.val / 8) = true → Ends (.blockLockChange l lock hiBer e) s fun t =>
    bitOf (l.val % 8) (t.get (Fl.LANE_GRP_STATUS_LANE_UP (l.val / 8))) = lock
    ∧ t.get Fl.LANE_ERR_BLOCK_COUNT_COUNT = min (s.get Fl.LANE_ERR_BLOCK_COUNT_COUNT + e.toNat) (2 ^ 32 - 1)
    ∧ t.get Fl.LANE_HI_BER_COUNT_COUNT = min (s.get Fl.LANE_HI_BER_COUNT_COUNT + b2n hiBer) (2 ^ 32 - 1))
  ∧ (∀ (l : Fin 320) lock hiBer (e : BitVec 32) s, s.hasGroup (l.val / 8) = false → exec (.blockLockChange l lock hiBer e) s = .next s)
  ∧ (∀ (l : Fin 320) lock hiBer (e : BitVec 32) s, s.hasGroup (l.val / 8) = true → s.get (Fl.LANE_GRP_STATUS_ROLE (l.val / 8)) ≠ 0 →
    s.portOfLane l.val = none → bitOf (l.val % 8) (s.get (Fl.LANE_GRP_STATUS_LANE_UP (l.val / 8))) ≠ lock → s.get Fl.RDG_STATE_STATE ≠ 2 →
    Ends (.blockLockChange l lock hiBer e) s fun t => newest (if lock then 19 else 18) (le 2 l.val) t = true)
  ∧ (∀ (k : Fin 5) ok s, s.hasGroup (8 * k.val) = true → s.flag (Fl.LANE_GRP_STATUS_REFCLK_OK (8 * k.val)) ≠ ok →
    s.get Fl.RDG_STATE_STATE ≠ 2 → Ends (.refclkChange k ok) s fun t =>
      (∀ i : Fin 8, s.hasGroup (8 * k.val + i.val) = true → t.flag (Fl.LANE_GRP_STATUS_REFCLK_OK (8 * k.val + i.val)) = ok)
      ∧ newest (if ok then 22 else 21) (le 1 k.val) t = true)
  ∧ (∀ (k : Fin 5) ok s, (s.hasGroup (8 * k.val) = false ∨ s.flag (Fl.LANE_GRP_STATUS_REFCLK_OK (8 * k.val)) = ok) →
    exec (.refclkChange k ok) s = .next s)
  ∧ (∀ (l : Fin 320) s, s.get (Fl.LANE_GRP_STATUS_ROLE (l.val / 8)) ≠ 0 → s.get (Fl.LANE_ELEC_CFG_MODE (l.val / 8)) = 0 →
    s.lane.sfi.contains l.val = false → s.get Fl.RDG_STATE_STATE ≠ 2 → Ends (.krTrainingTimeout l) s fun t =>
      t.lane.sfi.contains l.val = true ∧ t.get (Fl.LANE_ELEC_CFG_ACTUAL (l.val / 8)) = 2 ∧ newest 23 (le 2 l.val) t = true)
  ∧ (∀ (l : Fin 320) s, s.get (Fl.LANE_GRP_STATUS_ROLE (l.val / 8)) ≠ 0 → s.get (Fl.LANE_ELEC_CFG_MODE (l.val / 8)) = 1 →
    s.lane.sfi.contains l.val = false → s.get Fl.RDG_STATE_STATE ≠ 2 → Ends (.krTrainingTimeout l) s fun t =>
      t.lane = s.lane ∧ newest 23 (le 2 l.val) t = true)
  ∧ (∀ (l : Fin 320) s, s.get (Fl.LANE_ELEC_CFG_MODE (l.val / 8)) = 0 → s.lane.sfi.contains l.val = true →
    bitOf (l.val % 8) (s.get (Fl.LANE_GRP_STATUS_LANE_UP (l.val / 8))) = false → Ends (.krRetry l) s fun t =>
      t.lane.sfi.contains l.val = false ∧ t.get (Fl.LANE_ELEC_CFG_ACTUAL (l.val / 8)) = 1)

/-- DRAM errors, temperatures, supplies and process monitors. PATROL_SCRUB counts and shows the error it found. A hot DRAM
device is kept and reported. TEMPERATURE_READ stores every reading and faults a sensor outside its range; with working sensors
that agree below 132 °C it shows the hottest of them with its level and trips nothing, and it trips exactly when two readings
ran hot or fewer than 12 sensors are left. The restart after a trip is a warm reset of cause 3 where it is enabled.
SUPPLY_SAMPLE stores every point and its minimum, counts its samples below the reset level, and at the second resets under
cause 2 with that point. Programming is allowed again once no point is low. PROCESS_MONITOR stores every count. -/
def Obligations.HealthAndDram : Prop :=
  (∀ s, exec (.patrolScrub none) s = .next s)
  ∧ (∀ (e : DdrError) s, s.get Fl.RDG_STATE_STATE ≠ 2 → Ends (.patrolScrub (some e)) s fun t =>
    t.flag Fl.DDR_ECC_LAST_UE = e.uncorrectable ∧ t.get Fl.DDR_ECC_LAST_DEVICE = e.device.val ∧ t.get Fl.DDR_ECC_LAST_RANK = e.rank.val
    ∧ t.get Fl.DDR_ECC_LAST_SUBCH = e.subchannel.val ∧ t.get Fl.DDR_ECC_LAST_CHANNEL = e.channel.val
    ∧ t.get Fl.DDR_ECC_UE_COUNT_COUNT = min (s.get Fl.DDR_ECC_UE_COUNT_COUNT + b2n e.uncorrectable) (2 ^ 32 - 1)
    ∧ t.get Fl.DDR_ECC_CE_COUNT_COUNT = min (s.get Fl.DDR_ECC_CE_COUNT_COUNT + b2n !e.uncorrectable) (2 ^ 32 - 1)
    ∧ (e.uncorrectable = true → newest 627 (le 1 e.channel.val ++ le 1 e.subchannel.val) t = true)
    ∧ (e.uncorrectable = false → s.lane.ceSecond ≠ s.second + 1 → newest 626 (le 1 e.channel.val) t = true))
  ∧ (∀ (c : Fin 4) s, s.get Fl.RDG_STATE_STATE ≠ 2 → Ends (.ddrDeviceHot c) s fun t =>
    t.lane.hotChannels.contains c.val = true ∧ newest 628 (le 1 c.val) t = true)
  ∧ (∀ (r : List Int) s, ∃ u : State,
    exec (.temperatureRead r) s = .next (if !u.hlt.tripped && (decide (2 ≤ u.hlt.hotRun)
      || decide (((List.range 16).filter fun i => !u.flag (Fl.HLT_TEMP_FAULT i)).length < 12)) then u.thermalTrip else u)
    ∧ ∀ i : Fin 16, u.get (Fl.HLT_TEMP_TEMP i.val) = unsigned 12 (r.getD i.val 0)
        ∧ (r.getD i.val 0 < -440 ∨ 1200 < r.getD i.val 0 ∨ s.flag (Fl.HLT_TEMP_FAULT i.val) = true →
            u.flag (Fl.HLT_TEMP_FAULT i.val) = true))
  ∧ (∀ (r : List Int) s, (∀ i : Fin 16, s.flag (Fl.HLT_TEMP_FAULT i.val) = false) →
    (∀ i : Fin 16, -440 ≤ r.getD i.val 0 ∧ r.getD i.val 0 < 1056) →
    (∀ i j : Fin 16, r.getD i.val 0 ≤ r.getD j.val 0 + 80) →
    Ends (.temperatureRead r) s fun t => (∀ i : Fin 16, t.get (Fl.HLT_TEMP_TEMP i.val) = unsigned 12 (r.getD i.val 0)
        ∧ t.flag (Fl.HLT_TEMP_FAULT i.val) = false) ∧ t.hlt.tripped = s.hlt.tripped ∧ t.hlt.hotRun = 0
      ∧ ∃ i : Fin 16, t.get Fl.HLT_THERM_STATUS_HOT = i.val ∧ t.get Fl.HLT_THERM_STATUS_TJ = unsigned 12 (r.getD i.val 0)
        ∧ (∀ j : Fin 16, r.getD j.val 0 ≤ r.getD i.val 0)
        ∧ t.get Fl.HLT_THERM_STATUS_LEVEL = thermalLevel (s.get Fl.HLT_THERM_STATUS_LEVEL) (r.getD i.val 0))
  ∧ (∀ s, s.hlt.tripped = true → s.arc.stopping = none → s.flag Fl.HLT_CFG_AUTO_RESTART = true →
    exec .thermalRestart s = .next (s.warmBoot 3) ∧ (s.warmReset 3).get Fl.HLT_RESET_CAUSE_CAUSE = 3
      ∧ (s.warmReset 3).hlt.tripped = false ∧ (s.warmReset 3).hst.ownership = .noOwner)
  ∧ (∀ s, s.hlt.tripped = true → s.arc.stopping = none → s.flag Fl.HLT_CFG_AUTO_RESTART = true → Ends .thermalRestart s fun t =>
      t.get Fl.HLT_RESET_CAUSE_CAUSE = 3 ∧ t.hlt.tripped = false ∧ t.hst.ownership = .noOwner ∧ t.otp.inReset = false)
  ∧ (∀ s, (s.hlt.tripped = false ∨ s.flag Fl.HLT_CFG_AUTO_RESTART = false) → exec .thermalRestart s = .next s)
  ∧ (∀ (mv : List Nat) s, ∃ u : State,
    exec (.supplySample mv) s = .next (match (List.range 24).find? fun p => decide (2 ≤ FMap.get 0 u.hlt.resetRun p) with
      | some p => u.progLost.coldReset 2 p
      | none => u)
    ∧ ∀ p : Fin 24, u.get (Fl.HLT_VOLT_MV p.val) = mv.getD p.val 0 % 65536
        ∧ FMap.get 0 u.hlt.resetRun p.val
            = (if mv.getD p.val 0 % 65536 < (supplyLevels p.val).2.2.1 then FMap.get 0 s.hlt.resetRun p.val + 1 else 0))
  ∧ (∀ (mv : List Nat) s, (∀ p : Fin 24, (supplyLevels p.val).2.2.1 ≤ mv.getD p.val 0 % 65536 ∨ FMap.get 0 s.hlt.resetRun p.val = 0) →
    Ends (.supplySample mv) s fun t => ∀ p : Fin 24, t.get (Fl.HLT_VOLT_MV p.val) = mv.getD p.val 0 % 65536
      ∧ t.get (Fl.HLT_VOLT_MIN p.val) = min (s.get (Fl.HLT_VOLT_MIN p.val)) (mv.getD p.val 0 % 65536))
  ∧ (∀ (mv : List Nat) (p : Fin 24) s, mv.getD p.val 0 % 65536 < (supplyLevels p.val).2.2.1 → 1 ≤ FMap.get 0 s.hlt.resetRun p.val →
    (∀ q : Fin 24, q < p → (supplyLevels q.val).2.2.1 ≤ mv.getD q.val 0 % 65536 ∨ FMap.get 0 s.hlt.resetRun q.val = 0) →
    Ends (.supplySample mv) s fun t => t.otp.inReset = true ∧ t.get Fl.HLT_RESET_CAUSE_CAUSE = 2
      ∧ t.get Fl.HLT_RESET_CAUSE_POINT = p.val ∧ t.hst = State.reset.hst)
  ∧ (∀ s, (∀ p : Fin 24, FMap.get 0 s.hlt.lowRun p.val = 0) →
    exec .otpSupplySettled s = .next { s with otp := { s.otp with supplyLow := false } })
  ∧ (∀ s (p : Fin 24), 0 < FMap.get 0 s.hlt.lowRun p.val → exec .otpSupplySettled s = .next s)
  ∧ (∀ (l : List Nat) s, Ends (.processMonitor l) s fun t => ∀ k : Fin 32, t.get (Fl.HLT_PROC_COUNT k.val) = l.getD k.val 0 % 65536)

/-- FIFOs and crossings. A push of the last entry of an item into a FIFO with room commits the item, and one of another entry
keeps it; a push into a full one is dropped, shown as KIND 1, counted and reported. A pop of a committed entry removes it; one
from an empty FIFO is shown as KIND 2, counted and reported. A drop removes the rest of the item read. A flush leaves nothing,
and cuts the item being written, as KIND 3. A crossing reset empties the FIFOs of its block, and every access made meanwhile
is counted. -/
def Obligations.Crossings : Prop :=
  (∀ (b : Fin 22) (n : Byte) e s, (s.fifo b.val n.toNat).cut = false →
    (s.fifo b.val n.toNat).entries.length + (s.fifo b.val n.toNat).partly.length < fifoDepth b.val n.toNat →
    Ends (.fifoPush b n false e true) s (fun t => (t.fifo b.val n.toNat).partly = []
      ∧ (t.fifo b.val n.toNat).entries
          = (s.fifo b.val n.toNat).entries ++ ((s.fifo b.val n.toNat).partly.map fun x => (x, false)) ++ [(e, true)])
    ∧ Ends (.fifoPush b n false e false) s (fun t => (t.fifo b.val n.toNat).partly = (s.fifo b.val n.toNat).partly ++ [e]
      ∧ (t.fifo b.val n.toNat).entries = (s.fifo b.val n.toNat).entries))
  ∧ (∀ (b : Fin 22) (n : Byte) e last s, (s.fifo b.val n.toNat).cut = false → s.get Fl.RDG_STATE_STATE ≠ 2 →
    Ends (.fifoPush b n true e last) s fun t => t.fifo b.val n.toNat = s.fifo b.val n.toNat
      ∧ t.get Fl.HLT_XING_LAST_BLOCK = b.val ∧ t.get Fl.HLT_XING_LAST_FIFO = n.toNat ∧ t.get Fl.HLT_XING_LAST_KIND = 1
      ∧ t.get Fl.HLT_OVERRUN_COUNT_COUNT = min (s.get Fl.HLT_OVERRUN_COUNT_COUNT + 1) (2 ^ 32 - 1)
      ∧ newest 601 (le 1 b.val ++ le 1 n.toNat) t = true)
  ∧ (∀ (b : Fin 22) (n : Byte) s x l, (s.fifo b.val n.toNat).entries = x :: l →
    Ends (.fifoPop b n false) s fun t => (t.fifo b.val n.toNat).entries = l ∧ t.regs = s.regs)
  ∧ (∀ (b : Fin 22) (n : Byte) empty s, (s.fifo b.val n.toNat).entries = [] → s.get Fl.RDG_STATE_STATE ≠ 2 →
    Ends (.fifoPop b n empty) s fun t => (t.fifo b.val n.toNat).entries = [] ∧ t.get Fl.HLT_XING_LAST_KIND = 2
      ∧ t.get Fl.HLT_UNDERRUN_COUNT_COUNT = min (s.get Fl.HLT_UNDERRUN_COUNT_COUNT + 1) (2 ^ 32 - 1)
      ∧ newest 602 (le 1 b.val ++ le 1 n.toNat) t = true)
  ∧ (∀ (b : Fin 22) (n : Byte) s l x r, (s.fifo b.val n.toNat).entries = l ++ x :: r → (∀ y ∈ l, y.2 = false) → x.2 = true →
    Ends (.fifoDrop b n) s fun t => (t.fifo b.val n.toNat).entries = r)
  ∧ (∀ (b : Fin 22) (n : Byte) s, Ends (.fifoFlush b n) s fun t => (t.fifo b.val n.toNat).entries = []
    ∧ (t.fifo b.val n.toNat).partly = []
    ∧ (t.fifo b.val n.toNat).cut = ((s.fifo b.val n.toNat).cut || !(s.fifo b.val n.toNat).partly.isEmpty)
    ∧ ((s.fifo b.val n.toNat).partly ≠ [] → t.get Fl.HLT_XING_LAST_KIND = 3))
  ∧ (∀ (b : Fin 22) l s, Ends (.crossingReset b l) s fun t => (∀ n : Byte, t.fifo b.val n.toNat = {})
    ∧ t.get Fl.HLT_XING_ERR_COUNT_COUNT = min (s.get Fl.HLT_XING_ERR_COUNT_COUNT + l.length) (2 ^ 32 - 1))

/-- Conversions and the second record. A conversion that takes place shows the clamped code of all eight channels, and without
any code out of range the flag of those that settle, and lets every settling channel settle one more; one that was missed
flags all channels as missing. The record of an ended second of 8,000 conversions without flags under a valid calibration is
VALID, with its second and energies, and an ACTIVE unit logs it; a second with nothing converted is counted as invalid, and
reported where none was. -/
def Obligations.StationMetrology : Prop :=
  (∀ (sec : BitVec 64) codes (beyond : BitVec 8) s, s.enabled 16 = true → Ends (.metConversion sec codes beyond false) s fun t =>
    (∀ c : Fin 8, t.get (Fl.MET_SAMPLE_CODE c.val) = unsigned 24 (clampCode (bitOf c.val beyond.toNat) (codes.getD c.val 0)))
    ∧ ((∀ c : Fin 8, overRange (bitOf c.val beyond.toNat) (codes.getD c.val 0) = false) → s.met.lastOvr = 0 →
        ∀ c : Fin 8, t.get (Fl.MET_SAMPLE_FLAGS c.val) = 4 * b2n (s.met.settle.getD c.val 0 != 0))
    ∧ t.met.settle = s.met.settle.map fun n => n - 1)
  ∧ (∀ (sec : BitVec 64) codes (beyond : BitVec 8) missed s, (missed = true ∨ s.enabled 16 = false) →
    Ends (.metConversion sec codes beyond missed) s fun t =>
      (∀ c : Fin 8, t.get (Fl.MET_SAMPLE_FLAGS c.val) = 8)
      ∧ (s.met.sums = [] → t.met.sums = [{ second := sec.toNat, flags := 8 }]))
  ∧ (∀ s m, s.met.sums = [m] → m.second < s.second → m.second < 2 ^ 64 → m.count = 8000 → m.flags = 0 → s.met.gen.isSome = true →
    Ends .metSecondRecord s fun t => t.met.sums = [] ∧ t.get64 Reg.MET_SEC_LO = m.second
      ∧ t.get Fl.MET_SEC_FLAGS_FLAGS = 1 + 64 * b2n m.calChange
      ∧ (∀ k : Fin 3, t.get (Fl.MET_SEC_E_E k.val) = m.values.1.getD k.val 0 % 2 ^ 32)
      ∧ t.get Fl.MET_INVALID_COUNT_COUNT = s.get Fl.MET_INVALID_COUNT_COUNT
      ∧ (s.get Fl.RDG_STATE_STATE = 1 → t.hst.inputLog = s.hst.inputLog ++ [.metro m.second]))
  ∧ (∀ s, s.met.sums = [] → Ends .metSecondRecord s fun t =>
      t.get Fl.MET_INVALID_COUNT_COUNT = min (s.get Fl.MET_INVALID_COUNT_COUNT + 1) (2 ^ 32 - 1)
      ∧ t.get64 Reg.MET_SEC_LO = (s.second - 1) % 2 ^ 64
      ∧ (s.met.invalidRaised = 0 → s.get Fl.RDG_STATE_STATE ≠ 2 → newest 549 [] t = true))

/-- The soffit domain and its tamper log. The eighth equal sample of an enabled input that differs from its state changes that
state; fewer only count. Main power off ends in reset and the log shows it, power on is logged, VBAT is shown and its fall
logged, and a start without retained content leaves one record, every input enabled and none open. -/
def Obligations.SoffitDomain : Prop :=
  (∀ (v : BitVec 4) s (k : Fin 4), bitOf k.val (s.get Fl.TMP_CFG_EN) = true → s.tmp.runs.getD k.val 0 = 7 →
    (bitOf k.val v.toNat != bitOf k.val (s.get Fl.TMP_CFG_POL)) = !bitOf k.val (s.get Fl.TMP_SOFFIT_STATE_TAMPER) →
    Ends (.tamperSample v) s fun t =>
      bitOf k.val (t.get Fl.TMP_SOFFIT_STATE_TAMPER) = !bitOf k.val (s.get Fl.TMP_SOFFIT_STATE_TAMPER))
  ∧ (∀ (v : BitVec 4) s (k : Fin 4), bitOf k.val (s.get Fl.TMP_CFG_EN) = true → s.tmp.runs.getD k.val 0 < 7 → s.tmp.runs.length = 4 →
    (bitOf k.val v.toNat != bitOf k.val (s.get Fl.TMP_CFG_POL)) = !bitOf k.val (s.get Fl.TMP_SOFFIT_STATE_TAMPER) →
    Ends (.tamperSample v) s fun t =>
      bitOf k.val (t.get Fl.TMP_SOFFIT_STATE_TAMPER) = bitOf k.val (s.get Fl.TMP_SOFFIT_STATE_TAMPER)
      ∧ t.tmp.runs.getD k.val 0 = s.tmp.runs.getD k.val 0 + 1)
  ∧ (∀ s, s.tmp.mainPower = true → s.flag Fl.TMP_SOFFIT_STATE_SEQ_END = false → Ends .mainPowerOff s fun t =>
      t.tmp.mainPower = false ∧ t.otp.inReset = true ∧ t.hst = State.reset.hst
      ∧ (t.tmp.log.head?.map fun r => (r.seq, r.kind)) = some (s.get Fl.TMP_LOG_HEAD_SEQ + 1, 3))
  ∧ (∀ s, s.tmp.mainPower = false → s.flag Fl.TMP_SOFFIT_STATE_SEQ_END = false → Ends .mainPowerOn s fun t =>
      t.tmp.mainPower = true ∧ (t.tmp.log.head?.map fun r => (r.seq, r.kind)) = some (s.get Fl.TMP_LOG_HEAD_SEQ + 1, 4))
  ∧ (∀ low s, Ends (.vbatCheck low) s fun t => t.flag Fl.TMP_SOFFIT_STATE_VBAT_LOW = low
      ∧ (low = true → s.flag Fl.TMP_SOFFIT_STATE_VBAT_LOW = false → s.flag Fl.TMP_SOFFIT_STATE_SEQ_END = false →
          (t.tmp.log.head?.map fun r => (r.seq, r.kind)) = some (s.get Fl.TMP_LOG_HEAD_SEQ + 1, 5)))
  ∧ (∀ s, Ends .soffitStart s fun t => (t.tmp.log.map fun r => (r.seq, r.kind)) = [(1, 11)] ∧ t.get Fl.TMP_CFG_EN = 15
      ∧ t.get Fl.TMP_CFG_POL = 0 ∧ t.get Fl.TMP_SOFFIT_STATE_TAMPER = 0)

/-- Control messages of eaves. A message with a wrong check changes nothing. A valid HELLO of the eave that the plan names at
the position clears LOST and MISMATCH, keeps its map tags, and an eave that was never ranged is sent a RANGE_REQ; one that was
mapped and shows another map is mapped no longer and ranged again; of another eave, or at a place that the plan leaves empty,
it sets MISMATCH with its event and nothing more is sent there; under the resident plan an eave at an empty place joins the
chain with the cells of its CAPS. RANGE_RSP gives the one-way delay, and the first one sends DELAY. STATUS keeps the alarms
and reports a change. A mapped eave that is silent on a trained lane group is LOST. Ranging asks every eave again unless its
interval is 0. A map that its eave has shown makes it MAPPED at its instant; one that it has not is late, is reported and
leaves it not MAPPED. -/
def Obligations.EaveMessages : Prop :=
  (∀ (l : Fin 320) (p : Fin 32) m s, upMessage 0x81 m = none → exec (.helloRx l p m) s = .next s)
  ∧ (∀ (l : Fin 320) (p : Fin 32) m s e, upMessage 0x81 m = some m → ((s.plan.chainOf l.val).bind fun c => c.at' p.val) = some e →
    e.eave < 8192 → e.identity = beAt m 2 8 → Ends (.helloRx l p m) s fun t =>
      t.flag (Fl.EAV_EAVE_STATE_LOST e.eave) = false ∧ t.flag (Fl.EAV_EAVE_STATE_MISMATCH e.eave) = false
      ∧ (t.port l.val p.val).heldTag = beAt m 16 4 ∧ (t.port l.val p.val).pendingTag = beAt m 20 4)
  ∧ (∀ (l : Fin 320) (p : Fin 32) m s e, upMessage 0x81 m = some m → ((s.plan.chainOf l.val).bind fun c => c.at' p.val) = some e →
    e.eave < 8192 → e.identity = beAt m 2 8 → (s.port l.val p.val).map = none → (s.port l.val p.val).ranged = false →
    s.flag (Fl.EAV_EAVE_STATE_MAPPED e.eave) = false → Ends (.helloRx l p m) s fun t =>
      ((t.port l.val p.val).down.any fun d => d.type == 4) = true)
  ∧ (∀ (l : Fin 320) (p : Fin 32) m s e, upMessage 0x81 m = some m → ((s.plan.chainOf l.val).bind fun c => c.at' p.val) = some e →
    e.eave < 8192 → e.identity = beAt m 2 8 → (s.port l.val p.val).map = none →
    s.flag (Fl.EAV_EAVE_STATE_MAPPED e.eave) = true → beAt m 16 4 ≠ s.get Fl.CRS_EPOCH_CUR → beAt m 20 4 ≠ s.get Fl.CRS_EPOCH_CUR →
    Ends (.helloRx l p m) s fun t => t.flag (Fl.EAV_EAVE_STATE_MAPPED e.eave) = false
      ∧ ((t.port l.val p.val).down.any fun d => d.type == 4) = true)
  ∧ (∀ (l : Fin 320) (p : Fin 32) m s e, upMessage 0x81 m = some m → ((s.plan.chainOf l.val).bind fun c => c.at' p.val) = some e →
    e.eave < 8192 → e.identity ≠ beAt m 2 8 → Ends (.helloRx l p m) s fun t =>
      t.flag (Fl.EAV_EAVE_STATE_MISMATCH e.eave) = true ∧ (t.port l.val p.val).down = []
      ∧ (s.flag (Fl.EAV_EAVE_STATE_MISMATCH e.eave) = false → s.get Fl.RDG_STATE_STATE ≠ 2 → newest 106 [] t = true))
  ∧ (∀ (l : Fin 320) (p : Fin 32) m s, upMessage 0x81 m = some m → ((s.plan.chainOf l.val).bind fun c => c.at' p.val) = none →
    s.resident = false → Ends (.helloRx l p m) s fun t => (t.port l.val p.val).mismatch = true ∧ (t.port l.val p.val).down = [])
  ∧ (∀ (l : Fin 320) (p : Fin 32) m s, upMessage 0x81 m = some m → ((s.plan.chainOf l.val).bind fun c => c.at' p.val) = none →
    s.resident = true → 32 * ((List.range l.val).filter fun k => (s.plan.roles.getD (k / 8) (0, 0)).1 == 1).length + p.val < 8192 →
    Ends (.helloRx l p m) s fun t => ((t.plan.chainOf l.val).bind fun c => c.at' p.val).map (fun e => (e.identity, e.position, e.config))
      = some (beAt m 2 8, p.val, beAt m 10 1 % 32))
  ∧ (∀ (l : Fin 320) (p : Fin 32) (rtt : BitVec 32) m s e, upMessage 0x82 m = some m → s.eaveAt l.val p.val = some e → e < 8192 →
    Ends (.rangeRspRx l p rtt m) s fun t => t.get (Fl.EAV_EAVE_STATE_DELAY_NS e)
        = min ((rtt.toNat - (if s.unitCode = 1 then beAt m 6 4 else beAt m 10 4) + 1) / 2) 0xFFFFF
      ∧ ((s.port l.val p.val).ranged = false → ((t.port l.val p.val).down.any fun d => d.type == 2) = true
          ∧ (t.port l.val p.val).ranged = true))
  ∧ (∀ (l : Fin 320) (p : Fin 32) (rtt : BitVec 32) m s, upMessage 0x82 m = none → exec (.rangeRspRx l p rtt m) s = .next s)
  ∧ (∀ (l : Fin 320) (p : Fin 32) m s, upMessage 0x83 m = some m → s.get Fl.RDG_STATE_STATE ≠ 2 → Ends (.statusRx l p m) s fun t =>
      (t.port l.val p.val).alarms = beAt m 2 2 ∧ ((s.port l.val p.val).alarms ≠ beAt m 2 2 → newest 113 [] t = true))
  ∧ (∀ (l : Fin 320) (p : Fin 32) m s, upMessage 0x83 m = none → exec (.statusRx l p m) s = .next s)
  ∧ (∀ (l : Fin 320) (p : Fin 32) s e, s.flag (Fl.LANE_GRP_STATUS_TRAINED (l.val / 8)) = true → s.eaveAt l.val p.val = some e → e < 8192 →
    s.flag (Fl.EAV_EAVE_STATE_MAPPED e) = true → s.flag (Fl.EAV_EAVE_STATE_LOST e) = false → s.get Fl.RDG_STATE_STATE ≠ 2 →
    Ends (.eaveLostTimeout l p) s fun t => t.flag (Fl.EAV_EAVE_STATE_LOST e) = true ∧ newest 105 [] t = true)
  ∧ (∀ (l : Fin 320) (p : Fin 32) s, s.flag (Fl.LANE_GRP_STATUS_TRAINED (l.val / 8)) = false → exec (.eaveLostTimeout l p) s = .next s)
  ∧ (∀ s, s.get Fl.EAV_RANGE_CFG_INTERVAL = 0 → exec .rangingInterval s = .next s)
  ∧ (∀ s (c : Chain) (e : EaveRec), s.get Fl.EAV_RANGE_CFG_INTERVAL ≠ 0 → c ∈ s.plan.chains → e ∈ c.inOrder →
    (s.port c.lane e.position).mismatch = false → s.flag (Fl.EAV_EAVE_STATE_MISMATCH e.eave) = false → Ends .rangingInterval s fun t =>
      ((t.port c.lane e.position).down.any fun d => d.type == 4) = true)
  ∧ (∀ (l : Fin 320) (p : Fin 32) s, (s.port l.val p.val).map = none → exec (.slotMapApply l p) s = .next s)
  ∧ (∀ (l : Fin 320) (p : Fin 32) s m e, (s.port l.val p.val).map = some m → (s.port l.val p.val).eave = some e → e < 8192 →
    m.acked = true → Ends (.slotMapApply l p) s fun t =>
      t.flag (Fl.EAV_EAVE_STATE_MAPPED e) = true ∧ (t.port l.val p.val).map = none)
  ∧ (∀ (l : Fin 320) (p : Fin 32) s m e, (s.port l.val p.val).map = some m → (s.port l.val p.val).eave = some e → e < 8192 →
    m.acked = false → m.late = false → s.get Fl.RDG_STATE_STATE ≠ 2 →
    Ends (.slotMapApply l p) s fun t => t.flag (Fl.EAV_EAVE_STATE_MAPPED e) = false
      ∧ (t.port l.val p.val).map = some { m with late := true } ∧ newest 110 [] t = true)

/-- Sub-frames of fronthaul lanes. On a Fronthaul lane that is up a sub-frame goes out between its start and terminate blocks:
its header, the elements, the uplink area of zeros and the control fragments; a receiver takes it. On another lane nothing
happens. What is received on a lane of a group that is not trained is nothing. Octets that are no sub-frame with a good header
are counted with an error for each eave of the chain, end IN_SYNC and are reported once a second. A good header shows LOOP,
PARTNER and ORIGIN_POS, and IN_SYNC after eight in a row. Elements whose last octet came late are counted. A valid element
shows ACCEPT and ORPHAN of its eave, and its samples and what of them is invalid are kept for each stream; one with a wrong
check is counted. -/
def Obligations.SubFrames : Prop :=
  (∀ (l : Fin 320) (sf : BitVec 48) d s, s.laneRuns l.val 1 = false → exec (.subframeTx l sf d) s = .next s)
  ∧ (∀ (l : Fin 320) (sf : BitVec 48) d s, s.laneRuns l.val 1 = true → Ends (.subframeTx l sf d) s fun t =>
    ∃ w b, t.out = .subframe l.val w :: s.out ∧ unwire 0xD5#8 w = some b
      ∧ b = s.subframeHeader sf.toNat (s.plan.chainOf l.val) ++ s.downArea l.val sf.toNat d
          ++ zeros (((s.plan.chainOf l.val).map (·.ulLen)).getD 0) ++ (s.fragments l.val sf.toNat).1
      ∧ (b.length ≤ 37888 → subframeOf w = some b))
  ∧ (∀ (l : Fin 320) b (n : BitVec 16) s, (s.plan.laneHas l.val 1 = false ∨ s.flag (Fl.LANE_GRP_STATUS_TRAINED (l.val / 8)) = false) →
    exec (.subframeRx l b n) s = .next s)
  ∧ (∀ (l : Fin 320) b (n : BitVec 16) s, s.plan.laneHas l.val 1 = true → s.flag (Fl.LANE_GRP_STATUS_TRAINED (l.val / 8)) = true →
    subframeOf b = none → s.get Fl.RDG_STATE_STATE ≠ 2 → Ends (.subframeRx l b n) s fun t =>
      t.flag (Fl.EAV_LANE_STATUS_IN_SYNC l.val) = false
      ∧ t.get Fl.EAV_HDR_ERR_COUNT_COUNT = min (s.get Fl.EAV_HDR_ERR_COUNT_COUNT + 1) (2 ^ 32 - 1)
      ∧ t.get Fl.EAV_ELEM_ERR_COUNT_COUNT
          = min (s.get Fl.EAV_ELEM_ERR_COUNT_COUNT + (((s.plan.chainOf l.val).map fun c => c.inOrder.length).getD 0)) (2 ^ 32 - 1)
      ∧ (s.eav.hdrSecond ≠ s.second + 1 → newest 114 [] t = true))
  ∧ (∀ (l : Fin 320) w (n : BitVec 16) s b, s.plan.laneHas l.val 1 = true → s.flag (Fl.LANE_GRP_STATUS_TRAINED (l.val / 8)) = true →
    s.plan.chainOf l.val = none → subframeOf w = some b → Ends (.subframeRx l w n) s fun t =>
      t.flag (Fl.EAV_LANE_STATUS_LOOP l.val) = (beAt b 1 1 % 4 == 3)
      ∧ t.flag (Fl.EAV_LANE_STATUS_PARTNER l.val) = (beAt b 1 1 % 4 == 3 - s.unitCode)
      ∧ t.get (Fl.EAV_LANE_STATUS_ORIGIN_POS l.val) = beAt b 3 1
      ∧ t.flag (Fl.EAV_LANE_STATUS_IN_SYNC l.val)
          = decide ((s.eavLane l.val).run ≠ 0 ∧ beAt b 6 6 = (s.eavLane l.val).last + 1 ∧ 7 ≤ (s.eavLane l.val).run)
      ∧ (t.eavLane l.val).last = beAt b 6 6)
  ∧ (∀ (l : Fin 320) w (n : BitVec 16) s (c : Chain) b, s.plan.laneHas l.val 1 = true → s.flag (Fl.LANE_GRP_STATUS_TRAINED (l.val / 8)) = true →
    s.plan.chainOf l.val = some c → subframeOf w = some b → Ends (.subframeRx l w n) s fun t =>
      t.get Fl.EAV_LATE_COUNT_COUNT = min (s.get Fl.EAV_LATE_COUNT_COUNT
        + (c.slots.filter fun x => decide (n.toNat < 32 + beAt b 16 2 + x.2.2 + x.1.up)).length) (2 ^ 32 - 1))
  ∧ (∀ (l : Fin 320) w (n : BitVec 16) s (c : Chain) b e d u o, s.plan.laneHas l.val 1 = true →
    s.flag (Fl.LANE_GRP_STATUS_TRAINED (l.val / 8)) = true → s.plan.chainOf l.val = some c → subframeOf w = some b →
    c.slots = [(e, d, u)] → e.eave < 8192 → o = slice b (32 + beAt b 16 2 + u) e.up → o.length = e.up →
    beAt o (e.up - 2) 2 = crc16 (o.take (e.up - 2)) → Ends (.subframeRx l w n) s fun t =>
      t.get (Fl.EAV_EAVE_STATE_ACCEPT e.eave) = bitsOf 15 14 (beAt o 0 2)
      ∧ t.flag (Fl.EAV_EAVE_STATE_ORPHAN e.eave) = bitOf 13 (beAt o 0 2)
      ∧ (∀ k ∈ e.streams, (t.captured (5 * e.eave + k)).head? = some ⟨beAt b 6 6 - 1,
          invalidBlocks o k (decide (n.toNat < 32 + beAt b 16 2 + u + e.up)), e.decode o k⟩))
  ∧ (∀ (l : Fin 320) w (n : BitVec 16) s (c : Chain) b e d u o, s.plan.laneHas l.val 1 = true →
    s.flag (Fl.LANE_GRP_STATUS_TRAINED (l.val / 8)) = true → s.plan.chainOf l.val = some c → subframeOf w = some b →
    c.slots = [(e, d, u)] → o = slice b (32 + beAt b 16 2 + u) e.up → beAt o (e.up - 2) 2 ≠ crc16 (o.take (e.up - 2)) →
    Ends (.subframeRx l w n) s fun t =>
      t.get Fl.EAV_ELEM_ERR_COUNT_COUNT = min (s.get Fl.EAV_ELEM_ERR_COUNT_COUNT + 1) (2 ^ 32 - 1)
      ∧ (∀ k ∈ e.streams, (t.captured (5 * e.eave + k)).head? = some ⟨beAt b 6 6 - 1, 2 ^ (streamBlocks k).2.1 - 1, []⟩))

/-- Loading, committing and cancelling. PLAN_LOAD of an image that passes the checks replaces the staged plan, sets STAGED and
clears the seal; of one that fails it leaves nothing staged and ends with the status of the first check that fails; while a
commit is pending it ends STATE and stages nothing. TABLE_LOAD in replace mode for epoch E + 1 of kinds 1 to 4, whose content
passes its own chapter while the seal is open, stages the image; one that is refused ends with its status and stages nothing.
PLAN_COMMIT that no case of R77 refuses becomes pending without a completion; one that is refused ends with its status.
PLAN_CANCEL at least 8 courses before the target ends the pending commit with ABORTED and REASON 8h; later, or without a
pending commit, it ends STATE. -/
def Obligations.PlanCommands : Prop :=
  (∀ c data s p, admits c s = true → c.len ≠ 0 → posts 0x10 s = true → s.crs.pending = none →
    (s.accepted c).discardStaged.planChecks data = .ok p →
    Ends (.planLoad c data) s fun t => t.crs.staged = some p ∧ t.crs.stagedImage = data
      ∧ t.flag Fl.CRS_PLAN_STATUS_STAGED = true ∧ t.flag Fl.CRS_STAGE_SEAL_SEAL = false ∧ ended 0x10 c .ok s t)
  ∧ (∀ c data s st, admits c s = true → c.len ≠ 0 → posts 0x10 s = true → s.crs.pending = none →
    (match (s.accepted c).discardStaged.planChecks data with | .ok _ => none | .error e => some e) = some st →
    Ends (.planLoad c data) s fun t => t.crs.staged = none ∧ t.flag Fl.CRS_PLAN_STATUS_STAGED = false ∧ ended 0x10 c st s t)
  ∧ (∀ c data s p, admits c s = true → c.len ≠ 0 → posts 0x10 s = true → s.crs.pending = some p →
    Ends (.planLoad c data) s fun t => t.crs.staged = s.crs.staged ∧ ended 0x10 c .state s t)
  ∧ (∀ c (kind : Byte) (epoch : BitVec 32) data s, admits c s = true → c.len ≠ 0 → s.flag Fl.CRS_STAGE_SEAL_SEAL = false →
    epochStatus (s.get Fl.CRS_EPOCH_CUR) epoch.toNat = none → s.tableBusy kind.toNat = false → s.crs.loads = [] →
    ((kind = 1 ∧ (routesOf epoch.toNat data).isSome = true) ∨ (kind = 2 ∧ (tonesOf epoch.toNat data).isSome = true)
      ∨ (kind = 3 ∧ tariffLoadStatus epoch.toNat s.second (s.tableLimit 11 64) data = .ok)
      ∨ (kind = 4 ∧ valLoadStatus epoch.toNat (s.tableLimit 9 16384) (s.tableLimit 10 8) data = .ok)) →
    Ends (.tableLoad c kind 1#8 0#16 epoch data) s fun t => t.stagedTable kind.toNat = some ⟨1, data⟩)
  ∧ (∀ c (kind : Byte) (epoch : BitVec 32) data s st, admits c s = true → c.len ≠ 0 → kind.toNat ≤ 4 → posts 0x11 s = true →
    s.crs.loads = [] → s.tableRefusal kind.toNat epoch.toNat false = some st →
    Ends (.tableLoad c kind 1#8 0#16 epoch data) s fun t => t.crs.tables = s.crs.tables ∧ ended 0x11 c st s t)
  ∧ (∀ c (target : BitVec 64) s, admits c s = true → c.len = 0 → s.commitRefusal target.toNat = none →
    Ends (.planCommit c target) s fun t => t.crs.pending = some ⟨c, target.toNat⟩
      ∧ t.flag Fl.CRS_PLAN_STATUS_COMMIT_PENDING = true ∧ t.out = s.out)
  ∧ (∀ c (target : BitVec 64) s st, admits c s = true → c.len = 0 → posts 0x12 s = true → s.commitRefusal target.toNat = some st →
    Ends (.planCommit c target) s fun t => t.crs = s.crs ∧ ended 0x12 c st s t)
  ∧ (∀ c s p, admits c s = true → c.len = 0 → posts 0x12 s = true → posts 0x13 s = true → s.crs.pending = some p →
    s.course + 8 ≤ p.target → Ends (.planCancel c) s fun t => t.crs.pending = none ∧ t.crs.staged = s.crs.staged
      ∧ t.get Fl.CRS_COMMIT_STATUS_REASON = 8 ∧ t.get Fl.CRS_COMMIT_STATUS_RESULT = 9
      ∧ t.flag Fl.CRS_PLAN_STATUS_COMMIT_PENDING = false ∧ ended 0x13 c .ok s t ∧ ended 0x12 p.cmd .aborted s t)
  ∧ (∀ c s, admits c s = true → c.len = 0 → posts 0x13 s = true →
    ((s.crs.pending.map fun p => decide (s.course + 8 ≤ p.target)).getD false) = false →
    Ends (.planCancel c) s fun t => t.crs = s.crs ∧ ended 0x13 c .state s t)

/-- Battens, the end of a course, errors of on-chip memory and the pass after a commit. While courses run, BATTEN_START begins
the next batten of the course at its instant, takes the errors found in on-chip memory, and then runs its lanes, its cells,
its flags, the erase exchange, the output queues and the acceptance of commands. COURSE_BOUNDARY with every batten begun
closes the course; with battens left it runs them first. While courses are held neither does anything. POST_COMMIT_PASS_DONE
ends the pass with its event, and keeps the table as the base of the next replace image. An error in a slot of the meter table
is counted and leaves the slots as they are; an uncorrectable one takes the slot out of use. An uncorrectable error in the
active plan buffer is kept to the end of its course and triggers a fallback of cause 10b there. -/
def Obligations.Boundaries : Prop :=
  (∀ i s, s.running = true → s.crs.nextBatten < 16 → Ends (.battenStart i) s fun t =>
    ∃ u : State, u.now = s.course * s.period + s.crs.nextBatten * s.period / 16 ∧ u.crs.nextBatten = s.crs.nextBatten + 1
      ∧ u.battenNow = s.crs.nextBatten ∧ u.course = s.course ∧ u.out = s.out
      ∧ t = (((((u.battenErrors i).laneSync.cellBatten i).battenFlags i.valleyNodes).sendErase s.course
          s.crs.nextBatten).drainPorts.acceptRings))
  ∧ (∀ s, s.running = true → 16 ≤ s.crs.nextBatten → Ends .courseBoundary s fun t => t = s.boundary)
  ∧ (∀ s, s.running = true → Ends .courseBoundary s fun t => t = State.boundary (State.quietBattens 16 s))
  ∧ (∀ i s, s.running = false → exec (.battenStart i) s = .next s ∧ exec .courseBoundary s = .next s)
  ∧ (∀ s, s.mtb.passing = true → s.get Fl.RDG_STATE_STATE ≠ 2 → Ends .postCommitPassDone s fun t => t.mtb.passing = false
    ∧ t.mtb.base = t.mtb.slots ∧ newest 228 [] t = true)
  ∧ (∀ s, s.mtb.passing = false → exec .postCommitPassDone s = .next s)
  ∧ (∀ (s : State) (j : BitVec 22) (u : Bool), j.toNat < slotCount → s.mtb.bad.contains j.toNat = false →
    (s.slotError (j, u)).get Fl.MTB_ECC_COUNT_COUNT = min (s.get Fl.MTB_ECC_COUNT_COUNT + 1) (2 ^ 32 - 1)
    ∧ (s.slotError (j, u)).mtb.slots = s.mtb.slots ∧ (s.slotError (j, u)).mtb.bad.contains j.toNat = u)
  ∧ (∀ (s : State) (i : BattenIn), s.resident = false → i.planError = true → (s.battenErrors i).crs.planBad = true)
  ∧ (∀ (s : State) (hit : Bool), s.crs.planBad = true → s.crs.fallback = none → s.triggerCause hit = some 2)

/-- The comb and the scrubber. COMB_PASS_START at a multiple of the comb period starts a pass, which visits its first 32 slots
unless it is paused, or is owed while a pass runs; at another second, or with MTB disabled, it does nothing. SCRUB_BLOCK_READ
of a block advances the scrubber and records every slot that differs from its shadow; the last block ends the pass, and a
failed read ends it with DMA_ERR. A scrubber that is held does nothing. SCRUB_CONFIRM of a mismatch that persists counts it;
without REPAIR the table stays; with REPAIR in ALONE the slot takes the shadow with HIT set and STALE and AGED cleared, and in
ACTIVE the repair goes to the input log; a refused one leaves the table and is reported. One whose slot was written since, or
agrees again, is discarded. -/
def Obligations.MeterTable : Prop :=
  (∀ s, s.enabled 6 = true → s.second % (60 * s.get Fl.MTB_AGE_CFG_COMB_PERIOD) = 0 → s.flag Fl.MTB_COMB_STATUS_RUNNING = false →
    Ends .combPassStart s fun t => t.flag Fl.MTB_COMB_STATUS_RUNNING = true
      ∧ t.get Fl.MTB_COMB_STATUS_POSITION = (if s.mtb.passing || s.mtb.shedPause then 0 else 32))
  ∧ (∀ s, s.enabled 6 = true → s.second % (60 * s.get Fl.MTB_AGE_CFG_COMB_PERIOD) = 0 → s.flag Fl.MTB_COMB_STATUS_RUNNING = true →
    Ends .combPassStart s fun t => t.mtb.combOwed = true ∧ t.regs = s.regs)
  ∧ (∀ s, (s.enabled 6 = false ∨ s.second % (60 * s.get Fl.MTB_AGE_CFG_COMB_PERIOD) ≠ 0) → exec .combPassStart s = .next s)
  ∧ (∀ block s, s.enabled 6 = true → s.scrubHeld = false → s.flag Fl.MTB_SCRUB_STATUS_RUNNING = false → block.length = 4096 →
    Ends (.scrubBlockRead false block) s fun t =>
      t.flag Fl.MTB_SCRUB_STATUS_RUNNING = true ∧ t.get Fl.MTB_SCRUB_STATUS_POSITION = 256 ∧ t.mtb.slots = s.mtb.slots
      ∧ ∀ i : Fin 256, s.sameSlot i.val (slotOf (slice block (16 * i.val) 16)) = false →
          Mismatch.mk i.val (s.now + s.get Fl.MTB_SCRUB_CFG_CONFIRM * 100000000) false ∈ t.mtb.mismatches)
  ∧ (∀ block s, s.scrubHeld = false → s.flag Fl.MTB_SCRUB_STATUS_RUNNING = true → block.length = 4096 →
    slotCount ≤ s.get Fl.MTB_SCRUB_STATUS_POSITION / 256 * 256 + 256 → s.get Fl.RDG_STATE_STATE ≠ 2 →
    Ends (.scrubBlockRead false block) s fun t => t.flag Fl.MTB_SCRUB_STATUS_RUNNING = false ∧ newest 234 [] t = true)
  ∧ (∀ block s, s.enabled 6 = true → s.scrubHeld = false → s.get Fl.RDG_STATE_STATE ≠ 2 →
    Ends (.scrubBlockRead true block) s fun t => t.flag Fl.MTB_SCRUB_STATUS_RUNNING = false
      ∧ t.flag Fl.MTB_SCRUB_STATUS_DMA_ERR = true ∧ t.mtb = s.mtb ∧ newest 233 [] t = true)
  ∧ (∀ failed block (slot : BitVec 22) octets s, s.scrubHeld = true →
    exec (.scrubBlockRead failed block) s = .next s ∧ exec (.scrubConfirm slot failed octets) s = .next s)
  ∧ (∀ (slot : BitVec 22) octets s m, s.scrubHeld = false → (s.mtb.mismatches.find? fun x => x.slot == slot.toNat) = some m →
    m.due ≤ s.now → m.written = false → s.sameSlot slot.toNat (slotOf octets) = false → s.flag Fl.MTB_SCRUB_CFG_REPAIR = false →
    s.get Fl.RDG_STATE_STATE ≠ 2 → Ends (.scrubConfirm slot false octets) s fun t =>
      t.get Fl.MTB_MISMATCH_COUNT_COUNT = min (s.get Fl.MTB_MISMATCH_COUNT_COUNT + 1) (2 ^ 32 - 1) ∧ t.mtb.slots = s.mtb.slots
      ∧ t.word Reg.MTB_SCRUB_LAST = BitVec.ofNat 32 slot.toNat ∧ newest 230 [] t = true
      ∧ ∀ x ∈ t.mtb.mismatches, x.slot ≠ slot.toNat)
  ∧ (∀ (slot : BitVec 22) octets s m, s.scrubHeld = false → (s.mtb.mismatches.find? fun x => x.slot == slot.toNat) = some m →
    m.due ≤ s.now → m.written = false → s.sameSlot slot.toNat (slotOf octets) = false → s.flag Fl.MTB_SCRUB_CFG_REPAIR = true →
    s.get Fl.RDG_STATE_STATE = 0 → s.repairRefused slot.toNat (s.repaired slot.toNat (slotOf octets)) = false →
    Ends (.scrubConfirm slot false octets) s fun t =>
      t.mtb.slots.at slot.toNat = s.repaired slot.toNat (slotOf octets)
      ∧ t.get Fl.MTB_REPAIR_COUNT_COUNT = min (s.get Fl.MTB_REPAIR_COUNT_COUNT + 1) (2 ^ 32 - 1)
      ∧ t.flag Fl.MTB_SCRUB_LAST_REPAIRED = true
      ∧ ((slotOf octets).valid = true → (t.mtb.slots.at slot.toNat).key = (slotOf octets).key
        ∧ (t.mtb.slots.at slot.toNat).hit = true ∧ (t.mtb.slots.at slot.toNat).stale = false
        ∧ (t.mtb.slots.at slot.toNat).aged = false))
  ∧ (∀ (slot : BitVec 22) octets s m, s.scrubHeld = false → (s.mtb.mismatches.find? fun x => x.slot == slot.toNat) = some m →
    m.due ≤ s.now → m.written = false → s.sameSlot slot.toNat (slotOf octets) = false → s.flag Fl.MTB_SCRUB_CFG_REPAIR = true →
    s.get Fl.RDG_STATE_STATE = 1 → s.repairRefused slot.toNat (s.repaired slot.toNat (slotOf octets)) = false →
    Ends (.scrubConfirm slot false octets) s fun t => t.mtb.slots = s.mtb.slots
      ∧ t.hst.inputLog = s.hst.inputLog ++ [.repair slot.toNat octets] ∧ putsOut (.mirrorRepair slot.toNat octets) s t)
  ∧ (∀ (slot : BitVec 22) octets s m, s.scrubHeld = false → (s.mtb.mismatches.find? fun x => x.slot == slot.toNat) = some m →
    m.due ≤ s.now → m.written = false → s.sameSlot slot.toNat (slotOf octets) = false → s.flag Fl.MTB_SCRUB_CFG_REPAIR = true →
    s.get Fl.RDG_STATE_STATE < 2 → s.repairRefused slot.toNat (s.repaired slot.toNat (slotOf octets)) = true →
    Ends (.scrubConfirm slot false octets) s fun t => t.mtb.slots = s.mtb.slots
      ∧ t.flag Fl.MTB_SCRUB_LAST_REFUSED = true ∧ newest 232 [] t = true)
  ∧ (∀ (slot : BitVec 22) octets s m, s.scrubHeld = false → (s.mtb.mismatches.find? fun x => x.slot == slot.toNat) = some m →
    m.due ≤ s.now → (m.written = true ∨ s.sameSlot slot.toNat (slotOf octets) = true) →
    Ends (.scrubConfirm slot false octets) s fun t => t.regs = s.regs ∧ t.mtb.slots = s.mtb.slots
      ∧ ∀ x ∈ t.mtb.mismatches, x.slot ≠ slot.toNat)

/-- METER_STATE_WRITE. For a member METER_STATE_WRITE OP 01h writes the host area, 02h and 03h clear the receive counter of
the radio and of the power-line area, 04h clears the failure marks, and the command ends OK; every other field of the record
and every other record stays. For an index without a member it ends STATE and changes no record. -/
def Obligations.MeterRecords : Prop :=
  (∀ c (i : BitVec 32) data s x, admits c s = true → c.len.toNat = 16 → posts 0x1A s = true → s.memberByIndex i.toNat = some x →
    Ends (.meterStateWrite c i 1#8 data) s fun t => t.meterRec i.toNat = { s.meterRec i.toNat with host := padTo 16 data }
      ∧ ended 0x1A c .ok s t ∧ ∀ k, k ≠ i.toNat → t.meterRec k = s.meterRec k)
  ∧ (∀ c (i : BitVec 32) data s x, admits c s = true → c.len = 0 → posts 0x1A s = true → s.memberByIndex i.toNat = some x →
    Ends (.meterStateWrite c i 2#8 data) s (fun t =>
      t.meterRec i.toNat = { s.meterRec i.toNat with rad := { (s.meterRec i.toNat).rad with rxFc := 0 } } ∧ ended 0x1A c .ok s t)
    ∧ Ends (.meterStateWrite c i 3#8 data) s (fun t =>
      t.meterRec i.toNat = { s.meterRec i.toNat with plc := { (s.meterRec i.toNat).plc with rxFc := 0 } } ∧ ended 0x1A c .ok s t)
    ∧ Ends (.meterStateWrite c i 4#8 data) s (fun t =>
      t.meterRec i.toNat = { s.meterRec i.toNat with
        rad := { (s.meterRec i.toNat).rad with unreachable := false, cslFails := 0 }
        plc := { (s.meterRec i.toNat).plc with neighFail := false, routeFail := false, altFail := false } } ∧ ended 0x1A c .ok s t))
  ∧ (∀ c (i : BitVec 32) data s, admits c s = true → c.len.toNat = 16 → posts 0x1A s = true → s.memberByIndex i.toNat = none →
    Ends (.meterStateWrite c i 1#8 data) s fun t => t.meters = s.meters ∧ ended 0x1A c .state s t)

/-- Frames, acknowledgements and notifications on power-line cells. A frame in reception that is decoded with a good check
sequence, comes from no coordinator of the PAN, is addressed to the cell and asks for an acknowledgement is counted and makes
one owed, from the batten that R132 gives; one from the PAN's coordinator address marks the cell foreign; one that is not
decoded, or fails its check, counts as lost; one in a form that is not supported is counted and reported. Without a frame in
reception nothing happens. An acknowledgement of the first hop that starts within ACK_WAIT ends the wait, and with it the last
fragment of a host's frame; one at another time leaves the wait. When ACK_WAIT is over the frame returns to the head of the
queue with NR incremented while retries are left, and a host's frame that has gone round once then ends NO_ACK. Tone maps,
route errors, mark expiry, PAN conflicts, beacon requests and the reassembly timeout act on the record or cell that they name.
-/
def Obligations.PowerLineInputs : Prop :=
  (∀ (f : PlcFrame) s, s.plan.isPlc f.cell.val = true → (s.mac f.cell.val).rx = true → f.unsupported = false → f.decoded = true →
    f.fcsOk = true → f.kind = .data → (f.srcPan.toNat == s.plan.panId f.cell.val && f.source.toNat == 0) = false →
    f.dstPan.toNat = s.plan.panId f.cell.val → f.dst.toNat = 0 → f.ackReq = true → Ends (.plcFrameRx f) s fun t =>
      (t.mac f.cell.val).rx = false
      ∧ t.get Fl.PLC_RX_OK_COUNT_COUNT = min (s.get Fl.PLC_RX_OK_COUNT_COUNT + 1) (2 ^ 32 - 1)
      ∧ (t.mac f.cell.val).ackOwed = (s.mac f.cell.val).ackOwed ++ [⟨f.frameEnd,
          ((f.frameEnd * 16 + s.period - 1) / s.period - 1 + s.plan.dRx f.cell.val + 1 + s.plan.dTx f.cell.val) * s.period / 16,
          f.dsn.toNat, false⟩])
  ∧ (∀ (f : PlcFrame) s, s.plan.isPlc f.cell.val = true → (s.mac f.cell.val).rx = true → f.unsupported = false → f.decoded = true →
    f.fcsOk = true → f.srcPan.toNat = s.plan.panId f.cell.val → (f.kind = .beacon ∨ f.source = 0#16) →
    Ends (.plcFrameRx f) s fun t => (t.mac f.cell.val).foreign = true ∧ (t.mac f.cell.val).ackOwed = (s.mac f.cell.val).ackOwed)
  ∧ (∀ (f : PlcFrame) s, s.plan.isPlc f.cell.val = true → (s.mac f.cell.val).rx = true → f.unsupported = false →
    (f.decoded = false ∨ f.fcsOk = false) → Ends (.plcFrameRx f) s fun t => (t.mac f.cell.val).rx = false
      ∧ t.get Fl.PLC_RX_LOST_COUNT_COUNT = min (s.get Fl.PLC_RX_LOST_COUNT_COUNT + 1) (2 ^ 32 - 1))
  ∧ (∀ (f : PlcFrame) s, s.plan.isPlc f.cell.val = true → (s.mac f.cell.val).rx = true → f.unsupported = true →
    s.get Fl.RDG_STATE_STATE ≠ 2 → Ends (.plcFrameRx f) s fun t => newest 147 [] t = true
      ∧ t.get Fl.PLC_UNSUPPORTED_COUNT_COUNT = min (s.get Fl.PLC_UNSUPPORTED_COUNT_COUNT + 1) (2 ^ 32 - 1))
  ∧ (∀ (f : PlcFrame) s, (s.plan.isPlc f.cell.val = false ∨ (s.mac f.cell.val).rx = false) → exec (.plcFrameRx f) s = .next s)
  ∧ (∀ (c : Fin 32768) (source : BitVec 16) (n : Nat) s (f : Frame), s.plan.isPlc c.val = true → (s.mac c.val).wait = some f →
    f.hop = source.toNat → s.awaited c.val (n - s.plan.plcAckNs c.val) = true → Ends (.plcAckRx c source n) s fun t =>
      (t.mac c.val).wait = none ∧ (t.mac c.val).vcsEnd = min (s.mac c.val).vcsEnd n)
  ∧ (∀ (c : Fin 32768) (source : BitVec 16) (n : Nat) s (f : Frame) x, s.plan.isPlc c.val = true → (s.mac c.val).wait = some f →
    f.hop = source.toNat → s.awaited c.val (n - s.plan.plcAckNs c.val) = true → f.rest = [] → f.origin = .host x → posts 0x20 s = true →
    Ends (.plcAckRx c source n) s fun t => ended 0x20 x .ok s t)
  ∧ (∀ (c : Fin 32768) (source : BitVec 16) (n : Nat) s, s.plan.isPlc c.val = true →
    s.awaited c.val (n - s.plan.plcAckNs c.val) = false → Ends (.plcAckRx c source n) s fun t =>
      (t.mac c.val).wait = (s.mac c.val).wait ∧ (t.mac c.val).vcsEnd = min (s.mac c.val).vcsEnd n)
  ∧ (∀ (c : Fin 32768) s (f : Frame), s.plan.isPlc c.val = true → s.waitOver c.val = true → (s.mac c.val).wait = some f →
    f.kind ≠ .beacon → f.nr + 1 ≤ s.plan.maxRetries c.val → Ends (.plcAckWaitExpiry c) s fun t => (t.mac c.val).wait = none
      ∧ (t.mac c.val).queue = { f with nb := 0, nr := f.nr + 1 } :: (s.mac c.val).queue)
  ∧ (∀ (c : Fin 32768) s (f : Frame) x, s.plan.isPlc c.val = true → s.waitOver c.val = true → (s.mac c.val).wait = some f →
    f.kind ≠ .beacon → s.plan.maxRetries c.val < f.nr + 1 → f.again = true → f.origin = .host x → posts 0x20 s = true →
    Ends (.plcAckWaitExpiry c) s fun t => ended 0x20 x .busy s t ∧ (t.mac c.val).queue = (s.mac c.val).queue
      ∧ t.get Fl.PLC_NO_ACK_COUNT_COUNT = min (s.get Fl.PLC_NO_ACK_COUNT_COUNT + 1) (2 ^ 32 - 1))
  ∧ (∀ (c : Fin 32768) s, (s.plan.isPlc c.val = false ∨ s.waitOver c.val = false ∨ (s.mac c.val).wait = none) →
    exec (.plcAckWaitExpiry c) s = .next s)
  ∧ (∀ (r : ToneResponse) s i, s.plan.isPlc r.cell.val = true → r.coherent = false → s.plcMeter r.cell.val r.source.toNat = some i →
    Ends (.toneMapResponseRx r) s fun t => (t.meterRec i).plc.tmMod = r.mod.toNat ∧ (t.meterRec i).plc.tmGain = r.gain.toNat
      ∧ (t.meterRec i).plc.tmMap = r.map.toNat ∧ (t.meterRec i).plc.tmCell = r.cell.val
      ∧ (t.meterRec i).plc.tmUntil = (s.second + s.plan.param r.cell.val 20 2) % 2 ^ 32)
  ∧ (∀ (c : Fin 32768) (d : BitVec 16) s i, s.plan.isPlc c.val = true → s.plcMeter c.val d.toNat = some i →
    s.get Fl.RDG_STATE_STATE ≠ 2 → Ends (.routeErrorRx c d) s fun t => (t.meterRec i).plc.routeFail = true
      ∧ (t.meterRec i).plc.failUntil = (s.second + 900) % 2 ^ 32 ∧ newest 143 [] t = true)
  ∧ (∀ (i : BitVec 20) s, (s.meterRec i.toNat).plc.failUntil ≤ s.second % 2 ^ 32 →
    Ends (.failMarkExpiry i) s fun t => (t.meterRec i.toNat).plc.neighFail = false ∧ (t.meterRec i.toNat).plc.routeFail = false
      ∧ (t.meterRec i.toNat).plc.altFail = false)
  ∧ (∀ (i : BitVec 20) s, s.second % 2 ^ 32 < (s.meterRec i.toNat).plc.failUntil → exec (.failMarkExpiry i) s = .next s)
  ∧ (∀ (c : Fin 32768) s, s.plan.isPlc c.val = true → Ends (.panConflictRx c) s fun t => (t.mac c.val).foreign = true
    ∧ ((s.mac c.val).foreignSecond ≠ s.second + 1 →
        t.get Fl.PLC_FOREIGN_LAST_KIND = 3 ∧ t.get Fl.PLC_FOREIGN_LAST_CELL = c.val))
  ∧ (∀ (c : Fin 32768) s, s.plan.kind c.val ≠ 0 → Ends (.beaconRequestRx c) s fun t => (t.mac c.val).beaconOwed = true)
  ∧ (∀ (c : Fin 32768) s, Ends (.reassemblyTimeout c) s fun t =>
      (t.mac c.val).datagrams = (s.mac c.val).datagrams.filter (fun (d : Datagram) => !decide (d.opened + 60 ≤ s.second))
      ∧ (s.plan.isRad c.val = false → t.get Fl.PLC_RX_LOST_COUNT_COUNT = min (s.get Fl.PLC_RX_LOST_COUNT_COUNT
          + ((s.mac c.val).datagrams.filter fun (d : Datagram) => decide (d.opened + 60 ≤ s.second)).length) (2 ^ 32 - 1)))

/-- Joins, route requests and key changes on power-line cells. Under the resident plan LBP_JOINING_RX is refused with reason
1; in a cell that takes no joins with reason 2, of a meter that is not found with 3 and of one without a route with 4. A join
that passes the tests of Table 4.7 opens an exchange, and EAP_PSK_COMPLETE of an open exchange that ended well joins the meter
with the short address of its route entry; one that ended badly is refused with reason 6 and joins nobody. A first route
request opens a collection, in which a better copy takes the place of the one before, and which RREP_WAIT_EXPIRY ends with one
reply towards the best copy. GMK_SWITCH that all have confirmed, or that is due, exchanges the key index and restarts the
frame counter. -/
def Obligations.PowerLineJoins : Prop :=
  (∀ (c : Fin 32768) (eui : BitVec 64) s, s.resident = true →
    Ends (.lbpJoiningRx c eui) s fun t => t.get Fl.PLC_JOIN_LAST_REASON = 1 ∧ t.meters = s.meters)
  ∧ (∀ (c : Fin 32768) (eui : BitVec 64) s, s.resident = false → s.plan.isPlc c.val = true →
    bitOf 1 (s.plan.param c.val 7 1) = false → Ends (.lbpJoiningRx c eui) s fun t =>
      t.get Fl.PLC_JOIN_LAST_REASON = 2 ∧ t.meters = s.meters)
  ∧ (∀ (c : Fin 32768) (eui : BitVec 64) s, s.resident = false → s.plan.isPlc c.val = true →
    bitOf 1 (s.plan.param c.val 7 1) = true → s.lookup eui.toNat = none → Ends (.lbpJoiningRx c eui) s fun t =>
      t.get Fl.PLC_JOIN_LAST_REASON = 3 ∧ t.meters = s.meters)
  ∧ (∀ (c : Fin 32768) (eui : BitVec 64) s i p, s.resident = false → s.plan.isPlc c.val = true →
    bitOf 1 (s.plan.param c.val 7 1) = true → s.lookup eui.toNat = some (i, p) →
    ((FMap.get [] s.cel.routes c.val).find? fun (x : RouteEntry) => x.meter == i) = none → Ends (.lbpJoiningRx c eui) s fun t =>
      t.get Fl.PLC_JOIN_LAST_REASON = 4 ∧ t.meters = s.meters)
  ∧ (∀ (c : Fin 32768) (eui : BitVec 64) s i p e, s.resident = false → s.plan.isPlc c.val = true →
    bitOf 1 (s.plan.param c.val 7 1) = true → s.lookup eui.toNat = some (i, p) →
    ((FMap.get [] s.cel.routes c.val).find? fun (x : RouteEntry) => x.meter == i) = some e → (s.mac c.val).lbp.length < 64 →
    (s.deriveKey 1 (be 8 eui.toNat)).1.isSome = true →
    Ends (.lbpJoiningRx c eui) s fun t => eui.toNat ∈ (t.mac c.val).lbp)
  ∧ (∀ (c : Fin 32768) (eui : BitVec 64) s i p e, (s.mac c.val).lbp.contains eui.toNat = true → s.lookup eui.toNat = some (i, p) →
    ((FMap.get [] s.cel.routes c.val).find? fun (x : RouteEntry) => x.meter == i) = some e →
    FMap.get 0 s.key.courseBindings 2 ≠ 0 → s.get Fl.RDG_STATE_STATE ≠ 2 →
    Ends (.eapPskComplete c eui true) s fun t => (t.meterRec i).plc.joined = true ∧ (t.meterRec i).plc.short = e.short
      ∧ (t.meterRec i).plc.cell = c.val ∧ eui.toNat ∉ (t.mac c.val).lbp ∧ newest 140 [] t = true)
  ∧ (∀ (c : Fin 32768) (eui : BitVec 64) s, (s.mac c.val).lbp.contains eui.toNat = true →
    Ends (.eapPskComplete c eui false) s fun t => t.get Fl.PLC_JOIN_LAST_REASON = 6 ∧ t.meters = s.meters)
  ∧ (∀ (c : Fin 32768) (eui : BitVec 64) ok s, (s.mac c.val).lbp.contains eui.toNat = false →
    exec (.eapPskComplete c eui ok) s = .next s)
  ∧ (∀ (c : Fin 32768) (o id n cost : BitVec 16) (hops : Byte) s, s.plan.isPlc c.val = true →
    FMap.get 0 (s.mac c.val).answered o.toNat ≠ id.toNat + 1 →
    (∀ x ∈ (s.mac c.val).requests, x.originator ≠ o.toNat ∨ x.id ≠ id.toNat) →
    Ends (.routeRequestRx c ⟨o, id⟩ n cost hops) s fun t => (t.mac c.val).requests = (s.mac c.val).requests
      ++ [⟨o.toNat, id.toNat, n.toNat, cost.toNat, hops.toNat, s.now + s.plan.param c.val 26 2 * 1000000⟩])
  ∧ (∀ (c : Fin 32768) (o id n cost : BitVec 16) (hops : Byte) s x, s.plan.isPlc c.val = true →
    FMap.get 0 (s.mac c.val).answered o.toNat ≠ id.toNat + 1 → (s.mac c.val).requests = [x] → x.originator = o.toNat →
    x.id = id.toNat → (cost.toNat < x.cost ∨ (cost.toNat = x.cost ∧ hops.toNat < x.hops)) →
    Ends (.routeRequestRx c ⟨o, id⟩ n cost hops) s fun t =>
      (t.mac c.val).requests = [⟨o.toNat, id.toNat, n.toNat, cost.toNat, hops.toNat, x.due⟩])
  ∧ (∀ (c : Fin 32768) (o id : BitVec 16) s r, s.plan.isPlc c.val = true →
    ((s.mac c.val).requests.find? fun x => x.originator == o.toNat && x.id == id.toNat) = some r → r.due ≤ s.now →
    (s.placeCells (cellQueue c.val true) 2 (cellsOf 1)).1.isSome = true → Ends (.rrepWaitExpiry c ⟨o, id⟩) s fun t =>
      (∀ x ∈ (t.mac c.val).requests, x.originator ≠ o.toNat ∨ x.id ≠ id.toNat)
      ∧ (∃ f ∈ (t.mac c.val).queue, f.kind = .routeReply r.cost r.hops ∧ f.dest = r.neighbour)
      ∧ ∀ i, s.plcMeter c.val r.originator = some i → (t.meterRec i).plc.upCost = r.cost ∧ (t.meterRec i).plc.upHops = r.hops)
  ∧ (∀ (c : Fin 32768) ok s due, (s.mac c.val).gmkSwitch = some due → (ok = true ∨ due ≤ s.now) → s.get Fl.RDG_STATE_STATE ≠ 2 →
    Ends (.gmkSwitch c ok) s fun t => (t.mac c.val).gmkSwitch = none ∧ (t.mac c.val).keyIndex = 1 - (s.mac c.val).keyIndex
      ∧ (t.mac c.val).fc = 0 ∧ newest 150 [] t = true)

/-- FRAME_SEND. Over power line FRAME_SEND to a joined meter with a usable first hop enters the queue of its cell at the end,
over radio to an associated reachable member likewise, when the switch core has room. While the block of its medium is
disabled it ends STATE; without a route entry, or without a member, it ends RANGE; to a meter that has not joined or is not
associated it ends NOT_READY; and none of these queues anything. -/
def Obligations.FrameSending : Prop :=
  (∀ c (i : BitVec 32) (ack : Byte) data s cell e hop alt f, admits c s = true → frameSendIllegal c 1#8 ack = false →
    s.enabled 4 = true → s.routeOf i.toNat = some (cell, e) → (s.meterRec i.toNat).plc.joined = true →
    s.chooseHop cell e = some (hop, alt) →
    f = s.fragmented cell (s.routed cell hop alt { hostFrame c i.toNat (ack == 1) data with dest := e.short }) →
    (s.placeCells (cellQueue cell f.high) 2 (cellsOf f.bytes)).1.isSome = true →
    Ends (.frameSend c i 1#8 ack data) s fun t => (t.mac cell).queue = (s.mac cell).queue
      ++ [{ f with packet := s.swc.nextId, dsn := (s.mac cell).dsn, tag := (s.mac cell).nextTag }])
  ∧ (∀ c (i : BitVec 32) (ack : Byte) data s f, admits c s = true → frameSendIllegal c 2#8 ack = false → s.enabled 5 = true →
    (s.memberByIndex i.toNat).isSome = true → (s.meterRec i.toNat).rad.assoc = true → (s.meterRec i.toNat).rad.unreachable = false →
    f = s.fragmented (s.meterRec i.toNat).rad.cell { hostFrame c i.toNat (ack == 1) data with dest := (s.meterRec i.toNat).rad.short, hop := (s.meterRec i.toNat).rad.short } →
    (s.placeCells (cellQueue (s.meterRec i.toNat).rad.cell f.high) 2 (cellsOf f.bytes)).1.isSome = true →
    Ends (.frameSend c i 2#8 ack data) s fun t =>
      (t.mac (s.meterRec i.toNat).rad.cell).queue = (s.mac (s.meterRec i.toNat).rad.cell).queue
        ++ [{ f with packet := s.swc.nextId, dsn := (s.mac (s.meterRec i.toNat).rad.cell).dsn,
                     tag := (s.mac (s.meterRec i.toNat).rad.cell).nextTag }])
  ∧ (∀ c (i : BitVec 32) (medium ack : Byte) data s, admits c s = true → frameSendIllegal c medium ack = false →
    posts 0x20 s = true → s.enabled (if medium = 1 then 4 else 5) = false →
    Ends (.frameSend c i medium ack data) s fun t => t.cel = s.cel ∧ ended 0x20 c .state s t)
  ∧ (∀ c (i : BitVec 32) (ack : Byte) data s, admits c s = true → frameSendIllegal c 1#8 ack = false → posts 0x20 s = true →
    s.enabled 4 = true → s.routeOf i.toNat = none → Ends (.frameSend c i 1#8 ack data) s fun t => t.cel = s.cel ∧ ended 0x20 c .range s t)
  ∧ (∀ c (i : BitVec 32) (ack : Byte) data s x, admits c s = true → frameSendIllegal c 1#8 ack = false → posts 0x20 s = true →
    s.enabled 4 = true → s.routeOf i.toNat = some x → (s.meterRec i.toNat).plc.joined = false →
    Ends (.frameSend c i 1#8 ack data) s fun t => t.cel = s.cel ∧ ended 0x20 c .notReady s t)
  ∧ (∀ c (i : BitVec 32) (ack : Byte) data s, admits c s = true → frameSendIllegal c 2#8 ack = false → posts 0x20 s = true →
    s.enabled 5 = true → s.memberByIndex i.toNat = none →
    Ends (.frameSend c i 2#8 ack data) s fun t => t.cel = s.cel ∧ ended 0x20 c .range s t)
  ∧ (∀ c (i : BitVec 32) (ack : Byte) data s, admits c s = true → frameSendIllegal c 2#8 ack = false → posts 0x20 s = true →
    s.enabled 5 = true → (s.memberByIndex i.toNat).isSome = true → (s.meterRec i.toNat).rad.assoc = false →
    Ends (.frameSend c i 2#8 ack data) s fun t => t.cel = s.cel ∧ ended 0x20 c .notReady s t)

/-- Frames, acknowledgements and requests on radio cells. A version 2 frame in reception that is decoded with a good check
sequence, is addressed to the cell and asks for an acknowledgement is counted and makes one owed from the batten that R168
gives, whatever its security; one that is not decoded, or fails its check, counts as lost; a mode switch and a frame of
another version are counted and reported as unsupported; a sign of a foreign coordinator marks the cell. A secured data frame
with its tag and a fresh counter updates the area of its meter; without security it is counted as unsecured, of a node that is
no member or with a wrong tag as an authentication failure, and with an old counter as a replay. ENH_ACK_RX within ACK_WAIT
with the sequence number of the awaited frame ends the wait, clears CSL_FAILS of its meter and ends the last fragment of a
host's frame OK. When ACK_WAIT is over the frame returns to the head of the queue while retries are left, and a third failure
in a row to a sleeping meter marks it UNREACHABLE. A disassociation releases the association of its meter in the cell; a chain
fault is raised for a cell that processes both chains. -/
def Obligations.RadioInputs : Prop :=
  (∀ (f : RadFrame) s, s.plan.isRad f.cell.val = true → (s.mac f.cell.val).rx = true → f.modeSwitch = false → f.decoded = true →
    f.fcsOk = true → f.version2 = true → f.kind ≠ .beacon → f.kind ≠ .other → s.radForeign f = 0 → s.radOurs f = true → f.ackReq = true →
    Ends (.radFrameRx f) s fun t => (t.mac f.cell.val).rx = false
      ∧ t.get Fl.RAD_RX_OK_COUNT_COUNT = min (s.get Fl.RAD_RX_OK_COUNT_COUNT + 1) (2 ^ 32 - 1)
      ∧ (t.mac f.cell.val).ackOwed = (s.mac f.cell.val).ackOwed ++ [⟨f.frameEnd,
          ((f.frameEnd * 16 + s.period - 1) / s.period - 1 + s.plan.dRx f.cell.val + 1 + s.plan.dTx f.cell.val) * s.period / 16,
          f.dsn.toNat, f.kind == .dataRequest && (s.mac f.cell.val).pendingList.any fun p => p.eui == f.source.toNat⟩])
  ∧ (∀ (f : RadFrame) s, s.plan.isRad f.cell.val = true → (s.mac f.cell.val).rx = true → f.modeSwitch = false →
    (f.decoded = false ∨ f.fcsOk = false) → Ends (.radFrameRx f) s fun t => (t.mac f.cell.val).rx = false
      ∧ t.get Fl.RAD_RX_LOST_COUNT_COUNT = min (s.get Fl.RAD_RX_LOST_COUNT_COUNT + 1) (2 ^ 32 - 1))
  ∧ (∀ (f : RadFrame) s, s.plan.isRad f.cell.val = true → (s.mac f.cell.val).rx = true →
    (f.modeSwitch = true ∨ (f.decoded = true ∧ f.fcsOk = true ∧ f.version2 = false)) → s.get Fl.RDG_STATE_STATE ≠ 2 →
    Ends (.radFrameRx f) s fun t => newest 191 [] t = true
      ∧ t.get Fl.RAD_UNSUPPORTED_COUNT_COUNT = min (s.get Fl.RAD_UNSUPPORTED_COUNT_COUNT + 1) (2 ^ 32 - 1))
  ∧ (∀ (f : RadFrame) s, s.plan.isRad f.cell.val = true → (s.mac f.cell.val).rx = true → f.modeSwitch = false → f.decoded = true →
    f.fcsOk = true → s.radForeign f ≠ 0 → Ends (.radFrameRx f) s fun t => (t.mac f.cell.val).foreign = true
      ∧ (t.mac f.cell.val).ackOwed = (s.mac f.cell.val).ackOwed)
  ∧ (∀ (f : RadFrame) s, (s.plan.isRad f.cell.val = false ∨ (s.mac f.cell.val).rx = false) → exec (.radFrameRx f) s = .next s)
  ∧ (∀ (f : RadFrame) s i p, s.plan.isRad f.cell.val = true → (s.mac f.cell.val).rx = true → f.modeSwitch = false → f.decoded = true →
    f.fcsOk = true → f.version2 = true → f.suppressed = false → f.kind = .data → s.radForeign f = 0 → s.radOurs f = true →
    f.extended = true → 5 ≤ f.secLevel.val → f.keyMode = 0 → s.lookup f.source.toNat = some (i, p) →
    ((s.deriveKey 3 (be 8 f.source.toNat)).1.map fun x => ccmTag x (ccmNonce f.source.toNat f.fc.toNat f.secLevel.val) f.header
      f.payload (ccmLength f.secLevel.val)) = some f.mic →
    FMap.get 0 (s.mac f.cell.val).lastDsn f.source.toNat ≠ f.dsn.toNat + 1 → (s.meterRec i).rad.rxFc < f.fc.toNat →
    Ends (.radFrameRx f) s fun t => (t.meterRec i).rad.rxFc = f.fc.toNat ∧ (t.meterRec i).rad.lastDsn = f.dsn.toNat
      ∧ (t.meterRec i).rad.rssi = f.rssi.toNat ∧ (t.meterRec i).rad.lastRx = s.second % 2 ^ 32 ∧ (t.meterRec i).rad.cslFails = 0
      ∧ (t.meterRec i).rad.unreachable = false)
  ∧ (∀ (f : RadFrame) s i p, s.plan.isRad f.cell.val = true → (s.mac f.cell.val).rx = true → f.modeSwitch = false → f.decoded = true →
    f.fcsOk = true → f.version2 = true → f.suppressed = false → f.kind = .data → s.radForeign f = 0 → s.radOurs f = true →
    f.extended = true → 5 ≤ f.secLevel.val → f.keyMode = 0 → s.lookup f.source.toNat = some (i, p) →
    ((s.deriveKey 3 (be 8 f.source.toNat)).1.map fun x => ccmTag x (ccmNonce f.source.toNat f.fc.toNat f.secLevel.val) f.header
      f.payload (ccmLength f.secLevel.val)) = some f.mic →
    FMap.get 0 (s.mac f.cell.val).lastDsn f.source.toNat ≠ f.dsn.toNat + 1 → f.fc.toNat ≤ (s.meterRec i).rad.rxFc →
    s.get Fl.RDG_STATE_STATE ≠ 2 → Ends (.radFrameRx f) s fun t => t.meters = s.meters ∧ newest 190 [] t = true
      ∧ t.get Fl.RAD_REPLAY_COUNT_COUNT = min (s.get Fl.RAD_REPLAY_COUNT_COUNT + 1) (2 ^ 32 - 1))
  ∧ (∀ (f : RadFrame) s, s.plan.isRad f.cell.val = true → (s.mac f.cell.val).rx = true → f.modeSwitch = false → f.decoded = true →
    f.fcsOk = true → f.version2 = true → f.suppressed = false → f.kind = .data → s.radForeign f = 0 → s.radOurs f = true →
    (f.extended = false ∨ f.secLevel.val < 5 ∨ f.keyMode ≠ 0) → Ends (.radFrameRx f) s fun t => t.meters = s.meters
      ∧ t.get Fl.RAD_UNSECURED_COUNT_COUNT = min (s.get Fl.RAD_UNSECURED_COUNT_COUNT + 1) (2 ^ 32 - 1))
  ∧ (∀ (f : RadFrame) s, s.plan.isRad f.cell.val = true → (s.mac f.cell.val).rx = true → f.modeSwitch = false → f.decoded = true →
    f.fcsOk = true → f.version2 = true → f.suppressed = false → f.kind = .data → s.radForeign f = 0 → s.radOurs f = true →
    f.extended = true → 5 ≤ f.secLevel.val → f.keyMode = 0 → (s.lookup f.source.toNat = none ∨
    ((s.deriveKey 3 (be 8 f.source.toNat)).1.map fun x => ccmTag x (ccmNonce f.source.toNat f.fc.toNat f.secLevel.val) f.header
      f.payload (ccmLength f.secLevel.val)) ≠ some f.mic) → Ends (.radFrameRx f) s fun t => t.meters = s.meters
      ∧ t.get Fl.RAD_AUTH_FAIL_COUNT_COUNT = min (s.get Fl.RAD_AUTH_FAIL_COUNT_COUNT + 1) (2 ^ 32 - 1))
  ∧ (∀ (c : Fin 32768) (dsn : Byte) (sfd n : Nat) csl s (f : Frame) i, s.plan.isRad c.val = true → (s.mac c.val).wait = some f →
    f.dsn = dsn.toNat → s.awaited c.val sfd = true → f.meter = some i → Ends (.enhAckRx c dsn ⟨sfd, n⟩ csl) s fun t =>
      (t.mac c.val).wait = none ∧ (t.mac c.val).rx = false ∧ (t.meterRec i).rad.cslFails = 0)
  ∧ (∀ (c : Fin 32768) (dsn : Byte) (sfd n : Nat) csl s (f : Frame) x, s.plan.isRad c.val = true → (s.mac c.val).wait = some f →
    f.dsn = dsn.toNat → s.awaited c.val sfd = true → f.rest = [] → f.origin = .host x → posts 0x20 s = true →
    Ends (.enhAckRx c dsn ⟨sfd, n⟩ csl) s fun t => ended 0x20 x .ok s t)
  ∧ (∀ (c : Fin 32768) (dsn : Byte) (sfd n : Nat) csl s, s.awaited c.val sfd = false → exec (.enhAckRx c dsn ⟨sfd, n⟩ csl) s = .next s)
  ∧ (∀ (c : Fin 32768) s (f : Frame), s.plan.isRad c.val = true → s.waitOver c.val = true → (s.mac c.val).wait = some f →
    ((f.meter.map fun i => (s.meterRec i).rad.sleepy).getD false) = false → f.kind ≠ .beacon → f.nr + 1 ≤ s.plan.maxRetries c.val →
    Ends (.radAckWaitExpiry c) s fun t => (t.mac c.val).wait = none
      ∧ (t.mac c.val).queue = { f with nb := 0, nr := f.nr + 1 } :: (s.mac c.val).queue)
  ∧ (∀ (c : Fin 32768) s (f : Frame) i, s.plan.isRad c.val = true → s.waitOver c.val = true → (s.mac c.val).wait = some f →
    f.meter = some i → (s.meterRec i).rad.sleepy = true → (s.meterRec i).rad.cslFails = 2 →
    Ends (.radAckWaitExpiry c) s fun t => (t.meterRec i).rad.unreachable = true ∧ (t.meterRec i).rad.synced = false
      ∧ (t.mac c.val).wait = none)
  ∧ (∀ (c : Fin 32768) s, (s.plan.isRad c.val = false ∨ s.waitOver c.val = false ∨ (s.mac c.val).wait = none) →
    exec (.radAckWaitExpiry c) s = .next s)
  ∧ (∀ (c : Fin 32768) (eui : BitVec 64) s i p, s.lookup eui.toNat = some (i, p) → (s.meterRec i).rad.cell = c.val →
    (s.meterRec i).rad.assoc = true → s.get Fl.RDG_STATE_STATE ≠ 2 → Ends (.disassocNotifyRx c eui) s fun t =>
      (t.meterRec i).rad.assoc = false ∧ (t.meterRec i).rad.cell = 0xFFFF ∧ newest 188 [] t = true)
  ∧ (∀ (c : Fin 32768) (eui : BitVec 64) s, s.lookup eui.toNat = none → exec (.disassocNotifyRx c eui) s = .next s)
  ∧ (∀ (c : Fin 32768) s, s.plan.isRad c.val = true → s.radChains c.val = 3 → s.get Fl.RDG_STATE_STATE ≠ 2 →
    Ends (.chainFaultTimer c) s fun t => newest 200 [] t = true)
  ∧ (∀ (c : Fin 32768) s, (s.plan.isRad c.val = false ∨ s.radChains c.val ≠ 3) → exec (.chainFaultTimer c) s = .next s)

/-- Association on radio cells. Under the resident plan ASSOC_REQUEST_RX is refused with reason 1, in a cell that takes no
requests with reason 2, of a node that is no member with 3 and with a full pending list with 5. A request of a member that
holds no association, to a cell that takes requests with a free address and room in its pending list, associates it with the
lowest free short address and puts the response on the list, due 5 s later; one that is associated there keeps its address,
and one that is associated elsewhere moves. A data request takes the response off the list and queues it; a response that
lapses is dropped, and the association that it holds is released. -/
def Obligations.RadioAssociation : Prop :=
  (∀ (c : Fin 32768) (eui : BitVec 64) s, s.resident = true →
    Ends (.assocRequestRx c eui) s fun t => t.get Fl.RAD_ASSOC_LAST_REASON = 1 ∧ t.meters = s.meters)
  ∧ (∀ (c : Fin 32768) (eui : BitVec 64) s, s.resident = false → s.plan.isRad c.val = true → bitOf 0 (s.plan.param c.val 7 1) = false →
    Ends (.assocRequestRx c eui) s fun t => t.get Fl.RAD_ASSOC_LAST_REASON = 2 ∧ t.meters = s.meters)
  ∧ (∀ (c : Fin 32768) (eui : BitVec 64) s, s.resident = false → s.plan.isRad c.val = true → bitOf 0 (s.plan.param c.val 7 1) = true →
    s.lookup eui.toNat = none →
    Ends (.assocRequestRx c eui) s fun t => t.get Fl.RAD_ASSOC_LAST_REASON = 3 ∧ t.meters = s.meters)
  ∧ (∀ (c : Fin 32768) (eui : BitVec 64) s x, s.resident = false → s.plan.isRad c.val = true → bitOf 0 (s.plan.param c.val 7 1) = true →
    s.lookup eui.toNat = some x → (s.associated c.val).length < 4095 → 16 ≤ (s.mac c.val).pendingList.length →
    Ends (.assocRequestRx c eui) s fun t => t.get Fl.RAD_ASSOC_LAST_REASON = 5 ∧ t.meters = s.meters)
  ∧ (∀ (c : Fin 32768) (eui : BitVec 64) s i p, s.resident = false → s.plan.isRad c.val = true →
    bitOf 0 (s.plan.param c.val 7 1) = true → s.lookup eui.toNat = some (i, p) → (s.meterRec i).rad.assoc = false →
    (s.associated c.val).length < 4095 → (s.mac c.val).pendingList.length < 16 →
    Ends (.assocRequestRx c eui) s fun t => (t.meterRec i).rad.assoc = true ∧ (t.meterRec i).rad.cell = c.val
      ∧ (t.meterRec i).rad.short = s.freeShort c.val
      ∧ (⟨eui.toNat, 0, s.freeShort c.val, some i, s.now + 5000000000⟩ : PendingResponse) ∈ (t.mac c.val).pendingList)
  ∧ (∀ (c : Fin 32768) (eui : BitVec 64) s i p, s.resident = false → s.plan.isRad c.val = true →
    bitOf 0 (s.plan.param c.val 7 1) = true → s.lookup eui.toNat = some (i, p) → (s.meterRec i).rad.assoc = true →
    (s.meterRec i).rad.cell = c.val → (s.mac c.val).pendingList.length < 16 →
    Ends (.assocRequestRx c eui) s fun t => (t.meterRec i).rad.assoc = true ∧ (t.meterRec i).rad.cell = c.val
      ∧ (t.meterRec i).rad.short = (s.meterRec i).rad.short
      ∧ (⟨eui.toNat, 0, (s.meterRec i).rad.short, some i, s.now + 5000000000⟩ : PendingResponse) ∈ (t.mac c.val).pendingList)
  ∧ (∀ (c : Fin 32768) (eui : BitVec 64) s i p, s.resident = false → s.plan.isRad c.val = true →
    bitOf 0 (s.plan.param c.val 7 1) = true → s.lookup eui.toNat = some (i, p) → (s.meterRec i).rad.assoc = true →
    (s.meterRec i).rad.cell ≠ c.val → (s.associated c.val).length < 4095 → (s.mac c.val).pendingList.length < 16 →
    Ends (.assocRequestRx c eui) s fun t => (t.meterRec i).rad.assoc = true ∧ (t.meterRec i).rad.cell = c.val
      ∧ (⟨eui.toNat, 0, (t.meterRec i).rad.short, some i, s.now + 5000000000⟩ : PendingResponse) ∈ (t.mac c.val).pendingList)
  ∧ (∀ (c : Fin 32768) (eui : BitVec 64) s p, s.plan.isRad c.val = true →
    ((s.mac c.val).pendingList.find? fun x => x.eui == eui.toNat) = some p →
    (s.placeCells (cellQueue c.val true) 2 (cellsOf 1)).1.isSome = true → Ends (.dataRequestRx c eui) s fun t =>
      (t.mac c.val).pendingList = (s.mac c.val).pendingList.erase p
      ∧ ∃ f ∈ (t.mac c.val).queue, f.kind = .assocResponse p.status p.short ∧ f.eui = p.eui ∧ f.meter = p.meter)
  ∧ (∀ (c : Fin 32768) (eui : BitVec 64) s, ((s.mac c.val).pendingList.find? fun x => x.eui == eui.toNat) = none →
    exec (.dataRequestRx c eui) s = .next s ∧ exec (.pendingExpiry c eui) s = .next s)
  ∧ (∀ (c : Fin 32768) (eui : BitVec 64) s p i, ((s.mac c.val).pendingList.find? fun x => x.eui == eui.toNat) = some p →
    p.due ≤ s.now → p.meter = some i → (s.meterRec i).rad.cell = c.val → (s.meterRec i).rad.short = p.short →
    Ends (.pendingExpiry c eui) s fun t =>
      (t.mac c.val).pendingList = (s.mac c.val).pendingList.erase p ∧ (t.meterRec i).rad.assoc = false)
  ∧ (∀ (c : Fin 32768) (eui : BitVec 64) s p, ((s.mac c.val).pendingList.find? fun x => x.eui == eui.toNat) = some p →
    p.due ≤ s.now → p.meter = none → Ends (.pendingExpiry c eui) s fun t =>
      (t.mac c.val).pendingList = (s.mac c.val).pendingList.erase p ∧ t.meters = s.meters)
  ∧ (∀ (s : State) (c : Nat), (s.associated c).length < 4095 → 1 ≤ s.freeShort c ∧ s.freeShort c ≤ 4095
      ∧ s.freeShort c ∉ (s.associated c).map fun p => p.2.rad.short)

/-- Packets, the overflow region and the shed level. A packet that fits is admitted at the end of the core with its cells
placed as R283 gives and takes the next packet number; one of class QC0 leaves at once; one of a Drop class that does not fit
is counted against its class, one of a Hold class waits, and so does one behind it. Cells that come back from DRAM are counted
off their packet, within what the resequencer holds, and a DRAM error is counted and ends the frame that the packet held. A
smaller overflow region takes effect when the occupancy has fallen to it. After the margin has held for FALL_S the shed level
falls by one. -/
def Obligations.SwitchCore : Prop :=
  (∀ (port : Fin 64) (cls : Fin 8) (n : Fin 16385) s r p d x, n.val ≠ 0 → cls ≠ 0 →
    (s.swc.holding.any fun h => h.2.1 == cls.val) = false →
    s.placeCells (outQueue port.val cls.val) cls.val (cellsOf n.val) = (some (r, p, d), x) →
    Ends (.packetAdmit port cls n) s fun t => t.swc.nextId = s.swc.nextId + 1
      ∧ t.swc.packets = s.swc.packets ++ [⟨s.swc.nextId, cls.val, outQueue port.val cls.val, n.val,
          FMap.get 0 s.swc.seqs (outQueue port.val cls.val), r, p, d, d⟩])
  ∧ (∀ (port : Fin 64) (n : Fin 16385) s, n.val ≠ 0 → (s.swc.holding.any fun h => h.2.1 == 0) = false →
    Ends (.packetAdmit port 0 n) s fun t => putsOut (.packet port.val 0 n.val) s t)
  ∧ (∀ (port : Fin 64) (cls : Fin 8) (n : Fin 16385) s x, n.val ≠ 0 → classHolds cls.val = false →
    (s.swc.holding.any fun h => h.2.1 == cls.val) = false →
    s.placeCells (outQueue port.val cls.val) cls.val (cellsOf n.val) = (none, x) →
    Ends (.packetAdmit port cls n) s fun t => t.swc.packets = s.swc.packets
      ∧ t.get (Fl.SWC_DROP_COUNT_COUNT cls.val) = min (s.get (Fl.SWC_DROP_COUNT_COUNT cls.val) + 1) (2 ^ 32 - 1))
  ∧ (∀ (port : Fin 64) (cls : Fin 8) (n : Fin 16385) s, n.val ≠ 0 → ((s.swc.holding.any fun h => h.2.1 == cls.val) = true
      ∨ (classHolds cls.val = true ∧ (s.placeCells (outQueue port.val cls.val) cls.val (cellsOf n.val)).1 = none)) →
    Ends (.packetAdmit port cls n) s fun t =>
      t.swc.holding = s.swc.holding ++ [(outQueue port.val cls.val, cls.val, n.val)] ∧ t.swc.packets = s.swc.packets)
  ∧ (∀ (id k : BitVec 32) s p, (s.swc.packets.find? fun p => p.id == id.toNat) = some p →
    Ends (.overflowReadReturn id k) s fun t => t.swc.packets = s.swc.packets.map fun q =>
      if q.id = id.toNat then { q with waiting := q.waiting - min k.toNat (4096 - s.reseqHeld p.queue) } else q)
  ∧ (∀ (id : BitVec 32) s p, (s.swc.packets.find? fun p => p.id == id.toNat && decide (0 < p.waiting)) = some p →
    (∀ m ∈ s.cel.macs, (m.2.queue.find? fun f => f.packet == id.toNat) = none) →
    Ends (.dramReadTimeout id) s fun t =>
      t.get Fl.SWC_DRAM_ERR_COUNT_COUNT = min (s.get Fl.SWC_DRAM_ERR_COUNT_COUNT + 1) (2 ^ 32 - 1)
      ∧ ∀ y ∈ t.swc.toRecord, y.packet ≠ id.toNat)
  ∧ (∀ (id : BitVec 32) s p m (f : Frame) x, (s.swc.packets.find? fun p => p.id == id.toNat && decide (0 < p.waiting)) = some p →
    s.cel.macs = [m] → (m.2.queue.find? fun f => f.packet == id.toNat) = some f → f.origin = .host x → posts 0x20 s = true →
    Ends (.dramReadTimeout id) s fun t => ended 0x20 x .hwFault s t
      ∧ (t.mac m.1).queue = m.2.queue.filter fun x => x.packet != id.toNat)
  ∧ (∀ (id : BitVec 32) s, (s.swc.packets.find? fun p => p.id == id.toNat && decide (0 < p.waiting)) = none →
    exec (.dramReadTimeout id) s = .next s)
  ∧ (∀ s mib, s.swc.shrinkTo = some mib → s.ovfUsed ≤ mib * 16384 → mib < 2 ^ 14 →
    Ends .overflowShrinkDone s fun t => t.swc.shrinkTo = none ∧ t.get Fl.SWC_OVF_SIZE = mib
      ∧ t.flag Fl.SWC_OVF_SHRINKING = false)
  ∧ (∀ s, ((s.swc.shrinkTo.map fun mib => decide (mib * 16384 < s.ovfUsed)).getD true) = true →
    exec .overflowShrinkDone s = .next s)
  ∧ (∀ s at', s.get Fl.RDG_STATE_STATE ≠ 2 → s.swc.fallSince = some at' → s.get Fl.SWC_SHED_LEVEL ≠ 0 →
    s.levelMargin (s.get Fl.SWC_SHED_LEVEL - 1) = true → at' + s.get Fl.SWC_SHED_CFG_FALL_S * 1000000000 ≤ s.now →
    Ends .shedStepDown s fun t => t.get Fl.SWC_SHED_LEVEL = s.get Fl.SWC_SHED_LEVEL - 1 ∧ newest 337 [] t = true)
  ∧ (∀ s, (s.swc.fallSince = none ∨ s.get Fl.SWC_SHED_LEVEL = 0) → exec .shedStepDown s = .next s)

/-- Writing, generating and destroying keys. A KEY_WRITE that rows 1 and 2 of Table 13.2 pass loads its slot with the
attribute, the key, plain or unwrapped, its key check value and the present course, and binds the purpose it names; one whose
wrapping fails is counted and ends AUTH; one that row 2 refuses ends STATE; one of a public key on the curve under a KEY_ID of
its own enters the verification list. KEY_GENERATE MODE RANDOM loads a key of the length asked for, MODE DEVICE the key that
the life-cycle root derives; MODE RANDOM waits in its ring while the source starts, and ends HW_FAULT when it has failed.
KEY_DESTROY empties the slot and ends its bindings, or empties the entry of the verification list. A change completes at once
while the archive is not mounted, and else when the key image is written. -/
def Obligations.KeySlots : Prop :=
  (∀ c (p : KeyWriteParams) data s, admits c s = true → p.target = 0 → p.format = 1 → keyWriteIllegal p data.length = false →
    s.slotStateBad p.index.toNat p.attr.toNat p.replace.toNat p.purpose.toNat = false → posts 0x40 s = true →
    Ends (.keyWrite c p data) s fun t =>
      t.keySlot p.index.toNat = { loaded := true, attr := p.attr.toNat, key := data, origin := 0, kcv := keyCheckValue data, loadCourse := s.course }
      ∧ (p.purpose ≠ 0 → t.boundSlot p.purpose.toNat = some p.index.toNat)
      ∧ (if s.flag Fl.ARC_STATE_MOUNTED = true then
          t.arc.hostWrites = s.arc.hostWrites ++ [⟨0x40, c, [keyUnit], keyCheckValue data, some (475, p.index.toNat)⟩]
        else ended 0x40 c .ok s t))
  ∧ (∀ c (p : KeyWriteParams) data s key, admits c s = true → p.target = 0 → p.format = 2 → keyWriteIllegal p data.length = false →
    s.slotStateBad p.index.toNat p.attr.toNat p.replace.toNat p.purpose.toNat = false →
    (s.keySlot p.wrapSlot.toNat).loaded = true → (s.keySlot p.wrapSlot.toNat).attr = 3 →
    kwUnwrap (s.keySlot p.wrapSlot.toNat).key data = some key → Ends (.keyWrite c p data) s fun t =>
      t.keySlot p.index.toNat = { loaded := true, attr := p.attr.toNat, key := key, origin := 1, kcv := keyCheckValue key, loadCourse := s.course })
  ∧ (∀ c (p : KeyWriteParams) data s, admits c s = true → p.target = 0 → p.format = 2 → keyWriteIllegal p data.length = false →
    s.slotStateBad p.index.toNat p.attr.toNat p.replace.toNat p.purpose.toNat = false →
    (s.keySlot p.wrapSlot.toNat).loaded = true → (s.keySlot p.wrapSlot.toNat).attr = 3 →
    kwUnwrap (s.keySlot p.wrapSlot.toNat).key data = none → posts 0x40 s = true → Ends (.keyWrite c p data) s fun t =>
      t.key.slots = s.key.slots ∧ ended 0x40 c .auth s t
      ∧ t.get Fl.KEY_UNWRAP_FAIL_COUNT_COUNT = min (s.get Fl.KEY_UNWRAP_FAIL_COUNT_COUNT + 1) (2 ^ 32 - 1))
  ∧ (∀ c (p : KeyWriteParams) data s, admits c s = true → p.target = 0 → keyWriteIllegal p data.length = false →
    s.slotStateBad p.index.toNat p.attr.toNat p.replace.toNat p.purpose.toNat = true → posts 0x40 s = true →
    Ends (.keyWrite c p data) s fun t => t.key = s.key ∧ ended 0x40 c .state s t)
  ∧ (∀ c (p : KeyWriteParams) data s, admits c s = true → p.target = 1 → keyWriteIllegal p data.length = false → p.index.toNat ≤ 7 →
    (FMap.get ({} : VKey) s.key.vlist p.index.toNat).keyId = 0 → p.keyId ≠ 0 →
    (s.key.vlist.any fun q => q.1 != p.index.toNat && q.2.keyId == p.keyId.toNat) = false →
    onCurve (beAt data 0 32) (beAt data 32 32) = true →
    Ends (.keyWrite c p data) s fun t =>
      FMap.get ({} : VKey) t.key.vlist p.index.toNat = ⟨p.keyId.toNat, beAt data 0 32, beAt data 32 32⟩)
  ∧ (∀ c (p : KeyGenParams) s, admits c s = true → c.len = 0 → keyGenerateIllegal p = false → p.mode = 1 → p.drawn = [] →
    s.slotStateBad p.slot.toNat p.attr.toNat p.replace.toNat p.purpose.toNat = false → s.get Fl.KEY_ENGINE_STATE_RNG = 1 →
    Ends (.keyGenerate c p) s fun t => (t.keySlot p.slot.toNat).loaded = true ∧ (t.keySlot p.slot.toNat).origin = 2
      ∧ (t.keySlot p.slot.toNat).key.length = p.len.toNat ∧ (t.keySlot p.slot.toNat).attr = p.attr.toNat)
  ∧ (∀ c (p : KeyGenParams) s, admits c s = true → c.len = 0 → keyGenerateIllegal p = false → p.mode = 1 → p.drawn = [] →
    (s.get Fl.KEY_ENGINE_STATE_RNG = 0 ∨ s.get Fl.KEY_ENGINE_STATE_RNG = 2) → Ends (.keyGenerate c p) s fun t => t.key = s.key
      ∧ (t.ring c.func.val c.ring.val).cache.length = (s.ring c.func.val c.ring.val).cache.length + 1)
  ∧ (∀ c (p : KeyGenParams) s, admits c s = true → c.len = 0 → keyGenerateIllegal p = false → p.mode = 1 → p.drawn = [] →
    s.slotStateBad p.slot.toNat p.attr.toNat p.replace.toNat p.purpose.toNat = false → s.get Fl.KEY_ENGINE_STATE_RNG = 3 →
    posts 0x41 s = true → Ends (.keyGenerate c p) s fun t => t.key = s.key ∧ ended 0x41 c .hwFault s t)
  ∧ (∀ c (p : KeyGenParams) s, admits c s = true → c.len = 0 → keyGenerateIllegal p = false → p.mode = 2 → p.drawn = [] →
    s.slotStateBad p.slot.toNat p.attr.toNat p.replace.toNat p.purpose.toNat = false → s.otp.identValid = true →
    s.otp.rootseedValid = true → Ends (.keyGenerate c p) s fun t =>
      (t.keySlot p.slot.toNat).key = s.deviceKey p.label p.attr.toNat p.len.toNat ∧ (t.keySlot p.slot.toNat).origin = 3)
  ∧ (∀ c (i : Byte) s, admits c s = true → c.len = 0 → (s.keySlot i.toNat).loaded = true → posts 0x42 s = true →
    Ends (.keyDestroy c 0#8 i) s fun t => t.keySlot i.toNat = {} ∧ (∀ p, t.boundSlot p ≠ some i.toNat)
      ∧ (if s.flag Fl.ARC_STATE_MOUNTED = true then
          t.arc.hostWrites = s.arc.hostWrites ++ [⟨0x42, c, [keyUnit], [], some (477, i.toNat)⟩]
        else ended 0x42 c .ok s t))
  ∧ (∀ c (i : Byte) s, admits c s = true → c.len = 0 → (s.keySlot i.toNat).loaded = false → posts 0x42 s = true →
    Ends (.keyDestroy c 0#8 i) s fun t => t.key = s.key ∧ ended 0x42 c .ok s t)
  ∧ (∀ c (i : Byte) s, admits c s = true → c.len = 0 → i.toNat ≤ 7 →
    Ends (.keyDestroy c 1#8 i) s fun t => FMap.get ({} : VKey) t.key.vlist i.toNat = {} ∨
      (FMap.get ({} : VKey) s.key.vlist i.toNat).keyId = 0)

/-- Attestation, the entropy source and the DRBG. KEY_ATTEST of a loaded slot writes the statement and a 64-octet signature to
the buffer and answers the key check value; of an empty slot it ends STATE. RANDOM_READ with the source READY writes as many
octets as asked for and counts a request; with the source FAILED it ends HW_FAULT, and otherwise NOT_READY with a buffer of
zeros. A noise sample that differs from the one before it starts a new run unless the source has FAILED; the 81st equal sample
in a row counts a repetition failure, the 460th that equals the first of its window a proportion failure, and each takes READY
to its next state; the 1,024th good sample makes the source READY. DRBG_RESEED restarts the request count when the source is
READY, and waits otherwise. -/
def Obligations.RandomAndAttestation : Prop :=
  (∀ c (slot : Byte) nonce s, opens c s = true → c.len = 192#32 → nonce.length = 32 → (s.keySlot slot.toNat).loaded = true →
    s.otp.identValid = true → s.otp.rootseedValid = true → s.rdg.applying = false → (s.fn c.func.val).fenced = false →
    Ends (.keyAttest c slot nonce) s fun t => putsOut (.completed 0x43 c .ok 0 (padTo 48 (s.keySlot slot.toNat).kcv)) s t
      ∧ (∃ sig, sig.length = 64 ∧ putsOut (.hostData c (s.statement slot.toNat nonce ++ sig)) s t) ∧ t.key = s.key ∧ Counts s t)
  ∧ (∀ c (slot : Byte) nonce s, opens c s = true → c.len = 192#32 → nonce.length = 32 → (s.keySlot slot.toNat).loaded = false →
    s.rdg.applying = false → Ends (.keyAttest c slot nonce) s fun t => ended 0x43 c .state s t ∧ t.key = s.key)
  ∧ (∀ c s, opens c s = true → c.len ≠ 0 → c.len.toNat ≤ 4096 → s.get Fl.KEY_ENGINE_STATE_RNG = 1 → s.key.reseedWaiting = false →
    s.rdg.applying = false → (s.fn c.func.val).fenced = false →
    Ends (.randomRead c) s fun t => (∃ bs, bs.length = c.len.toNat ∧ putsOut (.hostData c bs) s t) ∧ ended 0x44 c .ok s t
      ∧ t.key.requests = s.key.requests + 1)
  ∧ (∀ c s, opens c s = true → c.len ≠ 0 → c.len.toNat ≤ 4096 → s.get Fl.KEY_ENGINE_STATE_RNG ≠ 3 →
    (s.get Fl.KEY_ENGINE_STATE_RNG ≠ 1 ∨ s.key.reseedWaiting = true) → s.rdg.applying = false → (s.fn c.func.val).fenced = false →
    Ends (.randomRead c) s fun t => putsOut (.hostData c (zeros c.len.toNat)) s t ∧ ended 0x44 c .notReady s t ∧ t.key = s.key)
  ∧ (∀ c s, opens c s = true → c.len ≠ 0 → c.len.toNat ≤ 4096 → s.get Fl.KEY_ENGINE_STATE_RNG = 3 → s.rdg.applying = false →
    Ends (.randomRead c) s fun t => ended 0x44 c .hwFault s t ∧ t.key = s.key)
  ∧ (∀ (b : Byte) s, s.get Fl.KEY_ENGINE_STATE_RNG ≠ 3 → s.key.rctLast ≠ b.toNat → s.key.aptMatches < 459 →
    Ends (.entropySample b) s fun t => t.key.rctLast = b.toNat ∧ t.key.rctRun = 1)
  ∧ (∀ (b : Byte) s, s.get Fl.KEY_ENGINE_STATE_RNG = 1 → s.key.rctRun = 80 → s.key.rctLast = b.toNat → s.get Fl.RDG_STATE_STATE ≠ 2 →
    Ends (.entropySample b) s fun t => t.get Fl.KEY_ENGINE_STATE_RNG = 2 ∧ newest 473 [] t = true
      ∧ t.get Fl.KEY_RCT_FAIL_COUNT_COUNT = min (s.get Fl.KEY_RCT_FAIL_COUNT_COUNT + 1) (2 ^ 32 - 1))
  ∧ (∀ (b : Byte) s, s.get Fl.KEY_ENGINE_STATE_RNG = 1 → s.key.rctRun < 80 → 0 < s.key.aptSeen → s.key.aptSeen < 512 →
    s.key.aptFirst = b.toNat → s.key.aptMatches = 459 → Ends (.entropySample b) s fun t => t.get Fl.KEY_ENGINE_STATE_RNG = 2
      ∧ t.get Fl.KEY_APT_FAIL_COUNT_COUNT = min (s.get Fl.KEY_APT_FAIL_COUNT_COUNT + 1) (2 ^ 32 - 1))
  ∧ (∀ (b : Byte) s, s.get Fl.KEY_ENGINE_STATE_RNG = 0 → s.key.rctLast ≠ b.toNat → s.key.aptMatches < 459 → s.key.passing = 1023 →
    s.get Fl.RDG_STATE_STATE ≠ 2 → Ends (.entropySample b) s fun t => t.get Fl.KEY_ENGINE_STATE_RNG = 1 ∧ newest 472 [] t = true)
  ∧ (∀ (b : Byte) s, s.get Fl.KEY_ENGINE_STATE_RNG = 3 → s.get Fl.OTP_LIFECYCLE_CODE ≠ 1 → exec (.entropySample b) s = .next s)
  ∧ (∀ s, s.get Fl.KEY_ENGINE_STATE_RNG = 1 → Ends .drbgReseed s fun t => t.key.requests = 0 ∧ t.key.reseedWaiting = false)
  ∧ (∀ s, s.get Fl.KEY_ENGINE_STATE_RNG ≠ 1 → Ends .drbgReseed s fun t => t.key.reseedWaiting = true ∧ t.key.requests = s.key.requests)

/-- Yelms, top-ups, switch results, the staging bound and pushes. YELM_ARRIVAL moves the next decoded yelm into the queue of
the record engine, counts it when it does not parse, and drops and counts it while REC is disabled. PREPAY_TOPUP outside the
yelm in progress adds its amount to the credit of a member, keeps its identity and ends OK; it adds nothing when it repeats
the last identity, ends RANGE where an operand is out of range and STATE for an index without a member, and waits behind a
yelm in progress of the same meter. The acknowledged result of a disconnect takes an EXHAUSTED meter to DISCONNECTED, and that
of a reconnect ends RECONNECTING. Tile staging that has held a record for 300 s is full, until it falls below its bound.
IMAGE_PUSH to one cell of the plan with room queues one copy set for it under the next packet number; with no cell of the plan
it ends OK with nothing sent. -/
def Obligations.RecordInputs : Prop :=
  (∀ s y rest m, s.swc.toRecord = y :: rest → yelmOf y.payload = some m → s.enabled 7 = true →
    Ends .yelmArrival s fun t => t.bill.queue = s.bill.queue ++ [y] ∧ t.swc.toRecord = rest)
  ∧ (∀ s y rest, s.swc.toRecord = y :: rest → yelmOf y.payload = none →
    Ends .yelmArrival s fun t => t.bill.queue = s.bill.queue ∧ t.swc.toRecord = rest
      ∧ t.get Fl.REC_PARSE_ERR_COUNT_COUNT = min (s.get Fl.REC_PARSE_ERR_COUNT_COUNT + 1) (2 ^ 32 - 1))
  ∧ (∀ s y rest m, s.swc.toRecord = y :: rest → yelmOf y.payload = some m → s.enabled 7 = false →
    Ends .yelmArrival s fun t => t.bill.queue = s.bill.queue ∧ t.swc.toRecord = rest
      ∧ t.get Fl.REC_OFF_DROP_COUNT_COUNT = min (s.get Fl.REC_OFF_DROP_COUNT_COUNT + 1) (2 ^ 32 - 1))
  ∧ (∀ s, s.swc.toRecord = [] → exec .yelmArrival s = .next s)
  ∧ (∀ c (i amount : BitVec 32) (id : BitVec 16) s, admits c s = true → c.len = 0 → posts 0x28 s = true →
    ((s.bill.current.map fun x => x.2 == i.toNat).getD false) = false → id ≠ 0 → i.toNat < 1048576 →
    id.toNat ≠ (s.meterRec i.toNat).bill.topupId → -(2 ^ 31 : Int) ≤ (s.meterRec i.toNat).bill.credit + amount.toInt →
    (s.meterRec i.toNat).bill.credit + amount.toInt < 2 ^ 31 → (s.memberByIndex i.toNat).isSome = true →
    Ends (.prepayTopup c i amount id) s fun t => (t.meterRec i.toNat).bill.credit = (s.meterRec i.toNat).bill.credit + amount.toInt
      ∧ (t.meterRec i.toNat).bill.topupId = id.toNat ∧ ended 0x28 c .ok s t)
  ∧ (∀ c (i amount : BitVec 32) (id : BitVec 16) s, admits c s = true → c.len = 0 → posts 0x28 s = true →
    ((s.bill.current.map fun x => x.2 == i.toNat).getD false) = false → id ≠ 0 → i.toNat < 1048576 →
    id.toNat = (s.meterRec i.toNat).bill.topupId →
    Ends (.prepayTopup c i amount id) s fun t => t.meters = s.meters ∧ ended 0x28 c .ok s t)
  ∧ (∀ c (i amount : BitVec 32) (id : BitVec 16) s, admits c s = true → c.len = 0 → posts 0x28 s = true →
    ((s.bill.current.map fun x => x.2 == i.toNat).getD false) = false → (id = 0 ∨ 1048576 ≤ i.toNat) →
    Ends (.prepayTopup c i amount id) s fun t => t.meters = s.meters ∧ ended 0x28 c .range s t)
  ∧ (∀ c (i amount : BitVec 32) (id : BitVec 16) s, admits c s = true → c.len = 0 → posts 0x28 s = true →
    ((s.bill.current.map fun x => x.2 == i.toNat).getD false) = false → id ≠ 0 → i.toNat < 1048576 →
    id.toNat ≠ (s.meterRec i.toNat).bill.topupId → -(2 ^ 31 : Int) ≤ (s.meterRec i.toNat).bill.credit + amount.toInt →
    (s.meterRec i.toNat).bill.credit + amount.toInt < 2 ^ 31 → s.memberByIndex i.toNat = none →
    Ends (.prepayTopup c i amount id) s fun t => t.meters = s.meters ∧ ended 0x28 c .state s t)
  ∧ (∀ c (i amount : BitVec 32) (id : BitVec 16) s (y : YelmIn), admits c s = true → c.len = 0 → s.bill.current = some (y, i.toNat) →
    Ends (.prepayTopup c i amount id) s fun t =>
      t.bill.topups = s.bill.topups ++ [⟨c, i.toNat, amount.toInt, id.toNat⟩] ∧ t.meters = s.meters)
  ∧ (∀ s (i : Nat) rest, s.bill.results = (i, 1, 0) :: rest → (s.meterRec i).bill.prepay = 4 → s.validateOnly = false →
    Ends .switchResultRx s fun t => (t.meterRec i).bill.prepay = 5 ∧ (t.meterRec i).bill.expect = 1
      ∧ (t.meterRec i).bill.reqOut = false ∧ t.bill.results = rest)
  ∧ (∀ s (i : Nat) rest, s.bill.results = (i, 2, 0) :: rest → (s.meterRec i).bill.prepay = 6 → s.validateOnly = false →
    Ends .switchResultRx s fun t => 1 ≤ (t.meterRec i).bill.prepay ∧ (t.meterRec i).bill.prepay ≤ 3 ∧ (t.meterRec i).bill.expect = 0
      ∧ (t.meterRec i).bill.reqOut = false ∧ t.bill.results = rest)
  ∧ (∀ s, s.bill.results = [] → exec .switchResultRx s = .next s)
  ∧ (∀ s (r : Staged) l, s.arc.staging = r :: l → r.at' + 300000000000 ≤ s.now → s.flag Fl.REC_STAGING_FULL = false →
    s.get Fl.RDG_STATE_STATE ≠ 2 → Ends .stagingBoundChange s fun t => t.flag Fl.REC_STAGING_FULL = true
      ∧ t.arc.staging = s.arc.staging ∧ newest 267 [] t = true)
  ∧ (∀ s, s.arc.staging = [] → Ends .stagingBoundChange s fun t => t.flag Fl.REC_STAGING_FULL = false ∧ t.arc = s.arc)
  ∧ (∀ c (kind times : Byte) (n : BitVec 16) data s p k, admits c s = true → pushIllegal kind n 1#16 data = false → 1 ≤ n.toNat →
    n.toNat ≤ 1200 → times ≠ 0 → times.toNat ≤ 4 → 1 ≤ FMap.get 0 s.plan.totals 0x0E →
    (s.placeCells (outQueue 58 3) 3 (cellsOf n.toNat)).1 = some p → leAt data n.toNat 2 = k → k < 32768 → s.plan.kind k ≠ 0 →
    s.packetSum (fun p => p.queue == cellQueue k false) (fun p => p.reserve + p.pool + p.dram) + s.pushCells (cellQueue k false)
      + cellsOf n.toNat ≤ 256 → (∀ m ∈ s.swc.mcasts, m.id ≠ s.swc.nextId) →
    Ends (.imagePush c kind times n 1#16 data) s fun t => (∃ m ∈ t.swc.mcasts, m.id = s.swc.nextId ∧ m.cmd = c
        ∧ m.payload = data.take n.toNat ∧ m.targets = [(k, times.toNat, true)])
      ∧ ∃ f ∈ (t.mac k).queue, f.origin = .push s.swc.nextId)
  ∧ (∀ c (kind times : Byte) (n : BitVec 16) data s p, admits c s = true → pushIllegal kind n 1#16 data = false → 1 ≤ n.toNat →
    n.toNat ≤ 1200 → times ≠ 0 → times.toNat ≤ 4 → 1 ≤ FMap.get 0 s.plan.totals 0x0E → posts 0x21 s = true →
    (s.placeCells (outQueue 58 3) 3 (cellsOf n.toNat)).1 = some p → s.plan.kind (leAt data n.toNat 2) = 0 →
    (∀ m ∈ s.swc.mcasts, m.id ≠ s.swc.nextId) →
    Ends (.imagePush c kind times n 1#16 data) s fun t => ended 0x21 c .ok s t ∧ t.cel = s.cel ∧ t.swc.mcasts = s.swc.mcasts)
  ∧ (∀ c (kind times : Byte) (n : BitVec 16) data s, admits c s = true → pushIllegal kind n 1#16 data = false → posts 0x21 s = true →
    (n = 0 ∨ 1200 < n.toNat ∨ times = 0 ∨ 4 < times.toNat ∨ FMap.get 0 s.plan.totals 0x0E = 0) →
    Ends (.imagePush c kind times n 1#16 data) s fun t => ended 0x21 c .range s t ∧ t.cel = s.cel ∧ t.swc = s.swc)

/-- The slate link. A frame of another epoch, or for an absent position, changes nothing. HELLO is kept until GEOMETRY, which
brings a hub UP where nothing differs. CREDIT only raises limits. A sequenced frame out of order only owes an ACK. The
completion of a PROGRAM marks its page written and releases what staging held of it; one that failed has its block replaced
and its page written again; the last erase of a band frees it; a completion whose TAG is not outstanding revokes an UP hub. A
STOP_DONE takes its hub off the stop. A bad FCS is counted; a reserved TYPE revokes; a NOP changes no hub. Unacknowledged
frames are resent with their resends counted, and the ninth time the hub is revoked. A NOP answers what is owed, on the slate
link and on the ridge. -/
def Obligations.SlateLink : Prop :=
  (∀ (h : SlateHdr) s, ((s.hub h.hub.val).epoch ≠ h.epoch.toNat ∨ (s.hub h.hub.val).state = 0) → exec (.slateHelloRx h) s = .next s)
  ∧ (∀ (h : SlateHdr) s, (s.hub h.hub.val).epoch = h.epoch.toNat → (s.hub h.hub.val).state ≠ 0 → (s.hub h.hub.val).unacked = [] → (s.hub h.hub.val).backlog = [] →
    Ends (.slateHelloRx h) s fun t => (t.hub h.hub.val).hello = true ∧ (t.hub h.hub.val).state = (s.hub h.hub.val).state)
  ∧ (∀ (h : SlateHdr) (b : Octets) s, (s.hub h.hub.val).epoch = h.epoch.toNat → (s.hub h.hub.val).state ≠ 0 → (s.hub h.hub.val).unacked = [] → (s.hub h.hub.val).backlog = [] →
    (s.hub h.hub.val).state = 1 → (s.hub h.hub.val).hello = true → (s.hub h.hub.val).rxSeq = h.seq.toNat → s.arc.format = none →
    s.arc.job = none → Ends (.slateGeometryRx h b) s fun t => (t.hub h.hub.val).state = 2 ∧ (t.hub h.hub.val).seenId = (geometryOf b).1
      ∧ (t.hub h.hub.val).geom = some (geometryOf b).2 ∧ (t.hub h.hub.val).rxSeq = (h.seq.toNat + 1) % 2 ^ 32)
  ∧ (∀ (h : SlateHdr) (b : Octets) s, (s.hub h.hub.val).epoch = h.epoch.toNat → (s.hub h.hub.val).state ≠ 0 → (s.hub h.hub.val).unacked = [] → (s.hub h.hub.val).backlog = [] → (s.hub h.hub.val).rxSeq ≠ h.seq.toNat →
    Ends (.slateGeometryRx h b) s fun t => (t.hub h.hub.val).ackOwed = true ∧ (t.hub h.hub.val).state = (s.hub h.hub.val).state
      ∧ (t.hub h.hub.val).geom = (s.hub h.hub.val).geom ∧ (t.hub h.hub.val).rxSeq = (s.hub h.hub.val).rxSeq)
  ∧ (∀ (h : SlateHdr) (c w : BitVec 32) s, (s.hub h.hub.val).epoch = h.epoch.toNat → (s.hub h.hub.val).state ≠ 0 → (s.hub h.hub.val).unacked = [] → (s.hub h.hub.val).backlog = [] → (s.hub h.hub.val).rxSeq = h.seq.toNat →
    Ends (.slateCreditRx h c w) s fun t => (t.hub h.hub.val).cmdLimit = max (s.hub h.hub.val).cmdLimit c.toNat
      ∧ (t.hub h.hub.val).wbufLimit = max (s.hub h.hub.val).wbufLimit w.toNat)
  ∧ (∀ (h : SlateHdr) (g : BitVec 16) (st : Byte) (d : Octets) s, (s.hub h.hub.val).epoch = h.epoch.toNat → (s.hub h.hub.val).state ≠ 0 → (s.hub h.hub.val).unacked = [] → (s.hub h.hub.val).backlog = [] → (s.hub h.hub.val).state = 2 → (s.hub h.hub.val).rxSeq = h.seq.toNat →
    (∀ o ∈ (s.hub h.hub.val).outstanding, o.tag ≠ g.toNat) → noProgram h.hub.val s = true → s.get Fl.RDG_STATE_STATE ≠ 2 →
    Ends (.slateCplRx h g st d) s fun t => revoked h.hub.val s t ∧ newest 372 (le 1 h.hub.val) t = true)
  ∧ (∀ (h : SlateHdr) (g : BitVec 16) (d : Octets) s (f : Format) (o : DieOp) (b p : Nat), (s.hub h.hub.val).epoch = h.epoch.toNat → (s.hub h.hub.val).state ≠ 0 → (s.hub h.hub.val).unacked = [] → (s.hub h.hub.val).backlog = [] → (s.hub h.hub.val).rxSeq = h.seq.toNat →
    (s.hub h.hub.val).outstanding = [o] → (s.hub h.hub.val).waiting = [] → o.tag = g.toNat → o.purpose = .page b p →
    s.arc.format = some f → (s.band b).use ≠ .hot →
    Ends (.slateCplRx h g 0 d) s fun t => (t.hub h.hub.val).outstanding = [] ∧ (t.band b).done = (s.band b).done ++ [p]
      ∧ t.arc.staging = s.arc.staging.filter fun (r : Staged) => r.place != some (b, p))
  ∧ (∀ (h : SlateHdr) (g : BitVec 16) (d : Octets) s (f : Format) (o : DieOp) (b p : Nat), (s.hub h.hub.val).epoch = h.epoch.toNat → (s.hub h.hub.val).state ≠ 0 → (s.hub h.hub.val).unacked = [] → (s.hub h.hub.val).backlog = [] → (s.hub h.hub.val).rxSeq = h.seq.toNat →
    (s.hub h.hub.val).outstanding = [o] → o.tag = g.toNat → o.purpose = .page b p → s.arc.format = some f →
    ∃ u : State, exec (.slateCplRx h g 1 d) s = .next ((u.rewrite f b [p]).pumpAll h.hub.val)
      ∧ (u.hub h.hub.val).outstanding = [] ∧ u.arc.bands = s.arc.bands ∧ u.arc.staging = s.arc.staging
      ∧ (u.die (dieNumber h.hub.val (stripeOf b))).failed.contains (b / 2048) = true
      ∧ u.get Fl.ARC_PROG_FAIL_COUNT_COUNT = min (s.get Fl.ARC_PROG_FAIL_COUNT_COUNT + 1) (2 ^ 32 - 1))
  ∧ (∀ (h : SlateHdr) (g : BitVec 16) (d : Octets) s (f : Format) (o : DieOp) (b m : Nat), (s.hub h.hub.val).epoch = h.epoch.toNat → (s.hub h.hub.val).state ≠ 0 → (s.hub h.hub.val).unacked = [] → (s.hub h.hub.val).backlog = [] → (s.hub h.hub.val).rxSeq = h.seq.toNat →
    (s.hub h.hub.val).outstanding = [o] → (s.hub h.hub.val).waiting = [] → o.tag = g.toNat → o.purpose = .erase b m →
    s.arc.format = some f → m < f.width (stripeOf b) → (s.band b).erases = [m] →
    Ends (.slateCplRx h g 0 d) s fun t => (t.hub h.hub.val).outstanding = [] ∧ t.band b = {})
  ∧ (∀ (h : SlateHdr) s (l : List Nat), (s.hub h.hub.val).epoch = h.epoch.toNat → (s.hub h.hub.val).state ≠ 0 → (s.hub h.hub.val).unacked = [] → (s.hub h.hub.val).backlog = [] → (s.hub h.hub.val).rxSeq = h.seq.toNat → s.arc.stopping = some l →
    Ends (.slateStopDoneRx h) s fun t => t.arc.stopping = some (l.filter fun k => k != h.hub.val))
  ∧ (∀ (h : SlateHdr) (ty : Byte) s, Ends (.slateNopRx h ty true) s fun t => t.arc.fcsErr = true ∧ t.arc.hubs = s.arc.hubs
    ∧ t.get Fl.ARC_FCS_ERR_COUNT_COUNT = min (s.get Fl.ARC_FCS_ERR_COUNT_COUNT + 1) (2 ^ 32 - 1))
  ∧ (∀ (h : SlateHdr) (ty : Byte) s, (s.hub h.hub.val).epoch = h.epoch.toNat → (s.hub h.hub.val).state = 2 → slateType ty.toNat = false →
    noProgram h.hub.val s = true → s.get Fl.RDG_STATE_STATE ≠ 2 →
    Ends (.slateNopRx h ty false) s fun t => revoked h.hub.val s t ∧ newest 372 (le 1 h.hub.val) t = true)
  ∧ (∀ (h : SlateHdr) (ty : Byte) s, (s.hub h.hub.val).epoch = h.epoch.toNat → (s.hub h.hub.val).state ≠ 0 → (s.hub h.hub.val).unacked = [] → (s.hub h.hub.val).backlog = [] → slateType ty.toNat = true →
    Ends (.slateNopRx h ty false) s fun t => ∀ k : Fin 128, t.hub k.val = s.hub k.val)
  ∧ (∀ (h : Fin 128) s, (s.hub h.val).unacked = [] → exec (.slateResendTimer h) s = .next s)
  ∧ (∀ (h : Fin 128) s, (s.hub h.val).unacked ≠ [] → (∀ f ∈ (s.hub h.val).unacked, f.resends < 8) →
    Ends (.slateResendTimer h) s fun t => (t.hub h.val).unacked = (s.hub h.val).unacked.map (fun f => { f with resends := f.resends + 1 })
      ∧ t.get Fl.ARC_RETX_COUNT_COUNT = min (s.get Fl.ARC_RETX_COUNT_COUNT + (s.hub h.val).unacked.length) (2 ^ 32 - 1))
  ∧ (∀ (h : Fin 128) s f, (s.hub h.val).state = 2 → (s.hub h.val).unacked = [f] → 8 ≤ f.resends → noProgram h.val s = true →
    s.get Fl.RDG_STATE_STATE ≠ 2 → Ends (.slateResendTimer h) s fun t => revoked h.val s t ∧ newest 372 (le 1 h.val) t = true)
  ∧ (∀ (h : Fin 128) s, (s.hub h.val).ackOwed = true → Ends (.ackNopTimer (some h)) s fun t => (t.hub h.val).ackOwed = false
    ∧ t.out = .slate h.val (wireFrame 0x5D#8 (slateFrame (s.hub h.val).epoch 0 0 (s.hub h.val).txSeq (s.hub h.val).rxSeq [])) :: s.out)
  ∧ (∀ s, s.rdg.ackOwed = true → Ends (.ackNopTimer none) s fun t => t.rdg.ackOwed = false
    ∧ t.out = .ridge true (wireFrame 0x9D#8 (s.ridgeFrame 0 0 (s.course % 2 ^ 32) 0 [])) :: s.out)

/-- Timers of hubs, verification and the hot stream. Waiting too long for credit, an outstanding command, or lost block lock
revokes an UP hub: a new epoch with no credit, counted and reported; PROGRAMs of it make their bands close early. A hub that
has not answered is sent HELLO. A revoked hub that stays silent is LOST, and its open bands close early. The verification of a
band without failed pages ends with its parity slot free. The checkpoint goes to the other CKPT copy with the per-meter state,
and an anchor; nothing while not mounted. With 3 free hot bands nothing is collected; with fewer, a closed hot band with no
valid unit left is erased. -/
def Obligations.HubTimers : Prop :=
  (∀ (h : Fin 128) s, (s.hub h.val).waiting ≠ [] → (s.hub h.val).state = 2 → noProgram h.val s = true → s.get Fl.RDG_STATE_STATE ≠ 2 →
    Ends (.creditTimeout h) s fun t => revoked h.val s t ∧ (t.hub h.val).waiting = (s.hub h.val).outstanding ++ (s.hub h.val).waiting
      ∧ (t.hub h.val).outstanding = [] ∧ newest 372 (le 1 h.val) t = true)
  ∧ (∀ (h : Fin 128) s, (s.hub h.val).waiting = [] → exec (.creditTimeout h) s = .next s)
  ∧ (∀ (h : Fin 128) s, (s.hub h.val).outstanding ≠ [] → (s.hub h.val).state = 2 → noProgram h.val s = true →
    s.get Fl.RDG_STATE_STATE ≠ 2 → Ends (.cmdTimeout h) s fun t => revoked h.val s t
      ∧ (t.hub h.val).waiting = (s.hub h.val).outstanding ++ (s.hub h.val).waiting ∧ newest 372 (le 1 h.val) t = true)
  ∧ (∀ (h : Fin 128) s, (s.hub h.val).outstanding = [] → exec (.cmdTimeout h) s = .next s)
  ∧ (∀ (h : Fin 128) s, (s.hub h.val).state = 2 → noProgram h.val s = true → s.get Fl.RDG_STATE_STATE ≠ 2 →
    Ends (.hubLinkLost h) s fun t => revoked h.val s t ∧ newest 372 (le 1 h.val) t = true
      ∧ t.arc.bands = s.arc.bands ∧ t.arc.staging = s.arc.staging)
  ∧ (∀ (h : Fin 128) s, (s.hub h.val).state = 2 → ∃ u : State,
    exec (.hubLinkLost h) s = .next
      (match (((u.failCommands h.val).bump Fl.ARC_REVOKE_COUNT_COUNT).hubEvent 372 h.val).hubLane h.val with
      | some l => (((u.failCommands h.val).bump Fl.ARC_REVOKE_COUNT_COUNT).hubEvent 372 h.val).emit (.laneIdle l 1)
      | none => ((u.failCommands h.val).bump Fl.ARC_REVOKE_COUNT_COUNT).hubEvent 372 h.val)
    ∧ (u.hub h.val).state = 3 ∧ (u.hub h.val).epoch = ((s.hub h.val).epoch + 1) % 256
    ∧ (u.hub h.val).cmdLimit = 0 ∧ (u.hub h.val).wbufLimit = 0 ∧ (u.hub h.val).unacked = []
    ∧ ∀ k, k ≠ h.val → u.hub k = s.hub k)
  ∧ (∀ (h : Fin 128) s, (s.hub h.val).state ≠ 2 → exec (.hubLinkLost h) s = .next s)
  ∧ (∀ (h : Fin 128) s, (s.hub h.val).state ≠ 0 → (s.hub h.val).state ≠ 2 → Ends (.hubHelloTimer h) s fun t =>
    t.out = .slate h.val (wireFrame 0x5D#8
      (slateFrame (s.hub h.val).epoch 1 0 (s.hub h.val).txSeq (s.hub h.val).rxSeq (be 1 1 ++ be 1 1 ++ zeros 6))) :: s.out)
  ∧ (∀ (h : Fin 128) s, ((s.hub h.val).state = 0 ∨ (s.hub h.val).state = 2) → exec (.hubHelloTimer h) s = .next s)
  ∧ (∀ (h : Fin 128) s, (s.hub h.val).state = 3 → s.get Fl.RDG_STATE_STATE ≠ 2 → s.arc.format = none →
    Ends (.hubLostTimeout h) s fun t => (t.hub h.val).state = 4 ∧ (t.hub h.val).waiting = (s.hub h.val).waiting
      ∧ newest 373 (le 1 h.val) t = true)
  ∧ (∀ (h : Fin 128) s, (s.hub h.val).state = 3 → s.get Fl.RDG_STATE_STATE ≠ 2 → (∀ o ∈ (s.hub h.val).waiting, o.op ≠ 1) →
    ∃ u : State, exec (.hubLostTimeout h) s = .next (match u.arc.format with
      | none => u
      | some f => (u.openOn f h.val).foldl (fun s b => s.rewrite f b []) u)
    ∧ (u.hub h.val).state = 4 ∧ newest 373 (le 1 h.val) u = true)
  ∧ (∀ (h : Fin 128) s, (s.hub h.val).state ≠ 3 → exec (.hubLostTimeout h) s = .next s)
  ∧ (∀ (b : BitVec 32) s (f : Format), s.arc.format = some f → (s.band b.toNat).verifying = true →
    (∀ p ∈ (s.band b.toNat).done, s.pageLost f b.toNat p = false) → s.arc.staging = [] →
    Ends (.bandVerifyDone b []) s fun t => t.band b.toNat = { s.band b.toNat with verifying := false }
      ∧ t.get Fl.ARC_LOST_TILE_COUNT_COUNT = s.get Fl.ARC_LOST_TILE_COUNT_COUNT
      ∧ t.get Fl.ARC_RECON_COUNT_COUNT = s.get Fl.ARC_RECON_COUNT_COUNT)
  ∧ (∀ (b : BitVec 32) (l : List Nat) s, (s.band b.toNat).verifying = false → exec (.bandVerifyDone b l) s = .next s)
  ∧ (∀ s, s.flag Fl.ARC_STATE_MOUNTED = true → s.flag Fl.ARC_STATE_FORMATTING = false → s.arc.format = none →
    Ends .checkpointTimer s fun t => t.arc.ckpt = s.meters ∧ t.arc.ckptCopy = 1 - s.arc.ckptCopy ∧ t.arc.anchorSeq = s.arc.anchorSeq + 1)
  ∧ (∀ s f, s.flag Fl.ARC_STATE_MOUNTED = true → s.flag Fl.ARC_STATE_FORMATTING = false → s.arc.format = some f →
    ∃ u : State, exec .checkpointTimer s = .next (u.metaBand.hotWrites ((List.range 4096).map fun k => 65536 + 4096 * (1 - s.arc.ckptCopy) + k))
      ∧ u.arc.ckpt = s.meters ∧ u.arc.ckptCopy = 1 - s.arc.ckptCopy ∧ u.arc.anchorSeq = s.arc.anchorSeq + 1)
  ∧ (∀ s, s.flag Fl.ARC_STATE_MOUNTED = false → exec .checkpointTimer s = .next s)
  ∧ (∀ s f, s.arc.format = some f → 3 ≤ s.countBands f true (fun b => b.use == .free) → exec .hotGc s = .next s)
  ∧ (∀ s (f : Format) b, s.arc.format = some f → s.countBands f true (fun b => b.use == .free) < 3 →
    s.flag Fl.ARC_STATE_MOUNTED = true → (s.arc.bands.filter fun p => p.2.use == .hot && !p.2.isOpen && !p.2.verifying) = [b] →
    s.validUnits b.1 = [] → ((f.members (stripeOf b.1 / 128)).all fun m => (s.die (dieNumber m.1 (stripeOf b.1))).failed.isEmpty) = true →
    Ends .hotGc s fun t => (t.band b.1).use = .erasing ∧ (t.band b.1).units = [] ∧ ∀ k : Fin 4096, k.val ≠ b.1 → t.band k.val = s.band k.val)
  ∧ (∀ s f b, s.arc.format = some f → s.countBands f true (fun b => b.use == .free) < 3 → s.flag Fl.ARC_STATE_MOUNTED = true →
    (s.arc.bands.filter fun p => p.2.use == .hot && !p.2.isOpen && !p.2.verifying) = [b] →
    exec .hotGc s = .next (((s.validUnits b.1).foldl (fun s u => s.hotWrite f true u) s).eraseBand f b.1))

/-- Commands on the archive. ARCHIVE_FORMAT with legal parameters in a life cycle and a state that allow it waits for every
present hub, and ends RANGE with none; one hub that is not UP in time ends it HW_FAULT; the last erase of its last hub ends it
OK with the new archive mounted. ARCHIVE_ADOPT of a FOREIGN hub of the format geometry enters its HUB_ID into the format.
ARCHIVE_SCAN with a tile ring takes a free place; without a mounted archive it ends NOT_READY. ARCHIVE_HOST_READ of units that
are not on a hub ends OK at once, one of a unit on hubs that can be reached reads its pages and ends OK with the last of them,
one on a hub that cannot be reached ends HW_FAULT. ARCHIVE_HOST_WRITE keeps its data and waits until it is written. -/
def Obligations.ArchiveCommands : Prop :=
  (∀ c (mode coldOpen spare : Byte) (hot : BitVec 32) s, admits c s = true → c.len = 0 → s.get Fl.OTP_LIFECYCLE_CODE ≠ 3 → s.get Fl.OTP_LIFECYCLE_CODE ≠ 5 →
    s.arc.scans = [] → s.val.retro = none → s.arc.job = none → 1 ≤ mode.toNat → mode.toNat ≤ 4 → 4 ≤ coldOpen.toNat →
    coldOpen.toNat ≤ 32 → 1 ≤ spare.toNat → spare.toNat ≤ 10 → 32 ≤ hot.toNat → hot.toNat ≤ 65536 →
    ∃ u : State, exec (.archiveFormat c mode coldOpen spare 0 hot) s = .next u.formatReady
      ∧ u.arc.job = some ⟨c, mode.toNat, hot.toNat, coldOpen.toNat, spare.toNat, [], false⟩)
  ∧ (∀ c (mode coldOpen spare : Byte) (hot : BitVec 32) s, admits c s = true → c.len = 0 → s.get Fl.OTP_LIFECYCLE_CODE ≠ 3 → s.get Fl.OTP_LIFECYCLE_CODE ≠ 5 →
    s.arc.scans = [] → s.val.retro = none → s.arc.job = none → 1 ≤ mode.toNat → mode.toNat ≤ 4 → 4 ≤ coldOpen.toNat →
    coldOpen.toNat ≤ 32 → 1 ≤ spare.toNat → spare.toNat ≤ 10 → 32 ≤ hot.toNat → hot.toNat ≤ 65536 → (s.formatHubs.any fun x => x.2.2.2.isNone) = true →
    Ends (.archiveFormat c mode coldOpen spare 0 hot) s fun t =>
      t.arc.job = some ⟨c, mode.toNat, hot.toNat, coldOpen.toNat, spare.toNat, [], false⟩ ∧ t.arc.format = s.arc.format
      ∧ t.flag Fl.ARC_STATE_MOUNTED = s.flag Fl.ARC_STATE_MOUNTED)
  ∧ (∀ c (mode coldOpen spare : Byte) (hot : BitVec 32) s, admits c s = true → c.len = 0 → s.get Fl.OTP_LIFECYCLE_CODE ≠ 3 → s.get Fl.OTP_LIFECYCLE_CODE ≠ 5 →
    s.arc.scans = [] → s.val.retro = none → s.arc.job = none → 1 ≤ mode.toNat → mode.toNat ≤ 4 → 4 ≤ coldOpen.toNat →
    coldOpen.toNat ≤ 32 → 1 ≤ spare.toNat → spare.toNat ≤ 10 → 32 ≤ hot.toNat → hot.toNat ≤ 65536 → s.formatHubs = [] → posts 0x38 s = true →
    Ends (.archiveFormat c mode coldOpen spare 0 hot) s fun t =>
      t.arc.job = none ∧ t.arc.format = s.arc.format ∧ ended 0x38 c .range s t)
  ∧ (∀ c (mode coldOpen spare : Byte) (hot : BitVec 32) s, admits c s = true → c.len = 0 → s.get Fl.OTP_LIFECYCLE_CODE = 3 →
    posts 0x38 s = true → Ends (.archiveFormat c mode coldOpen spare 0 hot) s fun t => t.arc = s.arc ∧ ended 0x38 c .state s t)
  ∧ (∀ s j, s.arc.job = some j → j.started = false → posts 0x38 s = true → Ends .formatHubTimeout s fun t =>
      t.arc.job = none ∧ t.flag Fl.ARC_STATE_FORMATTING = false ∧ ended 0x38 j.cmd .hwFault s t)
  ∧ (∀ s, s.arc.job = none → exec .formatHubTimeout s = .next s)
  ∧ (∀ (h : SlateHdr) (g : BitVec 16) (d : Octets) s (j : FormatJob) (m : HubFmt) (o : DieOp), (s.hub h.hub.val).epoch = h.epoch.toNat → (s.hub h.hub.val).state ≠ 0 → (s.hub h.hub.val).unacked = [] → (s.hub h.hub.val).backlog = [] → (s.hub h.hub.val).rxSeq = h.seq.toNat →
    (s.hub h.hub.val).outstanding = [o] → (s.hub h.hub.val).waiting = [] → o.tag = g.toNat → o.purpose = .format →
    s.arc.job = some j → j.started = true → j.hubs = [(h.hub.val, some m)] → (s.hub h.hub.val).formatLeft = [] →
    m.geom.channels ≤ nextDie m.geom (s.hub h.hub.val).formatDie / 8 → s.arc.hostWrites = [] → posts 0x38 s = true →
    Ends (.slateCplRx h g 0 d) s fun t => t.arc.job = none ∧ t.flag Fl.ARC_STATE_FORMATTING = false
      ∧ t.flag Fl.ARC_STATE_MOUNTED = true ∧ t.get Fl.ARC_STATE_CELL_MODE = j.mode % 8 ∧ (t.arc.format.map fun f => f.hubs) = some j.hubs
      ∧ t.arc.supers = [] ∧ t.arc.ckpt = s.meters ∧ ended 0x38 j.cmd .ok s t)
  ∧ (∀ c (h : Byte) s f g m, admits c s = true → c.len = 0 → h.toNat ≤ 127 → posts 0x39 s = true → s.arc.format = some f →
    (s.hub h.toNat).geom = some g → f.hub h.toNat = some m → (s.hub h.toNat).state = 5 → m.geom.shape = g.shape → s.arc.staging = [] →
    Ends (.archiveAdopt c h) s fun t => (t.hub h.toNat).state = 1 ∧ ended 0x39 c .ok s t
      ∧ (t.arc.format.bind fun x => x.hub h.toNat) = some { m with hubId := (s.hub h.toNat).seenId })
  ∧ (∀ c (h : Byte) s f g m, admits c s = true → c.len = 0 → h.toNat ≤ 127 → posts 0x39 s = true → s.arc.format = some f →
    (s.hub h.toNat).geom = some g → f.hub h.toNat = some m → (s.hub h.toNat).state = 5 → m.geom.shape ≠ g.shape →
    Ends (.archiveAdopt c h) s fun t => t.arc = s.arc ∧ ended 0x39 c .range s t)
  ∧ (∀ c (h : Byte) s, admits c s = true → c.len = 0 → h.toNat ≤ 127 → posts 0x39 s = true → s.arc.format = none →
    Ends (.archiveAdopt c h) s fun t => t.arc = s.arc ∧ ended 0x39 c .state s t)
  ∧ (∀ c (p : ScanParams) s, opens c s = true → c.len = 0 → p.valley.toNat ≤ 1 → (s.ring c.func.val p.ring.val).type = 2 →
    s.flag Fl.ARC_STATE_MOUNTED = true → s.enabled 10 = true → s.arc.scans = [] → p.fromS.toNat ≤ p.toS.toNat →
    p.first.toNat ≤ p.last.toNat → p.last.toNat < (if p.valley = 1 then 2 ^ 14 else 2 ^ 20) → Ends (.archiveScan c p) s fun t =>
      t.scan 0 = some (Scan.mk c p.fromS.toNat p.toS.toNat p.first.toNat p.last.toNat p.mask.toNat (p.valley == 1) p.ring.val
        (s.coldIndex.map Superblock.place) 0 false [] 0 0 0)
      ∧ t.get Fl.ARC_OPEN_SCANS = 1)
  ∧ (∀ c (p : ScanParams) s, opens c s = true → c.len = 0 → p.valley.toNat ≤ 1 → (s.ring c.func.val p.ring.val).type = 2 →
    s.flag Fl.ARC_STATE_MOUNTED = false → posts 0x3A s = true →
    Ends (.archiveScan c p) s fun t => t.arc = s.arc ∧ ended 0x3A c .notReady s t)
  ∧ (∀ c (unit count : BitVec 32) s, opens c s = true → c.len.toNat = 65536 * count.toNat → s.flag Fl.ARC_STATE_MOUNTED = true →
    1 ≤ count.toNat → count.toNat ≤ 256 → unit.toNat + count.toNat ≤ s.hostUnitCount → posts 0x3B s = true → s.arc.hotMap = [] →
    Ends (.archiveHostRead c unit count) s fun t => t.arc = s.arc ∧ ended 0x3B c .ok s t)
  ∧ (∀ c (unit : BitVec 32) s (f : Format), opens c s = true → c.len = 65536 → s.flag Fl.ARC_STATE_MOUNTED = true →
    unit.toNat + 1 ≤ s.hostUnitCount → s.arc.format = some f →
    (s.unitReads f (hostFirst + unit.toNat) (.host s.arc.readNumber)).isEmpty = false →
    ((s.unitReads f (hostFirst + unit.toNat) (.host s.arc.readNumber)).all fun o => !s.unreachable o.1) = true →
    Ends (.archiveHostRead c unit 1) s fun t => (t.arc.hostReads.map fun r => (r.cmd, r.number, r.left))
      = (s.arc.hostReads.map fun r => (r.cmd, r.number, r.left))
        ++ [(c, s.arc.readNumber, (s.unitReads f (hostFirst + unit.toNat) (.host s.arc.readNumber)).length)])
  ∧ (∀ c (unit : BitVec 32) s (f : Format), opens c s = true → c.len = 65536 → s.flag Fl.ARC_STATE_MOUNTED = true →
    unit.toNat + 1 ≤ s.hostUnitCount → s.arc.format = some f → posts 0x3B s = true →
    ((s.unitReads f (hostFirst + unit.toNat) (.host s.arc.readNumber)).any fun o => s.unreachable o.1) = true →
    Ends (.archiveHostRead c unit 1) s fun t => t.arc = s.arc ∧ ended 0x3B c .hwFault s t)
  ∧ (∀ (h : SlateHdr) (g : BitVec 16) (d : Octets) s (f : Format) (o : DieOp) (r : HostRead), (s.hub h.hub.val).epoch = h.epoch.toNat → (s.hub h.hub.val).state ≠ 0 → (s.hub h.hub.val).unacked = [] → (s.hub h.hub.val).backlog = [] → (s.hub h.hub.val).rxSeq = h.seq.toNat →
    (s.hub h.hub.val).outstanding = [o] → (s.hub h.hub.val).waiting = [] → o.tag = g.toNat → o.purpose = .host r.number →
    s.arc.format = some f → s.arc.hostReads = [r] → r.left ≤ 1 → posts 0x3B s = true →
    Ends (.slateCplRx h g 0 d) s fun t => t.arc.hostReads = [] ∧ ended 0x3B r.cmd .ok s t)
  ∧ (∀ c (unit : BitVec 32) (data : Octets) s, admits c s = true → data.length = 65536 → s.flag Fl.ARC_STATE_MOUNTED = true →
    unit.toNat + 1 ≤ s.hostUnitCount → 1 < s.get Fl.ARC_HOT_FREE_BANDS → ∃ u : State,
    exec (.archiveHostWrite c unit 1 data) s = .next (u.hotWrites [hostFirst + unit.toNat])
      ∧ FMap.get [] u.arc.hostUnits unit.toNat = data
      ∧ u.arc.hostWrites = s.arc.hostWrites ++ [{ op := 0x3C, cmd := c, left := [hostFirst + unit.toNat] }])
  ∧ (∀ c (unit : BitVec 32) (data : Octets) s f b, admits c s = true → data.length = 65536 → s.flag Fl.ARC_STATE_MOUNTED = true →
    unit.toNat + 1 ≤ s.hostUnitCount → 1 < s.get Fl.ARC_HOT_FREE_BANDS → s.arc.format = some f → s.arc.hotOpen = b + 1 →
    Ends (.archiveHostWrite c unit 1 data) s fun t => FMap.get [] t.arc.hostUnits unit.toNat = data
      ∧ t.arc.hostWrites = s.arc.hostWrites ++ [{ op := 0x3C, cmd := c, left := [hostFirst + unit.toNat] }]
      ∧ FMap.get 0 t.arc.hotMap (hostFirst + unit.toNat) = 1 + 65536 * b + (s.band b).bytes / 65536)

/-- Scans and verification. A place without a scan does nothing, and a scan waits under shed level 2. A scan whose batch its
tile ring cannot take yet waits; a record that its ring takes is delivered, one that it does not take is counted as dropped. A
scan with nothing left to read ends OK and frees its place; one with a page that is still held takes its records; one whose
page is on a hub that cannot be reached counts it unreadable. The verification of a band that has no failed page ends it. -/
def Obligations.ScansAndBands : Prop :=
  (∀ (k : Fin 8) s, s.scan k.val = none → exec (.scanBatch k) s = .next s)
  ∧ (∀ (k : Fin 8) s, 2 ≤ s.get Fl.SWC_SHED_LEVEL → exec (.scanBatch k) s = .next s)
  ∧ (∀ (k : Fin 8) s (x : Scan) (f : Format) o, s.scan k.val = some x → s.arc.format = some f → s.get Fl.SWC_SHED_LEVEL < 2 → x.reading = false →
    x.batch = [o] → s.ringAdmits x.cmd.func.val x.ring 2 = true →
    (s.ring x.cmd.func.val x.ring).size < (s.ring x.cmd.func.val x.ring).held + 1 → exec (.scanBatch k) s = .next s)
  ∧ (∀ (k : Fin 8) s (x : Scan) (f : Format) o, s.scan k.val = some x → s.arc.format = some f → s.get Fl.SWC_SHED_LEVEL < 2 → x.reading = false →
    x.batch = [o] → (s.ring x.cmd.func.val x.ring).held + 1 ≤ (s.ring x.cmd.func.val x.ring).size →
    (s.deliverTile x.cmd.func.val x.ring o).1 = true → Ends (.scanBatch k) s fun t =>
      t.scan k.val = some { x with batch := [], delivered := x.delivered + 1 })
  ∧ (∀ (k : Fin 8) s (x : Scan) (f : Format) o, s.scan k.val = some x → s.arc.format = some f → s.get Fl.SWC_SHED_LEVEL < 2 → x.reading = false →
    x.batch = [o] → s.ringAdmits x.cmd.func.val x.ring 2 = false → Ends (.scanBatch k) s fun t =>
      t.scan k.val = some { x with batch := [], dropped := x.dropped + 1 }
      ∧ t.get Fl.ARC_SCAN_DROP_COUNT_COUNT = min (s.get Fl.ARC_SCAN_DROP_COUNT_COUNT + 1) (2 ^ 32 - 1))
  ∧ (∀ (k : Fin 8) s (x : Scan) (f : Format), s.scan k.val = some x → s.arc.format = some f → s.get Fl.SWC_SHED_LEVEL < 2 → x.reading = false →
    x.batch = [] → s.scanNext f x = none → posts 0x3A s = true → s.get Fl.RDG_STATE_STATE ≠ 2 → Ends (.scanBatch k) s fun t =>
      t.scan k.val = none ∧ ended 0x3A x.cmd .ok s t ∧ newest 387 [] t = true)
  ∧ (∀ (k : Fin 8) s (x : Scan) (f : Format) (i p : Nat) (l : List Nat) (y : Superblock), s.scan k.val = some x → s.arc.format = some f →
    s.get Fl.SWC_SHED_LEVEL < 2 → x.reading = false → x.batch = [] → s.scanNext f x = some (i :: l, p) → s.superAt i = some y →
    (s.band y.band).done.contains (65536 * y.start / max 1 (f.pageSize (stripeOf y.band)) + p) = false → Ends (.scanBatch k) s fun t =>
      ∃ batch, t.scan k.val = some { x with left := i :: l, page := p + 1, batch := batch }
        ∧ batch = y.onPage (max 1 (f.pageSize (stripeOf y.band)))
          (65536 * y.start / max 1 (f.pageSize (stripeOf y.band)) + p) x.wants)
  ∧ (∀ (k : Fin 8) s (x : Scan) (f : Format) (i p : Nat) (l : List Nat) (y : Superblock) (h : Nat) (o : DieOp), s.scan k.val = some x →
    s.arc.format = some f → s.get Fl.SWC_SHED_LEVEL < 2 → x.reading = false → x.batch = [] → s.scanNext f x = some (i :: l, p) →
    s.superAt i = some y →
    (s.band y.band).done.contains (65536 * y.start / max 1 (f.pageSize (stripeOf y.band)) + p) = true →
    s.pageOp f y.band (65536 * y.start / max 1 (f.pageSize (stripeOf y.band)) + p) 1 []
      (.scan k.val y.place (65536 * y.start / max 1 (f.pageSize (stripeOf y.band)) + p)) = some (h, o) →
    Ends (.scanBatch k) s fun t => t.scan k.val =
      some { x with left := i :: l, page := p + 1, reading := !s.unreachable h, unreadable := x.unreadable + b2n (s.unreachable h) })
  ∧ (∀ (b : BitVec 32) s (f : Format), s.arc.format = some f → (s.band b.toNat).verifying = true → (s.band b.toNat).use ≠ .hot →
    (∀ h : Fin 128, (s.hub h.val).state ≠ 4) → ((s.band b.toNat).done.all fun p => !s.pageLost f b.toNat p) = true →
    ∃ u : State, exec (.bandVerifyDone b []) s = .next u.writeReleased
      ∧ (u.band b.toNat).verifying = false ∧ (u.band b.toNat).done = (s.band b.toNat).done
      ∧ ∀ k, k ≠ b.toNat → u.band k = s.band k)

/-- Frames of the ridge. A frame with a bad check or another epoch is counted and nothing else; one of the partner shows its
state. CX and ERASE are kept with the course they are of, a late ERASE is counted. A bulk frame in order of one part delivers
its object, one of several is kept until the rest has come, one out of order only owes an ACK. Unacknowledged bulk frames are
resent and counted; the eighth time a new epoch begins with none. HELLO goes out while no exchange does. A silent link, and
one that was never up, is down. An object that has expired is gone. -/
def Obligations.RidgeLink : Prop :=
  (∀ (h : RidgeHdr) s, (h.fcsBad = true ∨ h.epoch.toNat ≠ s.rdg.epoch) → Ends (.ridgeNopRx h) s fun t => t.rdg = s.rdg
    ∧ t.get Fl.RDG_FCS_ERR_COUNT_COUNT = min (s.get Fl.RDG_FCS_ERR_COUNT_COUNT + 1) (2 ^ 32 - 1))
  ∧ (∀ (h : RidgeHdr) s, h.fcsBad = false → h.epoch.toNat = s.rdg.epoch → s.rdg.refused = false → h.unit.val = 3 - s.unitCode →
    s.rdg.unacked = [] → s.rdg.backlog = [] →
    Ends (.ridgeNopRx h) s fun t => t.get Fl.RDG_STATE_PARTNER_STATE = h.state.val ∧ t.flag Fl.RDG_STATE_PARTNER_VALID = true
      ∧ t.rdg.heard = true ∧ t.rdg.silent = 0)
  ∧ (∀ (h : RidgeHdr) (arr : BitVec 64) (x : RidgeCx) s, h.fcsBad = false → h.epoch.toNat = s.rdg.epoch → s.rdg.refused = false → h.unit.val = 3 - s.unitCode →
    s.rdg.unacked = [] → s.rdg.backlog = [] →
    Ends (.ridgeCxRx h arr x) s fun t => t.rdg.received.head? = some (x, arr.toNat) ∧ t.rdg.heard = true)
  ∧ (∀ (h : RidgeHdr) (n : BitVec 64) (b : Fin 16) (m : List (BitVec 32)) s, h.fcsBad = false → h.epoch.toNat = s.rdg.epoch → s.rdg.refused = false → h.unit.val = 3 - s.unitCode →
    s.rdg.unacked = [] → s.rdg.backlog = [] →
    Ends (.ridgeEraseRx h n b m false) s fun t => t.rdg.erasures.head? = some (16 * n.toNat + b.val, m.map BitVec.toNat))
  ∧ (∀ (h : RidgeHdr) (n : BitVec 64) (b : Fin 16) (m : List (BitVec 32)) s, h.fcsBad = false → h.epoch.toNat = s.rdg.epoch → s.rdg.refused = false → h.unit.val = 3 - s.unitCode →
    s.rdg.unacked = [] → s.rdg.backlog = [] →
    Ends (.ridgeEraseRx h n b m true) s fun t => t.rdg.erasures = s.rdg.erasures
        ∧ t.get Fl.RDG_ERASE_LATE_COUNT_COUNT = min (s.get Fl.RDG_ERASE_LATE_COUNT_COUNT + 1) (2 ^ 32 - 1))
  ∧ (∀ (h : RidgeHdr) (o : BitVec 32) (bs : Octets) s, h.fcsBad = false → h.epoch.toNat = s.rdg.epoch → s.rdg.refused = false → h.unit.val = 3 - s.unitCode →
    s.rdg.unacked = [] → s.rdg.backlog = [] → s.get Fl.RDG_STATE_STATE = 2 → s.rdg.rxSeq = h.seq.toNat →
    Ends (.ridgeBulkRx h 1 o 0 (BitVec.ofNat 32 bs.length) bs) s fun t =>
      FMap.get ([], 0) t.rdg.objects o.toNat = (bs.take (bs.length % 2 ^ 32), s.now)
        ∧ t.rdg.rxSeq = (h.seq.toNat + 1) % 2 ^ 32 ∧ t.rdg.ackOwed = true)
  ∧ (∀ (h : RidgeHdr) (k : Byte) (o n : BitVec 32) (bs : Octets) s, h.fcsBad = false → h.epoch.toNat = s.rdg.epoch → s.rdg.refused = false → h.unit.val = 3 - s.unitCode →
    s.rdg.unacked = [] → s.rdg.backlog = [] → s.rdg.rxSeq = h.seq.toNat → bs.length < n.toNat →
    Ends (.ridgeBulkRx h k o 0 n bs) s fun t => t.rdg.inbound.head? = some (k.toNat, o.toNat, bs) ∧ t.rdg.objects = s.rdg.objects
        ∧ t.rdg.rxSeq = (h.seq.toNat + 1) % 2 ^ 32 ∧ t.rdg.ackOwed = true)
  ∧ (∀ (h : RidgeHdr) (k : Byte) (o off n : BitVec 32) (bs : Octets) s, h.fcsBad = false → h.epoch.toNat = s.rdg.epoch → s.rdg.refused = false → h.unit.val = 3 - s.unitCode →
    s.rdg.unacked = [] → s.rdg.backlog = [] → s.rdg.rxSeq ≠ h.seq.toNat →
    Ends (.ridgeBulkRx h k o off n bs) s fun t =>
      t.rdg.rxSeq = s.rdg.rxSeq ∧ t.rdg.inbound = s.rdg.inbound ∧ t.rdg.objects = s.rdg.objects ∧ t.rdg.ackOwed = true)
  ∧ (∀ s, s.rdg.unacked = [] → exec .ridgeResendTimer s = .next s)
  ∧ (∀ s, s.rdg.unacked ≠ [] → (∀ f ∈ s.rdg.unacked, f.resends < 7) → Ends .ridgeResendTimer s fun t =>
      t.rdg.unacked = s.rdg.unacked.map (fun f => { f with resends := f.resends + 1 })
      ∧ t.get Fl.RDG_RETX_COUNT_COUNT = min (s.get Fl.RDG_RETX_COUNT_COUNT + s.rdg.unacked.length) (2 ^ 32 - 1))
  ∧ (∀ s f, s.rdg.unacked = [f] → 7 ≤ f.resends → Ends .ridgeResendTimer s fun t =>
      t.rdg.unacked = [] ∧ t.rdg.backlog = [] ∧ t.rdg.epoch = (s.rdg.epoch + 1) % 256 ∧ t.flag Fl.RDG_STATE_LINK_UP = false
      ∧ putsOut (.ridgeIdle 1) s t)
  ∧ (∀ s, s.sendsCx = false → s.ridgeGroups ≠ [] → (s.ridgeLanes = true ∨ s.flag Fl.RDG_STATE_LINK_UP = false) → Ends .ridgeHelloTimer s fun t => t.rdg.helloSent = true
      ∧ putsOut (.ridge true (wireFrame 0x9D#8 (s.ridgeFrame 1 0 (s.course % 2 ^ 32) 0 (helloOctets s.ownHello)))) s t)
  ∧ (∀ s, s.sendsCx = true → exec .ridgeHelloTimer s = .next s)
  ∧ (∀ s, s.tim.held = false → s.rdg.silent < s.get Fl.RDG_CFG_LINK_TO → exec .ridgeLinkTimeout s = .next s)
  ∧ (∀ s, (s.tim.held = true ∨ s.get Fl.RDG_CFG_LINK_TO ≤ s.rdg.silent) → s.flag Fl.RDG_STATE_LINK_UP = true →
    Ends .ridgeLinkTimeout s fun t => t.flag Fl.RDG_STATE_LINK_UP = false ∧ t.flag Fl.RDG_STATE_PARTNER_VALID = false)
  ∧ (∀ (o : BitVec 32) s, Ends (.mirrorObjectExpiry o) s fun t => FMap.get ([], 0) t.rdg.objects o.toNat = ([], 0)
      ∧ ∀ k, k ≠ o.toNat → FMap.get ([], 0) t.rdg.objects k = FMap.get ([], 0) s.rdg.objects k)

/-- Unit states, start-up, arbitration and joins. HELLO of a unit that is not accepted is refused, once; one of a unit that is
accepted makes it the partner, and in start-up one that runs courses makes this unit ask to join. A claim goes out once after
the back-off, and a partner that claims makes this unit ask to join unless its own claim stands as unit A. Without a partner
the unit starts with MARK 0 and, once nobody else is accepted, is ALONE. A split is reported, and the unit with fewer
accepting eaves goes to HOLD. The active unit accepts a join that is asked for; a join too long under way fails. The end of
the copy and the verdict of a replay are shown; SWITCHOVER and REJOIN are taken in their states only, from the owner. -/
def Obligations.RidgeStates : Prop :=
  (∀ (h : RidgeHdr) (m : RidgeHello) s, h.fcsBad = false → s.refuses h m = true → s.rdg.refused = false → s.get Fl.RDG_STATE_STATE ≠ 2 →
    Ends (.ridgeHelloRx h m) s fun t => t.rdg.refused = true ∧ t.flag Fl.RDG_STATE_PARTNER_VALID = false ∧ newest 523 [] t = true)
  ∧ (∀ (h : RidgeHdr) (m : RidgeHello) s, h.fcsBad = false → s.refuses h m = true → s.rdg.refused = true → exec (.ridgeHelloRx h m) s = .next s)
  ∧ (∀ (h : RidgeHdr) (m : RidgeHello) s, h.fcsBad = false → s.refuses h m = false → h.epoch.toNat = s.rdg.epoch → s.rdg.phase ≠ 0 →
    s.ridgeLanes = true → Ends (.ridgeHelloRx h m) s fun t =>
      t.rdg.partner = some m ∧ t.rdg.refused = false ∧ t.rdg.helloSeen = true ∧ t.flag Fl.RDG_STATE_PARTNER_VALID = true
      ∧ t.get Fl.RDG_STATE_PARTNER_STATE = h.state.val ∧ t.get64 Reg.RDG_PARTNER_LO = m.serial.toNat)
  ∧ (∀ (h : RidgeHdr) (m : RidgeHello) s, h.fcsBad = false → s.refuses h m = false → h.epoch.toNat = s.rdg.epoch → s.rdg.phase = 0 →
    s.tim.held = true → s.tim.waiting = true → bitOf 1 m.flags.toNat = true → m.state.toNat ≤ 1 → Ends (.ridgeHelloRx h m) s fun t =>
      t.rdg.phase = 2 ∧ t.get Fl.RDG_STATE_STATE = 2 ∧ t.flag Fl.RDG_STATE_SYNCED = false ∧ t.rdg.joinRequested = true)
  ∧ (∀ (h : RidgeHdr) (n : BitVec 64) s, h.fcsBad = false → h.epoch.toNat = s.rdg.epoch → s.rdg.refused = false → h.unit.val = 3 - s.unitCode →
    s.rdg.unacked = [] → s.rdg.backlog = [] → s.rdg.phase ≠ 0 → Ends (.ridgeClaimRx h n) s fun t =>
      t.get Fl.RDG_STATE_STATE = s.get Fl.RDG_STATE_STATE ∧ t.rdg.heard = true)
  ∧ (∀ (h : RidgeHdr) (n : BitVec 64) s, h.fcsBad = false → h.epoch.toNat = s.rdg.epoch → s.rdg.refused = false → h.unit.val = 3 - s.unitCode →
    s.rdg.unacked = [] → s.rdg.backlog = [] → s.rdg.phase = 0 → s.tim.held = true → s.tim.waiting = true →
    Ends (.ridgeClaimRx h n) s fun t => t.rdg.phase = 2
      ∧ t.get Fl.RDG_STATE_STATE = (if s.rdg.claimSent = true ∧ s.unitCode = 1 then 0 else 2))
  ∧ (∀ s b, s.rdg.phase = 0 → s.rdg.backoff = some b → s.rdg.claimSent = false → Ends .claimBackoffTimer s fun t =>
      t.rdg.claimSent = true
      ∧ t.out = .ridge true (wireFrame 0x9D#8 (s.ridgeFrame 2 0 (s.course % 2 ^ 32) 0 (be 8 s.otp.serial ++ zeros 8))) :: s.out)
  ∧ (∀ s, s.rdg.claimSent = true → exec .claimBackoffTimer s = .next s)
  ∧ (∀ s, s.rdg.phase ≠ 0 → exec .partnerWaitTimeout s = .next s)
  ∧ (∀ s, s.rdg.phase = 0 → s.tim.held = true → s.tim.waiting = true → Ends .partnerWaitTimeout s fun t =>
      t.rdg.phase = 1 ∧ t.rdg.probeFrom = s.course)
  ∧ (∀ s, s.rdg.phase = 1 → s.tim.held = false → s.rdg.probeFrom + 2 ≤ s.course → s.accepting (3 - s.unitCode) = 0 →
    (∀ p ∈ s.eav.lanes, p.2.partnerMark ≤ s.rdg.probeFrom) → Ends .aloneDecision s fun t =>
      t.rdg.phase = 2 ∧ t.get Fl.RDG_STATE_STATE = 0)
  ∧ (∀ s m, s.rdg.partner = some m → s.rdg.phase = 2 → s.get Fl.RDG_STATE_STATE = 0 → s.flag Fl.RDG_STATE_LINK_UP = true →
    s.flag Fl.RDG_STATE_PARTNER_VALID = true → s.get Fl.RDG_STATE_PARTNER_STATE = 0 → Ends .splitResolve s fun t =>
      newest 533 [] t = true
      ∧ (s.accepting s.unitCode < m.accepted.toNat ∨ (s.accepting s.unitCode = m.accepted.toNat ∧ s.unitCode = 2) →
          t.rdg.next = some (3, 7)))
  ∧ (∀ s m, s.rdg.partner = some m → bitOf 3 m.flags.toNat = true → s.rdg.phase = 2 → s.get Fl.RDG_STATE_STATE = 0 →
    s.flag Fl.RDG_STATE_LINK_UP = true → s.flag Fl.RDG_STATE_PARTNER_VALID = true → 2 ≤ s.get Fl.RDG_STATE_PARTNER_STATE →
    s.rdg.join = none → Ends .joinRequest s fun t =>
      t.flag Fl.RDG_JOIN_JOINING = true ∧ t.rdg.join = some ⟨s.now, true, none, []⟩ ∧ t.rdg.next = some (1, 0))
  ∧ (∀ s j, s.rdg.join = some j → s.get Fl.RDG_STATE_STATE ≤ 1 → Ends .joinTimeout s fun t => t.rdg.join = none
      ∧ t.flag Fl.RDG_JOIN_JOINING = false ∧ newest 532 [] t = true)
  ∧ (∀ s, s.flag Fl.RDG_STATE_CATCHUP = true → s.get Fl.RDG_STATE_STATE ≠ 2 → Ends .catchupDone s fun t =>
      t.flag Fl.RDG_STATE_CATCHUP = false ∧ newest 536 [] t = true)
  ∧ (∀ s n v, s.rdg.arbitration = some n → s.course = n + 2 → s.rdg.verdict = 0 → Ends (.replayDone v) s fun t =>
      t.rdg.verdict = (match v with | some true => 1 | some false => 2 | none => 3))
  ∧ (∀ (f : Fin 4) s, s.isOwner f.val = true → writes f Reg.RDG_HOLD_CTRL s = true → s.get Fl.RDG_STATE_STATE = 1 → s.flag Fl.RDG_STATE_PARTNER_VALID = true →
    s.get Fl.RDG_STATE_PARTNER_STATE = 2 → s.paired = true → s.rdg.arbitration = none → Ends (.switchover f) s fun t =>
      t.rdg.switchover = some (s.course + 1)
      ∧ t.hst.inputLog = s.hst.inputLog ++ [.regWrite f.val Reg.RDG_HOLD_CTRL 2#32 false])
  ∧ (∀ (f : Fin 4) s, s.isOwner f.val = true → writes f Reg.RDG_HOLD_CTRL s = true → s.get Fl.RDG_STATE_STATE ≠ 1 → s.fget f.val Fl.HST_WSW_STATUS_STICKY = 0 →
    Ends (.switchover f) s fun t => t.rdg.switchover = s.rdg.switchover ∧ captured f Reg.RDG_HOLD_CTRL .blockState t)
  ∧ (∀ (f : Fin 4) s, s.isOwner f.val = true → writes f Reg.RDG_HOLD_CTRL s = true → s.get Fl.RDG_STATE_STATE = 3 → Ends (.rejoin f) s fun t => t.rdg.joinRequested = true)
  ∧ (∀ (f : Fin 4) s, s.isOwner f.val = true → writes f Reg.RDG_HOLD_CTRL s = true → s.get Fl.RDG_STATE_STATE ≠ 3 → s.fget f.val Fl.HST_WSW_STATUS_STICKY = 0 →
    Ends (.rejoin f) s fun t => t.rdg.joinRequested = s.rdg.joinRequested ∧ captured f Reg.RDG_HOLD_CTRL .blockState t)
  ∧ (∀ (f : Fin 4) s, s.isOwner f.val = false → writes f Reg.RDG_HOLD_CTRL s = true → s.fget f.val Fl.HST_WSW_STATUS_STICKY = 0 →
    Ends (.rejoin f) s fun t => t.rdg = s.rdg ∧ captured f Reg.RDG_HOLD_CTRL .notOwner t)

/-- Inputs, comparisons and faults of the switching safety function. A sample shows both channels of every input, the
twentieth equal open sample of a used input puts it in demand, and the state is the one that fault, causes and self-tests
give. A used input whose channels differ for too long, a second comparison that differs, and every fault code 01h to 09h lead
to LOCKOUT, blank egress, keep the first fault code, and leave no telegram in any queue. A seal discrepancy is raised once. A
self-test without a fault ends the testing. -/
def Obligations.SafetyInputs : Prop :=
  (∀ (a b : BitVec 16) (ea eb sa sb : Bool) s, Ends (.safetyInputSample a b ea eb sa sb) s fun t =>
    t.get Fl.SAF_ISO_RAW_ISO_A = a.toNat ∧ t.get Fl.SAF_ISO_RAW_ISO_B = b.toNat ∧ t.get Fl.SAF_PINS_SEAL = b2n sa + 2 * b2n sb
    ∧ t.get Fl.SAF_STATE_STATE = t.safCode)
  ∧ (∀ (a b : BitVec 16) (ea eb sa sb : Bool) s (k : Fin 16), bitOf k.val (s.get Fl.SAF_FORCE0_ISO_USED) = true → bitOf k.val a.toNat = true →
    FMap.get 0 s.saf.openRun (2 * k.val) = 19 →
    Ends (.safetyInputSample a b ea eb sa sb) s fun t => bitOf k.val t.saf.demand = true)
  ∧ (∀ (k : Fin 17) s, s.inputDiffers k.val = true →
    Ends (.inputDiscrepancyTimeout k) s fun t => t.get Fl.SAF_STATE_STATE = 3 ∧ t.saf.blanked = true)
  ∧ (∀ s, (s.get Fl.SAF_PINS_SEAL = 1 ∨ s.get Fl.SAF_PINS_SEAL = 2) → s.saf.sealDisc = false → s.get Fl.RDG_STATE_STATE ≠ 2 →
    Ends .sealDiscrepancyTimeout s fun t => t.saf.sealDisc = true ∧ t.saf.sealRun = 0 ∧ newest 496 [] t = true)
  ∧ (∀ s, Ends (.channelExchange false false) s fun t => t.saf.crossRun = 0 ∧ t.saf.core.demand = s.saf.demand
      ∧ t.saf.core.run = (s.get Fl.SAF_STATE_STATE == 1))
  ∧ (∀ (rb : Bool) s, s.saf.crossRun = 1 → Ends (.channelExchange true rb) s fun t => t.get Fl.SAF_STATE_STATE = 3 ∧ t.saf.blanked = true)
  ∧ (∀ s, Ends (.channelExchange false true) s fun t => t.get Fl.SAF_STATE_STATE = 3 ∧ t.saf.blanked = true)
  ∧ (∀ (code : Byte) (spar : Bool) s, 1 ≤ code.toNat → code.toNat ≤ 9 → Ends (.safetyFault code spar) s fun t =>
      t.get Fl.SAF_STATE_STATE = 3 ∧ t.saf.blanked = true
      ∧ t.get Fl.SAF_FAULT_CODE = (if s.get Fl.SAF_FAULT_CODE = 0 then code.toNat else s.get Fl.SAF_FAULT_CODE)
      ∧ ∀ c, ∀ f ∈ (t.mac c).queue, f.isTelegram = false)
  ∧ (∀ (spar : Bool) s, Ends (.safetySelfTestDone 0#8 spar) s fun t => t.saf.testing = false ∧ t.saf.persist = 0
      ∧ t.get Fl.SAF_STATE_STATE = t.safCode)
  ∧ (∀ (code : Byte) (spar : Bool) s, 1 ≤ code.toNat → code.toNat ≤ 9 → Ends (.safetySelfTestDone code spar) s fun t =>
      t.saf.testing = false ∧ t.saf.persist = code.toNat ∧ t.get Fl.SAF_STATE_STATE = 3)

/-- The deliberate reset, switching requests and telegrams. A reset pulse of 50 to 2,000 ms arms the function for 10 s, any
other pulse does not; arming lapses at its end; a pulse that is stuck shows in RST. SAFE_RESET armed in LOCKOUT with nothing
faulty clears the fault and the START cause, and the state is the one that follows; not armed it ends STATE and leaves the
state. A SWITCH_REQ that R431 accepts takes the next sequence number of its meter; in LOCKOUT it is refused and counted. A
telegram past its deadline leaves every queue. Units that disagree raise SAF_PAIR_DISAGREE. -/
def Obligations.SafetyReset : Prop :=
  (∀ (ms : BitVec 16) s, 50 ≤ ms.toNat → ms.toNat ≤ 2000 → Ends (.safeRstPulse ms) s fun t =>
    t.flag Fl.SAF_PINS_ARMED = true ∧ t.saf.armUntil = s.now + 10000000000)
  ∧ (∀ (ms : BitVec 16) s, (ms.toNat < 50 ∨ 2000 < ms.toNat) → Ends (.safeRstPulse ms) s fun t =>
    t.flag Fl.SAF_PINS_ARMED = s.flag Fl.SAF_PINS_ARMED ∧ t.saf = s.saf)
  ∧ (∀ s, s.saf.armUntil ≤ s.now → Ends .armLapse s fun t => t.flag Fl.SAF_PINS_ARMED = false)
  ∧ (∀ s, s.get Fl.RDG_STATE_STATE ≠ 2 → Ends .safeRstStuck s fun t => t.flag Fl.SAF_PINS_RST = true ∧ newest 497 [] t = true)
  ∧ (∀ c s, admits c s = true → c.len = 0 → s.flag Fl.SAF_PINS_ARMED = true → s.get Fl.SAF_STATE_STATE = 3 → s.stillFaulty = 0 →
    (s.saf.accepted.find? fun x => x.1 == c) = none → posts 0x50 s = true →
    Ends (.safeReset c 0x5AFE5AFE#32) s fun t => t.get Fl.SAF_FAULT_CODE = 0 ∧ t.saf.start = false
      ∧ t.flag Fl.SAF_PINS_ARMED = false ∧ t.get Fl.SAF_STATE_STATE = t.safCode ∧ ended 0x50 c .ok s t)
  ∧ (∀ c s, admits c s = true → c.len = 0 → posts 0x50 s = true → s.flag Fl.SAF_PINS_ARMED = false →
    (s.saf.accepted.find? fun x => x.1 == c) = none →
    Ends (.safeReset c 0x5AFE5AFE#32) s fun t => t.get Fl.SAF_STATE_STATE = s.get Fl.SAF_STATE_STATE
      ∧ t.get Fl.SAF_FAULT_CODE = s.get Fl.SAF_FAULT_CODE ∧ ended 0x50 c .state s t)
  ∧ (∀ c s, admits c s = true → c.len = 0 → posts 0x50 s = true → (s.saf.accepted.find? fun x => x.1 == c) = some (c, false) →
    Ends (.safeReset c 0x5AFE5AFE#32) s fun t => t.get Fl.SAF_STATE_STATE = s.get Fl.SAF_STATE_STATE
      ∧ t.flag Fl.SAF_PINS_ARMED = s.flag Fl.SAF_PINS_ARMED ∧ ended 0x50 c .state s t)
  ∧ (∀ c (i : BitVec 32) (action : Byte) s (lane : Nat), admits c s = true → c.len = 0 → (action = 1 ∨ action = 2) →
    s.get Fl.SAF_STATE_STATE ≠ 3 → (s.memberByIndex i.toNat).isSome = true → (s.meterRec i.toNat).plc.joined = true →
    s.plan.laneOf (s.meterRec i.toNat).plc.cell = some lane → bitOf lane s.saf.logged = true → s.saf.telegrams.length < 2048 →
    Ends (.switchReq c i action) s fun t => t.saf.nextId = s.saf.nextId + 1
      ∧ FMap.get 0 t.saf.seqTable i.toNat = (FMap.get 0 s.saf.seqTable i.toNat + 1) % 65536)
  ∧ (∀ c (i : BitVec 32) (action : Byte) s, admits c s = true → c.len = 0 → posts 0x22 s = true → (action = 1 ∨ action = 2) →
    s.get Fl.SAF_STATE_STATE = 3 → Ends (.switchReq c i action) s fun t => t.saf = s.saf ∧ ended 0x22 c .lockout s t
      ∧ t.get Fl.SAF_REFUSED_COUNT_COUNT = min (s.get Fl.SAF_REFUSED_COUNT_COUNT + 1) (2 ^ 32 - 1))
  ∧ (∀ c (i : BitVec 32) (action : Byte) s, admits c s = true → c.len = 0 → posts 0x22 s = true → action ≠ 1 → action ≠ 2 →
    Ends (.switchReq c i action) s fun t => t.saf = s.saf ∧ ended 0x22 c .illegal s t)
  ∧ (∀ (id : BitVec 32) s (x : Telegram), (s.saf.telegrams.find? fun t => t.id == id.toNat) = some x → x.deadline * 500000 ≤ s.now →
    Ends (.telegramExpiry id) s fun t => ∀ c, ∀ f ∈ (t.mac c).queue, f.origin ≠ .telegram id.toNat)
  ∧ (∀ s, s.paired = true → s.get Fl.RDG_STATE_STATE ≠ 2 → Ends .pairDisagreeTimeout s fun t => newest 499 [] t = true)

/-- Retrospective valley runs. VALLEY_RETRO with a tile ring, a tree that is held under its epoch, no run in progress and a
span that has been evaluated starts a run with the next run number; while a run is in progress it ends BUSY. The end of a run
clears it and adds its summary to the valley journal, and waits while shed level 2 or more holds it. -/
def Obligations.ValleyRuns : Prop :=
  (∀ c (p : RetroParams) s (tr : ValTree), admits c s = true → retroIllegal c p = false → (s.ring p.func.toNat p.ring.toNat).type = 2 →
    s.val.retro = none → s.enabled 8 = true → (s.val.held.find? fun x => x.epoch == p.epoch.toNat) = some tr →
    p.fromS.toNat ≤ p.toS.toNat → p.toS.toNat - p.fromS.toNat ≤ 2678400 → p.toS.toNat < s.get64 Reg.VAL_EVAL_LO →
    (p.root.toNat = 0xFFFF ∨ p.root.toNat < tr.nodes.length) →
    Ends (.valleyRetro c p) s fun t => t.flag Fl.VAL_RETRO_STATUS_RUNNING = true
      ∧ ∃ r, t.val.retro = some r ∧ r.number = (s.val.retroNumber + 1) % 2 ^ 32 ∧ r.fromS = p.fromS.toNat ∧ r.toS = p.toS.toNat
          ∧ r.tree = tr ∧ r.cmd = c)
  ∧ (∀ c (p : RetroParams) s (r : RetroRun), admits c s = true → retroIllegal c p = false → (s.ring p.func.toNat p.ring.toNat).type = 2 →
    s.val.retro = some r → posts 0x30 s = true →
    Ends (.valleyRetro c p) s fun t => t.val = s.val ∧ ended 0x30 c .busy s t)
  ∧ (∀ c (p : RetroParams) s, admits c s = true → retroIllegal c p = false → (s.ring p.func.toNat p.ring.toNat).type = 2 →
    s.val.retro = none → s.enabled 8 = true → (s.val.held.find? fun x => x.epoch == p.epoch.toNat) = none → posts 0x30 s = true →
    Ends (.valleyRetro c p) s fun t => t.val = s.val ∧ ended 0x30 c .stale s t)
  ∧ (∀ c (p : RetroParams) s (tr : ValTree), admits c s = true → retroIllegal c p = false → (s.ring p.func.toNat p.ring.toNat).type = 2 →
    s.val.retro = none → s.enabled 8 = true → (s.val.held.find? fun x => x.epoch == p.epoch.toNat) = some tr → posts 0x30 s = true →
    (p.toS.toNat < p.fromS.toNat ∨ 2678400 < p.toS.toNat - p.fromS.toNat ∨ s.get64 Reg.VAL_EVAL_LO ≤ p.toS.toNat) →
    Ends (.valleyRetro c p) s fun t => t.val = s.val ∧ ended 0x30 c .range s t)
  ∧ (∀ s (r : RetroRun), s.val.retro = some r → s.get Fl.SWC_SHED_LEVEL < 2 → posts 0x30 s = true → Ends .retroRunEnd s fun t =>
      t.val.retro = none ∧ t.flag Fl.VAL_RETRO_STATUS_RUNNING = false ∧ ended 0x30 r.cmd .ok s t
      ∧ newest 303 [] t = true ∧ t.arc.journal.take s.arc.journal.length = s.arc.journal ∧ t.arc.journal.length = s.arc.journal.length + 1)
  ∧ (∀ s (r : RetroRun), s.val.retro = some r → 2 ≤ s.get Fl.SWC_SHED_LEVEL → exec .retroRunEnd s = .next s)

/-- Resets from outside. PORST_N low leaves the device in reset, keeps the archive, the key image on it, firmware slots and
the soffit domain, and loses the meters, the time scale and the host interface. A warm reset keeps bifurcation, the time
scale, meters and safety LOCKOUT, releases ownership and shows its cause; with the archive mounted a power-safe stop comes
first. PORST_N high leaves reset with the straps sampled, and boots an image exactly where the DRAM trains. -/
def Obligations.Resets : Prop :=
  (∀ s, exec .porstAssert s = .next (s.progLost.coldReset 0 0))
  ∧ (∀ s, Ends .porstAssert s fun t => t.otp.inReset = true ∧ t.get Fl.HLT_RESET_CAUSE_CAUSE = 0 ∧ t.hst = State.reset.hst
    ∧ t.tim = State.reset.tim ∧ t.meters = [] ∧ t.arc.format = s.arc.format ∧ t.key.stored = s.key.stored ∧ t.otp.slotA = s.otp.slotA
    ∧ t.otp.slotB = s.otp.slotB ∧ t.tmp = s.tmp ∧ t.otp.prog = none)
  ∧ (∀ (s : State) (cause p : Nat), cause < 8 → p < 32 →
    (s.coldReset cause p).otp.inReset = true ∧ (s.coldReset cause p).get Fl.HLT_RESET_CAUSE_CAUSE = cause
    ∧ (s.coldReset cause p).hst = State.reset.hst ∧ (s.coldReset cause p).tim = State.reset.tim ∧ (s.coldReset cause p).meters = []
    ∧ (s.coldReset cause p).arc.format = s.arc.format ∧ (s.coldReset cause p).key.stored = s.key.stored
    ∧ (s.coldReset cause p).otp.slotA = s.otp.slotA ∧ (s.coldReset cause p).otp.slotB = s.otp.slotB
    ∧ (s.coldReset cause p).tmp = s.tmp)
  ∧ (∀ s, s.otp.inReset = true → exec .warmReset s = .next s)
  ∧ (∀ s, s.otp.inReset = false → s.arc.stopping = none → s.flag Fl.ARC_STATE_MOUNTED = false →
    exec .warmReset s = .next (s.warmBoot 1))
  ∧ (∀ s, s.otp.inReset = false → s.arc.stopping = none → s.flag Fl.ARC_STATE_MOUNTED = false →
    Ends .warmReset s fun t => t.hst.ownership = .noOwner ∧ t.hst.bifurcation = s.hst.bifurcation ∧ t.tim.now = s.tim.now
      ∧ t.tim.held = true ∧ t.meters = s.meters ∧ t.get Fl.HLT_RESET_CAUSE_CAUSE = 1 ∧ t.otp.inReset = false)
  ∧ (∀ s, s.otp.inReset = false → s.arc.stopping = none → s.flag Fl.ARC_STATE_MOUNTED = true → s.flag Fl.ARC_STATE_STOPPED = false →
    Ends .warmReset s fun t => t.arc.stopping.isSome = true ∧ t.otp.resetCause = some 1)
  ∧ (∀ (s : State) (cause : Nat), cause < 8 → s.otp.prog = none →
    (s.warmReset cause).hst.bifurcation = s.hst.bifurcation ∧ (s.warmReset cause).hst.ownership = .noOwner
    ∧ (s.warmReset cause).tim.now = s.tim.now ∧ (s.warmReset cause).tim.held = true ∧ (s.warmReset cause).meters = s.meters
    ∧ (s.get Fl.SAF_STATE_STATE = 3 → (s.warmReset cause).get Fl.SAF_STATE_STATE = 3)
    ∧ (s.warmReset cause).get Fl.HLT_RESET_CAUSE_CAUSE = cause)
  ∧ (∀ (b : Bool) (straps : Fin 4) (m : Bool) (fit : DramFit) s, (s.otp.inReset = true ∨ s.otp.prog = none) → fit.rate.val = 0 →
    (s.otp.decomWord ≠ lcForm 5 ∧ ∀ w ∈ s.otp.lcWords, w ≠ lcForm 5) →
    Ends (.powerOnReset b straps m fit) s fun t => t.otp.inReset = false
      ∧ t.hst.bifurcation = (if straps.val = 3 then 0 else straps.val) ∧ t.flag Fl.RDG_STATE_UNIT = b
      ∧ t.flag Fl.OTP_SVC_STATUS_MODE = m ∧ putsOut (.svc (.line 1)) s t)
  ∧ (∀ (b : Bool) (straps : Fin 4) (m : Bool) (fit : DramFit) s, (s.otp.inReset = true ∨ s.otp.prog = none) → fit.rate.val ≠ 0 →
    (s.otp.decomWord ≠ lcForm 5 ∧ ∀ w ∈ s.otp.lcWords, w ≠ lcForm 5) →
    Ends (.powerOnReset b straps m fit) s fun t => t.otp.inReset = false
      ∧ t.hst.bifurcation = (if straps.val = 3 then 0 else straps.val) ∧ t.flag Fl.RDG_STATE_UNIT = b
      ∧ t.flag Fl.DDR_INFO_TRAINED = true ∧ t.get Fl.DDR_INFO_RATE = fit.rate.val ∧ putsOut (.svc (.line 2)) s t)
  ∧ (∀ (b : Bool) (straps : Fin 4) (m : Bool) (fit : DramFit) s, s.otp.inReset = true → s.otp.decomWord = lcForm 5 →
    Ends (.powerOnReset b straps m fit) s fun t => t.otp.inReset = false ∧ t.decommissioned = true
      ∧ t.flag Fl.DDR_INFO_TRAINED = s.flag Fl.DDR_INFO_TRAINED)

/-- Firmware slots and the end of a power-safe stop. In a unit that is not ACTIVE the owner stores NEXT in the boot control
record, and RESET resets under cause 4; in ACTIVE the write is logged; the reserved NEXT and a function that is not the owner
are captured. An image that is not confirmed in time is reset, and a confirmed one becomes GOOD. The end of a power-safe stop
leaves the marker and ARC_STOPPED, and then resets where a reset asked for it. An image that is confirmed already is left
alone. -/
def Obligations.BootControl : Prop :=
  (∀ (f next : Fin 4) s, writes f Reg.OTP_FW_CTRL s = true → s.isOwner f.val = true → s.standbyOrHold = false → s.get Fl.RDG_STATE_STATE ≠ 1 → next.val ≠ 3 →
    Ends (.nextSlotSelect f next) s fun t => t.otp.next = next.val ∧ (next.val ≠ s.otp.next → t.otp.bcrSeq = s.otp.bcrSeq + 1))
  ∧ (∀ (f next : Fin 4) s, writes f Reg.OTP_FW_CTRL s = true → s.isOwner f.val = true → s.standbyOrHold = false → s.get Fl.RDG_STATE_STATE = 1 → next.val ≠ 3 →
    Ends (.nextSlotSelect f next) s fun t => t.otp = s.otp
      ∧ t.hst.inputLog = s.hst.inputLog ++ [.regWrite f.val Reg.OTP_FW_CTRL (BitVec.ofNat 32 (16 * next.val)) false])
  ∧ (∀ (f next : Fin 4) s, writes f Reg.OTP_FW_CTRL s = true → s.isOwner f.val = true → s.standbyOrHold = false → s.get Fl.RDG_STATE_STATE ≠ 1 → next.val ≠ 3 →
    ∃ u : State, exec (.fwReset f next) s = .next (u.beginReset 4) ∧ u.otp.next = next.val)
  ∧ (∀ (f next : Fin 4) s, writes f Reg.OTP_FW_CTRL s = true → s.isOwner f.val = true → s.standbyOrHold = false → s.get Fl.RDG_STATE_STATE ≠ 1 → next.val ≠ 3 →
    s.arc.stopping = none → s.flag Fl.ARC_STATE_MOUNTED = false →
    Ends (.fwReset f next) s fun t => t.hst.ownership = .noOwner ∧ t.get Fl.HLT_RESET_CAUSE_CAUSE = 4 ∧ t.otp.inReset = false)
  ∧ (∀ (f next : Fin 4) s, writes f Reg.OTP_FW_CTRL s = true → s.isOwner f.val = true → s.standbyOrHold = false → s.get Fl.RDG_STATE_STATE ≠ 1 → next.val ≠ 3 →
    s.arc.stopping = none → s.flag Fl.ARC_STATE_MOUNTED = true → s.flag Fl.ARC_STATE_STOPPED = false →
    Ends (.fwReset f next) s fun t => t.otp.next = next.val ∧ t.otp.resetCause = some 4 ∧ t.arc.stopping.isSome = true)
  ∧ (∀ (f next : Fin 4) s, writes f Reg.OTP_FW_CTRL s = true → s.isOwner f.val = false → s.fget f.val Fl.HST_WSW_STATUS_STICKY = 0 →
    Ends (.fwReset f next) s fun t => t.otp = s.otp ∧ captured f Reg.OTP_FW_CTRL .notOwner t)
  ∧ (∀ (f : Fin 4) s, writes f Reg.OTP_FW_CTRL s = true → s.isOwner f.val = true → s.fget f.val Fl.HST_WSW_STATUS_STICKY = 0 →
    Ends (.nextSlotSelect f 3) s fun t => t.otp = s.otp ∧ captured f Reg.OTP_FW_CTRL .reservedCode t)
  ∧ (∀ s, s.otp.unconfirmed = false → exec .readyTimeout s = .next s ∧ exec .imageConfirmed s = .next s)
  ∧ (∀ s, s.otp.unconfirmed = true → s.arc.stopping = none → s.flag Fl.ARC_STATE_MOUNTED = false →
    Ends .readyTimeout s fun t => t.hst.ownership = .noOwner ∧ t.get Fl.HLT_RESET_CAUSE_CAUSE = 4 ∧ t.otp.inReset = false)
  ∧ (∀ s, s.otp.unconfirmed = true → s.arc.stopping = none → s.flag Fl.ARC_STATE_MOUNTED = true → s.flag Fl.ARC_STATE_STOPPED = false →
    Ends .readyTimeout s fun t => t.otp.resetCause = some 4 ∧ t.arc.stopping.isSome = true)
  ∧ (∀ s, s.otp.unconfirmed = true → exec .readyTimeout s = .next (s.beginReset 4))
  ∧ (∀ s, s.otp.unconfirmed = true → s.get Fl.RDG_STATE_STATE ≠ 2 → Ends .imageConfirmed s fun t =>
      t.otp.unconfirmed = false ∧ (t.otp.nor (s.get Fl.OTP_BOOT_STATUS_SLOT)).state = 2 ∧ newest 580 [] t = true)
  ∧ (∀ s, s.arc.stopping = none → exec .powerSafeStopDone s = .next s)
  ∧ (∀ s (l : List Nat), s.arc.stopping = some l → s.otp.resetCause = none → s.hlt.tripped = false → s.get Fl.RDG_STATE_STATE ≠ 2 →
    Ends .powerSafeStopDone s fun t => t.arc.stopping = none ∧ t.arc.marker = true ∧ t.flag Fl.ARC_STATE_STOPPED = true
      ∧ t.flag Fl.DDR_INFO_SELF_REFRESH = true ∧ newest 386 [] t = true)
  ∧ (∀ s (l : List Nat) (c : Nat), s.arc.stopping = some l → s.otp.resetCause = some c →
    exec .powerSafeStopDone s = .next (s.stopArchiveDone.warmBoot c) ∧ s.stopArchiveDone.arc.marker = true)
  ∧ (∀ s (l : List Nat) (c : Nat), s.arc.stopping = some l → s.otp.resetCause = some c → c < 8 → Ends .powerSafeStopDone s fun t =>
      t.arc.marker = true ∧ t.arc.stopping = none ∧ t.get Fl.HLT_RESET_CAUSE_CAUSE = c ∧ t.hst.ownership = .noOwner)

/-- The service port. The port link shows and raises OTP_SVC_LINK when it changes. A request for the port address is answered.
A write request of the image in octet mode with a legal block size opens a transfer and is acknowledged; a bad one is refused;
the next block is kept and acknowledged, a repeated one acknowledged again, and a short one ends the transfer without
acknowledgement. In recovery an image comes over the UART. A whole image is checked: a bad one is reported and leaves the
slots, a good one is written to its slot as NEW. -/
def Obligations.ServicePort : Prop :=
  (∀ (up : Bool) s, s.flag Fl.OTP_SVC_STATUS_LINK ≠ up → s.get Fl.RDG_STATE_STATE ≠ 2 → Ends (.svcLinkChange up) s fun t =>
    t.flag Fl.OTP_SVC_STATUS_LINK = up ∧ newest 589 [] t = true)
  ∧ (∀ (icmp : Bool) (a : BitVec 32) (d : Octets) s, s.svcUp = true → a.toNat = s.get Fl.OTP_SVC_IP_ADDR → Ends (.svcArpIcmpRx icmp a d) s fun t =>
    t.out = .svc (if icmp then .echo d else .arp s.otp.svcMac a.toNat) :: s.out)
  ∧ (∀ (icmp : Bool) (a : BitVec 32) (d : Octets) s, a.toNat ≠ s.get Fl.OTP_SVC_IP_ADDR → exec (.svcArpIcmpRx icmp a d) s = .next s)
  ∧ (∀ (n : Option Nat) s, s.svcUp = true → s.otp.transfer = none → 512 ≤ n.getD 512 → n.getD 512 ≤ 1468 →
    Ends (.tftpWriteRequest (ascii "wg20.img") true n) s fun t =>
      t.otp.transfer = some ⟨n.getD 512, 1, [], false, false⟩ ∧ t.flag Fl.OTP_SVC_STATUS_XFER = true
      ∧ t.out = .svc (n.elim (.tftpAck 0) .tftpOack) :: s.out)
  ∧ (∀ (name : Octets) (n : Option Nat) s, s.svcUp = true → Ends (.tftpWriteRequest name false n) s fun t =>
      t.otp = s.otp ∧ t.out = .svc (.tftpError 2) :: s.out)
  ∧ (∀ (b : BitVec 16) (d : Octets) s (x : Transfer), s.otp.transfer = some x → x.uart = false → x.whole = false → d.length = x.blksize →
    b.toNat = x.next % 65536 → Ends (.tftpDataRx b d) s fun t =>
      t.otp.transfer = some { x with next := x.next + 1, octets := x.octets ++ d } ∧ t.out = .svc (.tftpAck b.toNat) :: s.out)
  ∧ (∀ (b : BitVec 16) (d : Octets) s (x : Transfer), s.otp.transfer = some x → x.uart = false → x.whole = false → d.length < x.blksize →
    b.toNat = x.next % 65536 → Ends (.tftpDataRx b d) s fun t =>
      t.otp.transfer = some { x with next := x.next + 1, octets := x.octets ++ d, whole := true } ∧ t.out = s.out)
  ∧ (∀ (b : BitVec 16) (d : Octets) s (x : Transfer), s.otp.transfer = some x → x.uart = false → x.whole = false → d.length ≤ x.blksize →
    b.toNat = (x.next + 65535) % 65536 → Ends (.tftpDataRx b d) s fun t =>
      t.otp = s.otp ∧ t.out = .svc (.tftpAck b.toNat) :: s.out)
  ∧ (∀ (d : Octets) s, s.get Fl.OTP_BOOT_STATUS_SOURCE = 2 → s.otp.transfer = none → Ends (.xmodemReceive d) s fun t =>
      t.otp.transfer = some ⟨1024, 1, d, true, true⟩ ∧ t.flag Fl.OTP_SVC_STATUS_XFER = true)
  ∧ (∀ (flash : Bool) s (x : Transfer), s.otp.transfer = some x → x.whole = true → x.uart = false →
    Ends (.imageReceived flash) s fun t => t.otp.transfer = none ∧ t.flag Fl.OTP_SVC_STATUS_XFER = false
      ∧ match (({ s with otp := { s.otp with transfer := none } } : State).putFlag Fl.OTP_SVC_STATUS_XFER false).imageOf x.octets with
        | .error _ => t.otp.slotA = s.otp.slotA ∧ t.otp.slotB = s.otp.slotB
        | .ok im => flash = false →
          t.otp.nor (({ s with otp := { s.otp with transfer := none } } : State).putFlag Fl.OTP_SVC_STATUS_XFER false).targetSlot
            = ⟨1, 0, im.release, some im⟩)

/-- Programming of OTP. A legal CAL_WRITE or DEFAULTS_WRITE under the open seal in its state starts programming its lowest
BLANK slot, with BUSY shown; a closed seal ends it SEALED, a programming in progress BUSY. LIFECYCLE of a permitted transition
zeroises the keys and starts its word; one that is not permitted ends STATE. ROOTSEED and the safety generation start alike.
The end of a programming that reads back right makes its slot VALID and completes the command; otherwise the command ends
HW_FAULT. A calibration generation that is due comes into force. -/
def Obligations.OtpWords : Prop :=
  (∀ c (d : Octets) s (k : Nat), admits c s = true → calIllegal d = false → c ∉ s.met.sealedAt → s.flag Fl.SAF_PINS_SEAL_OPEN = true →
    s.get Fl.RDG_STATE_STATE = 0 → s.otp.supplyLow = false → s.otp.prog = none → s.otp.blank 2 = some k →
    Ends (.calWrite c d) s fun t => t.otp.prog = some ⟨2, k, d, some (0x61, c)⟩ ∧ t.flag Fl.OTP_PROG_STATUS_BUSY = true
      ∧ t.otp.cal = s.otp.cal.set k { state := 1, octets := d })
  ∧ (∀ c (d : Octets) s, admits c s = true → calIllegal d = false → s.flag Fl.SAF_PINS_SEAL_OPEN = false → posts 0x61 s = true →
    Ends (.calWrite c d) s fun t => t.otp = s.otp ∧ ended 0x61 c .sealed s t)
  ∧ (∀ c (d : Octets) s (k : Nat), admits c s = true → defaultsIllegal d = false → s.flag Fl.SAF_PINS_SEAL_OPEN = true →
    (s.get Fl.OTP_LIFECYCLE_CODE = 1 ∨ s.get Fl.OTP_LIFECYCLE_CODE = 2) → s.otp.supplyLow = false → s.otp.prog = none →
    s.otp.blank 1 = some k → Ends (.defaultsWrite c d) s fun t =>
      t.otp.prog = some ⟨1, k, d, some (0x62, c)⟩ ∧ t.otp.defaults = s.otp.defaults.set k { state := 1, octets := d })
  ∧ (∀ c (d : Octets) s (p : Programming), admits c s = true → defaultsIllegal d = false → s.flag Fl.SAF_PINS_SEAL_OPEN = true →
    (s.get Fl.OTP_LIFECYCLE_CODE = 1 ∨ s.get Fl.OTP_LIFECYCLE_CODE = 2) → s.otp.supplyLow = false → s.otp.prog = some p →
    posts 0x62 s = true → Ends (.defaultsWrite c d) s fun t => t.otp = s.otp ∧ ended 0x62 c .busy s t)
  ∧ (∀ c (target : Byte) s (n : Nat), admits c s = true → c.len = 0 → target.toNat ≠ 0 → target.toNat ≤ 5 →
    lcPermitted (s.get Fl.OTP_LIFECYCLE_CODE) target.toNat = true →
    (target.toNat = 2 → s.get Fl.OTP_LIFECYCLE_CODE = 1 → s.flag Fl.OTP_LIFECYCLE_ROOTSEED_OK = true) →
    s.get Fl.RDG_STATE_STATE = 0 → s.flag Fl.SAF_PINS_SEAL_OPEN = true → s.otp.supplyLow = false → s.otp.prog = none →
    s.otp.lcTarget target.toNat = some n → Ends (.lifecycle c target 0 0x4C494645#32) s fun t =>
      t.otp.prog = some ⟨4, n, le 4 (lcForm target.toNat), some (0x60, c)⟩ ∧ t.key.slots = [])
  ∧ (∀ c (target : Byte) s, admits c s = true → c.len = 0 → target.toNat ≠ 0 → target.toNat ≤ 5 →
    lcPermitted (s.get Fl.OTP_LIFECYCLE_CODE) target.toNat = false → posts 0x60 s = true →
    Ends (.lifecycle c target 0 0x4C494645#32) s fun t => t.otp = s.otp ∧ t.key = s.key ∧ ended 0x60 c .state s t)
  ∧ (∀ s, s.otp.lcState = 1 → s.otp.rootseedValid = false → s.otp.rootseedUsed = false → s.get Fl.KEY_ENGINE_STATE_RNG = 1 →
    s.otp.supplyLow = false → s.otp.prog = none → Ends .rootseedProgram s fun t =>
      t.otp.rootseedUsed = true ∧ ∃ seed, t.otp.prog = some ⟨5, 0, seed, none⟩)
  ∧ (∀ (f : Fin 4) s (k : Nat), writes f Reg.SAF_OTP s = true → s.isOwner f.val = true → s.flag Fl.SAF_PINS_SEAL_OPEN = true → s.standbyOrHold = false →
    s.get Fl.SAF_STATE_STATE ≠ 1 → s.get Fl.RDG_STATE_STATE ≠ 1 → s.safStagedBad = false → s.otp.supplyLow = false →
    s.otp.prog = none → s.otp.blank 3 = some k → Ends (.safeOtpProgram f) s fun t =>
      t.otp.prog = some ⟨3, k, s.safStaged ++ le 4 s.safStagedCrc, none⟩ ∧ t.flag Fl.SAF_OTP_PROGRAM = true)
  ∧ (∀ (w : BitVec 32) s (p : Programming) c, s.otp.prog = some p → p.block = 1 → p.cmd = some (0x62, c) → posts 0x62 s = true →
    Ends (.otpProgramDone false w) s fun t => t.otp.prog = none ∧ t.flag Fl.OTP_PROG_STATUS_BUSY = false
      ∧ t.otp.defaults = s.otp.defaults.set p.slot ⟨2, p.octets⟩ ∧ ended 0x62 c .ok s t)
  ∧ (∀ (w : BitVec 32) s (p : Programming) c, s.otp.prog = some p → p.block = 2 → p.cmd = some (0x61, c) → posts 0x61 s = true →
    Ends (.otpProgramDone false w) s fun t => t.otp.prog = none ∧ t.met.due = true
      ∧ t.otp.cal = s.otp.cal.set p.slot ⟨2, p.octets⟩ ∧ ended 0x61 c .ok s t)
  ∧ (∀ (w : BitVec 32) s (p : Programming), s.otp.prog = some p → p.block = 3 →
    Ends (.otpProgramDone false w) s fun t => t.otp.prog = none ∧ t.otp.safe = s.otp.safe.set p.slot ⟨2, p.octets⟩
      ∧ t.saf.programmed = true ∧ t.flag Fl.SAF_OTP_PROGRAM = false ∧ t.get Fl.SAF_OTP_RESULT = 0)
  ∧ (∀ (w : BitVec 32) s (p : Programming) c, s.otp.prog = some p → p.block = 4 → p.cmd = some (0x60, c) → posts 0x60 s = true →
    p.slot < s.otp.lcWords.length → p.slot ≠ 8 → s.arc.stopping = none → s.flag Fl.ARC_STATE_MOUNTED = false →
    Ends (.otpProgramDone false w) s fun t => t.otp.prog = none ∧ t.otp.lcWord p.slot = s.otp.lcWord p.slot ||| unLe p.octets
      ∧ t.get Fl.HLT_RESET_CAUSE_CAUSE = 4 ∧ ended 0x60 c .ok s t)
  ∧ (∀ (w : BitVec 32) s (p : Programming), s.otp.prog = some p → p.block = 5 →
    Ends (.otpProgramDone false w) s fun t => t.otp.prog = none ∧ t.otp.rootseed = p.octets ∧ t.otp.rootseedValid = true
      ∧ t.flag Fl.OTP_LIFECYCLE_ROOTSEED_OK = true)
  ∧ (∀ (w : BitVec 32) s (p : Programming) c, s.otp.prog = some p → p.block = 1 → p.cmd = some (0x62, c) → posts 0x62 s = true →
    Ends (.otpProgramDone true w) s fun t => t.otp.prog = none ∧ ended 0x62 c .hwFault s t
      ∧ (t.otp.defaults = s.otp.defaults.set p.slot ⟨1, p.octets⟩ ∨ t.otp.defaults = s.otp.defaults.set p.slot ⟨3, p.octets⟩))
  ∧ (∀ (w : BitVec 32) s (p : Programming) c, s.otp.prog = some p → p.block = 4 → p.cmd = some (0x60, c) → posts 0x60 s = true →
    p.slot < s.otp.lcWords.length → p.slot ≠ 8 →
    Ends (.otpProgramDone true w) s fun t => t.otp.prog = none ∧ t.otp.lcWord p.slot = w.toNat ∧ p.slot + 1 ≤ t.otp.lcFailed
      ∧ t.get Fl.OTP_LIFECYCLE_CODE = s.get Fl.OTP_LIFECYCLE_CODE ∧ ended 0x60 c .hwFault s t)
  ∧ (∀ (d : Bool) (w : BitVec 32) s, s.otp.prog = none → exec (.otpProgramDone d w) s = .next s)
  ∧ (∀ s, s.met.due = true → s.get Fl.RDG_STATE_STATE ≠ 2 → Ends .calInForce s fun t =>
      t.met.gen = slotInForce s.otp.cal ∧ t.met.due = false ∧ newest 547 [] t = true)
  ∧ (∀ s, s.met.due = false → exec .calInForce s = .next s)

/-- The mount. Without a format, without a valid anchor or with hubs that do not match, ARCHIVE_MOUNT raises ARC_MOUNT_FAIL
and mounts nothing. Otherwise the archive is mounted with its cell mode, the stop marker is consumed, and without it the
per-meter state is that of the last checkpoint; what the mount selects follows. A mounted archive is left alone. -/
def Obligations.ArchiveMount : Prop :=
  (∀ (ok : Bool) s, s.flag Fl.ARC_STATE_MOUNTED = false → s.arc.job = none → s.arc.format = none → s.get Fl.RDG_STATE_STATE ≠ 2 →
    Ends (.archiveMount ok) s fun t => t.arc = s.arc ∧ t.flag Fl.ARC_STATE_MOUNTED = false ∧ newest 370 [] t = true)
  ∧ (∀ (ok : Bool) s (f : Format), s.flag Fl.ARC_STATE_MOUNTED = false → s.arc.job = none → s.arc.format = some f →
    (ok = false ∨ s.formatMatches f = false) → s.get Fl.RDG_STATE_STATE ≠ 2 →
    Ends (.archiveMount ok) s fun t => t.arc = s.arc ∧ newest 370 [] t = true)
  ∧ (∀ s (f : Format), s.flag Fl.ARC_STATE_MOUNTED = false → s.arc.job = none → s.arc.format = some f → s.formatMatches f = true →
    (s.arc.bands.all fun p => !p.2.isOpen && p.2.use != .erasing) = true →
    ∃ u : State, exec (.archiveMount true) s = .next ((((u.raise 369).keyAtMount.resumeAtMount).writeReleased).uartLine 8)
      ∧ u.flag Fl.ARC_STATE_MOUNTED = true ∧ u.arc.marker = false ∧ u.arc.stopping = none
      ∧ u.meters = (if s.arc.marker then s.meters else s.arc.ckpt) ∧ u.get Fl.ARC_STATE_CELL_MODE = f.mode % 8)
  ∧ (∀ s (f : Format), s.flag Fl.ARC_STATE_MOUNTED = false → s.arc.job = none → s.arc.format = some f → s.formatMatches f = true →
    (s.arc.bands.all fun p => !p.2.isOpen && p.2.use != .erasing) = true → s.arc.staging = [] → s.get Fl.OTP_LIFECYCLE_CODE ≠ 3 →
    Ends (.archiveMount true) s fun t => t.flag Fl.ARC_STATE_MOUNTED = true ∧ t.arc.marker = false ∧ t.arc.stopping = none
      ∧ t.meters = (if s.arc.marker then s.meters else s.arc.ckpt) ∧ t.get Fl.ARC_STATE_CELL_MODE = f.mode % 8
      ∧ putsOut (.svc (.line 8)) s t)
  ∧ (∀ (ok : Bool) s, s.flag Fl.ARC_STATE_MOUNTED = true → exec (.archiveMount ok) s = .next s)

/-- Reads of 64-bit quantities. A read of a _LO register puts out its value and latches for its function the values then live
of the registers that go with it; a read of one of those returns the latched value, or the live value where the function has
latched none. What another function is shown does not change, and reset holds no latch. -/
def Obligations.HalvesOfQuantities : Prop :=
  (∀ (f : Fin 4) (a : BitVec 22) s, reaches f a.toNat s = true → a.toNat % 4 = 0 → latchedBy a.toNat ≠ [] →
    Ends (.loReadLatch f a) s fun t => t.out = .readData f.val a.toNat (s.shownWord f.val a.toNat) :: s.out
      ∧ (∀ b ∈ latchedBy a.toNat, t.shownWord f.val b = s.liveWord f.val b)
      ∧ (∀ (g : Fin 4) (b : BitVec 22), g ≠ f → t.shownWord g.val b.toNat = s.shownWord g.val b.toNat))
  ∧ (∀ (f : Fin 4) (a b : BitVec 22) s, reaches f b.toNat s = true → b.toNat % 4 = 0 → b.toNat ∈ latchedBy a.toNat →
    Ends (.loReadLatch f b) s fun t => t.out = .readData f.val b.toNat (s.shownWord f.val b.toNat) :: s.out)
  ∧ (∀ (f : Fin 4) (a : BitVec 22) (s : State), (∀ p ∈ s.latch, p.1 ≠ funcKey f.val a.toNat) → s.shownWord f.val a.toNat = s.liveWord f.val a.toNat)
  ∧ State.reset.latch = []

/-- Enabling a block that still drains or aborts. A write of ENABLE = 1 while ENABLE, ENABLED and IDLE all read 0 is ignored
in full: no shared register changes but the counters of dropped and lost records, nothing waits for the boundary and nothing
enters the log. It is recorded: with STICKY at 0 the capture registers take offset and reason STATE, with STICKY at 1 only
COUNT advances. -/
def Obligations.EnableWhileDraining : Prop :=
  ∀ (f : Fin 4) (b : Fin 22) s, disablable b.val = true → ownerReaches f (b.val * 0x10000) s = true →
    s.flag (Fl.CTRL_ENABLE b.val) = false → s.flag (Fl.STATUS_ENABLED b.val) = false → s.flag (Fl.STATUS_IDLE b.val) = false →
    Ends (.blockEnable f b) s fun t => Counts s t ∧ t.cfgPend = s.cfgPend ∧ t.hst.inputLog = s.hst.inputLog
      ∧ (s.fget f.val Fl.HST_WSW_STATUS_STICKY = 0 → captured f (b.val * 0x10000) .blockState t)
      ∧ (s.fget f.val Fl.HST_WSW_STATUS_STICKY = 1 →
          t.fget f.val Fl.HST_WSW_STATUS_COUNT = min (s.fget f.val Fl.HST_WSW_STATUS_COUNT + 1) 0xFFFF
          ∧ t.fget f.val Fl.HST_WSW_STATUS_REASON = s.fget f.val Fl.HST_WSW_STATUS_REASON
          ∧ t.fget f.val Fl.HST_WSW_ADDR_ADDR = s.fget f.val Fl.HST_WSW_ADDR_ADDR ∧ t.regs = s.regs)

/-- What the commands of host interface, time, lanes, health, soffit and ridge leave. A command of the first group completes
and leaves the meter table, every per-meter state record, the record and valley engines, the archive, the keys, courses and
plans, cells, the switch core, the safety function, the eaves and OTP as they were, and with them the overrides, the waiting
configuration writes, the held accesses and the queue. So does one of the fourth group, an access of a function, but that the
access itself may be held. One of the sixth group, which feeds command rings, leaves the same but courses, the archive, keys
and the safety function. -/
def Obligations.FrameOfService : Prop :=
  (∀ (i : Instr) s, frameGroup i = 1 → Ends i s fun t =>
    t.meters = s.meters ∧ t.mtb = s.mtb ∧ t.bill = s.bill ∧ t.val = s.val ∧ t.arc = s.arc ∧ t.key = s.key ∧ t.crs = s.crs ∧ t.cel = s.cel ∧ t.swc = s.swc ∧ t.saf = s.saf ∧ t.eav = s.eav ∧ t.otp = s.otp
    ∧ t.overrides = s.overrides ∧ t.cfgPend = s.cfgPend ∧ t.hung = s.hung ∧ t.pending = s.pending)
  ∧ (∀ (i : Instr) s, frameGroup i = 4 → Ends i s fun t =>
    t.meters = s.meters ∧ t.mtb = s.mtb ∧ t.bill = s.bill ∧ t.val = s.val ∧ t.arc = s.arc ∧ t.key = s.key ∧ t.crs = s.crs ∧ t.cel = s.cel ∧ t.swc = s.swc ∧ t.saf = s.saf ∧ t.eav = s.eav ∧ t.otp = s.otp
    ∧ t.overrides = s.overrides ∧ t.cfgPend = s.cfgPend ∧ t.hung.take s.hung.length = s.hung ∧ t.pending = s.pending)
  ∧ (∀ (i : Instr) s, frameGroup i = 6 → Ends i s fun t =>
    t.meters = s.meters ∧ t.mtb = s.mtb ∧ t.bill = s.bill ∧ t.val = s.val ∧ t.cel = s.cel ∧ t.swc = s.swc ∧ t.eav = s.eav ∧ t.otp = s.otp
    ∧ t.overrides = s.overrides ∧ t.cfgPend = s.cfgPend ∧ t.hung = s.hung ∧ t.pending = s.pending)

/-- What the commands of archive, slate link, keys, OTP images, fences, loads and commits leave. A command of the second group
completes and leaves the meter table, every per-meter state record, the record and valley engines, courses and plans, cells,
the switch core, the safety function and the eaves as they were, and with them the overrides, the waiting configuration
writes, the held accesses and the queue. So does one of the fifth group, an access of a function, but that the access itself
may be held. A load or a command of the meter table leaves the archive, cells, the switch core, the safety function, the eaves
and OTP; a commit leaves the meters, the record and valley engines, keys, cells, the switch core, the safety function and OTP.
-/
def Obligations.FrameOfArchive : Prop :=
  (∀ (i : Instr) s, frameGroup i = 2 → Ends i s fun t =>
    t.meters = s.meters ∧ t.mtb = s.mtb ∧ t.bill = s.bill ∧ t.val = s.val ∧ t.crs = s.crs ∧ t.cel = s.cel ∧ t.swc = s.swc ∧ t.saf = s.saf ∧ t.eav = s.eav
    ∧ t.overrides = s.overrides ∧ t.cfgPend = s.cfgPend ∧ t.hung = s.hung ∧ t.pending = s.pending)
  ∧ (∀ (i : Instr) s, frameGroup i = 5 → Ends i s fun t =>
    t.meters = s.meters ∧ t.mtb = s.mtb ∧ t.bill = s.bill ∧ t.val = s.val ∧ t.crs = s.crs ∧ t.cel = s.cel ∧ t.swc = s.swc ∧ t.saf = s.saf ∧ t.eav = s.eav
    ∧ t.overrides = s.overrides ∧ t.cfgPend = s.cfgPend ∧ t.hung.take s.hung.length = s.hung ∧ t.pending = s.pending)
  ∧ (∀ (i : Instr) s, frameGroup i = 7 → Ends i s fun t =>
    t.arc = s.arc ∧ t.cel = s.cel ∧ t.swc = s.swc ∧ t.saf = s.saf ∧ t.eav = s.eav ∧ t.otp = s.otp
    ∧ t.overrides = s.overrides ∧ t.cfgPend = s.cfgPend ∧ t.hung = s.hung ∧ t.pending = s.pending)
  ∧ (∀ (i : Instr) s, frameGroup i = 9 → Ends i s fun t =>
    t.meters = s.meters ∧ t.mtb = s.mtb ∧ t.bill = s.bill ∧ t.val = s.val ∧ t.key = s.key ∧ t.cel = s.cel ∧ t.swc = s.swc ∧ t.saf = s.saf ∧ t.otp = s.otp
    ∧ t.overrides = s.overrides ∧ t.cfgPend = s.cfgPend ∧ t.hung = s.hung ∧ t.pending = s.pending)

/-- What the commands of cells, tiles, the switch core, safety and eaves leave. A command of the third group completes and
leaves the meter table, the valley engine, courses and plans and the eaves as they were, and with them the overrides, the
waiting configuration writes, the held accesses and the queue. A scan, a run, a second record or a sub-frame leaves the
meters, the record engine, courses and plans, cells, the safety function and OTP; a message of an eave leaves the meter table,
the valley engine and the keys; a meter that joins over power line, and a radio frame, leave the valley engine, courses and
plans and the eaves. -/
def Obligations.FrameOfCells : Prop :=
  (∀ (i : Instr) s, frameGroup i = 3 → Ends i s fun t =>
    t.mtb = s.mtb ∧ t.val = s.val ∧ t.crs = s.crs ∧ t.eav = s.eav
    ∧ t.overrides = s.overrides ∧ t.cfgPend = s.cfgPend ∧ t.hung = s.hung ∧ t.pending = s.pending)
  ∧ (∀ (i : Instr) s, frameGroup i = 8 → Ends i s fun t =>
    t.meters = s.meters ∧ t.mtb = s.mtb ∧ t.bill = s.bill ∧ t.crs = s.crs ∧ t.cel = s.cel ∧ t.saf = s.saf ∧ t.otp = s.otp
    ∧ t.overrides = s.overrides ∧ t.cfgPend = s.cfgPend ∧ t.hung = s.hung ∧ t.pending = s.pending)
  ∧ (∀ (i : Instr) s, frameGroup i = 10 → Ends i s fun t =>
    t.mtb = s.mtb ∧ t.val = s.val ∧ t.key = s.key
    ∧ t.overrides = s.overrides ∧ t.cfgPend = s.cfgPend ∧ t.hung = s.hung ∧ t.pending = s.pending)
  ∧ (∀ (i : Instr) s, frameGroup i = 11 → Ends i s fun t =>
    t.val = s.val ∧ t.crs = s.crs ∧ t.eav = s.eav
    ∧ t.overrides = s.overrides ∧ t.cfgPend = s.cfgPend ∧ t.hung = s.hung ∧ t.pending = s.pending)

/-- State after reset. Right after reset nobody owns the unit and no function is fenced, nothing waits and nothing has been
put out, the seal of staging is open, no expert field is overridden, and registers read the reset values of their tables: a
course period of 1 ms under the resident plan, a lease of 250 ms, blocks enabled, every ring idle with LOG2_SIZE 4, the unit
in HOLD, the safety function in INHIBIT, the clock of GLB alone alive, and a comb of 24 h. -/
def Obligations.ResetValues : Prop :=
  State.reset.hst.ownership = .noOwner ∧ (∀ f, (State.reset.fn f).fenced = false) ∧ State.reset.pending = [] ∧ State.reset.out = []
  ∧ State.reset.hung = [] ∧ State.reset.overrides = [] ∧ State.reset.flag Fl.CRS_STAGE_SEAL_SEAL = false
  ∧ (∀ a, State.reset.word a = BitVec.ofNat 32 (resetWord a)) ∧ (∀ f a, State.reset.fword f a = BitVec.ofNat 32 (resetWord a))
  ∧ resetWord Reg.HST_LEASE_CFG = 250 ∧ resetWord Reg.CRS_TIMING = 1 ∧ resetWord Reg.CRS_PLAN_STATUS = 1
  ∧ resetWord (Reg.CTRL 4) = 1 ∧ resetWord (Reg.STATUS 4) = 2 ∧ resetWord Reg.GLB_EXPERT_EN = 0 ∧ resetWord Reg.GLB_CLK_ALIVE = 1
  ∧ resetWord Reg.SAF_STATE % 4 = 2 ∧ resetWord Reg.MTB_AGE_CFG = 0x400005A0 ∧ resetWord Reg.ARC_RETAIN = 0x102DA
  ∧ resetWord Reg.TIM_REF_CFG = 0x07003C39 ∧ resetWord Reg.HLT_CFG = 1
  ∧ (∀ f r, (State.reset.ring f r).idle = true ∧ (State.reset.ring f r).enabled = false ∧ (State.reset.ring f r).cfg = 0x04000000#32)

/-- The register files at reset. The register files of the state after reset are in canonical form. -/
def Obligations.FilesAtReset : Prop :=
  State.reset.filesOk = true

/-- Every step keeps the register files canonical. In every state whose register files are in canonical form, a step that
answers a next state gives one whose register files are: indexes strictly rising, and no shared register listed at its reset
value, so that equal contents of the registers are equal data. -/
def Obligations.FilesKept : Prop :=
  ∀ s t, s.filesOk = true → step s = .next t → t.filesOk = true

/-- Every command has an effect. No command faults and none is refused: in every state, every command answers a next state. -/
def Obligations.EveryCommandCompletes : Prop :=
  ∀ i s, ∃ t, exec i s = .next t

/-- A step takes the command at the front. A step of a state with a command at the front of its queue is that command run on
the state with the rest of the queue. On an empty queue the state stays as it is, which is the choice of log entry 1. -/
def Obligations.StepTakesTheFront : Prop :=
  (∀ i rest (s : State), step { s with pending := i :: rest } = exec i { s with pending := rest })
  ∧ (∀ s : State, s.pending = [] → step s = .next s)
end

