-- ==== Sys2Proof/Laws/Maps.lean ====
section
/-!
SUPPORT. Laws/Maps.lean: sparse arrays: read after write, and the canonical form.
-/

namespace Sys2Proof.Machine

set_option Elab.async false

theorem FMap.get_erase_ne {α : Type} (d : α) (m : FMap α) {k j : Nat} (h : j ≠ k) :
    FMap.get d (FMap.erase m k) j = FMap.get d m j := by
  induction m with
  | nil => rfl
  | cons p m ih =>
    obtain ⟨i, v⟩ := p
    simp only [FMap.erase, FMap.get]
    split
    · next e => rw [ih, if_neg (by omega)]
    · simp only [FMap.get, ih]

theorem FMap.get_erase_same {α : Type} (d : α) (m : FMap α) (k : Nat) : FMap.get d (FMap.erase m k) k = d := by
  induction m with
  | nil => rfl
  | cons p m ih =>
    obtain ⟨i, v⟩ := p
    simp only [FMap.erase]
    split
    · exact ih
    · next e => simp only [FMap.get, if_neg e, ih]

theorem FMap.get_place_ne {α : Type} (d : α) (m : FMap α) {k j : Nat} (v : α) (h : j ≠ k) :
    FMap.get d (FMap.place m k v) j = FMap.get d m j := by
  induction m with
  | nil => simp [FMap.place, FMap.get, Ne.symm h]
  | cons p m ih =>
    obtain ⟨i, w⟩ := p
    simp only [FMap.place]
    split
    · simp [FMap.get, Ne.symm h]
    · simp only [FMap.get, ih]

theorem FMap.get_place_same {α : Type} (d : α) (m : FMap α) (k : Nat) (v : α) (h : FMap.erase m k = m) :
    FMap.get d (FMap.place m k v) k = v := by
  induction m with
  | nil => simp [FMap.place, FMap.get]
  | cons p m ih =>
    obtain ⟨i, w⟩ := p
    simp only [FMap.erase] at h
    split at h
    · next e =>
      exfalso
      have l : (FMap.erase m k).length ≤ m.length := by
        clear h ih
        induction m with
        | nil => simp [FMap.erase]
        | cons q m ih2 =>
          obtain ⟨a, b⟩ := q
          simp only [FMap.erase]
          split
          · simp only [List.length_cons]; omega
          · simp only [List.length_cons]; omega
      have := congrArg List.length h
      simp only [List.length_cons] at this
      omega
    · next e =>
      simp only [FMap.place]
      split
      · simp [FMap.get]
      · simp only [FMap.get, if_neg e]
        exact ih (by simpa using h)

theorem FMap.erase_erase {α : Type} (m : FMap α) (k : Nat) : FMap.erase (FMap.erase m k) k = FMap.erase m k := by
  induction m with
  | nil => rfl
  | cons p m ih =>
    obtain ⟨i, v⟩ := p
    simp only [FMap.erase]
    split
    · exact ih
    · next e => simp only [FMap.erase, if_neg e, ih]

/-- A read of what was written. -/
@[simp] theorem FMap.get_set_same {α : Type} [DecidableEq α] (d : α) (m : FMap α) (k : Nat) (v : α) :
    FMap.get d (FMap.set d m k v) k = v := by
  unfold FMap.set
  split
  · next e => rw [FMap.get_erase_same, e]
  · exact FMap.get_place_same d _ k v (FMap.erase_erase m k)

/-- A write leaves every other index alone. -/
theorem FMap.get_set_ne {α : Type} [DecidableEq α] (d e : α) (m : FMap α) {k j : Nat} (v : α) (h : j ≠ k)
    (he : d = e) : FMap.get d (FMap.set e m k v) j = FMap.get d m j := by
  subst he
  unfold FMap.set
  split
  · exact FMap.get_erase_ne d m h
  · rw [FMap.get_place_ne d _ v h, FMap.get_erase_ne d m h]

/-- A write leaves every other index alone, whatever default the other index has. -/
theorem FMap.get_set_other {α : Type} [DecidableEq α] (d e : α) (m : FMap α) {k j : Nat} (v : α) (h : j ≠ k) :
    FMap.get d (FMap.set e m k v) j = FMap.get d m j := by
  unfold FMap.set
  split
  · exact FMap.get_erase_ne d m h
  · rw [FMap.get_place_ne d _ v h, FMap.get_erase_ne d m h]

/-! ### The canonical form -/

/-- Indexes strictly rise. -/
def FMap.rising {α : Type} (m : FMap α) : Bool := FMap.risingFrom 0 m

theorem FMap.risingFrom_mono {α : Type} (m : FMap α) {lo hi : Nat} (h : lo ≤ hi) (r : FMap.risingFrom hi m = true) :
    FMap.risingFrom lo m = true := by
  cases m with
  | nil => rfl
  | cons p m =>
    obtain ⟨i, v⟩ := p
    simp only [FMap.risingFrom, Bool.and_eq_true, decide_eq_true_eq] at r ⊢
    exact ⟨by omega, r.2⟩

theorem FMap.risingFrom_erase {α : Type} (m : FMap α) (k lo : Nat) (r : FMap.risingFrom lo m = true) :
    FMap.risingFrom lo (FMap.erase m k) = true := by
  induction m generalizing lo with
  | nil => rfl
  | cons p m ih =>
    obtain ⟨i, v⟩ := p
    simp only [FMap.risingFrom, Bool.and_eq_true, decide_eq_true_eq] at r
    simp only [FMap.erase]
    split
    · exact ih lo (FMap.risingFrom_mono m (by omega) r.2)
    · simp only [FMap.risingFrom, Bool.and_eq_true, decide_eq_true_eq]
      exact ⟨r.1, ih (i + 1) r.2⟩

theorem FMap.risingFrom_place {α : Type} (m : FMap α) (k lo : Nat) (v : α) (hk : lo ≤ k)
    (r : FMap.risingFrom lo m = true) (e : FMap.erase m k = m) : FMap.risingFrom lo (FMap.place m k v) = true := by
  induction m generalizing lo with
  | nil => simp [FMap.place, FMap.risingFrom, hk]
  | cons p m ih =>
    obtain ⟨i, w⟩ := p
    simp only [FMap.risingFrom, Bool.and_eq_true, decide_eq_true_eq] at r
    have hi : i ≠ k := by
      intro hik
      have l : ∀ n : FMap α, (FMap.erase n k).length ≤ n.length := by
        intro n
        induction n with
        | nil => simp [FMap.erase]
        | cons q n ih2 =>
          obtain ⟨a, b⟩ := q
          simp only [FMap.erase]
          split
          · simp only [List.length_cons]; omega
          · simp only [List.length_cons]; omega
      simp only [FMap.erase, if_pos hik] at e
      have h1 := l m
      have h2 := congrArg List.length e
      simp only [List.length_cons] at h2
      omega
    have em : FMap.erase m k = m := by
      simp only [FMap.erase, if_neg hi] at e
      simpa using e
    simp only [FMap.place]
    split
    · next hlt =>
      simp only [FMap.risingFrom, Bool.and_eq_true, decide_eq_true_eq]
      exact ⟨hk, by omega, r.2⟩
    · next hge =>
      simp only [FMap.risingFrom, Bool.and_eq_true, decide_eq_true_eq]
      exact ⟨r.1, ih (i + 1) (by omega) r.2 em⟩

/-- A write keeps the indexes rising. -/
theorem FMap.rising_set {α : Type} [DecidableEq α] (d : α) (m : FMap α) (k : Nat) (v : α) (r : FMap.rising m = true) :
    FMap.rising (FMap.set d m k v) = true := by
  unfold FMap.set FMap.rising at *
  split
  · exact FMap.risingFrom_erase m k 0 r
  · exact FMap.risingFrom_place _ k 0 v (Nat.zero_le k) (FMap.risingFrom_erase m k 0 r) (FMap.erase_erase m k)

/-- A filter keeps the indexes rising. -/
theorem FMap.risingFrom_filter {α : Type} (p : Nat × α → Bool) (m : FMap α) (lo : Nat) (r : FMap.risingFrom lo m = true) :
    FMap.risingFrom lo (m.filter p) = true := by
  induction m generalizing lo with
  | nil => rfl
  | cons q m ih =>
    obtain ⟨i, v⟩ := q
    simp only [FMap.risingFrom, Bool.and_eq_true, decide_eq_true_eq] at r
    simp only [List.filter_cons]
    split
    · simp only [FMap.risingFrom, Bool.and_eq_true, decide_eq_true_eq]
      exact ⟨r.1, ih (i + 1) r.2⟩
    · exact ih lo (FMap.risingFrom_mono m (by omega) r.2)

end Sys2Proof.Machine
end

