-- ==== Sys2Proof/Laws/State.lean ====
section
/-!
SUPPORT. Laws/State.lean: what the primitive operations leave alone, one lemma for each component, and the values that they write.
-/

namespace Sys2Proof.Machine

set_option Elab.async false

/-! ### What they write -/

@[simp] theorem State.setWord_regs (s : State) (a : Nat) (v : Word) :
    (s.setWord a v).regs = FMap.set (BitVec.ofNat 32 (resetWord a)) s.regs a v := rfl
@[simp] theorem State.setFword_fregs (s : State) (f a : Nat) (v : Word) :
    (s.setFword f a v).fregs = FMap.set (BitVec.ofNat 32 (resetWord a)) s.fregs (funcKey f a) v := rfl
@[simp] theorem State.emit_out (s : State) (o : Out) : (s.emit o).out = o :: s.out := rfl
@[simp] theorem State.setFn_funcs (s : State) (f : Nat) (x : FuncState) :
    (s.setFn f x).hst.funcs = FMap.set {} s.hst.funcs f x := rfl
@[simp] theorem State.freshNat_free (s : State) (m : Nat) : (s.freshNat m).2.free = s.free + 1 := rfl
@[simp] theorem State.freshOctet_free (s : State) : s.freshOctet.2.free = s.free + 1 := rfl

/-! ### What they leave alone -/


@[simp] theorem State.setWord_fregs (s : State) (a : Nat) (v : Word) : (s.setWord a v).fregs = s.fregs := rfl
@[simp] theorem State.setWord_latch (s : State) (a : Nat) (v : Word) : (s.setWord a v).latch = s.latch := rfl
@[simp] theorem State.setWord_held (s : State) (a : Nat) (v : Word) : (s.setWord a v).held = s.held := rfl
@[simp] theorem State.setWord_overrides (s : State) (a : Nat) (v : Word) : (s.setWord a v).overrides = s.overrides := rfl
@[simp] theorem State.setWord_cfgPend (s : State) (a : Nat) (v : Word) : (s.setWord a v).cfgPend = s.cfgPend := rfl
@[simp] theorem State.setWord_hung (s : State) (a : Nat) (v : Word) : (s.setWord a v).hung = s.hung := rfl
@[simp] theorem State.setWord_free (s : State) (a : Nat) (v : Word) : (s.setWord a v).free = s.free := rfl
@[simp] theorem State.setWord_out (s : State) (a : Nat) (v : Word) : (s.setWord a v).out = s.out := rfl
@[simp] theorem State.setWord_hst (s : State) (a : Nat) (v : Word) : (s.setWord a v).hst = s.hst := rfl
@[simp] theorem State.setWord_evt (s : State) (a : Nat) (v : Word) : (s.setWord a v).evt = s.evt := rfl
@[simp] theorem State.setWord_crs (s : State) (a : Nat) (v : Word) : (s.setWord a v).crs = s.crs := rfl
@[simp] theorem State.setWord_cel (s : State) (a : Nat) (v : Word) : (s.setWord a v).cel = s.cel := rfl
@[simp] theorem State.setWord_swc (s : State) (a : Nat) (v : Word) : (s.setWord a v).swc = s.swc := rfl
@[simp] theorem State.setWord_tim (s : State) (a : Nat) (v : Word) : (s.setWord a v).tim = s.tim := rfl
@[simp] theorem State.setWord_key (s : State) (a : Nat) (v : Word) : (s.setWord a v).key = s.key := rfl
@[simp] theorem State.setWord_saf (s : State) (a : Nat) (v : Word) : (s.setWord a v).saf = s.saf := rfl
@[simp] theorem State.setWord_mtb (s : State) (a : Nat) (v : Word) : (s.setWord a v).mtb = s.mtb := rfl
@[simp] theorem State.setWord_meters (s : State) (a : Nat) (v : Word) : (s.setWord a v).meters = s.meters := rfl
@[simp] theorem State.setWord_bill (s : State) (a : Nat) (v : Word) : (s.setWord a v).bill = s.bill := rfl
@[simp] theorem State.setWord_val (s : State) (a : Nat) (v : Word) : (s.setWord a v).val = s.val := rfl
@[simp] theorem State.setWord_arc (s : State) (a : Nat) (v : Word) : (s.setWord a v).arc = s.arc := rfl
@[simp] theorem State.setWord_rdg (s : State) (a : Nat) (v : Word) : (s.setWord a v).rdg = s.rdg := rfl
@[simp] theorem State.setWord_eav (s : State) (a : Nat) (v : Word) : (s.setWord a v).eav = s.eav := rfl
@[simp] theorem State.setWord_met (s : State) (a : Nat) (v : Word) : (s.setWord a v).met = s.met := rfl
@[simp] theorem State.setWord_tmp (s : State) (a : Nat) (v : Word) : (s.setWord a v).tmp = s.tmp := rfl
@[simp] theorem State.setWord_otp (s : State) (a : Nat) (v : Word) : (s.setWord a v).otp = s.otp := rfl
@[simp] theorem State.setWord_hlt (s : State) (a : Nat) (v : Word) : (s.setWord a v).hlt = s.hlt := rfl
@[simp] theorem State.setWord_lane (s : State) (a : Nat) (v : Word) : (s.setWord a v).lane = s.lane := rfl
@[simp] theorem State.setWord_pending (s : State) (a : Nat) (v : Word) : (s.setWord a v).pending = s.pending := rfl

@[simp] theorem State.put_fregs (s : State) (f : Fld) (v : Nat) : (s.put f v).fregs = s.fregs := rfl
@[simp] theorem State.put_latch (s : State) (f : Fld) (v : Nat) : (s.put f v).latch = s.latch := rfl
@[simp] theorem State.put_held (s : State) (f : Fld) (v : Nat) : (s.put f v).held = s.held := rfl
@[simp] theorem State.put_overrides (s : State) (f : Fld) (v : Nat) : (s.put f v).overrides = s.overrides := rfl
@[simp] theorem State.put_cfgPend (s : State) (f : Fld) (v : Nat) : (s.put f v).cfgPend = s.cfgPend := rfl
@[simp] theorem State.put_hung (s : State) (f : Fld) (v : Nat) : (s.put f v).hung = s.hung := rfl
@[simp] theorem State.put_free (s : State) (f : Fld) (v : Nat) : (s.put f v).free = s.free := rfl
@[simp] theorem State.put_out (s : State) (f : Fld) (v : Nat) : (s.put f v).out = s.out := rfl
@[simp] theorem State.put_hst (s : State) (f : Fld) (v : Nat) : (s.put f v).hst = s.hst := rfl
@[simp] theorem State.put_evt (s : State) (f : Fld) (v : Nat) : (s.put f v).evt = s.evt := rfl
@[simp] theorem State.put_crs (s : State) (f : Fld) (v : Nat) : (s.put f v).crs = s.crs := rfl
@[simp] theorem State.put_cel (s : State) (f : Fld) (v : Nat) : (s.put f v).cel = s.cel := rfl
@[simp] theorem State.put_swc (s : State) (f : Fld) (v : Nat) : (s.put f v).swc = s.swc := rfl
@[simp] theorem State.put_tim (s : State) (f : Fld) (v : Nat) : (s.put f v).tim = s.tim := rfl
@[simp] theorem State.put_key (s : State) (f : Fld) (v : Nat) : (s.put f v).key = s.key := rfl
@[simp] theorem State.put_saf (s : State) (f : Fld) (v : Nat) : (s.put f v).saf = s.saf := rfl
@[simp] theorem State.put_mtb (s : State) (f : Fld) (v : Nat) : (s.put f v).mtb = s.mtb := rfl
@[simp] theorem State.put_meters (s : State) (f : Fld) (v : Nat) : (s.put f v).meters = s.meters := rfl
@[simp] theorem State.put_bill (s : State) (f : Fld) (v : Nat) : (s.put f v).bill = s.bill := rfl
@[simp] theorem State.put_val (s : State) (f : Fld) (v : Nat) : (s.put f v).val = s.val := rfl
@[simp] theorem State.put_arc (s : State) (f : Fld) (v : Nat) : (s.put f v).arc = s.arc := rfl
@[simp] theorem State.put_rdg (s : State) (f : Fld) (v : Nat) : (s.put f v).rdg = s.rdg := rfl
@[simp] theorem State.put_eav (s : State) (f : Fld) (v : Nat) : (s.put f v).eav = s.eav := rfl
@[simp] theorem State.put_met (s : State) (f : Fld) (v : Nat) : (s.put f v).met = s.met := rfl
@[simp] theorem State.put_tmp (s : State) (f : Fld) (v : Nat) : (s.put f v).tmp = s.tmp := rfl
@[simp] theorem State.put_otp (s : State) (f : Fld) (v : Nat) : (s.put f v).otp = s.otp := rfl
@[simp] theorem State.put_hlt (s : State) (f : Fld) (v : Nat) : (s.put f v).hlt = s.hlt := rfl
@[simp] theorem State.put_lane (s : State) (f : Fld) (v : Nat) : (s.put f v).lane = s.lane := rfl
@[simp] theorem State.put_pending (s : State) (f : Fld) (v : Nat) : (s.put f v).pending = s.pending := rfl

@[simp] theorem State.putFlag_fregs (s : State) (f : Fld) (b : Bool) : (s.putFlag f b).fregs = s.fregs := rfl
@[simp] theorem State.putFlag_latch (s : State) (f : Fld) (b : Bool) : (s.putFlag f b).latch = s.latch := rfl
@[simp] theorem State.putFlag_held (s : State) (f : Fld) (b : Bool) : (s.putFlag f b).held = s.held := rfl
@[simp] theorem State.putFlag_overrides (s : State) (f : Fld) (b : Bool) : (s.putFlag f b).overrides = s.overrides := rfl
@[simp] theorem State.putFlag_cfgPend (s : State) (f : Fld) (b : Bool) : (s.putFlag f b).cfgPend = s.cfgPend := rfl
@[simp] theorem State.putFlag_hung (s : State) (f : Fld) (b : Bool) : (s.putFlag f b).hung = s.hung := rfl
@[simp] theorem State.putFlag_free (s : State) (f : Fld) (b : Bool) : (s.putFlag f b).free = s.free := rfl
@[simp] theorem State.putFlag_out (s : State) (f : Fld) (b : Bool) : (s.putFlag f b).out = s.out := rfl
@[simp] theorem State.putFlag_hst (s : State) (f : Fld) (b : Bool) : (s.putFlag f b).hst = s.hst := rfl
@[simp] theorem State.putFlag_evt (s : State) (f : Fld) (b : Bool) : (s.putFlag f b).evt = s.evt := rfl
@[simp] theorem State.putFlag_crs (s : State) (f : Fld) (b : Bool) : (s.putFlag f b).crs = s.crs := rfl
@[simp] theorem State.putFlag_cel (s : State) (f : Fld) (b : Bool) : (s.putFlag f b).cel = s.cel := rfl
@[simp] theorem State.putFlag_swc (s : State) (f : Fld) (b : Bool) : (s.putFlag f b).swc = s.swc := rfl
@[simp] theorem State.putFlag_tim (s : State) (f : Fld) (b : Bool) : (s.putFlag f b).tim = s.tim := rfl
@[simp] theorem State.putFlag_key (s : State) (f : Fld) (b : Bool) : (s.putFlag f b).key = s.key := rfl
@[simp] theorem State.putFlag_saf (s : State) (f : Fld) (b : Bool) : (s.putFlag f b).saf = s.saf := rfl
@[simp] theorem State.putFlag_mtb (s : State) (f : Fld) (b : Bool) : (s.putFlag f b).mtb = s.mtb := rfl
@[simp] theorem State.putFlag_meters (s : State) (f : Fld) (b : Bool) : (s.putFlag f b).meters = s.meters := rfl
@[simp] theorem State.putFlag_bill (s : State) (f : Fld) (b : Bool) : (s.putFlag f b).bill = s.bill := rfl
@[simp] theorem State.putFlag_val (s : State) (f : Fld) (b : Bool) : (s.putFlag f b).val = s.val := rfl
@[simp] theorem State.putFlag_arc (s : State) (f : Fld) (b : Bool) : (s.putFlag f b).arc = s.arc := rfl
@[simp] theorem State.putFlag_rdg (s : State) (f : Fld) (b : Bool) : (s.putFlag f b).rdg = s.rdg := rfl
@[simp] theorem State.putFlag_eav (s : State) (f : Fld) (b : Bool) : (s.putFlag f b).eav = s.eav := rfl
@[simp] theorem State.putFlag_met (s : State) (f : Fld) (b : Bool) : (s.putFlag f b).met = s.met := rfl
@[simp] theorem State.putFlag_tmp (s : State) (f : Fld) (b : Bool) : (s.putFlag f b).tmp = s.tmp := rfl
@[simp] theorem State.putFlag_otp (s : State) (f : Fld) (b : Bool) : (s.putFlag f b).otp = s.otp := rfl
@[simp] theorem State.putFlag_hlt (s : State) (f : Fld) (b : Bool) : (s.putFlag f b).hlt = s.hlt := rfl
@[simp] theorem State.putFlag_lane (s : State) (f : Fld) (b : Bool) : (s.putFlag f b).lane = s.lane := rfl
@[simp] theorem State.putFlag_pending (s : State) (f : Fld) (b : Bool) : (s.putFlag f b).pending = s.pending := rfl

@[simp] theorem State.put64_fregs (s : State) (a v : Nat) : (s.put64 a v).fregs = s.fregs := rfl
@[simp] theorem State.put64_latch (s : State) (a v : Nat) : (s.put64 a v).latch = s.latch := rfl
@[simp] theorem State.put64_held (s : State) (a v : Nat) : (s.put64 a v).held = s.held := rfl
@[simp] theorem State.put64_overrides (s : State) (a v : Nat) : (s.put64 a v).overrides = s.overrides := rfl
@[simp] theorem State.put64_cfgPend (s : State) (a v : Nat) : (s.put64 a v).cfgPend = s.cfgPend := rfl
@[simp] theorem State.put64_hung (s : State) (a v : Nat) : (s.put64 a v).hung = s.hung := rfl
@[simp] theorem State.put64_free (s : State) (a v : Nat) : (s.put64 a v).free = s.free := rfl
@[simp] theorem State.put64_out (s : State) (a v : Nat) : (s.put64 a v).out = s.out := rfl
@[simp] theorem State.put64_hst (s : State) (a v : Nat) : (s.put64 a v).hst = s.hst := rfl
@[simp] theorem State.put64_evt (s : State) (a v : Nat) : (s.put64 a v).evt = s.evt := rfl
@[simp] theorem State.put64_crs (s : State) (a v : Nat) : (s.put64 a v).crs = s.crs := rfl
@[simp] theorem State.put64_cel (s : State) (a v : Nat) : (s.put64 a v).cel = s.cel := rfl
@[simp] theorem State.put64_swc (s : State) (a v : Nat) : (s.put64 a v).swc = s.swc := rfl
@[simp] theorem State.put64_tim (s : State) (a v : Nat) : (s.put64 a v).tim = s.tim := rfl
@[simp] theorem State.put64_key (s : State) (a v : Nat) : (s.put64 a v).key = s.key := rfl
@[simp] theorem State.put64_saf (s : State) (a v : Nat) : (s.put64 a v).saf = s.saf := rfl
@[simp] theorem State.put64_mtb (s : State) (a v : Nat) : (s.put64 a v).mtb = s.mtb := rfl
@[simp] theorem State.put64_meters (s : State) (a v : Nat) : (s.put64 a v).meters = s.meters := rfl
@[simp] theorem State.put64_bill (s : State) (a v : Nat) : (s.put64 a v).bill = s.bill := rfl
@[simp] theorem State.put64_val (s : State) (a v : Nat) : (s.put64 a v).val = s.val := rfl
@[simp] theorem State.put64_arc (s : State) (a v : Nat) : (s.put64 a v).arc = s.arc := rfl
@[simp] theorem State.put64_rdg (s : State) (a v : Nat) : (s.put64 a v).rdg = s.rdg := rfl
@[simp] theorem State.put64_eav (s : State) (a v : Nat) : (s.put64 a v).eav = s.eav := rfl
@[simp] theorem State.put64_met (s : State) (a v : Nat) : (s.put64 a v).met = s.met := rfl
@[simp] theorem State.put64_tmp (s : State) (a v : Nat) : (s.put64 a v).tmp = s.tmp := rfl
@[simp] theorem State.put64_otp (s : State) (a v : Nat) : (s.put64 a v).otp = s.otp := rfl
@[simp] theorem State.put64_hlt (s : State) (a v : Nat) : (s.put64 a v).hlt = s.hlt := rfl
@[simp] theorem State.put64_lane (s : State) (a v : Nat) : (s.put64 a v).lane = s.lane := rfl
@[simp] theorem State.put64_pending (s : State) (a v : Nat) : (s.put64 a v).pending = s.pending := rfl

@[simp] theorem State.bumpBy_fregs (s : State) (f : Fld) (n : Nat) : (s.bumpBy f n).fregs = s.fregs := rfl
@[simp] theorem State.bumpBy_latch (s : State) (f : Fld) (n : Nat) : (s.bumpBy f n).latch = s.latch := rfl
@[simp] theorem State.bumpBy_held (s : State) (f : Fld) (n : Nat) : (s.bumpBy f n).held = s.held := rfl
@[simp] theorem State.bumpBy_overrides (s : State) (f : Fld) (n : Nat) : (s.bumpBy f n).overrides = s.overrides := rfl
@[simp] theorem State.bumpBy_cfgPend (s : State) (f : Fld) (n : Nat) : (s.bumpBy f n).cfgPend = s.cfgPend := rfl
@[simp] theorem State.bumpBy_hung (s : State) (f : Fld) (n : Nat) : (s.bumpBy f n).hung = s.hung := rfl
@[simp] theorem State.bumpBy_free (s : State) (f : Fld) (n : Nat) : (s.bumpBy f n).free = s.free := rfl
@[simp] theorem State.bumpBy_out (s : State) (f : Fld) (n : Nat) : (s.bumpBy f n).out = s.out := rfl
@[simp] theorem State.bumpBy_hst (s : State) (f : Fld) (n : Nat) : (s.bumpBy f n).hst = s.hst := rfl
@[simp] theorem State.bumpBy_evt (s : State) (f : Fld) (n : Nat) : (s.bumpBy f n).evt = s.evt := rfl
@[simp] theorem State.bumpBy_crs (s : State) (f : Fld) (n : Nat) : (s.bumpBy f n).crs = s.crs := rfl
@[simp] theorem State.bumpBy_cel (s : State) (f : Fld) (n : Nat) : (s.bumpBy f n).cel = s.cel := rfl
@[simp] theorem State.bumpBy_swc (s : State) (f : Fld) (n : Nat) : (s.bumpBy f n).swc = s.swc := rfl
@[simp] theorem State.bumpBy_tim (s : State) (f : Fld) (n : Nat) : (s.bumpBy f n).tim = s.tim := rfl
@[simp] theorem State.bumpBy_key (s : State) (f : Fld) (n : Nat) : (s.bumpBy f n).key = s.key := rfl
@[simp] theorem State.bumpBy_saf (s : State) (f : Fld) (n : Nat) : (s.bumpBy f n).saf = s.saf := rfl
@[simp] theorem State.bumpBy_mtb (s : State) (f : Fld) (n : Nat) : (s.bumpBy f n).mtb = s.mtb := rfl
@[simp] theorem State.bumpBy_meters (s : State) (f : Fld) (n : Nat) : (s.bumpBy f n).meters = s.meters := rfl
@[simp] theorem State.bumpBy_bill (s : State) (f : Fld) (n : Nat) : (s.bumpBy f n).bill = s.bill := rfl
@[simp] theorem State.bumpBy_val (s : State) (f : Fld) (n : Nat) : (s.bumpBy f n).val = s.val := rfl
@[simp] theorem State.bumpBy_arc (s : State) (f : Fld) (n : Nat) : (s.bumpBy f n).arc = s.arc := rfl
@[simp] theorem State.bumpBy_rdg (s : State) (f : Fld) (n : Nat) : (s.bumpBy f n).rdg = s.rdg := rfl
@[simp] theorem State.bumpBy_eav (s : State) (f : Fld) (n : Nat) : (s.bumpBy f n).eav = s.eav := rfl
@[simp] theorem State.bumpBy_met (s : State) (f : Fld) (n : Nat) : (s.bumpBy f n).met = s.met := rfl
@[simp] theorem State.bumpBy_tmp (s : State) (f : Fld) (n : Nat) : (s.bumpBy f n).tmp = s.tmp := rfl
@[simp] theorem State.bumpBy_otp (s : State) (f : Fld) (n : Nat) : (s.bumpBy f n).otp = s.otp := rfl
@[simp] theorem State.bumpBy_hlt (s : State) (f : Fld) (n : Nat) : (s.bumpBy f n).hlt = s.hlt := rfl
@[simp] theorem State.bumpBy_lane (s : State) (f : Fld) (n : Nat) : (s.bumpBy f n).lane = s.lane := rfl
@[simp] theorem State.bumpBy_pending (s : State) (f : Fld) (n : Nat) : (s.bumpBy f n).pending = s.pending := rfl

@[simp] theorem State.bump_fregs (s : State) (f : Fld) : (s.bump f).fregs = s.fregs := rfl
@[simp] theorem State.bump_latch (s : State) (f : Fld) : (s.bump f).latch = s.latch := rfl
@[simp] theorem State.bump_held (s : State) (f : Fld) : (s.bump f).held = s.held := rfl
@[simp] theorem State.bump_overrides (s : State) (f : Fld) : (s.bump f).overrides = s.overrides := rfl
@[simp] theorem State.bump_cfgPend (s : State) (f : Fld) : (s.bump f).cfgPend = s.cfgPend := rfl
@[simp] theorem State.bump_hung (s : State) (f : Fld) : (s.bump f).hung = s.hung := rfl
@[simp] theorem State.bump_free (s : State) (f : Fld) : (s.bump f).free = s.free := rfl
@[simp] theorem State.bump_out (s : State) (f : Fld) : (s.bump f).out = s.out := rfl
@[simp] theorem State.bump_hst (s : State) (f : Fld) : (s.bump f).hst = s.hst := rfl
@[simp] theorem State.bump_evt (s : State) (f : Fld) : (s.bump f).evt = s.evt := rfl
@[simp] theorem State.bump_crs (s : State) (f : Fld) : (s.bump f).crs = s.crs := rfl
@[simp] theorem State.bump_cel (s : State) (f : Fld) : (s.bump f).cel = s.cel := rfl
@[simp] theorem State.bump_swc (s : State) (f : Fld) : (s.bump f).swc = s.swc := rfl
@[simp] theorem State.bump_tim (s : State) (f : Fld) : (s.bump f).tim = s.tim := rfl
@[simp] theorem State.bump_key (s : State) (f : Fld) : (s.bump f).key = s.key := rfl
@[simp] theorem State.bump_saf (s : State) (f : Fld) : (s.bump f).saf = s.saf := rfl
@[simp] theorem State.bump_mtb (s : State) (f : Fld) : (s.bump f).mtb = s.mtb := rfl
@[simp] theorem State.bump_meters (s : State) (f : Fld) : (s.bump f).meters = s.meters := rfl
@[simp] theorem State.bump_bill (s : State) (f : Fld) : (s.bump f).bill = s.bill := rfl
@[simp] theorem State.bump_val (s : State) (f : Fld) : (s.bump f).val = s.val := rfl
@[simp] theorem State.bump_arc (s : State) (f : Fld) : (s.bump f).arc = s.arc := rfl
@[simp] theorem State.bump_rdg (s : State) (f : Fld) : (s.bump f).rdg = s.rdg := rfl
@[simp] theorem State.bump_eav (s : State) (f : Fld) : (s.bump f).eav = s.eav := rfl
@[simp] theorem State.bump_met (s : State) (f : Fld) : (s.bump f).met = s.met := rfl
@[simp] theorem State.bump_tmp (s : State) (f : Fld) : (s.bump f).tmp = s.tmp := rfl
@[simp] theorem State.bump_otp (s : State) (f : Fld) : (s.bump f).otp = s.otp := rfl
@[simp] theorem State.bump_hlt (s : State) (f : Fld) : (s.bump f).hlt = s.hlt := rfl
@[simp] theorem State.bump_lane (s : State) (f : Fld) : (s.bump f).lane = s.lane := rfl
@[simp] theorem State.bump_pending (s : State) (f : Fld) : (s.bump f).pending = s.pending := rfl

@[simp] theorem State.setFword_regs (s : State) (f a : Nat) (v : Word) : (s.setFword f a v).regs = s.regs := rfl
@[simp] theorem State.setFword_latch (s : State) (f a : Nat) (v : Word) : (s.setFword f a v).latch = s.latch := rfl
@[simp] theorem State.setFword_held (s : State) (f a : Nat) (v : Word) : (s.setFword f a v).held = s.held := rfl
@[simp] theorem State.setFword_overrides (s : State) (f a : Nat) (v : Word) : (s.setFword f a v).overrides = s.overrides := rfl
@[simp] theorem State.setFword_cfgPend (s : State) (f a : Nat) (v : Word) : (s.setFword f a v).cfgPend = s.cfgPend := rfl
@[simp] theorem State.setFword_hung (s : State) (f a : Nat) (v : Word) : (s.setFword f a v).hung = s.hung := rfl
@[simp] theorem State.setFword_free (s : State) (f a : Nat) (v : Word) : (s.setFword f a v).free = s.free := rfl
@[simp] theorem State.setFword_out (s : State) (f a : Nat) (v : Word) : (s.setFword f a v).out = s.out := rfl
@[simp] theorem State.setFword_hst (s : State) (f a : Nat) (v : Word) : (s.setFword f a v).hst = s.hst := rfl
@[simp] theorem State.setFword_evt (s : State) (f a : Nat) (v : Word) : (s.setFword f a v).evt = s.evt := rfl
@[simp] theorem State.setFword_crs (s : State) (f a : Nat) (v : Word) : (s.setFword f a v).crs = s.crs := rfl
@[simp] theorem State.setFword_cel (s : State) (f a : Nat) (v : Word) : (s.setFword f a v).cel = s.cel := rfl
@[simp] theorem State.setFword_swc (s : State) (f a : Nat) (v : Word) : (s.setFword f a v).swc = s.swc := rfl
@[simp] theorem State.setFword_tim (s : State) (f a : Nat) (v : Word) : (s.setFword f a v).tim = s.tim := rfl
@[simp] theorem State.setFword_key (s : State) (f a : Nat) (v : Word) : (s.setFword f a v).key = s.key := rfl
@[simp] theorem State.setFword_saf (s : State) (f a : Nat) (v : Word) : (s.setFword f a v).saf = s.saf := rfl
@[simp] theorem State.setFword_mtb (s : State) (f a : Nat) (v : Word) : (s.setFword f a v).mtb = s.mtb := rfl
@[simp] theorem State.setFword_meters (s : State) (f a : Nat) (v : Word) : (s.setFword f a v).meters = s.meters := rfl
@[simp] theorem State.setFword_bill (s : State) (f a : Nat) (v : Word) : (s.setFword f a v).bill = s.bill := rfl
@[simp] theorem State.setFword_val (s : State) (f a : Nat) (v : Word) : (s.setFword f a v).val = s.val := rfl
@[simp] theorem State.setFword_arc (s : State) (f a : Nat) (v : Word) : (s.setFword f a v).arc = s.arc := rfl
@[simp] theorem State.setFword_rdg (s : State) (f a : Nat) (v : Word) : (s.setFword f a v).rdg = s.rdg := rfl
@[simp] theorem State.setFword_eav (s : State) (f a : Nat) (v : Word) : (s.setFword f a v).eav = s.eav := rfl
@[simp] theorem State.setFword_met (s : State) (f a : Nat) (v : Word) : (s.setFword f a v).met = s.met := rfl
@[simp] theorem State.setFword_tmp (s : State) (f a : Nat) (v : Word) : (s.setFword f a v).tmp = s.tmp := rfl
@[simp] theorem State.setFword_otp (s : State) (f a : Nat) (v : Word) : (s.setFword f a v).otp = s.otp := rfl
@[simp] theorem State.setFword_hlt (s : State) (f a : Nat) (v : Word) : (s.setFword f a v).hlt = s.hlt := rfl
@[simp] theorem State.setFword_lane (s : State) (f a : Nat) (v : Word) : (s.setFword f a v).lane = s.lane := rfl
@[simp] theorem State.setFword_pending (s : State) (f a : Nat) (v : Word) : (s.setFword f a v).pending = s.pending := rfl

@[simp] theorem State.fput_regs (s : State) (f : Nat) (x : Fld) (v : Nat) : (s.fput f x v).regs = s.regs := rfl
@[simp] theorem State.fput_latch (s : State) (f : Nat) (x : Fld) (v : Nat) : (s.fput f x v).latch = s.latch := rfl
@[simp] theorem State.fput_held (s : State) (f : Nat) (x : Fld) (v : Nat) : (s.fput f x v).held = s.held := rfl
@[simp] theorem State.fput_overrides (s : State) (f : Nat) (x : Fld) (v : Nat) : (s.fput f x v).overrides = s.overrides := rfl
@[simp] theorem State.fput_cfgPend (s : State) (f : Nat) (x : Fld) (v : Nat) : (s.fput f x v).cfgPend = s.cfgPend := rfl
@[simp] theorem State.fput_hung (s : State) (f : Nat) (x : Fld) (v : Nat) : (s.fput f x v).hung = s.hung := rfl
@[simp] theorem State.fput_free (s : State) (f : Nat) (x : Fld) (v : Nat) : (s.fput f x v).free = s.free := rfl
@[simp] theorem State.fput_out (s : State) (f : Nat) (x : Fld) (v : Nat) : (s.fput f x v).out = s.out := rfl
@[simp] theorem State.fput_hst (s : State) (f : Nat) (x : Fld) (v : Nat) : (s.fput f x v).hst = s.hst := rfl
@[simp] theorem State.fput_evt (s : State) (f : Nat) (x : Fld) (v : Nat) : (s.fput f x v).evt = s.evt := rfl
@[simp] theorem State.fput_crs (s : State) (f : Nat) (x : Fld) (v : Nat) : (s.fput f x v).crs = s.crs := rfl
@[simp] theorem State.fput_cel (s : State) (f : Nat) (x : Fld) (v : Nat) : (s.fput f x v).cel = s.cel := rfl
@[simp] theorem State.fput_swc (s : State) (f : Nat) (x : Fld) (v : Nat) : (s.fput f x v).swc = s.swc := rfl
@[simp] theorem State.fput_tim (s : State) (f : Nat) (x : Fld) (v : Nat) : (s.fput f x v).tim = s.tim := rfl
@[simp] theorem State.fput_key (s : State) (f : Nat) (x : Fld) (v : Nat) : (s.fput f x v).key = s.key := rfl
@[simp] theorem State.fput_saf (s : State) (f : Nat) (x : Fld) (v : Nat) : (s.fput f x v).saf = s.saf := rfl
@[simp] theorem State.fput_mtb (s : State) (f : Nat) (x : Fld) (v : Nat) : (s.fput f x v).mtb = s.mtb := rfl
@[simp] theorem State.fput_meters (s : State) (f : Nat) (x : Fld) (v : Nat) : (s.fput f x v).meters = s.meters := rfl
@[simp] theorem State.fput_bill (s : State) (f : Nat) (x : Fld) (v : Nat) : (s.fput f x v).bill = s.bill := rfl
@[simp] theorem State.fput_val (s : State) (f : Nat) (x : Fld) (v : Nat) : (s.fput f x v).val = s.val := rfl
@[simp] theorem State.fput_arc (s : State) (f : Nat) (x : Fld) (v : Nat) : (s.fput f x v).arc = s.arc := rfl
@[simp] theorem State.fput_rdg (s : State) (f : Nat) (x : Fld) (v : Nat) : (s.fput f x v).rdg = s.rdg := rfl
@[simp] theorem State.fput_eav (s : State) (f : Nat) (x : Fld) (v : Nat) : (s.fput f x v).eav = s.eav := rfl
@[simp] theorem State.fput_met (s : State) (f : Nat) (x : Fld) (v : Nat) : (s.fput f x v).met = s.met := rfl
@[simp] theorem State.fput_tmp (s : State) (f : Nat) (x : Fld) (v : Nat) : (s.fput f x v).tmp = s.tmp := rfl
@[simp] theorem State.fput_otp (s : State) (f : Nat) (x : Fld) (v : Nat) : (s.fput f x v).otp = s.otp := rfl
@[simp] theorem State.fput_hlt (s : State) (f : Nat) (x : Fld) (v : Nat) : (s.fput f x v).hlt = s.hlt := rfl
@[simp] theorem State.fput_lane (s : State) (f : Nat) (x : Fld) (v : Nat) : (s.fput f x v).lane = s.lane := rfl
@[simp] theorem State.fput_pending (s : State) (f : Nat) (x : Fld) (v : Nat) : (s.fput f x v).pending = s.pending := rfl

@[simp] theorem State.emit_regs (s : State) (o : Out) : (s.emit o).regs = s.regs := rfl
@[simp] theorem State.emit_fregs (s : State) (o : Out) : (s.emit o).fregs = s.fregs := rfl
@[simp] theorem State.emit_latch (s : State) (o : Out) : (s.emit o).latch = s.latch := rfl
@[simp] theorem State.emit_held (s : State) (o : Out) : (s.emit o).held = s.held := rfl
@[simp] theorem State.emit_overrides (s : State) (o : Out) : (s.emit o).overrides = s.overrides := rfl
@[simp] theorem State.emit_cfgPend (s : State) (o : Out) : (s.emit o).cfgPend = s.cfgPend := rfl
@[simp] theorem State.emit_hung (s : State) (o : Out) : (s.emit o).hung = s.hung := rfl
@[simp] theorem State.emit_free (s : State) (o : Out) : (s.emit o).free = s.free := rfl
@[simp] theorem State.emit_hst (s : State) (o : Out) : (s.emit o).hst = s.hst := rfl
@[simp] theorem State.emit_evt (s : State) (o : Out) : (s.emit o).evt = s.evt := rfl
@[simp] theorem State.emit_crs (s : State) (o : Out) : (s.emit o).crs = s.crs := rfl
@[simp] theorem State.emit_cel (s : State) (o : Out) : (s.emit o).cel = s.cel := rfl
@[simp] theorem State.emit_swc (s : State) (o : Out) : (s.emit o).swc = s.swc := rfl
@[simp] theorem State.emit_tim (s : State) (o : Out) : (s.emit o).tim = s.tim := rfl
@[simp] theorem State.emit_key (s : State) (o : Out) : (s.emit o).key = s.key := rfl
@[simp] theorem State.emit_saf (s : State) (o : Out) : (s.emit o).saf = s.saf := rfl
@[simp] theorem State.emit_mtb (s : State) (o : Out) : (s.emit o).mtb = s.mtb := rfl
@[simp] theorem State.emit_meters (s : State) (o : Out) : (s.emit o).meters = s.meters := rfl
@[simp] theorem State.emit_bill (s : State) (o : Out) : (s.emit o).bill = s.bill := rfl
@[simp] theorem State.emit_val (s : State) (o : Out) : (s.emit o).val = s.val := rfl
@[simp] theorem State.emit_arc (s : State) (o : Out) : (s.emit o).arc = s.arc := rfl
@[simp] theorem State.emit_rdg (s : State) (o : Out) : (s.emit o).rdg = s.rdg := rfl
@[simp] theorem State.emit_eav (s : State) (o : Out) : (s.emit o).eav = s.eav := rfl
@[simp] theorem State.emit_met (s : State) (o : Out) : (s.emit o).met = s.met := rfl
@[simp] theorem State.emit_tmp (s : State) (o : Out) : (s.emit o).tmp = s.tmp := rfl
@[simp] theorem State.emit_otp (s : State) (o : Out) : (s.emit o).otp = s.otp := rfl
@[simp] theorem State.emit_hlt (s : State) (o : Out) : (s.emit o).hlt = s.hlt := rfl
@[simp] theorem State.emit_lane (s : State) (o : Out) : (s.emit o).lane = s.lane := rfl
@[simp] theorem State.emit_pending (s : State) (o : Out) : (s.emit o).pending = s.pending := rfl

@[simp] theorem State.setFn_regs (s : State) (f : Nat) (x : FuncState) : (s.setFn f x).regs = s.regs := rfl
@[simp] theorem State.setFn_fregs (s : State) (f : Nat) (x : FuncState) : (s.setFn f x).fregs = s.fregs := rfl
@[simp] theorem State.setFn_latch (s : State) (f : Nat) (x : FuncState) : (s.setFn f x).latch = s.latch := rfl
@[simp] theorem State.setFn_held (s : State) (f : Nat) (x : FuncState) : (s.setFn f x).held = s.held := rfl
@[simp] theorem State.setFn_overrides (s : State) (f : Nat) (x : FuncState) : (s.setFn f x).overrides = s.overrides := rfl
@[simp] theorem State.setFn_cfgPend (s : State) (f : Nat) (x : FuncState) : (s.setFn f x).cfgPend = s.cfgPend := rfl
@[simp] theorem State.setFn_hung (s : State) (f : Nat) (x : FuncState) : (s.setFn f x).hung = s.hung := rfl
@[simp] theorem State.setFn_free (s : State) (f : Nat) (x : FuncState) : (s.setFn f x).free = s.free := rfl
@[simp] theorem State.setFn_out (s : State) (f : Nat) (x : FuncState) : (s.setFn f x).out = s.out := rfl
@[simp] theorem State.setFn_evt (s : State) (f : Nat) (x : FuncState) : (s.setFn f x).evt = s.evt := rfl
@[simp] theorem State.setFn_crs (s : State) (f : Nat) (x : FuncState) : (s.setFn f x).crs = s.crs := rfl
@[simp] theorem State.setFn_cel (s : State) (f : Nat) (x : FuncState) : (s.setFn f x).cel = s.cel := rfl
@[simp] theorem State.setFn_swc (s : State) (f : Nat) (x : FuncState) : (s.setFn f x).swc = s.swc := rfl
@[simp] theorem State.setFn_tim (s : State) (f : Nat) (x : FuncState) : (s.setFn f x).tim = s.tim := rfl
@[simp] theorem State.setFn_key (s : State) (f : Nat) (x : FuncState) : (s.setFn f x).key = s.key := rfl
@[simp] theorem State.setFn_saf (s : State) (f : Nat) (x : FuncState) : (s.setFn f x).saf = s.saf := rfl
@[simp] theorem State.setFn_mtb (s : State) (f : Nat) (x : FuncState) : (s.setFn f x).mtb = s.mtb := rfl
@[simp] theorem State.setFn_meters (s : State) (f : Nat) (x : FuncState) : (s.setFn f x).meters = s.meters := rfl
@[simp] theorem State.setFn_bill (s : State) (f : Nat) (x : FuncState) : (s.setFn f x).bill = s.bill := rfl
@[simp] theorem State.setFn_val (s : State) (f : Nat) (x : FuncState) : (s.setFn f x).val = s.val := rfl
@[simp] theorem State.setFn_arc (s : State) (f : Nat) (x : FuncState) : (s.setFn f x).arc = s.arc := rfl
@[simp] theorem State.setFn_rdg (s : State) (f : Nat) (x : FuncState) : (s.setFn f x).rdg = s.rdg := rfl
@[simp] theorem State.setFn_eav (s : State) (f : Nat) (x : FuncState) : (s.setFn f x).eav = s.eav := rfl
@[simp] theorem State.setFn_met (s : State) (f : Nat) (x : FuncState) : (s.setFn f x).met = s.met := rfl
@[simp] theorem State.setFn_tmp (s : State) (f : Nat) (x : FuncState) : (s.setFn f x).tmp = s.tmp := rfl
@[simp] theorem State.setFn_otp (s : State) (f : Nat) (x : FuncState) : (s.setFn f x).otp = s.otp := rfl
@[simp] theorem State.setFn_hlt (s : State) (f : Nat) (x : FuncState) : (s.setFn f x).hlt = s.hlt := rfl
@[simp] theorem State.setFn_lane (s : State) (f : Nat) (x : FuncState) : (s.setFn f x).lane = s.lane := rfl
@[simp] theorem State.setFn_pending (s : State) (f : Nat) (x : FuncState) : (s.setFn f x).pending = s.pending := rfl

@[simp] theorem State.setRing_regs (s : State) (f r : Nat) (x : Ring) : (s.setRing f r x).regs = s.regs := rfl
@[simp] theorem State.setRing_fregs (s : State) (f r : Nat) (x : Ring) : (s.setRing f r x).fregs = s.fregs := rfl
@[simp] theorem State.setRing_latch (s : State) (f r : Nat) (x : Ring) : (s.setRing f r x).latch = s.latch := rfl
@[simp] theorem State.setRing_held (s : State) (f r : Nat) (x : Ring) : (s.setRing f r x).held = s.held := rfl
@[simp] theorem State.setRing_overrides (s : State) (f r : Nat) (x : Ring) : (s.setRing f r x).overrides = s.overrides := rfl
@[simp] theorem State.setRing_cfgPend (s : State) (f r : Nat) (x : Ring) : (s.setRing f r x).cfgPend = s.cfgPend := rfl
@[simp] theorem State.setRing_hung (s : State) (f r : Nat) (x : Ring) : (s.setRing f r x).hung = s.hung := rfl
@[simp] theorem State.setRing_free (s : State) (f r : Nat) (x : Ring) : (s.setRing f r x).free = s.free := rfl
@[simp] theorem State.setRing_out (s : State) (f r : Nat) (x : Ring) : (s.setRing f r x).out = s.out := rfl
@[simp] theorem State.setRing_evt (s : State) (f r : Nat) (x : Ring) : (s.setRing f r x).evt = s.evt := rfl
@[simp] theorem State.setRing_crs (s : State) (f r : Nat) (x : Ring) : (s.setRing f r x).crs = s.crs := rfl
@[simp] theorem State.setRing_cel (s : State) (f r : Nat) (x : Ring) : (s.setRing f r x).cel = s.cel := rfl
@[simp] theorem State.setRing_swc (s : State) (f r : Nat) (x : Ring) : (s.setRing f r x).swc = s.swc := rfl
@[simp] theorem State.setRing_tim (s : State) (f r : Nat) (x : Ring) : (s.setRing f r x).tim = s.tim := rfl
@[simp] theorem State.setRing_key (s : State) (f r : Nat) (x : Ring) : (s.setRing f r x).key = s.key := rfl
@[simp] theorem State.setRing_saf (s : State) (f r : Nat) (x : Ring) : (s.setRing f r x).saf = s.saf := rfl
@[simp] theorem State.setRing_mtb (s : State) (f r : Nat) (x : Ring) : (s.setRing f r x).mtb = s.mtb := rfl
@[simp] theorem State.setRing_meters (s : State) (f r : Nat) (x : Ring) : (s.setRing f r x).meters = s.meters := rfl
@[simp] theorem State.setRing_bill (s : State) (f r : Nat) (x : Ring) : (s.setRing f r x).bill = s.bill := rfl
@[simp] theorem State.setRing_val (s : State) (f r : Nat) (x : Ring) : (s.setRing f r x).val = s.val := rfl
@[simp] theorem State.setRing_arc (s : State) (f r : Nat) (x : Ring) : (s.setRing f r x).arc = s.arc := rfl
@[simp] theorem State.setRing_rdg (s : State) (f r : Nat) (x : Ring) : (s.setRing f r x).rdg = s.rdg := rfl
@[simp] theorem State.setRing_eav (s : State) (f r : Nat) (x : Ring) : (s.setRing f r x).eav = s.eav := rfl
@[simp] theorem State.setRing_met (s : State) (f r : Nat) (x : Ring) : (s.setRing f r x).met = s.met := rfl
@[simp] theorem State.setRing_tmp (s : State) (f r : Nat) (x : Ring) : (s.setRing f r x).tmp = s.tmp := rfl
@[simp] theorem State.setRing_otp (s : State) (f r : Nat) (x : Ring) : (s.setRing f r x).otp = s.otp := rfl
@[simp] theorem State.setRing_hlt (s : State) (f r : Nat) (x : Ring) : (s.setRing f r x).hlt = s.hlt := rfl
@[simp] theorem State.setRing_lane (s : State) (f r : Nat) (x : Ring) : (s.setRing f r x).lane = s.lane := rfl
@[simp] theorem State.setRing_pending (s : State) (f r : Nat) (x : Ring) : (s.setRing f r x).pending = s.pending := rfl

@[simp] theorem State.freshNat_regs (s : State) (m : Nat) : ((s.freshNat m).2).regs = s.regs := rfl
@[simp] theorem State.freshNat_fregs (s : State) (m : Nat) : ((s.freshNat m).2).fregs = s.fregs := rfl
@[simp] theorem State.freshNat_latch (s : State) (m : Nat) : ((s.freshNat m).2).latch = s.latch := rfl
@[simp] theorem State.freshNat_held (s : State) (m : Nat) : ((s.freshNat m).2).held = s.held := rfl
@[simp] theorem State.freshNat_overrides (s : State) (m : Nat) : ((s.freshNat m).2).overrides = s.overrides := rfl
@[simp] theorem State.freshNat_cfgPend (s : State) (m : Nat) : ((s.freshNat m).2).cfgPend = s.cfgPend := rfl
@[simp] theorem State.freshNat_hung (s : State) (m : Nat) : ((s.freshNat m).2).hung = s.hung := rfl
@[simp] theorem State.freshNat_out (s : State) (m : Nat) : ((s.freshNat m).2).out = s.out := rfl
@[simp] theorem State.freshNat_hst (s : State) (m : Nat) : ((s.freshNat m).2).hst = s.hst := rfl
@[simp] theorem State.freshNat_evt (s : State) (m : Nat) : ((s.freshNat m).2).evt = s.evt := rfl
@[simp] theorem State.freshNat_crs (s : State) (m : Nat) : ((s.freshNat m).2).crs = s.crs := rfl
@[simp] theorem State.freshNat_cel (s : State) (m : Nat) : ((s.freshNat m).2).cel = s.cel := rfl
@[simp] theorem State.freshNat_swc (s : State) (m : Nat) : ((s.freshNat m).2).swc = s.swc := rfl
@[simp] theorem State.freshNat_tim (s : State) (m : Nat) : ((s.freshNat m).2).tim = s.tim := rfl
@[simp] theorem State.freshNat_key (s : State) (m : Nat) : ((s.freshNat m).2).key = s.key := rfl
@[simp] theorem State.freshNat_saf (s : State) (m : Nat) : ((s.freshNat m).2).saf = s.saf := rfl
@[simp] theorem State.freshNat_mtb (s : State) (m : Nat) : ((s.freshNat m).2).mtb = s.mtb := rfl
@[simp] theorem State.freshNat_meters (s : State) (m : Nat) : ((s.freshNat m).2).meters = s.meters := rfl
@[simp] theorem State.freshNat_bill (s : State) (m : Nat) : ((s.freshNat m).2).bill = s.bill := rfl
@[simp] theorem State.freshNat_val (s : State) (m : Nat) : ((s.freshNat m).2).val = s.val := rfl
@[simp] theorem State.freshNat_arc (s : State) (m : Nat) : ((s.freshNat m).2).arc = s.arc := rfl
@[simp] theorem State.freshNat_rdg (s : State) (m : Nat) : ((s.freshNat m).2).rdg = s.rdg := rfl
@[simp] theorem State.freshNat_eav (s : State) (m : Nat) : ((s.freshNat m).2).eav = s.eav := rfl
@[simp] theorem State.freshNat_met (s : State) (m : Nat) : ((s.freshNat m).2).met = s.met := rfl
@[simp] theorem State.freshNat_tmp (s : State) (m : Nat) : ((s.freshNat m).2).tmp = s.tmp := rfl
@[simp] theorem State.freshNat_otp (s : State) (m : Nat) : ((s.freshNat m).2).otp = s.otp := rfl
@[simp] theorem State.freshNat_hlt (s : State) (m : Nat) : ((s.freshNat m).2).hlt = s.hlt := rfl
@[simp] theorem State.freshNat_lane (s : State) (m : Nat) : ((s.freshNat m).2).lane = s.lane := rfl
@[simp] theorem State.freshNat_pending (s : State) (m : Nat) : ((s.freshNat m).2).pending = s.pending := rfl

@[simp] theorem State.freshOctet_regs (s : State) : (s.freshOctet.2).regs = s.regs := rfl
@[simp] theorem State.freshOctet_fregs (s : State) : (s.freshOctet.2).fregs = s.fregs := rfl
@[simp] theorem State.freshOctet_latch (s : State) : (s.freshOctet.2).latch = s.latch := rfl
@[simp] theorem State.freshOctet_held (s : State) : (s.freshOctet.2).held = s.held := rfl
@[simp] theorem State.freshOctet_overrides (s : State) : (s.freshOctet.2).overrides = s.overrides := rfl
@[simp] theorem State.freshOctet_cfgPend (s : State) : (s.freshOctet.2).cfgPend = s.cfgPend := rfl
@[simp] theorem State.freshOctet_hung (s : State) : (s.freshOctet.2).hung = s.hung := rfl
@[simp] theorem State.freshOctet_out (s : State) : (s.freshOctet.2).out = s.out := rfl
@[simp] theorem State.freshOctet_hst (s : State) : (s.freshOctet.2).hst = s.hst := rfl
@[simp] theorem State.freshOctet_evt (s : State) : (s.freshOctet.2).evt = s.evt := rfl
@[simp] theorem State.freshOctet_crs (s : State) : (s.freshOctet.2).crs = s.crs := rfl
@[simp] theorem State.freshOctet_cel (s : State) : (s.freshOctet.2).cel = s.cel := rfl
@[simp] theorem State.freshOctet_swc (s : State) : (s.freshOctet.2).swc = s.swc := rfl
@[simp] theorem State.freshOctet_tim (s : State) : (s.freshOctet.2).tim = s.tim := rfl
@[simp] theorem State.freshOctet_key (s : State) : (s.freshOctet.2).key = s.key := rfl
@[simp] theorem State.freshOctet_saf (s : State) : (s.freshOctet.2).saf = s.saf := rfl
@[simp] theorem State.freshOctet_mtb (s : State) : (s.freshOctet.2).mtb = s.mtb := rfl
@[simp] theorem State.freshOctet_meters (s : State) : (s.freshOctet.2).meters = s.meters := rfl
@[simp] theorem State.freshOctet_bill (s : State) : (s.freshOctet.2).bill = s.bill := rfl
@[simp] theorem State.freshOctet_val (s : State) : (s.freshOctet.2).val = s.val := rfl
@[simp] theorem State.freshOctet_arc (s : State) : (s.freshOctet.2).arc = s.arc := rfl
@[simp] theorem State.freshOctet_rdg (s : State) : (s.freshOctet.2).rdg = s.rdg := rfl
@[simp] theorem State.freshOctet_eav (s : State) : (s.freshOctet.2).eav = s.eav := rfl
@[simp] theorem State.freshOctet_met (s : State) : (s.freshOctet.2).met = s.met := rfl
@[simp] theorem State.freshOctet_tmp (s : State) : (s.freshOctet.2).tmp = s.tmp := rfl
@[simp] theorem State.freshOctet_otp (s : State) : (s.freshOctet.2).otp = s.otp := rfl
@[simp] theorem State.freshOctet_hlt (s : State) : (s.freshOctet.2).hlt = s.hlt := rfl
@[simp] theorem State.freshOctet_lane (s : State) : (s.freshOctet.2).lane = s.lane := rfl
@[simp] theorem State.freshOctet_pending (s : State) : (s.freshOctet.2).pending = s.pending := rfl

end Sys2Proof.Machine
end

