-- ==== Sys2Proof/Laws/Files.lean ====
section
/-!
SUPPORT. Laws/Files.lean: the register files stay in canonical form: indexes rise, and no shared register is listed at its reset value.
Every operation that writes a register has its lemma here; a step of any other kind leaves the four files as they are (`Keeps.same`).
-/

namespace Sys2Proof.Machine

set_option Elab.async false

/-! ### Sparse arrays -/

theorem FMap.mem_erase {α : Type} (m : FMap α) (k : Nat) {p : Nat × α} (h : p ∈ FMap.erase m k) : p ∈ m := by
  induction m with
  | nil => exact h
  | cons q m ih =>
    obtain ⟨i, v⟩ := q
    simp only [FMap.erase] at h
    split at h
    · exact List.mem_cons_of_mem _ (ih h)
    · rcases List.mem_cons.1 h with e | e
      · exact e ▸ List.mem_cons_self
      · exact List.mem_cons_of_mem _ (ih e)

theorem FMap.mem_place {α : Type} (m : FMap α) (k : Nat) (v : α) {p : Nat × α} (h : p ∈ FMap.place m k v) : p = (k, v) ∨ p ∈ m := by
  induction m with
  | nil => exact .inl (by simpa [FMap.place] using h)
  | cons q m ih =>
    obtain ⟨i, w⟩ := q
    simp only [FMap.place] at h
    split at h
    · rcases List.mem_cons.1 h with e | e
      · exact .inl e
      · exact .inr e
    · rcases List.mem_cons.1 h with e | e
      · exact .inr (e ▸ List.mem_cons_self)
      · exact (ih e).imp id (List.mem_cons_of_mem _)

/-- What a written array lists: an entry that stood before, or the new one where it is not the default. -/
theorem FMap.mem_set {α : Type} [DecidableEq α] (d : α) (m : FMap α) (k : Nat) (v : α) {p : Nat × α} (h : p ∈ FMap.set d m k v) :
    (p = (k, v) ∧ v ≠ d) ∨ p ∈ m := by
  unfold FMap.set at h
  split at h
  · exact .inr (FMap.mem_erase m k h)
  · next e => exact (FMap.mem_place _ k v h).imp (fun q => ⟨q, e⟩) (FMap.mem_erase m k)

/-- The place that a held value takes keeps the indexes rising. -/
theorem FMap.rising_replace {α : Type} (m : FMap α) (k : Nat) (v : α) (r : FMap.risingFrom 0 m = true) :
    FMap.risingFrom 0 (FMap.place (FMap.erase m k) k v) = true :=
  FMap.risingFrom_place _ k 0 v (Nat.zero_le k) (FMap.risingFrom_erase m k 0 r) (FMap.erase_erase m k)

/-! ### The register files -/

/-- No shared register is listed at its reset value. -/
def sparse (m : FMap Word) : Prop := ∀ p ∈ m, p.2 ≠ BitVec.ofNat 32 (resetWord p.1)

theorem sparse_set (m : FMap Word) (a : Nat) (v : Word) (h : sparse m) : sparse (FMap.set (BitVec.ofNat 32 (resetWord a)) m a v) := by
  intro p q
  rcases FMap.mem_set _ m a v q with ⟨rfl, e⟩ | e
  · exact e
  · exact h p e

/-- The canonical form of the register files, part by part. -/
theorem State.filesOk_iff (s : State) : s.filesOk = true ↔
    FMap.risingFrom 0 s.regs = true ∧ sparse s.regs ∧ FMap.risingFrom 0 s.fregs = true ∧ FMap.risingFrom 0 s.latch = true
      ∧ FMap.risingFrom 0 s.held = true := by
  unfold State.filesOk sparse
  simp only [Bool.and_eq_true, List.all_eq_true, decide_eq_true_eq, and_assoc]

/-- From canonical register files `t` has canonical register files. -/
structure Keeps (s t : State) : Prop where
  ok : s.filesOk = true → t.filesOk = true

theorem Keeps.refl (s : State) : Keeps s s := ⟨id⟩
theorem Keeps.trans {s t u : State} (a : Keeps s t) (b : Keeps t u) : Keeps s u := ⟨fun h => b.ok (a.ok h)⟩

/-- The last step first, so that what stands between is read off the end. -/
theorem Keeps.after {s t u : State} (b : Keeps t u) (a : Keeps s t) : Keeps s u := a.trans b

/-- A step that leaves the four files as they are. -/
theorem Keeps.same {s t : State} (h : t.regs = s.regs ∧ t.fregs = s.fregs ∧ t.latch = s.latch ∧ t.held = s.held) : Keeps s t := by
  obtain ⟨a, b, c, d⟩ := h
  refine ⟨fun k => ?_⟩
  rw [State.filesOk_iff] at k ⊢
  rw [a, b, c, d]
  exact k

/-- Either branch of a choice. -/
theorem Keeps.ite {s a b : State} {c : Prop} [Decidable c] (ha : Keeps s a) (hb : Keeps s b) : Keeps s (if c then a else b) := by
  split
  · exact ha
  · exact hb

/-- A fold of steps that keep the files keeps them. -/
theorem Keeps.foldl {α : Type} (f : State → α → State) (h : ∀ s a, Keeps s (f s a)) (l : List α) (s : State) : Keeps s (l.foldl f s) := by
  induction l generalizing s with
  | nil => exact Keeps.refl s
  | cons a l ih => exact (h s a).trans (ih (f s a))

/-! ### Each operation -/

theorem State.setWord_files (s : State) (a : Nat) (v : Word) : Keeps s (s.setWord a v) := by
  refine ⟨fun k => ?_⟩
  rw [State.filesOk_iff] at k ⊢
  obtain ⟨k1, k2, k3⟩ := k
  exact ⟨FMap.rising_set _ _ a v k1, sparse_set _ a v k2, k3⟩

theorem State.setFword_files (s : State) (f a : Nat) (v : Word) : Keeps s (s.setFword f a v) := by
  refine ⟨fun k => ?_⟩
  rw [State.filesOk_iff] at k ⊢
  obtain ⟨k1, k2, k3, k4⟩ := k
  exact ⟨k1, k2, FMap.rising_set _ _ _ v k3, k4⟩

theorem State.put_files (s : State) (f : Fld) (v : Nat) : Keeps s (s.put f v) := s.setWord_files _ _
theorem State.putFlag_files (s : State) (f : Fld) (b : Bool) : Keeps s (s.putFlag f b) := s.setWord_files _ _
theorem State.bumpBy_files (s : State) (f : Fld) (n : Nat) : Keeps s (s.bumpBy f n) := s.setWord_files _ _
theorem State.bump_files (s : State) (f : Fld) : Keeps s (s.bump f) := s.setWord_files _ _
theorem State.put64_files (s : State) (a v : Nat) : Keeps s (s.put64 a v) := (s.setWord_files _ _).trans (State.setWord_files _ _ _)
theorem State.fput_files (s : State) (f : Nat) (x : Fld) (v : Nat) : Keeps s (s.fput f x v) := s.setFword_files _ _ _
theorem State.emit_files (s : State) (o : Out) : Keeps s (s.emit o) := Keeps.same ⟨rfl, rfl, rfl, rfl⟩
theorem State.setFn_files (s : State) (f : Nat) (x : FuncState) : Keeps s (s.setFn f x) := Keeps.same ⟨rfl, rfl, rfl, rfl⟩
theorem State.setRing_files (s : State) (f r : Nat) (x : Ring) : Keeps s (s.setRing f r x) := s.setFn_files _ _

/-- The device holds what a read of a _LO register latches for a function (R16). -/
theorem latch_files (s : State) (k : Nat) (v : Word) : Keeps s { s with latch := FMap.place (FMap.erase s.latch k) k v } := by
  refine ⟨fun h => ?_⟩
  rw [State.filesOk_iff] at h ⊢
  obtain ⟨k1, k2, k3, k4, k5⟩ := h
  exact ⟨k1, k2, k3, FMap.rising_replace _ k v k4, k5⟩

/-- The device holds a _LO write until its _HI write (R17). -/
theorem held_files (s : State) (k : Nat) (v : Word) : Keeps s { s with held := FMap.place (FMap.erase s.held k) k v } := by
  refine ⟨fun h => ?_⟩
  rw [State.filesOk_iff] at h ⊢
  obtain ⟨k1, k2, k3, k4, k5⟩ := h
  exact ⟨k1, k2, k3, k4, FMap.rising_replace _ k v k5⟩

/-- A held value is used up. -/
theorem released_files (s : State) (k : Nat) : Keeps s { s with held := FMap.erase s.held k } := by
  refine ⟨fun h => ?_⟩
  rw [State.filesOk_iff] at h ⊢
  obtain ⟨k1, k2, k3, k4, k5⟩ := h
  exact ⟨k1, k2, k3, k4, FMap.risingFrom_erase _ k 0 k5⟩

/-- A filter of every file keeps the files canonical, as a reset and a fence do. -/
theorem filtered_files (s : State) (p q : Nat × Word → Bool) (u v : Nat × Word → Bool) :
    Keeps s { s with regs := s.regs.filter p, fregs := s.fregs.filter q, latch := s.latch.filter u, held := s.held.filter v } := by
  refine ⟨fun h => ?_⟩
  rw [State.filesOk_iff] at h ⊢
  obtain ⟨k1, k2, k3, k4, k5⟩ := h
  exact ⟨FMap.risingFrom_filter p _ 0 k1, fun x hx => k2 x (List.mem_filter.1 hx).1, FMap.risingFrom_filter q _ 0 k3,
    FMap.risingFrom_filter u _ 0 k4, FMap.risingFrom_filter v _ 0 k5⟩

theorem State.msix_files (s : State) (f v : Nat) : Keeps s (s.msix f v) := by
  unfold State.msix
  split
  · exact Keeps.refl s
  · exact s.emit_files _

theorem State.ringInterrupt_files (s : State) (f r : Nat) : Keeps s (s.ringInterrupt f r) := by
  unfold State.ringInterrupt
  dsimp only
  split
  · exact Keeps.refl s
  · split
    · exact s.setRing_files _ _ _
    · split
      · exact s.msix_files _ _
      · exact (s.msix_files _ _).trans (State.setRing_files _ _ _ _)

theorem State.produce_files (s : State) (f r ty : Nat) (l : List Octets) : Keeps s (s.produce f r ty l).2 := by
  unfold State.produce
  dsimp only
  split
  · exact Keeps.refl s
  · split
    · exact s.setRing_files _ _ _
    · exact (State.ringInterrupt_files _ _ _).after
        ((State.emit_files _ _).after ((State.setRing_files _ _ _ _).after (Keeps.same ⟨rfl, rfl, rfl, rfl⟩)))

theorem State.note_files (s : State) (k : Nat) (l : Octets) : Keeps s (s.note k l) := by
  unfold State.note
  split
  · exact (Keeps.same ⟨rfl, rfl, rfl, rfl⟩)
  · exact Keeps.refl s

theorem State.bulkOut_files (s : State) (f : RidgeFrame) : Keeps s (s.bulkOut f) := s.emit_files _

theorem State.bulkDrain_files (k : Nat) (s : State) : Keeps s (State.bulkDrain k s) := by
  induction k generalizing s with
  | zero => exact Keeps.refl s
  | succ k ih =>
    unfold State.bulkDrain
    split
    · exact Keeps.refl s
    · split
      · exact Keeps.refl s
      · exact (ih _).after ((State.bulkOut_files _ _).after (Keeps.same ⟨rfl, rfl, rfl, rfl⟩))

theorem State.bulk_files (s : State) (k n : Nat) (l : Octets) : Keeps s (s.bulk k n l) := by
  unfold State.bulk
  split
  · exact Keeps.refl s
  · exact (State.bulkDrain_files _ _).after (Keeps.same ⟨rfl, rfl, rfl, rfl⟩)

theorem State.routeTo_files (s : State) (e : EvRec) (f : Nat) : Keeps s (s.routeTo e f) := by
  have ring : Keeps s
      (if !bitOf 31 (s.fword f (Reg.HST_EVT_ROUTE e.source)).toNat then s
       else if !s.ringAdmits f (bitsOf 7 0 (s.fword f (Reg.HST_EVT_ROUTE e.source)).toNat) 3 then s.bump Fl.HST_EVT_DROP_COUNT_COUNT
       else (s.produce f (bitsOf 7 0 (s.fword f (Reg.HST_EVT_ROUTE e.source)).toNat) 3 [e.octets]).2) := by
    split
    · exact Keeps.refl s
    · split
      · exact s.bump_files _
      · exact s.produce_files _ _ _ _
  unfold State.routeTo
  dsimp only
  split
  · exact ring.trans (State.msix_files _ _ _)
  · exact ring

theorem State.route_files (s : State) (e : EvRec) : Keeps s (s.route e) :=
  Keeps.foldl _ (fun s f => s.routeTo_files e f) _ s

theorem State.spill_files (s : State) : Keeps s s.spill := by
  unfold State.spill
  exact Keeps.ite (Keeps.same ⟨rfl, rfl, rfl, rfl⟩) ((State.bumpBy_files _ _ _).after (Keeps.same ⟨rfl, rfl, rfl, rfl⟩))

theorem State.copyRecord_files (s : State) (e : EvRec) : Keeps s (s.copyRecord e) := by
  unfold State.copyRecord
  split
  · exact s.bulk_files _ _ _
  · exact Keeps.refl s

theorem State.pushRecord_files (s : State) (k u : Nat) (d : Octets) : Keeps s (s.pushRecord k u d) := by
  unfold State.pushRecord
  exact (State.copyRecord_files _ _).after ((State.route_files _ _).after ((State.spill_files _).after (Keeps.same ⟨rfl, rfl, rfl, rfl⟩)))

theorem State.repeatRecord_files (s : State) (e : EvRec) (l : List EvRec) : Keeps s (s.repeatRecord e l) := by
  unfold State.repeatRecord
  exact (State.copyRecord_files _ _).after ((State.route_files _ _).after (Keeps.same ⟨rfl, rfl, rfl, rfl⟩))

theorem State.record_files (s : State) (k u : Nat) (d : Octets) : Keeps s (s.record k u d) := by
  unfold State.record
  dsimp only
  split
  · exact Keeps.ite (s.repeatRecord_files _ _) (s.pushRecord_files _ _ _)
  · exact s.pushRecord_files _ _ _

/-- A raise keeps the register files canonical. -/
theorem State.raise_files (s : State) (k : Nat) (d : Octets) : Keeps s (s.raise k d) := by
  unfold State.raise
  dsimp only
  split
  · exact s.bulk_files _ _ _
  · split
    · exact (s.record_files _ _ _).trans (Keeps.same ⟨rfl, rfl, rfl, rfl⟩)
    · exact s.record_files _ _ _

theorem State.accepted_files (s : State) (c : Cmd) : Keeps s (s.accepted c) :=
  (s.setRing_files _ _ _).trans (State.setRing_files _ _ _ _)

theorem State.post_files (s : State) (op : Nat) (c : Cmd) (st : Status) (i : Nat) (r : Octets) :
    Keeps s (s.post' op c st i r) := by
  have base : ∀ x q : Ring, Keeps s
      ((((s.setRing c.func.val c.ring.val x).emit (.completed op c st (i % 256) (padTo 48 r))).setRing c.func.val x.cplRing q).produce
        c.func.val x.cplRing 1 [completionOctets op c st i r]).2 := fun x q =>
    (((s.setRing_files _ _ _).trans (State.emit_files _ _)).trans (State.setRing_files _ _ _ _)).trans
      (State.produce_files _ _ _ _ _)
  unfold State.post'
  dsimp only
  split
  · exact (base _ _).trans (State.raise_files _ _ _)
  · exact base _ _

/-- The end of a command keeps the register files canonical. -/
theorem State.complete_files (s : State) (op : Nat) (c : Cmd) (st : Status) (i : Nat) (r : Octets) :
    Keeps s (s.complete op c st i r) := by
  have note : Keeps s (if readClass op ∨ op < 5 then s else s.note 4 (completionOctets op c st i r)) := by
    split
    · exact Keeps.refl s
    · exact s.note_files _ _
  unfold State.complete
  exact note.trans (Keeps.ite (Keeps.refl _) (State.post_files _ _ _ _ _ _))

theorem State.returnData_files (s : State) (c : Cmd) (l : Octets) : Keeps s (s.returnData c l) := by
  unfold State.returnData
  split
  · exact Keeps.refl s
  · exact s.emit_files _

theorem State.capture_files (s : State) (f a : Nat) (w : WswReason) : Keeps s (s.capture f a w) := by
  unfold State.capture
  split
  · exact s.fput_files _ _ _
  · exact (((s.fput_files _ _ _).trans (State.fput_files _ _ _ _)).trans (State.fput_files _ _ _ _)).trans
      (State.raise_files _ _ _)

end Sys2Proof.Machine
end

