-- ==== Sys2Proof/Laws/Ops.lean ====
section
/-!
SUPPORT. Laws/Ops.lean: the shared operations change the registers, the recorder, the host interface, what is put out and what the ridge
holds, and nothing else.
-/

namespace Sys2Proof.Machine

set_option Elab.async false

/-- A fold of steps that keep a component keeps it. -/
theorem foldl_keeps {α β γ : Type} (g : β → γ) (f : β → α → β) (h : ∀ b a, g (f b a) = g b) (l : List α) (b : β) :
    g (l.foldl f b) = g b := by
  induction l generalizing b with
  | nil => rfl
  | cons a l ih => rw [List.foldl_cons, ih, h]

/-- What the shared operations may change. -/
structure Touched where
  regs : FMap Word
  fregs : FMap Word
  out : List Out
  funcs : FMap FuncState
  seq : Nat
  records : List EvRec
  noMerge : Bool
  spilled : List EvRec
  reservation : Nat
  outputs : FMap Octets
  txSeq : Nat
  unacked : List RidgeFrame
  backlog : List RidgeFrame
  ackOwed : Bool
  raised : List (Nat × Octets)

/-- `t` differs from `s` at most in registers, output, what the functions hold, the records of the recorder, and the ridge's output
classes, bulk frames and events of the course. -/
def Shared (s t : State) : Prop :=
  ∃ x : Touched, t = { s with
    regs := x.regs
    fregs := x.fregs
    out := x.out
    hst := { s.hst with funcs := x.funcs }
    evt := { s.evt with
      seq := x.seq, records := x.records, noMerge := x.noMerge, spilled := x.spilled, reservation := x.reservation }
    rdg := { s.rdg with
      outputs := x.outputs, txSeq := x.txSeq, unacked := x.unacked, backlog := x.backlog, ackOwed := x.ackOwed
      raised := x.raised } }

theorem Shared.refl (s : State) : Shared s s := ⟨⟨_, _, _, _, _, _, _, _, _, _, _, _, _, _, _⟩, rfl⟩

theorem Shared.trans {s t u : State} (a : Shared s t) (b : Shared t u) : Shared s u := by
  obtain ⟨_, rfl⟩ := a
  obtain ⟨_, rfl⟩ := b
  exact ⟨⟨_, _, _, _, _, _, _, _, _, _, _, _, _, _, _⟩, rfl⟩

/-- A fold of shared steps is shared. -/
theorem Shared.foldl {α : Type} (f : State → α → State) (h : ∀ s a, Shared s (f s a)) (l : List α) (s : State) :
    Shared s (l.foldl f s) := by
  induction l generalizing s with
  | nil => exact Shared.refl s
  | cons a l ih => exact (h s a).trans (ih (f s a))

/-- Either branch of a choice is shared. -/
theorem Shared.ite {s a b : State} {c : Prop} [Decidable c] (ha : Shared s a) (hb : Shared s b) : Shared s (if c then a else b) := by
  split
  · exact ha
  · exact hb

/-! ### Each operation -/

theorem State.setWord_shared (s : State) (a : Nat) (v : Word) : Shared s (s.setWord a v) := ⟨⟨_, _, _, _, _, _, _, _, _, _, _, _, _, _, _⟩, rfl⟩
theorem State.put_shared (s : State) (f : Fld) (v : Nat) : Shared s (s.put f v) := s.setWord_shared _ _
theorem State.putFlag_shared (s : State) (f : Fld) (b : Bool) : Shared s (s.putFlag f b) := s.setWord_shared _ _
theorem State.bumpBy_shared (s : State) (f : Fld) (n : Nat) : Shared s (s.bumpBy f n) := s.setWord_shared _ _
theorem State.bump_shared (s : State) (f : Fld) : Shared s (s.bump f) := s.setWord_shared _ _
theorem State.put64_shared (s : State) (a v : Nat) : Shared s (s.put64 a v) :=
  (s.setWord_shared _ _).trans (State.setWord_shared _ _ _)
theorem State.setFword_shared (s : State) (f a : Nat) (v : Word) : Shared s (s.setFword f a v) := ⟨⟨_, _, _, _, _, _, _, _, _, _, _, _, _, _, _⟩, rfl⟩
theorem State.fput_shared (s : State) (f : Nat) (x : Fld) (v : Nat) : Shared s (s.fput f x v) := s.setFword_shared _ _ _
theorem State.emit_shared (s : State) (o : Out) : Shared s (s.emit o) := ⟨⟨_, _, _, _, _, _, _, _, _, _, _, _, _, _, _⟩, rfl⟩
theorem State.setFn_shared (s : State) (f : Nat) (x : FuncState) : Shared s (s.setFn f x) := ⟨⟨_, _, _, _, _, _, _, _, _, _, _, _, _, _, _⟩, rfl⟩
theorem State.setRing_shared (s : State) (f r : Nat) (x : Ring) : Shared s (s.setRing f r x) := s.setFn_shared _ _

theorem State.msix_shared (s : State) (f v : Nat) : Shared s (s.msix f v) := by
  unfold State.msix
  split
  · exact Shared.refl s
  · exact s.emit_shared _

theorem State.ringInterrupt_shared (s : State) (f r : Nat) : Shared s (s.ringInterrupt f r) := by
  unfold State.ringInterrupt
  dsimp only
  split
  · exact Shared.refl s
  · split
    · exact s.setRing_shared _ _ _
    · split
      · exact s.msix_shared _ _
      · exact (s.msix_shared _ _).trans (State.setRing_shared _ _ _ _)

theorem State.produce_shared (s : State) (f r ty : Nat) (l : List Octets) : Shared s (s.produce f r ty l).2 := by
  unfold State.produce
  dsimp only
  split
  · exact Shared.refl s
  · split
    · exact s.setRing_shared _ _ _
    · exact ((Shared.trans ⟨⟨_, _, _, _, _, _, _, _, _, _, _, _, _, _, _⟩, rfl⟩ (State.setRing_shared _ _ _ _)).trans (State.emit_shared _ _)).trans
        (State.ringInterrupt_shared _ _ _)

theorem State.note_shared (s : State) (k : Nat) (l : Octets) : Shared s (s.note k l) := by
  unfold State.note
  split
  · exact ⟨⟨_, _, _, _, _, _, _, _, _, _, _, _, _, _, _⟩, rfl⟩
  · exact Shared.refl s

theorem State.bulkOut_shared (s : State) (f : RidgeFrame) : Shared s (s.bulkOut f) := s.emit_shared _

theorem State.bulkDrain_shared (k : Nat) (s : State) : Shared s (State.bulkDrain k s) := by
  induction k generalizing s with
  | zero => exact Shared.refl s
  | succ k ih =>
    unfold State.bulkDrain
    split
    · exact Shared.refl s
    · split
      · exact Shared.refl s
      · exact (Shared.trans ⟨⟨_, _, _, _, _, _, _, _, _, _, _, _, _, _, _⟩, rfl⟩ (State.bulkOut_shared _ _)).trans (ih _)

theorem State.bulk_shared (s : State) (k n : Nat) (l : Octets) : Shared s (s.bulk k n l) := by
  unfold State.bulk
  split
  · exact Shared.refl s
  · exact Shared.trans ⟨⟨_, _, _, _, _, _, _, _, _, _, _, _, _, _, _⟩, rfl⟩ (State.bulkDrain_shared _ _)

theorem State.routeTo_shared (s : State) (e : EvRec) (f : Nat) : Shared s (s.routeTo e f) := by
  have ring : Shared s
      (if !bitOf 31 (s.fword f (Reg.HST_EVT_ROUTE e.source)).toNat then s
       else if !s.ringAdmits f (bitsOf 7 0 (s.fword f (Reg.HST_EVT_ROUTE e.source)).toNat) 3 then s.bump Fl.HST_EVT_DROP_COUNT_COUNT
       else (s.produce f (bitsOf 7 0 (s.fword f (Reg.HST_EVT_ROUTE e.source)).toNat) 3 [e.octets]).2) := by
    split
    · exact Shared.refl s
    · split
      · exact s.bump_shared _
      · exact s.produce_shared _ _ _ _
  unfold State.routeTo
  dsimp only
  split
  · exact ring.trans (State.msix_shared _ _ _)
  · exact ring

theorem State.route_shared (s : State) (e : EvRec) : Shared s (s.route e) :=
  Shared.foldl _ (fun s f => s.routeTo_shared e f) _ s

theorem State.spill_shared (s : State) : Shared s s.spill := by
  unfold State.spill
  exact Shared.ite ⟨⟨_, _, _, _, _, _, _, _, _, _, _, _, _, _, _⟩, rfl⟩ (Shared.trans ⟨⟨_, _, _, _, _, _, _, _, _, _, _, _, _, _, _⟩, rfl⟩ (State.bumpBy_shared _ _ _))

theorem State.copyRecord_shared (s : State) (e : EvRec) : Shared s (s.copyRecord e) := by
  unfold State.copyRecord
  split
  · exact s.bulk_shared _ _ _
  · exact Shared.refl s

theorem State.pushRecord_shared (s : State) (k u : Nat) (d : Octets) : Shared s (s.pushRecord k u d) := by
  unfold State.pushRecord
  exact ((Shared.trans ⟨⟨_, _, _, _, _, _, _, _, _, _, _, _, _, _, _⟩, rfl⟩ (State.spill_shared _)).trans (State.route_shared _ _)).trans
    (State.copyRecord_shared _ _)

theorem State.repeatRecord_shared (s : State) (e : EvRec) (l : List EvRec) : Shared s (s.repeatRecord e l) := by
  unfold State.repeatRecord
  exact (Shared.trans ⟨⟨_, _, _, _, _, _, _, _, _, _, _, _, _, _, _⟩, rfl⟩ (State.route_shared _ _)).trans (State.copyRecord_shared _ _)

theorem State.record_shared (s : State) (k u : Nat) (d : Octets) : Shared s (s.record k u d) := by
  unfold State.record
  dsimp only
  split
  · exact Shared.ite (s.repeatRecord_shared _ _) (s.pushRecord_shared _ _ _)
  · exact s.pushRecord_shared _ _ _

/-- A raise changes nothing but registers (the drop counters), the recorder, the host interface, the output and the ridge's share. -/
theorem State.raise_shared (s : State) (k : Nat) (d : Octets) : Shared s (s.raise k d) := by
  unfold State.raise
  dsimp only
  split
  · exact s.bulk_shared _ _ _
  · split
    · exact (s.record_shared _ _ _).trans ⟨⟨_, _, _, _, _, _, _, _, _, _, _, _, _, _, _⟩, rfl⟩
    · exact s.record_shared _ _ _

theorem State.accepted_shared (s : State) (c : Cmd) : Shared s (s.accepted c) :=
  (s.setRing_shared _ _ _).trans (State.setRing_shared _ _ _ _)

/-- Posting a completion changes nothing but rings, output, recorder and the ridge's share. -/
theorem State.post_shared (s : State) (op : Nat) (c : Cmd) (st : Status) (i : Nat) (r : Octets) :
    Shared s (s.post' op c st i r) := by
  have base : ∀ x q : Ring, Shared s
      ((((s.setRing c.func.val c.ring.val x).emit (.completed op c st (i % 256) (padTo 48 r))).setRing c.func.val x.cplRing q).produce
        c.func.val x.cplRing 1 [completionOctets op c st i r]).2 := fun x q =>
    (((s.setRing_shared _ _ _).trans (State.emit_shared _ _)).trans (State.setRing_shared _ _ _ _)).trans
      (State.produce_shared _ _ _ _ _)
  unfold State.post'
  dsimp only
  split
  · exact (base _ _).trans (State.raise_shared _ _ _)
  · exact base _ _

/-- The end of a command changes nothing but rings, output, recorder and the ridge's share. -/
theorem State.complete_shared (s : State) (op : Nat) (c : Cmd) (st : Status) (i : Nat) (r : Octets) :
    Shared s (s.complete op c st i r) := by
  have note : Shared s (if readClass op ∨ op < 5 then s else s.note 4 (completionOctets op c st i r)) := by
    split
    · exact Shared.refl s
    · exact s.note_shared _ _
  unfold State.complete
  exact note.trans (Shared.ite (Shared.refl _) (State.post_shared _ _ _ _ _ _))

theorem State.returnData_shared (s : State) (c : Cmd) (l : Octets) : Shared s (s.returnData c l) := by
  unfold State.returnData
  split
  · exact Shared.refl s
  · exact s.emit_shared _

theorem State.capture_shared (s : State) (f a : Nat) (w : WswReason) : Shared s (s.capture f a w) := by
  unfold State.capture
  split
  · exact s.fput_shared _ _ _
  · exact (((s.fput_shared _ _ _).trans (State.fput_shared _ _ _ _)).trans (State.fput_shared _ _ _ _)).trans
      (State.raise_shared _ _ _)

/-! ### What a shared step leaves alone -/


theorem Shared.latch {s t : State} (h : Shared s t) : t.latch = s.latch := by obtain ⟨_, rfl⟩ := h; rfl
theorem Shared.held {s t : State} (h : Shared s t) : t.held = s.held := by obtain ⟨_, rfl⟩ := h; rfl
theorem Shared.overrides {s t : State} (h : Shared s t) : t.overrides = s.overrides := by obtain ⟨_, rfl⟩ := h; rfl
theorem Shared.cfgPend {s t : State} (h : Shared s t) : t.cfgPend = s.cfgPend := by obtain ⟨_, rfl⟩ := h; rfl
theorem Shared.hung {s t : State} (h : Shared s t) : t.hung = s.hung := by obtain ⟨_, rfl⟩ := h; rfl
theorem Shared.free {s t : State} (h : Shared s t) : t.free = s.free := by obtain ⟨_, rfl⟩ := h; rfl
theorem Shared.crs {s t : State} (h : Shared s t) : t.crs = s.crs := by obtain ⟨_, rfl⟩ := h; rfl
theorem Shared.cel {s t : State} (h : Shared s t) : t.cel = s.cel := by obtain ⟨_, rfl⟩ := h; rfl
theorem Shared.swc {s t : State} (h : Shared s t) : t.swc = s.swc := by obtain ⟨_, rfl⟩ := h; rfl
theorem Shared.tim {s t : State} (h : Shared s t) : t.tim = s.tim := by obtain ⟨_, rfl⟩ := h; rfl
theorem Shared.key {s t : State} (h : Shared s t) : t.key = s.key := by obtain ⟨_, rfl⟩ := h; rfl
theorem Shared.saf {s t : State} (h : Shared s t) : t.saf = s.saf := by obtain ⟨_, rfl⟩ := h; rfl
theorem Shared.mtb {s t : State} (h : Shared s t) : t.mtb = s.mtb := by obtain ⟨_, rfl⟩ := h; rfl
theorem Shared.meters {s t : State} (h : Shared s t) : t.meters = s.meters := by obtain ⟨_, rfl⟩ := h; rfl
theorem Shared.bill {s t : State} (h : Shared s t) : t.bill = s.bill := by obtain ⟨_, rfl⟩ := h; rfl
theorem Shared.val {s t : State} (h : Shared s t) : t.val = s.val := by obtain ⟨_, rfl⟩ := h; rfl
theorem Shared.arc {s t : State} (h : Shared s t) : t.arc = s.arc := by obtain ⟨_, rfl⟩ := h; rfl
theorem Shared.eav {s t : State} (h : Shared s t) : t.eav = s.eav := by obtain ⟨_, rfl⟩ := h; rfl
theorem Shared.met {s t : State} (h : Shared s t) : t.met = s.met := by obtain ⟨_, rfl⟩ := h; rfl
theorem Shared.tmp {s t : State} (h : Shared s t) : t.tmp = s.tmp := by obtain ⟨_, rfl⟩ := h; rfl
theorem Shared.otp {s t : State} (h : Shared s t) : t.otp = s.otp := by obtain ⟨_, rfl⟩ := h; rfl
theorem Shared.hlt {s t : State} (h : Shared s t) : t.hlt = s.hlt := by obtain ⟨_, rfl⟩ := h; rfl
theorem Shared.lane {s t : State} (h : Shared s t) : t.lane = s.lane := by obtain ⟨_, rfl⟩ := h; rfl
theorem Shared.pending {s t : State} (h : Shared s t) : t.pending = s.pending := by obtain ⟨_, rfl⟩ := h; rfl
theorem Shared.hst_ownership {s t : State} (h : Shared s t) : t.hst.ownership = s.hst.ownership := by obtain ⟨_, rfl⟩ := h; rfl
theorem Shared.hst_inputLog {s t : State} (h : Shared s t) : t.hst.inputLog = s.hst.inputLog := by obtain ⟨_, rfl⟩ := h; rfl
theorem Shared.hst_bifurcation {s t : State} (h : Shared s t) : t.hst.bifurcation = s.hst.bifurcation := by obtain ⟨_, rfl⟩ := h; rfl
theorem Shared.rdg_phase {s t : State} (h : Shared s t) : t.rdg.phase = s.rdg.phase := by obtain ⟨_, rfl⟩ := h; rfl
theorem Shared.rdg_epoch {s t : State} (h : Shared s t) : t.rdg.epoch = s.rdg.epoch := by obtain ⟨_, rfl⟩ := h; rfl
theorem Shared.rdg_applying {s t : State} (h : Shared s t) : t.rdg.applying = s.rdg.applying := by obtain ⟨_, rfl⟩ := h; rfl
theorem Shared.rdg_arbitration {s t : State} (h : Shared s t) : t.rdg.arbitration = s.rdg.arbitration := by obtain ⟨_, rfl⟩ := h; rfl
theorem Shared.rdg_verdict {s t : State} (h : Shared s t) : t.rdg.verdict = s.rdg.verdict := by obtain ⟨_, rfl⟩ := h; rfl
theorem Shared.rdg_join {s t : State} (h : Shared s t) : t.rdg.join = s.rdg.join := by obtain ⟨_, rfl⟩ := h; rfl
theorem Shared.rdg_next {s t : State} (h : Shared s t) : t.rdg.next = s.rdg.next := by obtain ⟨_, rfl⟩ := h; rfl
theorem Shared.rdg_switchover {s t : State} (h : Shared s t) : t.rdg.switchover = s.rdg.switchover := by obtain ⟨_, rfl⟩ := h; rfl
theorem Shared.rdg_received {s t : State} (h : Shared s t) : t.rdg.received = s.rdg.received := by obtain ⟨_, rfl⟩ := h; rfl
theorem Shared.rdg_own {s t : State} (h : Shared s t) : t.rdg.own = s.rdg.own := by obtain ⟨_, rfl⟩ := h; rfl
theorem Shared.rdg_joinRequested {s t : State} (h : Shared s t) : t.rdg.joinRequested = s.rdg.joinRequested := by obtain ⟨_, rfl⟩ := h; rfl
theorem Shared.rdg_objects {s t : State} (h : Shared s t) : t.rdg.objects = s.rdg.objects := by obtain ⟨_, rfl⟩ := h; rfl
theorem Shared.rdg_backoff {s t : State} (h : Shared s t) : t.rdg.backoff = s.rdg.backoff := by obtain ⟨_, rfl⟩ := h; rfl
theorem Shared.rdg_claimSent {s t : State} (h : Shared s t) : t.rdg.claimSent = s.rdg.claimSent := by obtain ⟨_, rfl⟩ := h; rfl
theorem Shared.rdg_helloSent {s t : State} (h : Shared s t) : t.rdg.helloSent = s.rdg.helloSent := by obtain ⟨_, rfl⟩ := h; rfl
theorem Shared.rdg_helloSeen {s t : State} (h : Shared s t) : t.rdg.helloSeen = s.rdg.helloSeen := by obtain ⟨_, rfl⟩ := h; rfl
theorem Shared.rdg_silent {s t : State} (h : Shared s t) : t.rdg.silent = s.rdg.silent := by obtain ⟨_, rfl⟩ := h; rfl
theorem Shared.rdg_heard {s t : State} (h : Shared s t) : t.rdg.heard = s.rdg.heard := by obtain ⟨_, rfl⟩ := h; rfl
theorem Shared.rdg_rxSeq {s t : State} (h : Shared s t) : t.rdg.rxSeq = s.rdg.rxSeq := by obtain ⟨_, rfl⟩ := h; rfl
theorem Shared.rdg_erasures {s t : State} (h : Shared s t) : t.rdg.erasures = s.rdg.erasures := by obtain ⟨_, rfl⟩ := h; rfl
theorem Shared.rdg_partner {s t : State} (h : Shared s t) : t.rdg.partner = s.rdg.partner := by obtain ⟨_, rfl⟩ := h; rfl
theorem Shared.evt_loaded {s t : State} (h : Shared s t) : t.evt.loaded = s.evt.loaded := by obtain ⟨_, rfl⟩ := h; rfl
theorem Shared.evt_fetching {s t : State} (h : Shared s t) : t.evt.fetching = s.evt.fetching := by obtain ⟨_, rfl⟩ := h; rfl
theorem Shared.evt_latched {s t : State} (h : Shared s t) : t.evt.latched = s.evt.latched := by obtain ⟨_, rfl⟩ := h; rfl
theorem Shared.evt_provisional {s t : State} (h : Shared s t) : t.evt.provisional = s.evt.provisional := by obtain ⟨_, rfl⟩ := h; rfl

@[simp] theorem State.produce_hst_ownership (s : State) (f r ty : Nat) (l : List Octets) : ((s.produce f r ty l).2).hst.ownership = s.hst.ownership :=
  (s.produce_shared f r ty l).hst_ownership
@[simp] theorem State.produce_hst_inputLog (s : State) (f r ty : Nat) (l : List Octets) : ((s.produce f r ty l).2).hst.inputLog = s.hst.inputLog :=
  (s.produce_shared f r ty l).hst_inputLog
@[simp] theorem State.produce_hst_bifurcation (s : State) (f r ty : Nat) (l : List Octets) : ((s.produce f r ty l).2).hst.bifurcation = s.hst.bifurcation :=
  (s.produce_shared f r ty l).hst_bifurcation
@[simp] theorem State.produce_rdg_phase (s : State) (f r ty : Nat) (l : List Octets) : ((s.produce f r ty l).2).rdg.phase = s.rdg.phase :=
  (s.produce_shared f r ty l).rdg_phase
@[simp] theorem State.produce_rdg_epoch (s : State) (f r ty : Nat) (l : List Octets) : ((s.produce f r ty l).2).rdg.epoch = s.rdg.epoch :=
  (s.produce_shared f r ty l).rdg_epoch
@[simp] theorem State.produce_rdg_applying (s : State) (f r ty : Nat) (l : List Octets) : ((s.produce f r ty l).2).rdg.applying = s.rdg.applying :=
  (s.produce_shared f r ty l).rdg_applying
@[simp] theorem State.produce_rdg_arbitration (s : State) (f r ty : Nat) (l : List Octets) : ((s.produce f r ty l).2).rdg.arbitration = s.rdg.arbitration :=
  (s.produce_shared f r ty l).rdg_arbitration
@[simp] theorem State.produce_rdg_verdict (s : State) (f r ty : Nat) (l : List Octets) : ((s.produce f r ty l).2).rdg.verdict = s.rdg.verdict :=
  (s.produce_shared f r ty l).rdg_verdict
@[simp] theorem State.produce_rdg_join (s : State) (f r ty : Nat) (l : List Octets) : ((s.produce f r ty l).2).rdg.join = s.rdg.join :=
  (s.produce_shared f r ty l).rdg_join
@[simp] theorem State.produce_rdg_next (s : State) (f r ty : Nat) (l : List Octets) : ((s.produce f r ty l).2).rdg.next = s.rdg.next :=
  (s.produce_shared f r ty l).rdg_next
@[simp] theorem State.produce_rdg_switchover (s : State) (f r ty : Nat) (l : List Octets) : ((s.produce f r ty l).2).rdg.switchover = s.rdg.switchover :=
  (s.produce_shared f r ty l).rdg_switchover
@[simp] theorem State.produce_rdg_received (s : State) (f r ty : Nat) (l : List Octets) : ((s.produce f r ty l).2).rdg.received = s.rdg.received :=
  (s.produce_shared f r ty l).rdg_received
@[simp] theorem State.produce_rdg_own (s : State) (f r ty : Nat) (l : List Octets) : ((s.produce f r ty l).2).rdg.own = s.rdg.own :=
  (s.produce_shared f r ty l).rdg_own
@[simp] theorem State.produce_rdg_joinRequested (s : State) (f r ty : Nat) (l : List Octets) : ((s.produce f r ty l).2).rdg.joinRequested = s.rdg.joinRequested :=
  (s.produce_shared f r ty l).rdg_joinRequested
@[simp] theorem State.produce_rdg_objects (s : State) (f r ty : Nat) (l : List Octets) : ((s.produce f r ty l).2).rdg.objects = s.rdg.objects :=
  (s.produce_shared f r ty l).rdg_objects
@[simp] theorem State.produce_rdg_backoff (s : State) (f r ty : Nat) (l : List Octets) : ((s.produce f r ty l).2).rdg.backoff = s.rdg.backoff :=
  (s.produce_shared f r ty l).rdg_backoff
@[simp] theorem State.produce_rdg_claimSent (s : State) (f r ty : Nat) (l : List Octets) : ((s.produce f r ty l).2).rdg.claimSent = s.rdg.claimSent :=
  (s.produce_shared f r ty l).rdg_claimSent
@[simp] theorem State.produce_rdg_helloSent (s : State) (f r ty : Nat) (l : List Octets) : ((s.produce f r ty l).2).rdg.helloSent = s.rdg.helloSent :=
  (s.produce_shared f r ty l).rdg_helloSent
@[simp] theorem State.produce_rdg_helloSeen (s : State) (f r ty : Nat) (l : List Octets) : ((s.produce f r ty l).2).rdg.helloSeen = s.rdg.helloSeen :=
  (s.produce_shared f r ty l).rdg_helloSeen
@[simp] theorem State.produce_rdg_silent (s : State) (f r ty : Nat) (l : List Octets) : ((s.produce f r ty l).2).rdg.silent = s.rdg.silent :=
  (s.produce_shared f r ty l).rdg_silent
@[simp] theorem State.produce_rdg_heard (s : State) (f r ty : Nat) (l : List Octets) : ((s.produce f r ty l).2).rdg.heard = s.rdg.heard :=
  (s.produce_shared f r ty l).rdg_heard
@[simp] theorem State.produce_rdg_rxSeq (s : State) (f r ty : Nat) (l : List Octets) : ((s.produce f r ty l).2).rdg.rxSeq = s.rdg.rxSeq :=
  (s.produce_shared f r ty l).rdg_rxSeq
@[simp] theorem State.produce_rdg_erasures (s : State) (f r ty : Nat) (l : List Octets) : ((s.produce f r ty l).2).rdg.erasures = s.rdg.erasures :=
  (s.produce_shared f r ty l).rdg_erasures
@[simp] theorem State.produce_rdg_partner (s : State) (f r ty : Nat) (l : List Octets) : ((s.produce f r ty l).2).rdg.partner = s.rdg.partner :=
  (s.produce_shared f r ty l).rdg_partner
@[simp] theorem State.produce_evt_loaded (s : State) (f r ty : Nat) (l : List Octets) : ((s.produce f r ty l).2).evt.loaded = s.evt.loaded :=
  (s.produce_shared f r ty l).evt_loaded
@[simp] theorem State.produce_evt_fetching (s : State) (f r ty : Nat) (l : List Octets) : ((s.produce f r ty l).2).evt.fetching = s.evt.fetching :=
  (s.produce_shared f r ty l).evt_fetching
@[simp] theorem State.produce_evt_latched (s : State) (f r ty : Nat) (l : List Octets) : ((s.produce f r ty l).2).evt.latched = s.evt.latched :=
  (s.produce_shared f r ty l).evt_latched
@[simp] theorem State.produce_evt_provisional (s : State) (f r ty : Nat) (l : List Octets) : ((s.produce f r ty l).2).evt.provisional = s.evt.provisional :=
  (s.produce_shared f r ty l).evt_provisional
@[simp] theorem State.produce_latch (s : State) (f r ty : Nat) (l : List Octets) : ((s.produce f r ty l).2).latch = s.latch :=
  (s.produce_shared f r ty l).latch
@[simp] theorem State.produce_held (s : State) (f r ty : Nat) (l : List Octets) : ((s.produce f r ty l).2).held = s.held :=
  (s.produce_shared f r ty l).held
@[simp] theorem State.produce_overrides (s : State) (f r ty : Nat) (l : List Octets) : ((s.produce f r ty l).2).overrides = s.overrides :=
  (s.produce_shared f r ty l).overrides
@[simp] theorem State.produce_cfgPend (s : State) (f r ty : Nat) (l : List Octets) : ((s.produce f r ty l).2).cfgPend = s.cfgPend :=
  (s.produce_shared f r ty l).cfgPend
@[simp] theorem State.produce_hung (s : State) (f r ty : Nat) (l : List Octets) : ((s.produce f r ty l).2).hung = s.hung :=
  (s.produce_shared f r ty l).hung
@[simp] theorem State.produce_free (s : State) (f r ty : Nat) (l : List Octets) : ((s.produce f r ty l).2).free = s.free :=
  (s.produce_shared f r ty l).free
@[simp] theorem State.produce_crs (s : State) (f r ty : Nat) (l : List Octets) : ((s.produce f r ty l).2).crs = s.crs :=
  (s.produce_shared f r ty l).crs
@[simp] theorem State.produce_cel (s : State) (f r ty : Nat) (l : List Octets) : ((s.produce f r ty l).2).cel = s.cel :=
  (s.produce_shared f r ty l).cel
@[simp] theorem State.produce_swc (s : State) (f r ty : Nat) (l : List Octets) : ((s.produce f r ty l).2).swc = s.swc :=
  (s.produce_shared f r ty l).swc
@[simp] theorem State.produce_tim (s : State) (f r ty : Nat) (l : List Octets) : ((s.produce f r ty l).2).tim = s.tim :=
  (s.produce_shared f r ty l).tim
@[simp] theorem State.produce_key (s : State) (f r ty : Nat) (l : List Octets) : ((s.produce f r ty l).2).key = s.key :=
  (s.produce_shared f r ty l).key
@[simp] theorem State.produce_saf (s : State) (f r ty : Nat) (l : List Octets) : ((s.produce f r ty l).2).saf = s.saf :=
  (s.produce_shared f r ty l).saf
@[simp] theorem State.produce_mtb (s : State) (f r ty : Nat) (l : List Octets) : ((s.produce f r ty l).2).mtb = s.mtb :=
  (s.produce_shared f r ty l).mtb
@[simp] theorem State.produce_meters (s : State) (f r ty : Nat) (l : List Octets) : ((s.produce f r ty l).2).meters = s.meters :=
  (s.produce_shared f r ty l).meters
@[simp] theorem State.produce_bill (s : State) (f r ty : Nat) (l : List Octets) : ((s.produce f r ty l).2).bill = s.bill :=
  (s.produce_shared f r ty l).bill
@[simp] theorem State.produce_val (s : State) (f r ty : Nat) (l : List Octets) : ((s.produce f r ty l).2).val = s.val :=
  (s.produce_shared f r ty l).val
@[simp] theorem State.produce_arc (s : State) (f r ty : Nat) (l : List Octets) : ((s.produce f r ty l).2).arc = s.arc :=
  (s.produce_shared f r ty l).arc
@[simp] theorem State.produce_eav (s : State) (f r ty : Nat) (l : List Octets) : ((s.produce f r ty l).2).eav = s.eav :=
  (s.produce_shared f r ty l).eav
@[simp] theorem State.produce_met (s : State) (f r ty : Nat) (l : List Octets) : ((s.produce f r ty l).2).met = s.met :=
  (s.produce_shared f r ty l).met
@[simp] theorem State.produce_tmp (s : State) (f r ty : Nat) (l : List Octets) : ((s.produce f r ty l).2).tmp = s.tmp :=
  (s.produce_shared f r ty l).tmp
@[simp] theorem State.produce_otp (s : State) (f r ty : Nat) (l : List Octets) : ((s.produce f r ty l).2).otp = s.otp :=
  (s.produce_shared f r ty l).otp
@[simp] theorem State.produce_hlt (s : State) (f r ty : Nat) (l : List Octets) : ((s.produce f r ty l).2).hlt = s.hlt :=
  (s.produce_shared f r ty l).hlt
@[simp] theorem State.produce_lane (s : State) (f r ty : Nat) (l : List Octets) : ((s.produce f r ty l).2).lane = s.lane :=
  (s.produce_shared f r ty l).lane
@[simp] theorem State.produce_pending (s : State) (f r ty : Nat) (l : List Octets) : ((s.produce f r ty l).2).pending = s.pending :=
  (s.produce_shared f r ty l).pending

@[simp] theorem State.note_hst_ownership (s : State) (k : Nat) (l : Octets) : (s.note k l).hst.ownership = s.hst.ownership :=
  (s.note_shared k l).hst_ownership
@[simp] theorem State.note_hst_inputLog (s : State) (k : Nat) (l : Octets) : (s.note k l).hst.inputLog = s.hst.inputLog :=
  (s.note_shared k l).hst_inputLog
@[simp] theorem State.note_hst_bifurcation (s : State) (k : Nat) (l : Octets) : (s.note k l).hst.bifurcation = s.hst.bifurcation :=
  (s.note_shared k l).hst_bifurcation
@[simp] theorem State.note_rdg_phase (s : State) (k : Nat) (l : Octets) : (s.note k l).rdg.phase = s.rdg.phase :=
  (s.note_shared k l).rdg_phase
@[simp] theorem State.note_rdg_epoch (s : State) (k : Nat) (l : Octets) : (s.note k l).rdg.epoch = s.rdg.epoch :=
  (s.note_shared k l).rdg_epoch
@[simp] theorem State.note_rdg_applying (s : State) (k : Nat) (l : Octets) : (s.note k l).rdg.applying = s.rdg.applying :=
  (s.note_shared k l).rdg_applying
@[simp] theorem State.note_rdg_arbitration (s : State) (k : Nat) (l : Octets) : (s.note k l).rdg.arbitration = s.rdg.arbitration :=
  (s.note_shared k l).rdg_arbitration
@[simp] theorem State.note_rdg_verdict (s : State) (k : Nat) (l : Octets) : (s.note k l).rdg.verdict = s.rdg.verdict :=
  (s.note_shared k l).rdg_verdict
@[simp] theorem State.note_rdg_join (s : State) (k : Nat) (l : Octets) : (s.note k l).rdg.join = s.rdg.join :=
  (s.note_shared k l).rdg_join
@[simp] theorem State.note_rdg_next (s : State) (k : Nat) (l : Octets) : (s.note k l).rdg.next = s.rdg.next :=
  (s.note_shared k l).rdg_next
@[simp] theorem State.note_rdg_switchover (s : State) (k : Nat) (l : Octets) : (s.note k l).rdg.switchover = s.rdg.switchover :=
  (s.note_shared k l).rdg_switchover
@[simp] theorem State.note_rdg_received (s : State) (k : Nat) (l : Octets) : (s.note k l).rdg.received = s.rdg.received :=
  (s.note_shared k l).rdg_received
@[simp] theorem State.note_rdg_own (s : State) (k : Nat) (l : Octets) : (s.note k l).rdg.own = s.rdg.own :=
  (s.note_shared k l).rdg_own
@[simp] theorem State.note_rdg_joinRequested (s : State) (k : Nat) (l : Octets) : (s.note k l).rdg.joinRequested = s.rdg.joinRequested :=
  (s.note_shared k l).rdg_joinRequested
@[simp] theorem State.note_rdg_objects (s : State) (k : Nat) (l : Octets) : (s.note k l).rdg.objects = s.rdg.objects :=
  (s.note_shared k l).rdg_objects
@[simp] theorem State.note_rdg_backoff (s : State) (k : Nat) (l : Octets) : (s.note k l).rdg.backoff = s.rdg.backoff :=
  (s.note_shared k l).rdg_backoff
@[simp] theorem State.note_rdg_claimSent (s : State) (k : Nat) (l : Octets) : (s.note k l).rdg.claimSent = s.rdg.claimSent :=
  (s.note_shared k l).rdg_claimSent
@[simp] theorem State.note_rdg_helloSent (s : State) (k : Nat) (l : Octets) : (s.note k l).rdg.helloSent = s.rdg.helloSent :=
  (s.note_shared k l).rdg_helloSent
@[simp] theorem State.note_rdg_helloSeen (s : State) (k : Nat) (l : Octets) : (s.note k l).rdg.helloSeen = s.rdg.helloSeen :=
  (s.note_shared k l).rdg_helloSeen
@[simp] theorem State.note_rdg_silent (s : State) (k : Nat) (l : Octets) : (s.note k l).rdg.silent = s.rdg.silent :=
  (s.note_shared k l).rdg_silent
@[simp] theorem State.note_rdg_heard (s : State) (k : Nat) (l : Octets) : (s.note k l).rdg.heard = s.rdg.heard :=
  (s.note_shared k l).rdg_heard
@[simp] theorem State.note_rdg_rxSeq (s : State) (k : Nat) (l : Octets) : (s.note k l).rdg.rxSeq = s.rdg.rxSeq :=
  (s.note_shared k l).rdg_rxSeq
@[simp] theorem State.note_rdg_erasures (s : State) (k : Nat) (l : Octets) : (s.note k l).rdg.erasures = s.rdg.erasures :=
  (s.note_shared k l).rdg_erasures
@[simp] theorem State.note_rdg_partner (s : State) (k : Nat) (l : Octets) : (s.note k l).rdg.partner = s.rdg.partner :=
  (s.note_shared k l).rdg_partner
@[simp] theorem State.note_evt_loaded (s : State) (k : Nat) (l : Octets) : (s.note k l).evt.loaded = s.evt.loaded :=
  (s.note_shared k l).evt_loaded
@[simp] theorem State.note_evt_fetching (s : State) (k : Nat) (l : Octets) : (s.note k l).evt.fetching = s.evt.fetching :=
  (s.note_shared k l).evt_fetching
@[simp] theorem State.note_evt_latched (s : State) (k : Nat) (l : Octets) : (s.note k l).evt.latched = s.evt.latched :=
  (s.note_shared k l).evt_latched
@[simp] theorem State.note_evt_provisional (s : State) (k : Nat) (l : Octets) : (s.note k l).evt.provisional = s.evt.provisional :=
  (s.note_shared k l).evt_provisional
@[simp] theorem State.note_latch (s : State) (k : Nat) (l : Octets) : (s.note k l).latch = s.latch :=
  (s.note_shared k l).latch
@[simp] theorem State.note_held (s : State) (k : Nat) (l : Octets) : (s.note k l).held = s.held :=
  (s.note_shared k l).held
@[simp] theorem State.note_overrides (s : State) (k : Nat) (l : Octets) : (s.note k l).overrides = s.overrides :=
  (s.note_shared k l).overrides
@[simp] theorem State.note_cfgPend (s : State) (k : Nat) (l : Octets) : (s.note k l).cfgPend = s.cfgPend :=
  (s.note_shared k l).cfgPend
@[simp] theorem State.note_hung (s : State) (k : Nat) (l : Octets) : (s.note k l).hung = s.hung :=
  (s.note_shared k l).hung
@[simp] theorem State.note_free (s : State) (k : Nat) (l : Octets) : (s.note k l).free = s.free :=
  (s.note_shared k l).free
@[simp] theorem State.note_crs (s : State) (k : Nat) (l : Octets) : (s.note k l).crs = s.crs :=
  (s.note_shared k l).crs
@[simp] theorem State.note_cel (s : State) (k : Nat) (l : Octets) : (s.note k l).cel = s.cel :=
  (s.note_shared k l).cel
@[simp] theorem State.note_swc (s : State) (k : Nat) (l : Octets) : (s.note k l).swc = s.swc :=
  (s.note_shared k l).swc
@[simp] theorem State.note_tim (s : State) (k : Nat) (l : Octets) : (s.note k l).tim = s.tim :=
  (s.note_shared k l).tim
@[simp] theorem State.note_key (s : State) (k : Nat) (l : Octets) : (s.note k l).key = s.key :=
  (s.note_shared k l).key
@[simp] theorem State.note_saf (s : State) (k : Nat) (l : Octets) : (s.note k l).saf = s.saf :=
  (s.note_shared k l).saf
@[simp] theorem State.note_mtb (s : State) (k : Nat) (l : Octets) : (s.note k l).mtb = s.mtb :=
  (s.note_shared k l).mtb
@[simp] theorem State.note_meters (s : State) (k : Nat) (l : Octets) : (s.note k l).meters = s.meters :=
  (s.note_shared k l).meters
@[simp] theorem State.note_bill (s : State) (k : Nat) (l : Octets) : (s.note k l).bill = s.bill :=
  (s.note_shared k l).bill
@[simp] theorem State.note_val (s : State) (k : Nat) (l : Octets) : (s.note k l).val = s.val :=
  (s.note_shared k l).val
@[simp] theorem State.note_arc (s : State) (k : Nat) (l : Octets) : (s.note k l).arc = s.arc :=
  (s.note_shared k l).arc
@[simp] theorem State.note_eav (s : State) (k : Nat) (l : Octets) : (s.note k l).eav = s.eav :=
  (s.note_shared k l).eav
@[simp] theorem State.note_met (s : State) (k : Nat) (l : Octets) : (s.note k l).met = s.met :=
  (s.note_shared k l).met
@[simp] theorem State.note_tmp (s : State) (k : Nat) (l : Octets) : (s.note k l).tmp = s.tmp :=
  (s.note_shared k l).tmp
@[simp] theorem State.note_otp (s : State) (k : Nat) (l : Octets) : (s.note k l).otp = s.otp :=
  (s.note_shared k l).otp
@[simp] theorem State.note_hlt (s : State) (k : Nat) (l : Octets) : (s.note k l).hlt = s.hlt :=
  (s.note_shared k l).hlt
@[simp] theorem State.note_lane (s : State) (k : Nat) (l : Octets) : (s.note k l).lane = s.lane :=
  (s.note_shared k l).lane
@[simp] theorem State.note_pending (s : State) (k : Nat) (l : Octets) : (s.note k l).pending = s.pending :=
  (s.note_shared k l).pending

@[simp] theorem State.bulk_hst_ownership (s : State) (k n : Nat) (l : Octets) : (s.bulk k n l).hst.ownership = s.hst.ownership :=
  (s.bulk_shared k n l).hst_ownership
@[simp] theorem State.bulk_hst_inputLog (s : State) (k n : Nat) (l : Octets) : (s.bulk k n l).hst.inputLog = s.hst.inputLog :=
  (s.bulk_shared k n l).hst_inputLog
@[simp] theorem State.bulk_hst_bifurcation (s : State) (k n : Nat) (l : Octets) : (s.bulk k n l).hst.bifurcation = s.hst.bifurcation :=
  (s.bulk_shared k n l).hst_bifurcation
@[simp] theorem State.bulk_rdg_phase (s : State) (k n : Nat) (l : Octets) : (s.bulk k n l).rdg.phase = s.rdg.phase :=
  (s.bulk_shared k n l).rdg_phase
@[simp] theorem State.bulk_rdg_epoch (s : State) (k n : Nat) (l : Octets) : (s.bulk k n l).rdg.epoch = s.rdg.epoch :=
  (s.bulk_shared k n l).rdg_epoch
@[simp] theorem State.bulk_rdg_applying (s : State) (k n : Nat) (l : Octets) : (s.bulk k n l).rdg.applying = s.rdg.applying :=
  (s.bulk_shared k n l).rdg_applying
@[simp] theorem State.bulk_rdg_arbitration (s : State) (k n : Nat) (l : Octets) : (s.bulk k n l).rdg.arbitration = s.rdg.arbitration :=
  (s.bulk_shared k n l).rdg_arbitration
@[simp] theorem State.bulk_rdg_verdict (s : State) (k n : Nat) (l : Octets) : (s.bulk k n l).rdg.verdict = s.rdg.verdict :=
  (s.bulk_shared k n l).rdg_verdict
@[simp] theorem State.bulk_rdg_join (s : State) (k n : Nat) (l : Octets) : (s.bulk k n l).rdg.join = s.rdg.join :=
  (s.bulk_shared k n l).rdg_join
@[simp] theorem State.bulk_rdg_next (s : State) (k n : Nat) (l : Octets) : (s.bulk k n l).rdg.next = s.rdg.next :=
  (s.bulk_shared k n l).rdg_next
@[simp] theorem State.bulk_rdg_switchover (s : State) (k n : Nat) (l : Octets) : (s.bulk k n l).rdg.switchover = s.rdg.switchover :=
  (s.bulk_shared k n l).rdg_switchover
@[simp] theorem State.bulk_rdg_received (s : State) (k n : Nat) (l : Octets) : (s.bulk k n l).rdg.received = s.rdg.received :=
  (s.bulk_shared k n l).rdg_received
@[simp] theorem State.bulk_rdg_own (s : State) (k n : Nat) (l : Octets) : (s.bulk k n l).rdg.own = s.rdg.own :=
  (s.bulk_shared k n l).rdg_own
@[simp] theorem State.bulk_rdg_joinRequested (s : State) (k n : Nat) (l : Octets) : (s.bulk k n l).rdg.joinRequested = s.rdg.joinRequested :=
  (s.bulk_shared k n l).rdg_joinRequested
@[simp] theorem State.bulk_rdg_objects (s : State) (k n : Nat) (l : Octets) : (s.bulk k n l).rdg.objects = s.rdg.objects :=
  (s.bulk_shared k n l).rdg_objects
@[simp] theorem State.bulk_rdg_backoff (s : State) (k n : Nat) (l : Octets) : (s.bulk k n l).rdg.backoff = s.rdg.backoff :=
  (s.bulk_shared k n l).rdg_backoff
@[simp] theorem State.bulk_rdg_claimSent (s : State) (k n : Nat) (l : Octets) : (s.bulk k n l).rdg.claimSent = s.rdg.claimSent :=
  (s.bulk_shared k n l).rdg_claimSent
@[simp] theorem State.bulk_rdg_helloSent (s : State) (k n : Nat) (l : Octets) : (s.bulk k n l).rdg.helloSent = s.rdg.helloSent :=
  (s.bulk_shared k n l).rdg_helloSent
@[simp] theorem State.bulk_rdg_helloSeen (s : State) (k n : Nat) (l : Octets) : (s.bulk k n l).rdg.helloSeen = s.rdg.helloSeen :=
  (s.bulk_shared k n l).rdg_helloSeen
@[simp] theorem State.bulk_rdg_silent (s : State) (k n : Nat) (l : Octets) : (s.bulk k n l).rdg.silent = s.rdg.silent :=
  (s.bulk_shared k n l).rdg_silent
@[simp] theorem State.bulk_rdg_heard (s : State) (k n : Nat) (l : Octets) : (s.bulk k n l).rdg.heard = s.rdg.heard :=
  (s.bulk_shared k n l).rdg_heard
@[simp] theorem State.bulk_rdg_rxSeq (s : State) (k n : Nat) (l : Octets) : (s.bulk k n l).rdg.rxSeq = s.rdg.rxSeq :=
  (s.bulk_shared k n l).rdg_rxSeq
@[simp] theorem State.bulk_rdg_erasures (s : State) (k n : Nat) (l : Octets) : (s.bulk k n l).rdg.erasures = s.rdg.erasures :=
  (s.bulk_shared k n l).rdg_erasures
@[simp] theorem State.bulk_rdg_partner (s : State) (k n : Nat) (l : Octets) : (s.bulk k n l).rdg.partner = s.rdg.partner :=
  (s.bulk_shared k n l).rdg_partner
@[simp] theorem State.bulk_evt_loaded (s : State) (k n : Nat) (l : Octets) : (s.bulk k n l).evt.loaded = s.evt.loaded :=
  (s.bulk_shared k n l).evt_loaded
@[simp] theorem State.bulk_evt_fetching (s : State) (k n : Nat) (l : Octets) : (s.bulk k n l).evt.fetching = s.evt.fetching :=
  (s.bulk_shared k n l).evt_fetching
@[simp] theorem State.bulk_evt_latched (s : State) (k n : Nat) (l : Octets) : (s.bulk k n l).evt.latched = s.evt.latched :=
  (s.bulk_shared k n l).evt_latched
@[simp] theorem State.bulk_evt_provisional (s : State) (k n : Nat) (l : Octets) : (s.bulk k n l).evt.provisional = s.evt.provisional :=
  (s.bulk_shared k n l).evt_provisional
@[simp] theorem State.bulk_latch (s : State) (k n : Nat) (l : Octets) : (s.bulk k n l).latch = s.latch :=
  (s.bulk_shared k n l).latch
@[simp] theorem State.bulk_held (s : State) (k n : Nat) (l : Octets) : (s.bulk k n l).held = s.held :=
  (s.bulk_shared k n l).held
@[simp] theorem State.bulk_overrides (s : State) (k n : Nat) (l : Octets) : (s.bulk k n l).overrides = s.overrides :=
  (s.bulk_shared k n l).overrides
@[simp] theorem State.bulk_cfgPend (s : State) (k n : Nat) (l : Octets) : (s.bulk k n l).cfgPend = s.cfgPend :=
  (s.bulk_shared k n l).cfgPend
@[simp] theorem State.bulk_hung (s : State) (k n : Nat) (l : Octets) : (s.bulk k n l).hung = s.hung :=
  (s.bulk_shared k n l).hung
@[simp] theorem State.bulk_free (s : State) (k n : Nat) (l : Octets) : (s.bulk k n l).free = s.free :=
  (s.bulk_shared k n l).free
@[simp] theorem State.bulk_crs (s : State) (k n : Nat) (l : Octets) : (s.bulk k n l).crs = s.crs :=
  (s.bulk_shared k n l).crs
@[simp] theorem State.bulk_cel (s : State) (k n : Nat) (l : Octets) : (s.bulk k n l).cel = s.cel :=
  (s.bulk_shared k n l).cel
@[simp] theorem State.bulk_swc (s : State) (k n : Nat) (l : Octets) : (s.bulk k n l).swc = s.swc :=
  (s.bulk_shared k n l).swc
@[simp] theorem State.bulk_tim (s : State) (k n : Nat) (l : Octets) : (s.bulk k n l).tim = s.tim :=
  (s.bulk_shared k n l).tim
@[simp] theorem State.bulk_key (s : State) (k n : Nat) (l : Octets) : (s.bulk k n l).key = s.key :=
  (s.bulk_shared k n l).key
@[simp] theorem State.bulk_saf (s : State) (k n : Nat) (l : Octets) : (s.bulk k n l).saf = s.saf :=
  (s.bulk_shared k n l).saf
@[simp] theorem State.bulk_mtb (s : State) (k n : Nat) (l : Octets) : (s.bulk k n l).mtb = s.mtb :=
  (s.bulk_shared k n l).mtb
@[simp] theorem State.bulk_meters (s : State) (k n : Nat) (l : Octets) : (s.bulk k n l).meters = s.meters :=
  (s.bulk_shared k n l).meters
@[simp] theorem State.bulk_bill (s : State) (k n : Nat) (l : Octets) : (s.bulk k n l).bill = s.bill :=
  (s.bulk_shared k n l).bill
@[simp] theorem State.bulk_val (s : State) (k n : Nat) (l : Octets) : (s.bulk k n l).val = s.val :=
  (s.bulk_shared k n l).val
@[simp] theorem State.bulk_arc (s : State) (k n : Nat) (l : Octets) : (s.bulk k n l).arc = s.arc :=
  (s.bulk_shared k n l).arc
@[simp] theorem State.bulk_eav (s : State) (k n : Nat) (l : Octets) : (s.bulk k n l).eav = s.eav :=
  (s.bulk_shared k n l).eav
@[simp] theorem State.bulk_met (s : State) (k n : Nat) (l : Octets) : (s.bulk k n l).met = s.met :=
  (s.bulk_shared k n l).met
@[simp] theorem State.bulk_tmp (s : State) (k n : Nat) (l : Octets) : (s.bulk k n l).tmp = s.tmp :=
  (s.bulk_shared k n l).tmp
@[simp] theorem State.bulk_otp (s : State) (k n : Nat) (l : Octets) : (s.bulk k n l).otp = s.otp :=
  (s.bulk_shared k n l).otp
@[simp] theorem State.bulk_hlt (s : State) (k n : Nat) (l : Octets) : (s.bulk k n l).hlt = s.hlt :=
  (s.bulk_shared k n l).hlt
@[simp] theorem State.bulk_lane (s : State) (k n : Nat) (l : Octets) : (s.bulk k n l).lane = s.lane :=
  (s.bulk_shared k n l).lane
@[simp] theorem State.bulk_pending (s : State) (k n : Nat) (l : Octets) : (s.bulk k n l).pending = s.pending :=
  (s.bulk_shared k n l).pending

@[simp] theorem State.raise_hst_ownership (s : State) (k : Nat) (d : Octets) : (s.raise k d).hst.ownership = s.hst.ownership :=
  (s.raise_shared k d).hst_ownership
@[simp] theorem State.raise_hst_inputLog (s : State) (k : Nat) (d : Octets) : (s.raise k d).hst.inputLog = s.hst.inputLog :=
  (s.raise_shared k d).hst_inputLog
@[simp] theorem State.raise_hst_bifurcation (s : State) (k : Nat) (d : Octets) : (s.raise k d).hst.bifurcation = s.hst.bifurcation :=
  (s.raise_shared k d).hst_bifurcation
@[simp] theorem State.raise_rdg_phase (s : State) (k : Nat) (d : Octets) : (s.raise k d).rdg.phase = s.rdg.phase :=
  (s.raise_shared k d).rdg_phase
@[simp] theorem State.raise_rdg_epoch (s : State) (k : Nat) (d : Octets) : (s.raise k d).rdg.epoch = s.rdg.epoch :=
  (s.raise_shared k d).rdg_epoch
@[simp] theorem State.raise_rdg_applying (s : State) (k : Nat) (d : Octets) : (s.raise k d).rdg.applying = s.rdg.applying :=
  (s.raise_shared k d).rdg_applying
@[simp] theorem State.raise_rdg_arbitration (s : State) (k : Nat) (d : Octets) : (s.raise k d).rdg.arbitration = s.rdg.arbitration :=
  (s.raise_shared k d).rdg_arbitration
@[simp] theorem State.raise_rdg_verdict (s : State) (k : Nat) (d : Octets) : (s.raise k d).rdg.verdict = s.rdg.verdict :=
  (s.raise_shared k d).rdg_verdict
@[simp] theorem State.raise_rdg_join (s : State) (k : Nat) (d : Octets) : (s.raise k d).rdg.join = s.rdg.join :=
  (s.raise_shared k d).rdg_join
@[simp] theorem State.raise_rdg_next (s : State) (k : Nat) (d : Octets) : (s.raise k d).rdg.next = s.rdg.next :=
  (s.raise_shared k d).rdg_next
@[simp] theorem State.raise_rdg_switchover (s : State) (k : Nat) (d : Octets) : (s.raise k d).rdg.switchover = s.rdg.switchover :=
  (s.raise_shared k d).rdg_switchover
@[simp] theorem State.raise_rdg_received (s : State) (k : Nat) (d : Octets) : (s.raise k d).rdg.received = s.rdg.received :=
  (s.raise_shared k d).rdg_received
@[simp] theorem State.raise_rdg_own (s : State) (k : Nat) (d : Octets) : (s.raise k d).rdg.own = s.rdg.own :=
  (s.raise_shared k d).rdg_own
@[simp] theorem State.raise_rdg_joinRequested (s : State) (k : Nat) (d : Octets) : (s.raise k d).rdg.joinRequested = s.rdg.joinRequested :=
  (s.raise_shared k d).rdg_joinRequested
@[simp] theorem State.raise_rdg_objects (s : State) (k : Nat) (d : Octets) : (s.raise k d).rdg.objects = s.rdg.objects :=
  (s.raise_shared k d).rdg_objects
@[simp] theorem State.raise_rdg_backoff (s : State) (k : Nat) (d : Octets) : (s.raise k d).rdg.backoff = s.rdg.backoff :=
  (s.raise_shared k d).rdg_backoff
@[simp] theorem State.raise_rdg_claimSent (s : State) (k : Nat) (d : Octets) : (s.raise k d).rdg.claimSent = s.rdg.claimSent :=
  (s.raise_shared k d).rdg_claimSent
@[simp] theorem State.raise_rdg_helloSent (s : State) (k : Nat) (d : Octets) : (s.raise k d).rdg.helloSent = s.rdg.helloSent :=
  (s.raise_shared k d).rdg_helloSent
@[simp] theorem State.raise_rdg_helloSeen (s : State) (k : Nat) (d : Octets) : (s.raise k d).rdg.helloSeen = s.rdg.helloSeen :=
  (s.raise_shared k d).rdg_helloSeen
@[simp] theorem State.raise_rdg_silent (s : State) (k : Nat) (d : Octets) : (s.raise k d).rdg.silent = s.rdg.silent :=
  (s.raise_shared k d).rdg_silent
@[simp] theorem State.raise_rdg_heard (s : State) (k : Nat) (d : Octets) : (s.raise k d).rdg.heard = s.rdg.heard :=
  (s.raise_shared k d).rdg_heard
@[simp] theorem State.raise_rdg_rxSeq (s : State) (k : Nat) (d : Octets) : (s.raise k d).rdg.rxSeq = s.rdg.rxSeq :=
  (s.raise_shared k d).rdg_rxSeq
@[simp] theorem State.raise_rdg_erasures (s : State) (k : Nat) (d : Octets) : (s.raise k d).rdg.erasures = s.rdg.erasures :=
  (s.raise_shared k d).rdg_erasures
@[simp] theorem State.raise_rdg_partner (s : State) (k : Nat) (d : Octets) : (s.raise k d).rdg.partner = s.rdg.partner :=
  (s.raise_shared k d).rdg_partner
@[simp] theorem State.raise_evt_loaded (s : State) (k : Nat) (d : Octets) : (s.raise k d).evt.loaded = s.evt.loaded :=
  (s.raise_shared k d).evt_loaded
@[simp] theorem State.raise_evt_fetching (s : State) (k : Nat) (d : Octets) : (s.raise k d).evt.fetching = s.evt.fetching :=
  (s.raise_shared k d).evt_fetching
@[simp] theorem State.raise_evt_latched (s : State) (k : Nat) (d : Octets) : (s.raise k d).evt.latched = s.evt.latched :=
  (s.raise_shared k d).evt_latched
@[simp] theorem State.raise_evt_provisional (s : State) (k : Nat) (d : Octets) : (s.raise k d).evt.provisional = s.evt.provisional :=
  (s.raise_shared k d).evt_provisional
@[simp] theorem State.raise_latch (s : State) (k : Nat) (d : Octets) : (s.raise k d).latch = s.latch :=
  (s.raise_shared k d).latch
@[simp] theorem State.raise_held (s : State) (k : Nat) (d : Octets) : (s.raise k d).held = s.held :=
  (s.raise_shared k d).held
@[simp] theorem State.raise_overrides (s : State) (k : Nat) (d : Octets) : (s.raise k d).overrides = s.overrides :=
  (s.raise_shared k d).overrides
@[simp] theorem State.raise_cfgPend (s : State) (k : Nat) (d : Octets) : (s.raise k d).cfgPend = s.cfgPend :=
  (s.raise_shared k d).cfgPend
@[simp] theorem State.raise_hung (s : State) (k : Nat) (d : Octets) : (s.raise k d).hung = s.hung :=
  (s.raise_shared k d).hung
@[simp] theorem State.raise_free (s : State) (k : Nat) (d : Octets) : (s.raise k d).free = s.free :=
  (s.raise_shared k d).free
@[simp] theorem State.raise_crs (s : State) (k : Nat) (d : Octets) : (s.raise k d).crs = s.crs :=
  (s.raise_shared k d).crs
@[simp] theorem State.raise_cel (s : State) (k : Nat) (d : Octets) : (s.raise k d).cel = s.cel :=
  (s.raise_shared k d).cel
@[simp] theorem State.raise_swc (s : State) (k : Nat) (d : Octets) : (s.raise k d).swc = s.swc :=
  (s.raise_shared k d).swc
@[simp] theorem State.raise_tim (s : State) (k : Nat) (d : Octets) : (s.raise k d).tim = s.tim :=
  (s.raise_shared k d).tim
@[simp] theorem State.raise_key (s : State) (k : Nat) (d : Octets) : (s.raise k d).key = s.key :=
  (s.raise_shared k d).key
@[simp] theorem State.raise_saf (s : State) (k : Nat) (d : Octets) : (s.raise k d).saf = s.saf :=
  (s.raise_shared k d).saf
@[simp] theorem State.raise_mtb (s : State) (k : Nat) (d : Octets) : (s.raise k d).mtb = s.mtb :=
  (s.raise_shared k d).mtb
@[simp] theorem State.raise_meters (s : State) (k : Nat) (d : Octets) : (s.raise k d).meters = s.meters :=
  (s.raise_shared k d).meters
@[simp] theorem State.raise_bill (s : State) (k : Nat) (d : Octets) : (s.raise k d).bill = s.bill :=
  (s.raise_shared k d).bill
@[simp] theorem State.raise_val (s : State) (k : Nat) (d : Octets) : (s.raise k d).val = s.val :=
  (s.raise_shared k d).val
@[simp] theorem State.raise_arc (s : State) (k : Nat) (d : Octets) : (s.raise k d).arc = s.arc :=
  (s.raise_shared k d).arc
@[simp] theorem State.raise_eav (s : State) (k : Nat) (d : Octets) : (s.raise k d).eav = s.eav :=
  (s.raise_shared k d).eav
@[simp] theorem State.raise_met (s : State) (k : Nat) (d : Octets) : (s.raise k d).met = s.met :=
  (s.raise_shared k d).met
@[simp] theorem State.raise_tmp (s : State) (k : Nat) (d : Octets) : (s.raise k d).tmp = s.tmp :=
  (s.raise_shared k d).tmp
@[simp] theorem State.raise_otp (s : State) (k : Nat) (d : Octets) : (s.raise k d).otp = s.otp :=
  (s.raise_shared k d).otp
@[simp] theorem State.raise_hlt (s : State) (k : Nat) (d : Octets) : (s.raise k d).hlt = s.hlt :=
  (s.raise_shared k d).hlt
@[simp] theorem State.raise_lane (s : State) (k : Nat) (d : Octets) : (s.raise k d).lane = s.lane :=
  (s.raise_shared k d).lane
@[simp] theorem State.raise_pending (s : State) (k : Nat) (d : Octets) : (s.raise k d).pending = s.pending :=
  (s.raise_shared k d).pending

@[simp] theorem State.accepted_hst_ownership (s : State) (c : Cmd) : (s.accepted c).hst.ownership = s.hst.ownership :=
  (s.accepted_shared c).hst_ownership
@[simp] theorem State.accepted_hst_inputLog (s : State) (c : Cmd) : (s.accepted c).hst.inputLog = s.hst.inputLog :=
  (s.accepted_shared c).hst_inputLog
@[simp] theorem State.accepted_hst_bifurcation (s : State) (c : Cmd) : (s.accepted c).hst.bifurcation = s.hst.bifurcation :=
  (s.accepted_shared c).hst_bifurcation
@[simp] theorem State.accepted_rdg_phase (s : State) (c : Cmd) : (s.accepted c).rdg.phase = s.rdg.phase :=
  (s.accepted_shared c).rdg_phase
@[simp] theorem State.accepted_rdg_epoch (s : State) (c : Cmd) : (s.accepted c).rdg.epoch = s.rdg.epoch :=
  (s.accepted_shared c).rdg_epoch
@[simp] theorem State.accepted_rdg_applying (s : State) (c : Cmd) : (s.accepted c).rdg.applying = s.rdg.applying :=
  (s.accepted_shared c).rdg_applying
@[simp] theorem State.accepted_rdg_arbitration (s : State) (c : Cmd) : (s.accepted c).rdg.arbitration = s.rdg.arbitration :=
  (s.accepted_shared c).rdg_arbitration
@[simp] theorem State.accepted_rdg_verdict (s : State) (c : Cmd) : (s.accepted c).rdg.verdict = s.rdg.verdict :=
  (s.accepted_shared c).rdg_verdict
@[simp] theorem State.accepted_rdg_join (s : State) (c : Cmd) : (s.accepted c).rdg.join = s.rdg.join :=
  (s.accepted_shared c).rdg_join
@[simp] theorem State.accepted_rdg_next (s : State) (c : Cmd) : (s.accepted c).rdg.next = s.rdg.next :=
  (s.accepted_shared c).rdg_next
@[simp] theorem State.accepted_rdg_switchover (s : State) (c : Cmd) : (s.accepted c).rdg.switchover = s.rdg.switchover :=
  (s.accepted_shared c).rdg_switchover
@[simp] theorem State.accepted_rdg_received (s : State) (c : Cmd) : (s.accepted c).rdg.received = s.rdg.received :=
  (s.accepted_shared c).rdg_received
@[simp] theorem State.accepted_rdg_own (s : State) (c : Cmd) : (s.accepted c).rdg.own = s.rdg.own :=
  (s.accepted_shared c).rdg_own
@[simp] theorem State.accepted_rdg_joinRequested (s : State) (c : Cmd) : (s.accepted c).rdg.joinRequested = s.rdg.joinRequested :=
  (s.accepted_shared c).rdg_joinRequested
@[simp] theorem State.accepted_rdg_objects (s : State) (c : Cmd) : (s.accepted c).rdg.objects = s.rdg.objects :=
  (s.accepted_shared c).rdg_objects
@[simp] theorem State.accepted_rdg_backoff (s : State) (c : Cmd) : (s.accepted c).rdg.backoff = s.rdg.backoff :=
  (s.accepted_shared c).rdg_backoff
@[simp] theorem State.accepted_rdg_claimSent (s : State) (c : Cmd) : (s.accepted c).rdg.claimSent = s.rdg.claimSent :=
  (s.accepted_shared c).rdg_claimSent
@[simp] theorem State.accepted_rdg_helloSent (s : State) (c : Cmd) : (s.accepted c).rdg.helloSent = s.rdg.helloSent :=
  (s.accepted_shared c).rdg_helloSent
@[simp] theorem State.accepted_rdg_helloSeen (s : State) (c : Cmd) : (s.accepted c).rdg.helloSeen = s.rdg.helloSeen :=
  (s.accepted_shared c).rdg_helloSeen
@[simp] theorem State.accepted_rdg_silent (s : State) (c : Cmd) : (s.accepted c).rdg.silent = s.rdg.silent :=
  (s.accepted_shared c).rdg_silent
@[simp] theorem State.accepted_rdg_heard (s : State) (c : Cmd) : (s.accepted c).rdg.heard = s.rdg.heard :=
  (s.accepted_shared c).rdg_heard
@[simp] theorem State.accepted_rdg_rxSeq (s : State) (c : Cmd) : (s.accepted c).rdg.rxSeq = s.rdg.rxSeq :=
  (s.accepted_shared c).rdg_rxSeq
@[simp] theorem State.accepted_rdg_erasures (s : State) (c : Cmd) : (s.accepted c).rdg.erasures = s.rdg.erasures :=
  (s.accepted_shared c).rdg_erasures
@[simp] theorem State.accepted_rdg_partner (s : State) (c : Cmd) : (s.accepted c).rdg.partner = s.rdg.partner :=
  (s.accepted_shared c).rdg_partner
@[simp] theorem State.accepted_evt_loaded (s : State) (c : Cmd) : (s.accepted c).evt.loaded = s.evt.loaded :=
  (s.accepted_shared c).evt_loaded
@[simp] theorem State.accepted_evt_fetching (s : State) (c : Cmd) : (s.accepted c).evt.fetching = s.evt.fetching :=
  (s.accepted_shared c).evt_fetching
@[simp] theorem State.accepted_evt_latched (s : State) (c : Cmd) : (s.accepted c).evt.latched = s.evt.latched :=
  (s.accepted_shared c).evt_latched
@[simp] theorem State.accepted_evt_provisional (s : State) (c : Cmd) : (s.accepted c).evt.provisional = s.evt.provisional :=
  (s.accepted_shared c).evt_provisional
@[simp] theorem State.accepted_latch (s : State) (c : Cmd) : (s.accepted c).latch = s.latch :=
  (s.accepted_shared c).latch
@[simp] theorem State.accepted_held (s : State) (c : Cmd) : (s.accepted c).held = s.held :=
  (s.accepted_shared c).held
@[simp] theorem State.accepted_overrides (s : State) (c : Cmd) : (s.accepted c).overrides = s.overrides :=
  (s.accepted_shared c).overrides
@[simp] theorem State.accepted_cfgPend (s : State) (c : Cmd) : (s.accepted c).cfgPend = s.cfgPend :=
  (s.accepted_shared c).cfgPend
@[simp] theorem State.accepted_hung (s : State) (c : Cmd) : (s.accepted c).hung = s.hung :=
  (s.accepted_shared c).hung
@[simp] theorem State.accepted_free (s : State) (c : Cmd) : (s.accepted c).free = s.free :=
  (s.accepted_shared c).free
@[simp] theorem State.accepted_crs (s : State) (c : Cmd) : (s.accepted c).crs = s.crs :=
  (s.accepted_shared c).crs
@[simp] theorem State.accepted_cel (s : State) (c : Cmd) : (s.accepted c).cel = s.cel :=
  (s.accepted_shared c).cel
@[simp] theorem State.accepted_swc (s : State) (c : Cmd) : (s.accepted c).swc = s.swc :=
  (s.accepted_shared c).swc
@[simp] theorem State.accepted_tim (s : State) (c : Cmd) : (s.accepted c).tim = s.tim :=
  (s.accepted_shared c).tim
@[simp] theorem State.accepted_key (s : State) (c : Cmd) : (s.accepted c).key = s.key :=
  (s.accepted_shared c).key
@[simp] theorem State.accepted_saf (s : State) (c : Cmd) : (s.accepted c).saf = s.saf :=
  (s.accepted_shared c).saf
@[simp] theorem State.accepted_mtb (s : State) (c : Cmd) : (s.accepted c).mtb = s.mtb :=
  (s.accepted_shared c).mtb
@[simp] theorem State.accepted_meters (s : State) (c : Cmd) : (s.accepted c).meters = s.meters :=
  (s.accepted_shared c).meters
@[simp] theorem State.accepted_bill (s : State) (c : Cmd) : (s.accepted c).bill = s.bill :=
  (s.accepted_shared c).bill
@[simp] theorem State.accepted_val (s : State) (c : Cmd) : (s.accepted c).val = s.val :=
  (s.accepted_shared c).val
@[simp] theorem State.accepted_arc (s : State) (c : Cmd) : (s.accepted c).arc = s.arc :=
  (s.accepted_shared c).arc
@[simp] theorem State.accepted_eav (s : State) (c : Cmd) : (s.accepted c).eav = s.eav :=
  (s.accepted_shared c).eav
@[simp] theorem State.accepted_met (s : State) (c : Cmd) : (s.accepted c).met = s.met :=
  (s.accepted_shared c).met
@[simp] theorem State.accepted_tmp (s : State) (c : Cmd) : (s.accepted c).tmp = s.tmp :=
  (s.accepted_shared c).tmp
@[simp] theorem State.accepted_otp (s : State) (c : Cmd) : (s.accepted c).otp = s.otp :=
  (s.accepted_shared c).otp
@[simp] theorem State.accepted_hlt (s : State) (c : Cmd) : (s.accepted c).hlt = s.hlt :=
  (s.accepted_shared c).hlt
@[simp] theorem State.accepted_lane (s : State) (c : Cmd) : (s.accepted c).lane = s.lane :=
  (s.accepted_shared c).lane
@[simp] theorem State.accepted_pending (s : State) (c : Cmd) : (s.accepted c).pending = s.pending :=
  (s.accepted_shared c).pending

@[simp] theorem State.post_hst_ownership (s : State) (op : Nat) (c : Cmd) (st : Status) (i : Nat) (r : Octets) : (s.post' op c st i r).hst.ownership = s.hst.ownership :=
  (s.post_shared op c st i r).hst_ownership
@[simp] theorem State.post_hst_inputLog (s : State) (op : Nat) (c : Cmd) (st : Status) (i : Nat) (r : Octets) : (s.post' op c st i r).hst.inputLog = s.hst.inputLog :=
  (s.post_shared op c st i r).hst_inputLog
@[simp] theorem State.post_hst_bifurcation (s : State) (op : Nat) (c : Cmd) (st : Status) (i : Nat) (r : Octets) : (s.post' op c st i r).hst.bifurcation = s.hst.bifurcation :=
  (s.post_shared op c st i r).hst_bifurcation
@[simp] theorem State.post_rdg_phase (s : State) (op : Nat) (c : Cmd) (st : Status) (i : Nat) (r : Octets) : (s.post' op c st i r).rdg.phase = s.rdg.phase :=
  (s.post_shared op c st i r).rdg_phase
@[simp] theorem State.post_rdg_epoch (s : State) (op : Nat) (c : Cmd) (st : Status) (i : Nat) (r : Octets) : (s.post' op c st i r).rdg.epoch = s.rdg.epoch :=
  (s.post_shared op c st i r).rdg_epoch
@[simp] theorem State.post_rdg_applying (s : State) (op : Nat) (c : Cmd) (st : Status) (i : Nat) (r : Octets) : (s.post' op c st i r).rdg.applying = s.rdg.applying :=
  (s.post_shared op c st i r).rdg_applying
@[simp] theorem State.post_rdg_arbitration (s : State) (op : Nat) (c : Cmd) (st : Status) (i : Nat) (r : Octets) : (s.post' op c st i r).rdg.arbitration = s.rdg.arbitration :=
  (s.post_shared op c st i r).rdg_arbitration
@[simp] theorem State.post_rdg_verdict (s : State) (op : Nat) (c : Cmd) (st : Status) (i : Nat) (r : Octets) : (s.post' op c st i r).rdg.verdict = s.rdg.verdict :=
  (s.post_shared op c st i r).rdg_verdict
@[simp] theorem State.post_rdg_join (s : State) (op : Nat) (c : Cmd) (st : Status) (i : Nat) (r : Octets) : (s.post' op c st i r).rdg.join = s.rdg.join :=
  (s.post_shared op c st i r).rdg_join
@[simp] theorem State.post_rdg_next (s : State) (op : Nat) (c : Cmd) (st : Status) (i : Nat) (r : Octets) : (s.post' op c st i r).rdg.next = s.rdg.next :=
  (s.post_shared op c st i r).rdg_next
@[simp] theorem State.post_rdg_switchover (s : State) (op : Nat) (c : Cmd) (st : Status) (i : Nat) (r : Octets) : (s.post' op c st i r).rdg.switchover = s.rdg.switchover :=
  (s.post_shared op c st i r).rdg_switchover
@[simp] theorem State.post_rdg_received (s : State) (op : Nat) (c : Cmd) (st : Status) (i : Nat) (r : Octets) : (s.post' op c st i r).rdg.received = s.rdg.received :=
  (s.post_shared op c st i r).rdg_received
@[simp] theorem State.post_rdg_own (s : State) (op : Nat) (c : Cmd) (st : Status) (i : Nat) (r : Octets) : (s.post' op c st i r).rdg.own = s.rdg.own :=
  (s.post_shared op c st i r).rdg_own
@[simp] theorem State.post_rdg_joinRequested (s : State) (op : Nat) (c : Cmd) (st : Status) (i : Nat) (r : Octets) : (s.post' op c st i r).rdg.joinRequested = s.rdg.joinRequested :=
  (s.post_shared op c st i r).rdg_joinRequested
@[simp] theorem State.post_rdg_objects (s : State) (op : Nat) (c : Cmd) (st : Status) (i : Nat) (r : Octets) : (s.post' op c st i r).rdg.objects = s.rdg.objects :=
  (s.post_shared op c st i r).rdg_objects
@[simp] theorem State.post_rdg_backoff (s : State) (op : Nat) (c : Cmd) (st : Status) (i : Nat) (r : Octets) : (s.post' op c st i r).rdg.backoff = s.rdg.backoff :=
  (s.post_shared op c st i r).rdg_backoff
@[simp] theorem State.post_rdg_claimSent (s : State) (op : Nat) (c : Cmd) (st : Status) (i : Nat) (r : Octets) : (s.post' op c st i r).rdg.claimSent = s.rdg.claimSent :=
  (s.post_shared op c st i r).rdg_claimSent
@[simp] theorem State.post_rdg_helloSent (s : State) (op : Nat) (c : Cmd) (st : Status) (i : Nat) (r : Octets) : (s.post' op c st i r).rdg.helloSent = s.rdg.helloSent :=
  (s.post_shared op c st i r).rdg_helloSent
@[simp] theorem State.post_rdg_helloSeen (s : State) (op : Nat) (c : Cmd) (st : Status) (i : Nat) (r : Octets) : (s.post' op c st i r).rdg.helloSeen = s.rdg.helloSeen :=
  (s.post_shared op c st i r).rdg_helloSeen
@[simp] theorem State.post_rdg_silent (s : State) (op : Nat) (c : Cmd) (st : Status) (i : Nat) (r : Octets) : (s.post' op c st i r).rdg.silent = s.rdg.silent :=
  (s.post_shared op c st i r).rdg_silent
@[simp] theorem State.post_rdg_heard (s : State) (op : Nat) (c : Cmd) (st : Status) (i : Nat) (r : Octets) : (s.post' op c st i r).rdg.heard = s.rdg.heard :=
  (s.post_shared op c st i r).rdg_heard
@[simp] theorem State.post_rdg_rxSeq (s : State) (op : Nat) (c : Cmd) (st : Status) (i : Nat) (r : Octets) : (s.post' op c st i r).rdg.rxSeq = s.rdg.rxSeq :=
  (s.post_shared op c st i r).rdg_rxSeq
@[simp] theorem State.post_rdg_erasures (s : State) (op : Nat) (c : Cmd) (st : Status) (i : Nat) (r : Octets) : (s.post' op c st i r).rdg.erasures = s.rdg.erasures :=
  (s.post_shared op c st i r).rdg_erasures
@[simp] theorem State.post_rdg_partner (s : State) (op : Nat) (c : Cmd) (st : Status) (i : Nat) (r : Octets) : (s.post' op c st i r).rdg.partner = s.rdg.partner :=
  (s.post_shared op c st i r).rdg_partner
@[simp] theorem State.post_evt_loaded (s : State) (op : Nat) (c : Cmd) (st : Status) (i : Nat) (r : Octets) : (s.post' op c st i r).evt.loaded = s.evt.loaded :=
  (s.post_shared op c st i r).evt_loaded
@[simp] theorem State.post_evt_fetching (s : State) (op : Nat) (c : Cmd) (st : Status) (i : Nat) (r : Octets) : (s.post' op c st i r).evt.fetching = s.evt.fetching :=
  (s.post_shared op c st i r).evt_fetching
@[simp] theorem State.post_evt_latched (s : State) (op : Nat) (c : Cmd) (st : Status) (i : Nat) (r : Octets) : (s.post' op c st i r).evt.latched = s.evt.latched :=
  (s.post_shared op c st i r).evt_latched
@[simp] theorem State.post_evt_provisional (s : State) (op : Nat) (c : Cmd) (st : Status) (i : Nat) (r : Octets) : (s.post' op c st i r).evt.provisional = s.evt.provisional :=
  (s.post_shared op c st i r).evt_provisional
@[simp] theorem State.post_latch (s : State) (op : Nat) (c : Cmd) (st : Status) (i : Nat) (r : Octets) : (s.post' op c st i r).latch = s.latch :=
  (s.post_shared op c st i r).latch
@[simp] theorem State.post_held (s : State) (op : Nat) (c : Cmd) (st : Status) (i : Nat) (r : Octets) : (s.post' op c st i r).held = s.held :=
  (s.post_shared op c st i r).held
@[simp] theorem State.post_overrides (s : State) (op : Nat) (c : Cmd) (st : Status) (i : Nat) (r : Octets) : (s.post' op c st i r).overrides = s.overrides :=
  (s.post_shared op c st i r).overrides
@[simp] theorem State.post_cfgPend (s : State) (op : Nat) (c : Cmd) (st : Status) (i : Nat) (r : Octets) : (s.post' op c st i r).cfgPend = s.cfgPend :=
  (s.post_shared op c st i r).cfgPend
@[simp] theorem State.post_hung (s : State) (op : Nat) (c : Cmd) (st : Status) (i : Nat) (r : Octets) : (s.post' op c st i r).hung = s.hung :=
  (s.post_shared op c st i r).hung
@[simp] theorem State.post_free (s : State) (op : Nat) (c : Cmd) (st : Status) (i : Nat) (r : Octets) : (s.post' op c st i r).free = s.free :=
  (s.post_shared op c st i r).free
@[simp] theorem State.post_crs (s : State) (op : Nat) (c : Cmd) (st : Status) (i : Nat) (r : Octets) : (s.post' op c st i r).crs = s.crs :=
  (s.post_shared op c st i r).crs
@[simp] theorem State.post_cel (s : State) (op : Nat) (c : Cmd) (st : Status) (i : Nat) (r : Octets) : (s.post' op c st i r).cel = s.cel :=
  (s.post_shared op c st i r).cel
@[simp] theorem State.post_swc (s : State) (op : Nat) (c : Cmd) (st : Status) (i : Nat) (r : Octets) : (s.post' op c st i r).swc = s.swc :=
  (s.post_shared op c st i r).swc
@[simp] theorem State.post_tim (s : State) (op : Nat) (c : Cmd) (st : Status) (i : Nat) (r : Octets) : (s.post' op c st i r).tim = s.tim :=
  (s.post_shared op c st i r).tim
@[simp] theorem State.post_key (s : State) (op : Nat) (c : Cmd) (st : Status) (i : Nat) (r : Octets) : (s.post' op c st i r).key = s.key :=
  (s.post_shared op c st i r).key
@[simp] theorem State.post_saf (s : State) (op : Nat) (c : Cmd) (st : Status) (i : Nat) (r : Octets) : (s.post' op c st i r).saf = s.saf :=
  (s.post_shared op c st i r).saf
@[simp] theorem State.post_mtb (s : State) (op : Nat) (c : Cmd) (st : Status) (i : Nat) (r : Octets) : (s.post' op c st i r).mtb = s.mtb :=
  (s.post_shared op c st i r).mtb
@[simp] theorem State.post_meters (s : State) (op : Nat) (c : Cmd) (st : Status) (i : Nat) (r : Octets) : (s.post' op c st i r).meters = s.meters :=
  (s.post_shared op c st i r).meters
@[simp] theorem State.post_bill (s : State) (op : Nat) (c : Cmd) (st : Status) (i : Nat) (r : Octets) : (s.post' op c st i r).bill = s.bill :=
  (s.post_shared op c st i r).bill
@[simp] theorem State.post_val (s : State) (op : Nat) (c : Cmd) (st : Status) (i : Nat) (r : Octets) : (s.post' op c st i r).val = s.val :=
  (s.post_shared op c st i r).val
@[simp] theorem State.post_arc (s : State) (op : Nat) (c : Cmd) (st : Status) (i : Nat) (r : Octets) : (s.post' op c st i r).arc = s.arc :=
  (s.post_shared op c st i r).arc
@[simp] theorem State.post_eav (s : State) (op : Nat) (c : Cmd) (st : Status) (i : Nat) (r : Octets) : (s.post' op c st i r).eav = s.eav :=
  (s.post_shared op c st i r).eav
@[simp] theorem State.post_met (s : State) (op : Nat) (c : Cmd) (st : Status) (i : Nat) (r : Octets) : (s.post' op c st i r).met = s.met :=
  (s.post_shared op c st i r).met
@[simp] theorem State.post_tmp (s : State) (op : Nat) (c : Cmd) (st : Status) (i : Nat) (r : Octets) : (s.post' op c st i r).tmp = s.tmp :=
  (s.post_shared op c st i r).tmp
@[simp] theorem State.post_otp (s : State) (op : Nat) (c : Cmd) (st : Status) (i : Nat) (r : Octets) : (s.post' op c st i r).otp = s.otp :=
  (s.post_shared op c st i r).otp
@[simp] theorem State.post_hlt (s : State) (op : Nat) (c : Cmd) (st : Status) (i : Nat) (r : Octets) : (s.post' op c st i r).hlt = s.hlt :=
  (s.post_shared op c st i r).hlt
@[simp] theorem State.post_lane (s : State) (op : Nat) (c : Cmd) (st : Status) (i : Nat) (r : Octets) : (s.post' op c st i r).lane = s.lane :=
  (s.post_shared op c st i r).lane
@[simp] theorem State.post_pending (s : State) (op : Nat) (c : Cmd) (st : Status) (i : Nat) (r : Octets) : (s.post' op c st i r).pending = s.pending :=
  (s.post_shared op c st i r).pending

@[simp] theorem State.complete_hst_ownership (s : State) (op : Nat) (c : Cmd) (st : Status) (i : Nat) (r : Octets) : (s.complete op c st i r).hst.ownership = s.hst.ownership :=
  (s.complete_shared op c st i r).hst_ownership
@[simp] theorem State.complete_hst_inputLog (s : State) (op : Nat) (c : Cmd) (st : Status) (i : Nat) (r : Octets) : (s.complete op c st i r).hst.inputLog = s.hst.inputLog :=
  (s.complete_shared op c st i r).hst_inputLog
@[simp] theorem State.complete_hst_bifurcation (s : State) (op : Nat) (c : Cmd) (st : Status) (i : Nat) (r : Octets) : (s.complete op c st i r).hst.bifurcation = s.hst.bifurcation :=
  (s.complete_shared op c st i r).hst_bifurcation
@[simp] theorem State.complete_rdg_phase (s : State) (op : Nat) (c : Cmd) (st : Status) (i : Nat) (r : Octets) : (s.complete op c st i r).rdg.phase = s.rdg.phase :=
  (s.complete_shared op c st i r).rdg_phase
@[simp] theorem State.complete_rdg_epoch (s : State) (op : Nat) (c : Cmd) (st : Status) (i : Nat) (r : Octets) : (s.complete op c st i r).rdg.epoch = s.rdg.epoch :=
  (s.complete_shared op c st i r).rdg_epoch
@[simp] theorem State.complete_rdg_applying (s : State) (op : Nat) (c : Cmd) (st : Status) (i : Nat) (r : Octets) : (s.complete op c st i r).rdg.applying = s.rdg.applying :=
  (s.complete_shared op c st i r).rdg_applying
@[simp] theorem State.complete_rdg_arbitration (s : State) (op : Nat) (c : Cmd) (st : Status) (i : Nat) (r : Octets) : (s.complete op c st i r).rdg.arbitration = s.rdg.arbitration :=
  (s.complete_shared op c st i r).rdg_arbitration
@[simp] theorem State.complete_rdg_verdict (s : State) (op : Nat) (c : Cmd) (st : Status) (i : Nat) (r : Octets) : (s.complete op c st i r).rdg.verdict = s.rdg.verdict :=
  (s.complete_shared op c st i r).rdg_verdict
@[simp] theorem State.complete_rdg_join (s : State) (op : Nat) (c : Cmd) (st : Status) (i : Nat) (r : Octets) : (s.complete op c st i r).rdg.join = s.rdg.join :=
  (s.complete_shared op c st i r).rdg_join
@[simp] theorem State.complete_rdg_next (s : State) (op : Nat) (c : Cmd) (st : Status) (i : Nat) (r : Octets) : (s.complete op c st i r).rdg.next = s.rdg.next :=
  (s.complete_shared op c st i r).rdg_next
@[simp] theorem State.complete_rdg_switchover (s : State) (op : Nat) (c : Cmd) (st : Status) (i : Nat) (r : Octets) : (s.complete op c st i r).rdg.switchover = s.rdg.switchover :=
  (s.complete_shared op c st i r).rdg_switchover
@[simp] theorem State.complete_rdg_received (s : State) (op : Nat) (c : Cmd) (st : Status) (i : Nat) (r : Octets) : (s.complete op c st i r).rdg.received = s.rdg.received :=
  (s.complete_shared op c st i r).rdg_received
@[simp] theorem State.complete_rdg_own (s : State) (op : Nat) (c : Cmd) (st : Status) (i : Nat) (r : Octets) : (s.complete op c st i r).rdg.own = s.rdg.own :=
  (s.complete_shared op c st i r).rdg_own
@[simp] theorem State.complete_rdg_joinRequested (s : State) (op : Nat) (c : Cmd) (st : Status) (i : Nat) (r : Octets) : (s.complete op c st i r).rdg.joinRequested = s.rdg.joinRequested :=
  (s.complete_shared op c st i r).rdg_joinRequested
@[simp] theorem State.complete_rdg_objects (s : State) (op : Nat) (c : Cmd) (st : Status) (i : Nat) (r : Octets) : (s.complete op c st i r).rdg.objects = s.rdg.objects :=
  (s.complete_shared op c st i r).rdg_objects
@[simp] theorem State.complete_rdg_backoff (s : State) (op : Nat) (c : Cmd) (st : Status) (i : Nat) (r : Octets) : (s.complete op c st i r).rdg.backoff = s.rdg.backoff :=
  (s.complete_shared op c st i r).rdg_backoff
@[simp] theorem State.complete_rdg_claimSent (s : State) (op : Nat) (c : Cmd) (st : Status) (i : Nat) (r : Octets) : (s.complete op c st i r).rdg.claimSent = s.rdg.claimSent :=
  (s.complete_shared op c st i r).rdg_claimSent
@[simp] theorem State.complete_rdg_helloSent (s : State) (op : Nat) (c : Cmd) (st : Status) (i : Nat) (r : Octets) : (s.complete op c st i r).rdg.helloSent = s.rdg.helloSent :=
  (s.complete_shared op c st i r).rdg_helloSent
@[simp] theorem State.complete_rdg_helloSeen (s : State) (op : Nat) (c : Cmd) (st : Status) (i : Nat) (r : Octets) : (s.complete op c st i r).rdg.helloSeen = s.rdg.helloSeen :=
  (s.complete_shared op c st i r).rdg_helloSeen
@[simp] theorem State.complete_rdg_silent (s : State) (op : Nat) (c : Cmd) (st : Status) (i : Nat) (r : Octets) : (s.complete op c st i r).rdg.silent = s.rdg.silent :=
  (s.complete_shared op c st i r).rdg_silent
@[simp] theorem State.complete_rdg_heard (s : State) (op : Nat) (c : Cmd) (st : Status) (i : Nat) (r : Octets) : (s.complete op c st i r).rdg.heard = s.rdg.heard :=
  (s.complete_shared op c st i r).rdg_heard
@[simp] theorem State.complete_rdg_rxSeq (s : State) (op : Nat) (c : Cmd) (st : Status) (i : Nat) (r : Octets) : (s.complete op c st i r).rdg.rxSeq = s.rdg.rxSeq :=
  (s.complete_shared op c st i r).rdg_rxSeq
@[simp] theorem State.complete_rdg_erasures (s : State) (op : Nat) (c : Cmd) (st : Status) (i : Nat) (r : Octets) : (s.complete op c st i r).rdg.erasures = s.rdg.erasures :=
  (s.complete_shared op c st i r).rdg_erasures
@[simp] theorem State.complete_rdg_partner (s : State) (op : Nat) (c : Cmd) (st : Status) (i : Nat) (r : Octets) : (s.complete op c st i r).rdg.partner = s.rdg.partner :=
  (s.complete_shared op c st i r).rdg_partner
@[simp] theorem State.complete_evt_loaded (s : State) (op : Nat) (c : Cmd) (st : Status) (i : Nat) (r : Octets) : (s.complete op c st i r).evt.loaded = s.evt.loaded :=
  (s.complete_shared op c st i r).evt_loaded
@[simp] theorem State.complete_evt_fetching (s : State) (op : Nat) (c : Cmd) (st : Status) (i : Nat) (r : Octets) : (s.complete op c st i r).evt.fetching = s.evt.fetching :=
  (s.complete_shared op c st i r).evt_fetching
@[simp] theorem State.complete_evt_latched (s : State) (op : Nat) (c : Cmd) (st : Status) (i : Nat) (r : Octets) : (s.complete op c st i r).evt.latched = s.evt.latched :=
  (s.complete_shared op c st i r).evt_latched
@[simp] theorem State.complete_evt_provisional (s : State) (op : Nat) (c : Cmd) (st : Status) (i : Nat) (r : Octets) : (s.complete op c st i r).evt.provisional = s.evt.provisional :=
  (s.complete_shared op c st i r).evt_provisional
@[simp] theorem State.complete_latch (s : State) (op : Nat) (c : Cmd) (st : Status) (i : Nat) (r : Octets) : (s.complete op c st i r).latch = s.latch :=
  (s.complete_shared op c st i r).latch
@[simp] theorem State.complete_held (s : State) (op : Nat) (c : Cmd) (st : Status) (i : Nat) (r : Octets) : (s.complete op c st i r).held = s.held :=
  (s.complete_shared op c st i r).held
@[simp] theorem State.complete_overrides (s : State) (op : Nat) (c : Cmd) (st : Status) (i : Nat) (r : Octets) : (s.complete op c st i r).overrides = s.overrides :=
  (s.complete_shared op c st i r).overrides
@[simp] theorem State.complete_cfgPend (s : State) (op : Nat) (c : Cmd) (st : Status) (i : Nat) (r : Octets) : (s.complete op c st i r).cfgPend = s.cfgPend :=
  (s.complete_shared op c st i r).cfgPend
@[simp] theorem State.complete_hung (s : State) (op : Nat) (c : Cmd) (st : Status) (i : Nat) (r : Octets) : (s.complete op c st i r).hung = s.hung :=
  (s.complete_shared op c st i r).hung
@[simp] theorem State.complete_free (s : State) (op : Nat) (c : Cmd) (st : Status) (i : Nat) (r : Octets) : (s.complete op c st i r).free = s.free :=
  (s.complete_shared op c st i r).free
@[simp] theorem State.complete_crs (s : State) (op : Nat) (c : Cmd) (st : Status) (i : Nat) (r : Octets) : (s.complete op c st i r).crs = s.crs :=
  (s.complete_shared op c st i r).crs
@[simp] theorem State.complete_cel (s : State) (op : Nat) (c : Cmd) (st : Status) (i : Nat) (r : Octets) : (s.complete op c st i r).cel = s.cel :=
  (s.complete_shared op c st i r).cel
@[simp] theorem State.complete_swc (s : State) (op : Nat) (c : Cmd) (st : Status) (i : Nat) (r : Octets) : (s.complete op c st i r).swc = s.swc :=
  (s.complete_shared op c st i r).swc
@[simp] theorem State.complete_tim (s : State) (op : Nat) (c : Cmd) (st : Status) (i : Nat) (r : Octets) : (s.complete op c st i r).tim = s.tim :=
  (s.complete_shared op c st i r).tim
@[simp] theorem State.complete_key (s : State) (op : Nat) (c : Cmd) (st : Status) (i : Nat) (r : Octets) : (s.complete op c st i r).key = s.key :=
  (s.complete_shared op c st i r).key
@[simp] theorem State.complete_saf (s : State) (op : Nat) (c : Cmd) (st : Status) (i : Nat) (r : Octets) : (s.complete op c st i r).saf = s.saf :=
  (s.complete_shared op c st i r).saf
@[simp] theorem State.complete_mtb (s : State) (op : Nat) (c : Cmd) (st : Status) (i : Nat) (r : Octets) : (s.complete op c st i r).mtb = s.mtb :=
  (s.complete_shared op c st i r).mtb
@[simp] theorem State.complete_meters (s : State) (op : Nat) (c : Cmd) (st : Status) (i : Nat) (r : Octets) : (s.complete op c st i r).meters = s.meters :=
  (s.complete_shared op c st i r).meters
@[simp] theorem State.complete_bill (s : State) (op : Nat) (c : Cmd) (st : Status) (i : Nat) (r : Octets) : (s.complete op c st i r).bill = s.bill :=
  (s.complete_shared op c st i r).bill
@[simp] theorem State.complete_val (s : State) (op : Nat) (c : Cmd) (st : Status) (i : Nat) (r : Octets) : (s.complete op c st i r).val = s.val :=
  (s.complete_shared op c st i r).val
@[simp] theorem State.complete_arc (s : State) (op : Nat) (c : Cmd) (st : Status) (i : Nat) (r : Octets) : (s.complete op c st i r).arc = s.arc :=
  (s.complete_shared op c st i r).arc
@[simp] theorem State.complete_eav (s : State) (op : Nat) (c : Cmd) (st : Status) (i : Nat) (r : Octets) : (s.complete op c st i r).eav = s.eav :=
  (s.complete_shared op c st i r).eav
@[simp] theorem State.complete_met (s : State) (op : Nat) (c : Cmd) (st : Status) (i : Nat) (r : Octets) : (s.complete op c st i r).met = s.met :=
  (s.complete_shared op c st i r).met
@[simp] theorem State.complete_tmp (s : State) (op : Nat) (c : Cmd) (st : Status) (i : Nat) (r : Octets) : (s.complete op c st i r).tmp = s.tmp :=
  (s.complete_shared op c st i r).tmp
@[simp] theorem State.complete_otp (s : State) (op : Nat) (c : Cmd) (st : Status) (i : Nat) (r : Octets) : (s.complete op c st i r).otp = s.otp :=
  (s.complete_shared op c st i r).otp
@[simp] theorem State.complete_hlt (s : State) (op : Nat) (c : Cmd) (st : Status) (i : Nat) (r : Octets) : (s.complete op c st i r).hlt = s.hlt :=
  (s.complete_shared op c st i r).hlt
@[simp] theorem State.complete_lane (s : State) (op : Nat) (c : Cmd) (st : Status) (i : Nat) (r : Octets) : (s.complete op c st i r).lane = s.lane :=
  (s.complete_shared op c st i r).lane
@[simp] theorem State.complete_pending (s : State) (op : Nat) (c : Cmd) (st : Status) (i : Nat) (r : Octets) : (s.complete op c st i r).pending = s.pending :=
  (s.complete_shared op c st i r).pending

@[simp] theorem State.returnData_hst_ownership (s : State) (c : Cmd) (l : Octets) : (s.returnData c l).hst.ownership = s.hst.ownership :=
  (s.returnData_shared c l).hst_ownership
@[simp] theorem State.returnData_hst_inputLog (s : State) (c : Cmd) (l : Octets) : (s.returnData c l).hst.inputLog = s.hst.inputLog :=
  (s.returnData_shared c l).hst_inputLog
@[simp] theorem State.returnData_hst_bifurcation (s : State) (c : Cmd) (l : Octets) : (s.returnData c l).hst.bifurcation = s.hst.bifurcation :=
  (s.returnData_shared c l).hst_bifurcation
@[simp] theorem State.returnData_rdg_phase (s : State) (c : Cmd) (l : Octets) : (s.returnData c l).rdg.phase = s.rdg.phase :=
  (s.returnData_shared c l).rdg_phase
@[simp] theorem State.returnData_rdg_epoch (s : State) (c : Cmd) (l : Octets) : (s.returnData c l).rdg.epoch = s.rdg.epoch :=
  (s.returnData_shared c l).rdg_epoch
@[simp] theorem State.returnData_rdg_applying (s : State) (c : Cmd) (l : Octets) : (s.returnData c l).rdg.applying = s.rdg.applying :=
  (s.returnData_shared c l).rdg_applying
@[simp] theorem State.returnData_rdg_arbitration (s : State) (c : Cmd) (l : Octets) : (s.returnData c l).rdg.arbitration = s.rdg.arbitration :=
  (s.returnData_shared c l).rdg_arbitration
@[simp] theorem State.returnData_rdg_verdict (s : State) (c : Cmd) (l : Octets) : (s.returnData c l).rdg.verdict = s.rdg.verdict :=
  (s.returnData_shared c l).rdg_verdict
@[simp] theorem State.returnData_rdg_join (s : State) (c : Cmd) (l : Octets) : (s.returnData c l).rdg.join = s.rdg.join :=
  (s.returnData_shared c l).rdg_join
@[simp] theorem State.returnData_rdg_next (s : State) (c : Cmd) (l : Octets) : (s.returnData c l).rdg.next = s.rdg.next :=
  (s.returnData_shared c l).rdg_next
@[simp] theorem State.returnData_rdg_switchover (s : State) (c : Cmd) (l : Octets) : (s.returnData c l).rdg.switchover = s.rdg.switchover :=
  (s.returnData_shared c l).rdg_switchover
@[simp] theorem State.returnData_rdg_received (s : State) (c : Cmd) (l : Octets) : (s.returnData c l).rdg.received = s.rdg.received :=
  (s.returnData_shared c l).rdg_received
@[simp] theorem State.returnData_rdg_own (s : State) (c : Cmd) (l : Octets) : (s.returnData c l).rdg.own = s.rdg.own :=
  (s.returnData_shared c l).rdg_own
@[simp] theorem State.returnData_rdg_joinRequested (s : State) (c : Cmd) (l : Octets) : (s.returnData c l).rdg.joinRequested = s.rdg.joinRequested :=
  (s.returnData_shared c l).rdg_joinRequested
@[simp] theorem State.returnData_rdg_objects (s : State) (c : Cmd) (l : Octets) : (s.returnData c l).rdg.objects = s.rdg.objects :=
  (s.returnData_shared c l).rdg_objects
@[simp] theorem State.returnData_rdg_backoff (s : State) (c : Cmd) (l : Octets) : (s.returnData c l).rdg.backoff = s.rdg.backoff :=
  (s.returnData_shared c l).rdg_backoff
@[simp] theorem State.returnData_rdg_claimSent (s : State) (c : Cmd) (l : Octets) : (s.returnData c l).rdg.claimSent = s.rdg.claimSent :=
  (s.returnData_shared c l).rdg_claimSent
@[simp] theorem State.returnData_rdg_helloSent (s : State) (c : Cmd) (l : Octets) : (s.returnData c l).rdg.helloSent = s.rdg.helloSent :=
  (s.returnData_shared c l).rdg_helloSent
@[simp] theorem State.returnData_rdg_helloSeen (s : State) (c : Cmd) (l : Octets) : (s.returnData c l).rdg.helloSeen = s.rdg.helloSeen :=
  (s.returnData_shared c l).rdg_helloSeen
@[simp] theorem State.returnData_rdg_silent (s : State) (c : Cmd) (l : Octets) : (s.returnData c l).rdg.silent = s.rdg.silent :=
  (s.returnData_shared c l).rdg_silent
@[simp] theorem State.returnData_rdg_heard (s : State) (c : Cmd) (l : Octets) : (s.returnData c l).rdg.heard = s.rdg.heard :=
  (s.returnData_shared c l).rdg_heard
@[simp] theorem State.returnData_rdg_rxSeq (s : State) (c : Cmd) (l : Octets) : (s.returnData c l).rdg.rxSeq = s.rdg.rxSeq :=
  (s.returnData_shared c l).rdg_rxSeq
@[simp] theorem State.returnData_rdg_erasures (s : State) (c : Cmd) (l : Octets) : (s.returnData c l).rdg.erasures = s.rdg.erasures :=
  (s.returnData_shared c l).rdg_erasures
@[simp] theorem State.returnData_rdg_partner (s : State) (c : Cmd) (l : Octets) : (s.returnData c l).rdg.partner = s.rdg.partner :=
  (s.returnData_shared c l).rdg_partner
@[simp] theorem State.returnData_evt_loaded (s : State) (c : Cmd) (l : Octets) : (s.returnData c l).evt.loaded = s.evt.loaded :=
  (s.returnData_shared c l).evt_loaded
@[simp] theorem State.returnData_evt_fetching (s : State) (c : Cmd) (l : Octets) : (s.returnData c l).evt.fetching = s.evt.fetching :=
  (s.returnData_shared c l).evt_fetching
@[simp] theorem State.returnData_evt_latched (s : State) (c : Cmd) (l : Octets) : (s.returnData c l).evt.latched = s.evt.latched :=
  (s.returnData_shared c l).evt_latched
@[simp] theorem State.returnData_evt_provisional (s : State) (c : Cmd) (l : Octets) : (s.returnData c l).evt.provisional = s.evt.provisional :=
  (s.returnData_shared c l).evt_provisional
@[simp] theorem State.returnData_latch (s : State) (c : Cmd) (l : Octets) : (s.returnData c l).latch = s.latch :=
  (s.returnData_shared c l).latch
@[simp] theorem State.returnData_held (s : State) (c : Cmd) (l : Octets) : (s.returnData c l).held = s.held :=
  (s.returnData_shared c l).held
@[simp] theorem State.returnData_overrides (s : State) (c : Cmd) (l : Octets) : (s.returnData c l).overrides = s.overrides :=
  (s.returnData_shared c l).overrides
@[simp] theorem State.returnData_cfgPend (s : State) (c : Cmd) (l : Octets) : (s.returnData c l).cfgPend = s.cfgPend :=
  (s.returnData_shared c l).cfgPend
@[simp] theorem State.returnData_hung (s : State) (c : Cmd) (l : Octets) : (s.returnData c l).hung = s.hung :=
  (s.returnData_shared c l).hung
@[simp] theorem State.returnData_free (s : State) (c : Cmd) (l : Octets) : (s.returnData c l).free = s.free :=
  (s.returnData_shared c l).free
@[simp] theorem State.returnData_crs (s : State) (c : Cmd) (l : Octets) : (s.returnData c l).crs = s.crs :=
  (s.returnData_shared c l).crs
@[simp] theorem State.returnData_cel (s : State) (c : Cmd) (l : Octets) : (s.returnData c l).cel = s.cel :=
  (s.returnData_shared c l).cel
@[simp] theorem State.returnData_swc (s : State) (c : Cmd) (l : Octets) : (s.returnData c l).swc = s.swc :=
  (s.returnData_shared c l).swc
@[simp] theorem State.returnData_tim (s : State) (c : Cmd) (l : Octets) : (s.returnData c l).tim = s.tim :=
  (s.returnData_shared c l).tim
@[simp] theorem State.returnData_key (s : State) (c : Cmd) (l : Octets) : (s.returnData c l).key = s.key :=
  (s.returnData_shared c l).key
@[simp] theorem State.returnData_saf (s : State) (c : Cmd) (l : Octets) : (s.returnData c l).saf = s.saf :=
  (s.returnData_shared c l).saf
@[simp] theorem State.returnData_mtb (s : State) (c : Cmd) (l : Octets) : (s.returnData c l).mtb = s.mtb :=
  (s.returnData_shared c l).mtb
@[simp] theorem State.returnData_meters (s : State) (c : Cmd) (l : Octets) : (s.returnData c l).meters = s.meters :=
  (s.returnData_shared c l).meters
@[simp] theorem State.returnData_bill (s : State) (c : Cmd) (l : Octets) : (s.returnData c l).bill = s.bill :=
  (s.returnData_shared c l).bill
@[simp] theorem State.returnData_val (s : State) (c : Cmd) (l : Octets) : (s.returnData c l).val = s.val :=
  (s.returnData_shared c l).val
@[simp] theorem State.returnData_arc (s : State) (c : Cmd) (l : Octets) : (s.returnData c l).arc = s.arc :=
  (s.returnData_shared c l).arc
@[simp] theorem State.returnData_eav (s : State) (c : Cmd) (l : Octets) : (s.returnData c l).eav = s.eav :=
  (s.returnData_shared c l).eav
@[simp] theorem State.returnData_met (s : State) (c : Cmd) (l : Octets) : (s.returnData c l).met = s.met :=
  (s.returnData_shared c l).met
@[simp] theorem State.returnData_tmp (s : State) (c : Cmd) (l : Octets) : (s.returnData c l).tmp = s.tmp :=
  (s.returnData_shared c l).tmp
@[simp] theorem State.returnData_otp (s : State) (c : Cmd) (l : Octets) : (s.returnData c l).otp = s.otp :=
  (s.returnData_shared c l).otp
@[simp] theorem State.returnData_hlt (s : State) (c : Cmd) (l : Octets) : (s.returnData c l).hlt = s.hlt :=
  (s.returnData_shared c l).hlt
@[simp] theorem State.returnData_lane (s : State) (c : Cmd) (l : Octets) : (s.returnData c l).lane = s.lane :=
  (s.returnData_shared c l).lane
@[simp] theorem State.returnData_pending (s : State) (c : Cmd) (l : Octets) : (s.returnData c l).pending = s.pending :=
  (s.returnData_shared c l).pending

@[simp] theorem State.capture_hst_ownership (s : State) (f a : Nat) (w : WswReason) : (s.capture f a w).hst.ownership = s.hst.ownership :=
  (s.capture_shared f a w).hst_ownership
@[simp] theorem State.capture_hst_inputLog (s : State) (f a : Nat) (w : WswReason) : (s.capture f a w).hst.inputLog = s.hst.inputLog :=
  (s.capture_shared f a w).hst_inputLog
@[simp] theorem State.capture_hst_bifurcation (s : State) (f a : Nat) (w : WswReason) : (s.capture f a w).hst.bifurcation = s.hst.bifurcation :=
  (s.capture_shared f a w).hst_bifurcation
@[simp] theorem State.capture_rdg_phase (s : State) (f a : Nat) (w : WswReason) : (s.capture f a w).rdg.phase = s.rdg.phase :=
  (s.capture_shared f a w).rdg_phase
@[simp] theorem State.capture_rdg_epoch (s : State) (f a : Nat) (w : WswReason) : (s.capture f a w).rdg.epoch = s.rdg.epoch :=
  (s.capture_shared f a w).rdg_epoch
@[simp] theorem State.capture_rdg_applying (s : State) (f a : Nat) (w : WswReason) : (s.capture f a w).rdg.applying = s.rdg.applying :=
  (s.capture_shared f a w).rdg_applying
@[simp] theorem State.capture_rdg_arbitration (s : State) (f a : Nat) (w : WswReason) : (s.capture f a w).rdg.arbitration = s.rdg.arbitration :=
  (s.capture_shared f a w).rdg_arbitration
@[simp] theorem State.capture_rdg_verdict (s : State) (f a : Nat) (w : WswReason) : (s.capture f a w).rdg.verdict = s.rdg.verdict :=
  (s.capture_shared f a w).rdg_verdict
@[simp] theorem State.capture_rdg_join (s : State) (f a : Nat) (w : WswReason) : (s.capture f a w).rdg.join = s.rdg.join :=
  (s.capture_shared f a w).rdg_join
@[simp] theorem State.capture_rdg_next (s : State) (f a : Nat) (w : WswReason) : (s.capture f a w).rdg.next = s.rdg.next :=
  (s.capture_shared f a w).rdg_next
@[simp] theorem State.capture_rdg_switchover (s : State) (f a : Nat) (w : WswReason) : (s.capture f a w).rdg.switchover = s.rdg.switchover :=
  (s.capture_shared f a w).rdg_switchover
@[simp] theorem State.capture_rdg_received (s : State) (f a : Nat) (w : WswReason) : (s.capture f a w).rdg.received = s.rdg.received :=
  (s.capture_shared f a w).rdg_received
@[simp] theorem State.capture_rdg_own (s : State) (f a : Nat) (w : WswReason) : (s.capture f a w).rdg.own = s.rdg.own :=
  (s.capture_shared f a w).rdg_own
@[simp] theorem State.capture_rdg_joinRequested (s : State) (f a : Nat) (w : WswReason) : (s.capture f a w).rdg.joinRequested = s.rdg.joinRequested :=
  (s.capture_shared f a w).rdg_joinRequested
@[simp] theorem State.capture_rdg_objects (s : State) (f a : Nat) (w : WswReason) : (s.capture f a w).rdg.objects = s.rdg.objects :=
  (s.capture_shared f a w).rdg_objects
@[simp] theorem State.capture_rdg_backoff (s : State) (f a : Nat) (w : WswReason) : (s.capture f a w).rdg.backoff = s.rdg.backoff :=
  (s.capture_shared f a w).rdg_backoff
@[simp] theorem State.capture_rdg_claimSent (s : State) (f a : Nat) (w : WswReason) : (s.capture f a w).rdg.claimSent = s.rdg.claimSent :=
  (s.capture_shared f a w).rdg_claimSent
@[simp] theorem State.capture_rdg_helloSent (s : State) (f a : Nat) (w : WswReason) : (s.capture f a w).rdg.helloSent = s.rdg.helloSent :=
  (s.capture_shared f a w).rdg_helloSent
@[simp] theorem State.capture_rdg_helloSeen (s : State) (f a : Nat) (w : WswReason) : (s.capture f a w).rdg.helloSeen = s.rdg.helloSeen :=
  (s.capture_shared f a w).rdg_helloSeen
@[simp] theorem State.capture_rdg_silent (s : State) (f a : Nat) (w : WswReason) : (s.capture f a w).rdg.silent = s.rdg.silent :=
  (s.capture_shared f a w).rdg_silent
@[simp] theorem State.capture_rdg_heard (s : State) (f a : Nat) (w : WswReason) : (s.capture f a w).rdg.heard = s.rdg.heard :=
  (s.capture_shared f a w).rdg_heard
@[simp] theorem State.capture_rdg_rxSeq (s : State) (f a : Nat) (w : WswReason) : (s.capture f a w).rdg.rxSeq = s.rdg.rxSeq :=
  (s.capture_shared f a w).rdg_rxSeq
@[simp] theorem State.capture_rdg_erasures (s : State) (f a : Nat) (w : WswReason) : (s.capture f a w).rdg.erasures = s.rdg.erasures :=
  (s.capture_shared f a w).rdg_erasures
@[simp] theorem State.capture_rdg_partner (s : State) (f a : Nat) (w : WswReason) : (s.capture f a w).rdg.partner = s.rdg.partner :=
  (s.capture_shared f a w).rdg_partner
@[simp] theorem State.capture_evt_loaded (s : State) (f a : Nat) (w : WswReason) : (s.capture f a w).evt.loaded = s.evt.loaded :=
  (s.capture_shared f a w).evt_loaded
@[simp] theorem State.capture_evt_fetching (s : State) (f a : Nat) (w : WswReason) : (s.capture f a w).evt.fetching = s.evt.fetching :=
  (s.capture_shared f a w).evt_fetching
@[simp] theorem State.capture_evt_latched (s : State) (f a : Nat) (w : WswReason) : (s.capture f a w).evt.latched = s.evt.latched :=
  (s.capture_shared f a w).evt_latched
@[simp] theorem State.capture_evt_provisional (s : State) (f a : Nat) (w : WswReason) : (s.capture f a w).evt.provisional = s.evt.provisional :=
  (s.capture_shared f a w).evt_provisional
@[simp] theorem State.capture_latch (s : State) (f a : Nat) (w : WswReason) : (s.capture f a w).latch = s.latch :=
  (s.capture_shared f a w).latch
@[simp] theorem State.capture_held (s : State) (f a : Nat) (w : WswReason) : (s.capture f a w).held = s.held :=
  (s.capture_shared f a w).held
@[simp] theorem State.capture_overrides (s : State) (f a : Nat) (w : WswReason) : (s.capture f a w).overrides = s.overrides :=
  (s.capture_shared f a w).overrides
@[simp] theorem State.capture_cfgPend (s : State) (f a : Nat) (w : WswReason) : (s.capture f a w).cfgPend = s.cfgPend :=
  (s.capture_shared f a w).cfgPend
@[simp] theorem State.capture_hung (s : State) (f a : Nat) (w : WswReason) : (s.capture f a w).hung = s.hung :=
  (s.capture_shared f a w).hung
@[simp] theorem State.capture_free (s : State) (f a : Nat) (w : WswReason) : (s.capture f a w).free = s.free :=
  (s.capture_shared f a w).free
@[simp] theorem State.capture_crs (s : State) (f a : Nat) (w : WswReason) : (s.capture f a w).crs = s.crs :=
  (s.capture_shared f a w).crs
@[simp] theorem State.capture_cel (s : State) (f a : Nat) (w : WswReason) : (s.capture f a w).cel = s.cel :=
  (s.capture_shared f a w).cel
@[simp] theorem State.capture_swc (s : State) (f a : Nat) (w : WswReason) : (s.capture f a w).swc = s.swc :=
  (s.capture_shared f a w).swc
@[simp] theorem State.capture_tim (s : State) (f a : Nat) (w : WswReason) : (s.capture f a w).tim = s.tim :=
  (s.capture_shared f a w).tim
@[simp] theorem State.capture_key (s : State) (f a : Nat) (w : WswReason) : (s.capture f a w).key = s.key :=
  (s.capture_shared f a w).key
@[simp] theorem State.capture_saf (s : State) (f a : Nat) (w : WswReason) : (s.capture f a w).saf = s.saf :=
  (s.capture_shared f a w).saf
@[simp] theorem State.capture_mtb (s : State) (f a : Nat) (w : WswReason) : (s.capture f a w).mtb = s.mtb :=
  (s.capture_shared f a w).mtb
@[simp] theorem State.capture_meters (s : State) (f a : Nat) (w : WswReason) : (s.capture f a w).meters = s.meters :=
  (s.capture_shared f a w).meters
@[simp] theorem State.capture_bill (s : State) (f a : Nat) (w : WswReason) : (s.capture f a w).bill = s.bill :=
  (s.capture_shared f a w).bill
@[simp] theorem State.capture_val (s : State) (f a : Nat) (w : WswReason) : (s.capture f a w).val = s.val :=
  (s.capture_shared f a w).val
@[simp] theorem State.capture_arc (s : State) (f a : Nat) (w : WswReason) : (s.capture f a w).arc = s.arc :=
  (s.capture_shared f a w).arc
@[simp] theorem State.capture_eav (s : State) (f a : Nat) (w : WswReason) : (s.capture f a w).eav = s.eav :=
  (s.capture_shared f a w).eav
@[simp] theorem State.capture_met (s : State) (f a : Nat) (w : WswReason) : (s.capture f a w).met = s.met :=
  (s.capture_shared f a w).met
@[simp] theorem State.capture_tmp (s : State) (f a : Nat) (w : WswReason) : (s.capture f a w).tmp = s.tmp :=
  (s.capture_shared f a w).tmp
@[simp] theorem State.capture_otp (s : State) (f a : Nat) (w : WswReason) : (s.capture f a w).otp = s.otp :=
  (s.capture_shared f a w).otp
@[simp] theorem State.capture_hlt (s : State) (f a : Nat) (w : WswReason) : (s.capture f a w).hlt = s.hlt :=
  (s.capture_shared f a w).hlt
@[simp] theorem State.capture_lane (s : State) (f a : Nat) (w : WswReason) : (s.capture f a w).lane = s.lane :=
  (s.capture_shared f a w).lane
@[simp] theorem State.capture_pending (s : State) (f a : Nat) (w : WswReason) : (s.capture f a w).pending = s.pending :=
  (s.capture_shared f a w).pending

end Sys2Proof.Machine
end

