-- ==== Sys2Proof/Laws/Regs.lean ====
section
/-!
SUPPORT. Laws/Regs.lean: register fields: read after write, and which registers the shared operations leave alone.
-/

namespace Sys2Proof.Machine

set_option Elab.async false

/-! ### Bits -/

theorem two_pow_split {hi lo : Nat} (h : lo ≤ hi) : 2 ^ (hi + 1) = 2 ^ lo * 2 ^ (hi + 1 - lo) := by
  rw [← Nat.pow_add]; congr 1; omega

theorem bitsOf_lt (hi lo n : Nat) : bitsOf hi lo n < 2 ^ (hi + 1 - lo) := Nat.mod_lt _ (Nat.two_pow_pos _)

theorem putBits_eq {hi lo : Nat} (h : lo ≤ hi) (n v : Nat) :
    putBits hi lo n v = 2 ^ lo * (2 ^ (hi + 1 - lo) * (n / 2 ^ (hi + 1)) + v % 2 ^ (hi + 1 - lo)) + n % 2 ^ lo := by
  unfold putBits
  rw [two_pow_split h, Nat.mul_add, Nat.mul_comm (v % _) (2 ^ lo)]
  congr 2
  rw [Nat.mul_comm, Nat.mul_assoc]

/-- A field reads what was put into it, as far as its width goes. -/
theorem bitsOf_putBits_same {hi lo : Nat} (h : lo ≤ hi) (n v : Nat) :
    bitsOf hi lo (putBits hi lo n v) = v % 2 ^ (hi + 1 - lo) := by
  unfold bitsOf
  rw [putBits_eq h, Nat.mul_add_div (Nat.two_pow_pos lo), Nat.div_eq_of_lt (Nat.mod_lt n (Nat.two_pow_pos lo)), Nat.add_zero,
    Nat.mul_add_mod, Nat.mod_mod]

/-- A field below another one keeps its value. -/
theorem bitsOf_putBits_below {hi lo h l : Nat} (hl : lo ≤ hi) (hb : h < lo) (n v : Nat) :
    bitsOf h l (putBits hi lo n v) = bitsOf h l n := by
  unfold bitsOf
  rw [putBits_eq hl]
  by_cases hlh : l ≤ h
  · have e : 2 ^ lo = 2 ^ l * (2 ^ (h + 1 - l) * 2 ^ (lo - (h + 1))) := by
      rw [← Nat.pow_add, ← Nat.pow_add]; congr 1; omega
    have m : ∀ x : Nat, (2 ^ lo * x + n % 2 ^ lo) / 2 ^ l % 2 ^ (h + 1 - l) = n % 2 ^ lo / 2 ^ l % 2 ^ (h + 1 - l) := by
      intro x
      rw [e, Nat.mul_assoc, Nat.mul_add_div (Nat.two_pow_pos l), Nat.mul_assoc, Nat.mul_add_mod]
    rw [m, e, Nat.mod_mul_right_div_self, Nat.mod_mod_of_dvd _ ⟨_, rfl⟩]
  · have e : h + 1 - l = 0 := by omega
    rw [e]; simp [Nat.mod_one]

/-- A field above another one keeps its value. -/
theorem bitsOf_putBits_above {hi lo h l : Nat} (hl : lo ≤ hi) (hb : hi < l) (n v : Nat) :
    bitsOf h l (putBits hi lo n v) = bitsOf h l n := by
  unfold bitsOf
  have low : v % 2 ^ (hi + 1 - lo) * 2 ^ lo + n % 2 ^ lo < 2 ^ (hi + 1) := by
    have a : v % 2 ^ (hi + 1 - lo) + 1 ≤ 2 ^ (hi + 1 - lo) := Nat.mod_lt _ (Nat.two_pow_pos _)
    have b : n % 2 ^ lo < 2 ^ lo := Nat.mod_lt _ (Nat.two_pow_pos _)
    have c : (v % 2 ^ (hi + 1 - lo) + 1) * 2 ^ lo ≤ 2 ^ (hi + 1 - lo) * 2 ^ lo := Nat.mul_le_mul_right _ a
    rw [two_pow_split hl, Nat.mul_comm (2 ^ lo)]
    rw [Nat.add_mul, Nat.one_mul] at c
    omega
  have e : 2 ^ l = 2 ^ (hi + 1) * 2 ^ (l - (hi + 1)) := by rw [← Nat.pow_add]; congr 1; omega
  congr 1
  unfold putBits
  rw [e, ← Nat.div_div_eq_div_mul, ← Nat.div_div_eq_div_mul, Nat.add_assoc, Nat.mul_comm (n / _), Nat.mul_add_div (Nat.two_pow_pos _),
    Nat.div_eq_of_lt low, Nat.add_zero]

theorem putBits_lt {hi lo w : Nat} (hl : lo ≤ hi) (hw : hi < w) {n : Nat} (hn : n < 2 ^ w) (v : Nat) :
    putBits hi lo n v < 2 ^ w := by
  have e : 2 ^ w = 2 ^ (hi + 1) * 2 ^ (w - (hi + 1)) := by rw [← Nat.pow_add]; congr 1; omega
  have low : v % 2 ^ (hi + 1 - lo) * 2 ^ lo + n % 2 ^ lo < 2 ^ (hi + 1) := by
    have a : v % 2 ^ (hi + 1 - lo) + 1 ≤ 2 ^ (hi + 1 - lo) := Nat.mod_lt _ (Nat.two_pow_pos _)
    have b : n % 2 ^ lo < 2 ^ lo := Nat.mod_lt _ (Nat.two_pow_pos _)
    have c : (v % 2 ^ (hi + 1 - lo) + 1) * 2 ^ lo ≤ 2 ^ (hi + 1 - lo) * 2 ^ lo := Nat.mul_le_mul_right _ a
    rw [two_pow_split hl, Nat.mul_comm (2 ^ lo)]
    rw [Nat.add_mul, Nat.one_mul] at c
    omega
  have up : n / 2 ^ (hi + 1) + 1 ≤ 2 ^ (w - (hi + 1)) := by
    have : n / 2 ^ (hi + 1) < 2 ^ (w - (hi + 1)) := Nat.div_lt_of_lt_mul (by rw [← e]; exact hn)
    omega
  have c : (n / 2 ^ (hi + 1) + 1) * 2 ^ (hi + 1) ≤ 2 ^ (w - (hi + 1)) * 2 ^ (hi + 1) := Nat.mul_le_mul_right _ up
  unfold putBits
  rw [e, Nat.mul_comm (2 ^ (hi + 1))]
  rw [Nat.add_mul, Nat.one_mul] at c
  omega

/-! ### Words -/

@[simp] theorem State.word_setWord_same (s : State) (a : Nat) (v : Word) : (s.setWord a v).word a = v := by
  unfold State.word; simp

theorem State.word_setWord_ne (s : State) {a b : Nat} (v : Word) (h : b ≠ a) : (s.setWord a v).word b = s.word b := by
  unfold State.word
  rw [State.setWord_regs]
  exact FMap.get_set_other _ _ _ v h

theorem State.word_put_ne (s : State) (f : Fld) (v : Nat) {b : Nat} (h : b ≠ f.addr) : (s.put f v).word b = s.word b :=
  s.word_setWord_ne _ h

/-- A field of the register holds what was put into it. -/
theorem State.get_put_same (s : State) (f : Fld) (v : Nat) (h : f.lo ≤ f.hi) (hw : f.hi < 32) :
    (s.put f v).get f = v % 2 ^ (f.hi + 1 - f.lo) := by
  unfold State.get State.put
  rw [State.word_setWord_same, BitVec.toNat_ofNat, Nat.mod_eq_of_lt (putBits_lt h hw (s.word f.addr).isLt v), bitsOf_putBits_same h]

/-- A put into a field of another register leaves a field alone. -/
theorem State.get_put_ne (s : State) (f g : Fld) (v : Nat) (h : g.addr ≠ f.addr) : (s.put f v).get g = s.get g := by
  unfold State.get
  rw [s.word_put_ne f v h]

/-- A put into a field of the same register leaves the fields beside it alone. -/
theorem State.get_put_beside (s : State) (f g : Fld) (v : Nat) (h : f.lo ≤ f.hi) (hw : f.hi < 32) (ha : g.addr = f.addr)
    (hb : g.hi < f.lo ∨ f.hi < g.lo) : (s.put f v).get g = s.get g := by
  unfold State.get State.put
  rw [ha, State.word_setWord_same, BitVec.toNat_ofNat, Nat.mod_eq_of_lt (putBits_lt h hw (s.word f.addr).isLt v)]
  rcases hb with hb | hb
  · exact bitsOf_putBits_below h hb _ _
  · exact bitsOf_putBits_above h hb _ _

/-- A flag reads what was put into it. -/
theorem State.flag_putFlag_same (s : State) (f : Fld) (b : Bool) (h : f.hi = f.lo) (hw : f.hi < 32) :
    (s.putFlag f b).flag f = b := by
  unfold State.flag State.putFlag
  rw [s.get_put_same f _ (by omega) hw, h]
  have e : f.lo + 1 - f.lo = 1 := by omega
  rw [e]
  cases b <;> rfl

theorem State.get_bumpBy_same (s : State) (f : Fld) (n : Nat) (h : f.lo ≤ f.hi) (hw : f.hi < 32) :
    (s.bumpBy f n).get f = min (s.get f + n) (2 ^ (f.hi + 1 - f.lo) - 1) := by
  unfold State.bumpBy
  rw [s.get_put_same f _ h hw, Nat.mod_eq_of_lt]
  have := Nat.two_pow_pos (f.hi + 1 - f.lo)
  omega

theorem State.get64_put64 (s : State) (a v : Nat) : (s.put64 a v).get64 a = v % 2 ^ 64 := by
  unfold State.get64 State.put64
  rw [State.word_setWord_ne _ _ (by omega), State.word_setWord_same, State.word_setWord_same, BitVec.toNat_ofNat, BitVec.toNat_ofNat]
  omega

/-! ### Per-function registers -/

@[simp] theorem State.fword_setFword_same (s : State) (f a : Nat) (v : Word) : (s.setFword f a v).fword f a = v := by
  unfold State.fword; simp

theorem State.fword_setFword_ne (s : State) {f a g b : Nat} (v : Word) (h : funcKey g b ≠ funcKey f a) :
    (s.setFword f a v).fword g b = s.fword g b := by
  unfold State.fword
  rw [State.setFword_fregs]
  exact FMap.get_set_other _ _ _ v h

/-! ### Registers through the shared operations -/

theorem Counts.refl (s : State) : Counts s s := fun _ _ _ => rfl
theorem Counts.trans {s t u : State} (a : Counts s t) (b : Counts t u) : Counts s u :=
  fun x h k => (b x h k).trans (a x h k)
theorem Counts.of_regs {s t : State} (h : t.regs = s.regs) : Counts s t := fun _ _ _ => by unfold State.word; rw [h]
theorem Counts.ite {s a b : State} {c : Prop} [Decidable c] (ha : Counts s a) (hb : Counts s b) :
    Counts s (if c then a else b) := by
  split
  · exact ha
  · exact hb
theorem Counts.foldl {α : Type} (f : State → α → State) (h : ∀ s a, Counts s (f s a)) (l : List α) (s : State) :
    Counts s (l.foldl f s) := by
  induction l generalizing s with
  | nil => exact Counts.refl s
  | cons a l ih => exact (h s a).trans (ih (f s a))

@[simp] theorem State.msix_regs (s : State) (f v : Nat) : (s.msix f v).regs = s.regs := by unfold State.msix; split <;> rfl
@[simp] theorem State.ringInterrupt_regs (s : State) (f r : Nat) : (s.ringInterrupt f r).regs = s.regs := by
  unfold State.ringInterrupt
  dsimp only
  split
  · rfl
  · split
    · rfl
    · split <;> simp
@[simp] theorem State.produce_regs (s : State) (f r ty : Nat) (l : List Octets) : (s.produce f r ty l).2.regs = s.regs := by
  unfold State.produce
  dsimp only
  split
  · rfl
  · split
    · rfl
    · simp
@[simp] theorem State.note_regs (s : State) (k : Nat) (l : Octets) : (s.note k l).regs = s.regs := by
  unfold State.note; split <;> rfl
@[simp] theorem State.bulkDrain_regs (k : Nat) (s : State) : (State.bulkDrain k s).regs = s.regs := by
  induction k generalizing s with
  | zero => rfl
  | succ k ih =>
    unfold State.bulkDrain
    split
    · rfl
    · split
      · rfl
      · rw [ih]; rfl
@[simp] theorem State.bulk_regs (s : State) (k n : Nat) (l : Octets) : (s.bulk k n l).regs = s.regs := by
  unfold State.bulk
  split
  · rfl
  · simp
@[simp] theorem State.accepted_regs (s : State) (c : Cmd) : (s.accepted c).regs = s.regs := rfl
@[simp] theorem State.returnData_regs (s : State) (c : Cmd) (l : Octets) : (s.returnData c l).regs = s.regs := by
  unfold State.returnData; split <;> rfl

theorem State.bump_counts (s : State) (f : Fld) (n : Nat) (h : f.addr = Reg.HST_EVT_DROP_COUNT ∨ f.addr = Reg.EVT_LOST_COUNT) :
    Counts s (s.bumpBy f n) := fun a h1 h2 => s.word_put_ne f _ (by rcases h with h | h <;> rw [h] <;> assumption)

theorem State.routeTo_counts (s : State) (e : EvRec) (f : Nat) : Counts s (s.routeTo e f) := by
  have ring : Counts s
      (if !bitOf 31 (s.fword f (Reg.HST_EVT_ROUTE e.source)).toNat then s
       else if !s.ringAdmits f (bitsOf 7 0 (s.fword f (Reg.HST_EVT_ROUTE e.source)).toNat) 3 then s.bump Fl.HST_EVT_DROP_COUNT_COUNT
       else (s.produce f (bitsOf 7 0 (s.fword f (Reg.HST_EVT_ROUTE e.source)).toNat) 3 [e.octets]).2) :=
    Counts.ite (Counts.refl s) (Counts.ite (s.bump_counts _ 1 (Or.inl rfl)) (Counts.of_regs (by simp)))
  unfold State.routeTo
  exact Counts.ite (ring.trans (Counts.of_regs (by simp))) ring

theorem State.spill_counts (s : State) : Counts s s.spill := by
  unfold State.spill
  exact Counts.ite (Counts.of_regs rfl) ((Counts.of_regs rfl).trans (State.bump_counts _ _ _ (Or.inr rfl)))

theorem State.copyRecord_counts (s : State) (e : EvRec) : Counts s (s.copyRecord e) := by
  unfold State.copyRecord
  exact Counts.ite (Counts.of_regs (by simp)) (Counts.refl s)

theorem State.route_counts (s : State) (e : EvRec) : Counts s (s.route e) :=
  Counts.foldl _ (fun s f => s.routeTo_counts e f) _ s

theorem State.pushRecord_counts (s : State) (k u : Nat) (d : Octets) : Counts s (s.pushRecord k u d) := by
  unfold State.pushRecord
  refine ((Counts.trans ?_ (State.spill_counts _)).trans (State.route_counts _ _)).trans (State.copyRecord_counts _ _)
  exact Counts.refl s

theorem State.repeatRecord_counts (s : State) (e : EvRec) (l : List EvRec) : Counts s (s.repeatRecord e l) := by
  unfold State.repeatRecord
  refine (Counts.trans ?_ (State.route_counts _ _)).trans (State.copyRecord_counts _ _)
  exact Counts.refl s

theorem State.record_counts (s : State) (k u : Nat) (d : Octets) : Counts s (s.record k u d) := by
  unfold State.record
  dsimp only
  split
  · exact Counts.ite (s.repeatRecord_counts _ _) (s.pushRecord_counts _ _ _)
  · exact s.pushRecord_counts _ _ _

/-- A raise changes no register but the counters of dropped and lost records. -/
theorem State.raise_counts (s : State) (k : Nat) (d : Octets) : Counts s (s.raise k d) := by
  unfold State.raise
  exact Counts.ite (Counts.of_regs (by simp)) (Counts.ite ((s.record_counts _ _ _).trans (Counts.of_regs rfl)) (s.record_counts _ _ _))

theorem State.post_counts (s : State) (op : Nat) (c : Cmd) (st : Status) (i : Nat) (r : Octets) : Counts s (s.post' op c st i r) := by
  unfold State.post'
  exact Counts.ite ((Counts.of_regs (by simp)).trans (State.raise_counts _ _ _)) (Counts.of_regs (by simp))

/-- The end of a command changes no register but the counters of dropped and lost records. -/
theorem State.complete_counts (s : State) (op : Nat) (c : Cmd) (st : Status) (i : Nat) (r : Octets) :
    Counts s (s.complete op c st i r) := by
  have note : Counts s (if readClass op ∨ op < 5 then s else s.note 4 (completionOctets op c st i r)) :=
    Counts.ite (Counts.refl s) (Counts.of_regs (by simp))
  unfold State.complete
  exact note.trans (Counts.ite (Counts.refl _) (State.post_counts _ _ _ _ _ _))

theorem Counts.get {s t : State} (h : Counts s t) (f : Fld) (h1 : f.addr ≠ Reg.HST_EVT_DROP_COUNT) (h2 : f.addr ≠ Reg.EVT_LOST_COUNT) :
    t.get f = s.get f := by
  unfold State.get; rw [h f.addr h1 h2]

/-- A field of any other register keeps its value through a raise. -/
theorem State.raise_get (s : State) (k : Nat) (d : Octets) (f : Fld) (h1 : f.addr ≠ Reg.HST_EVT_DROP_COUNT)
    (h2 : f.addr ≠ Reg.EVT_LOST_COUNT) : (s.raise k d).get f = s.get f := (s.raise_counts k d).get f h1 h2

theorem State.complete_get (s : State) (op : Nat) (c : Cmd) (st : Status) (i : Nat) (r : Octets) (f : Fld)
    (h1 : f.addr ≠ Reg.HST_EVT_DROP_COUNT) (h2 : f.addr ≠ Reg.EVT_LOST_COUNT) : (s.complete op c st i r).get f = s.get f :=
  (s.complete_counts op c st i r).get f h1 h2

theorem State.post_get (s : State) (op : Nat) (c : Cmd) (st : Status) (i : Nat) (r : Octets) (f : Fld)
    (h1 : f.addr ≠ Reg.HST_EVT_DROP_COUNT) (h2 : f.addr ≠ Reg.EVT_LOST_COUNT) : (s.post' op c st i r).get f = s.get f :=
  (s.post_counts op c st i r).get f h1 h2

end Sys2Proof.Machine
end

