-- ==== Sys2Proof/Laws/Trace.lean ====
section
/-!
SUPPORT. Laws/Trace.lean: what the shared operations put out, and what they leave of each function but its rings.
-/

namespace Sys2Proof.Machine

set_option Elab.async false

/-! ### What has been put out stays -/

/-- `t` has put out what `s` has, and then more. -/
def Grows (s t : State) : Prop := ∃ l, t.out = l ++ s.out

theorem Grows.refl (s : State) : Grows s s := ⟨[], rfl⟩
theorem Grows.trans {s t u : State} (a : Grows s t) (b : Grows t u) : Grows s u := by
  obtain ⟨l, h⟩ := a
  obtain ⟨m, k⟩ := b
  exact ⟨m ++ l, by rw [k, h, List.append_assoc]⟩
theorem Grows.of_out {s t : State} (h : t.out = s.out) : Grows s t := ⟨[], h⟩
theorem Grows.of_cons {s t : State} {o : Out} (h : t.out = o :: s.out) : Grows s t := ⟨[o], h⟩
theorem Grows.ite {s a b : State} {c : Prop} [Decidable c] (ha : Grows s a) (hb : Grows s b) : Grows s (if c then a else b) := by
  split
  · exact ha
  · exact hb
theorem Grows.foldl {α : Type} (f : State → α → State) (h : ∀ s a, Grows s (f s a)) (l : List α) (s : State) :
    Grows s (l.foldl f s) := by
  induction l generalizing s with
  | nil => exact Grows.refl s
  | cons a l ih => exact (h s a).trans (ih (f s a))

theorem State.emit_grows (s : State) (o : Out) : Grows s (s.emit o) := Grows.of_cons rfl

theorem putsOut.of_cons {s t : State} {o : Out} (h : t.out = o :: s.out) : putsOut o s t := ⟨[], [], h⟩
theorem State.emit_puts (s : State) (o : Out) : putsOut o s (s.emit o) := putsOut.of_cons rfl
theorem Grows.puts {s t u : State} {o : Out} (a : Grows s t) (b : putsOut o t u) : putsOut o s u := by
  obtain ⟨l, h⟩ := a
  obtain ⟨m, n, k⟩ := b
  exact ⟨m, n ++ l, by rw [k, h, List.append_assoc]⟩
theorem putsOut.grows {s t u : State} {o : Out} (a : putsOut o s t) (b : Grows t u) : putsOut o s u := by
  obtain ⟨m, n, h⟩ := a
  obtain ⟨l, k⟩ := b
  exact ⟨l ++ m, n, by rw [k, h, List.append_assoc]⟩
theorem putsOut.mem {s t : State} {o : Out} (a : putsOut o s t) : o ∈ t.out := by
  obtain ⟨m, n, h⟩ := a
  simp [h]
theorem State.bumpBy_grows (s : State) (f : Fld) (n : Nat) : Grows s (s.bumpBy f n) := Grows.of_out (by simp)
theorem State.bump_grows (s : State) (f : Fld) : Grows s (s.bump f) := Grows.of_out (by simp)

theorem State.msix_grows (s : State) (f v : Nat) : Grows s (s.msix f v) := by
  unfold State.msix
  exact Grows.ite (Grows.refl s) (s.emit_grows _)

theorem State.ringInterrupt_grows (s : State) (f r : Nat) : Grows s (s.ringInterrupt f r) := by
  unfold State.ringInterrupt
  refine Grows.ite (Grows.refl s) (Grows.ite (Grows.of_out rfl) ?_)
  exact Grows.ite (s.msix_grows _ _) ((s.msix_grows _ _).trans (Grows.of_out rfl))

theorem ringEntries_append (f r n : Nat) (size : Nat) (l : List (Nat × Octets)) (out : List Out) :
    ∃ m, l.foldl (fun acc (p : Nat × Octets) => Out.ringEntry f r ((n + p.1) % size) p.2 :: acc) out = m ++ out := by
  induction l generalizing out with
  | nil => exact ⟨[], rfl⟩
  | cons a l ih =>
    obtain ⟨m, h⟩ := ih (Out.ringEntry f r ((n + a.1) % size) a.2 :: out)
    exact ⟨m ++ [Out.ringEntry f r ((n + a.1) % size) a.2], by rw [List.foldl_cons, h]; simp⟩

theorem State.produce_grows (s : State) (f r ty : Nat) (l : List Octets) : Grows s (s.produce f r ty l).2 := by
  unfold State.produce
  dsimp only
  split
  · exact Grows.refl s
  · split
    · exact Grows.of_out rfl
    · refine Grows.trans ?_ (State.ringInterrupt_grows _ _ _)
      refine Grows.trans ?_ (State.emit_grows _ _)
      exact ringEntries_append _ _ _ _ _ _

theorem State.note_grows (s : State) (k : Nat) (l : Octets) : Grows s (s.note k l) := by
  unfold State.note
  exact Grows.ite (Grows.of_out rfl) (Grows.refl s)

theorem State.bulkDrain_grows (k : Nat) (s : State) : Grows s (State.bulkDrain k s) := by
  induction k generalizing s with
  | zero => exact Grows.refl s
  | succ k ih =>
    unfold State.bulkDrain
    split
    · exact Grows.refl s
    · split
      · exact Grows.refl s
      · refine Grows.trans ?_ (ih _)
        exact Grows.of_cons rfl

theorem State.bulk_grows (s : State) (k n : Nat) (l : Octets) : Grows s (s.bulk k n l) := by
  unfold State.bulk
  refine Grows.ite (Grows.refl s) ?_
  refine Grows.trans ?_ (State.bulkDrain_grows _ _)
  exact Grows.of_out rfl

theorem State.routeTo_grows (s : State) (e : EvRec) (f : Nat) : Grows s (s.routeTo e f) := by
  have ring : Grows s
      (if !bitOf 31 (s.fword f (Reg.HST_EVT_ROUTE e.source)).toNat then s
       else if !s.ringAdmits f (bitsOf 7 0 (s.fword f (Reg.HST_EVT_ROUTE e.source)).toNat) 3 then s.bump Fl.HST_EVT_DROP_COUNT_COUNT
       else (s.produce f (bitsOf 7 0 (s.fword f (Reg.HST_EVT_ROUTE e.source)).toNat) 3 [e.octets]).2) :=
    Grows.ite (Grows.refl s) (Grows.ite (s.bump_grows _) (s.produce_grows _ _ _ _))
  unfold State.routeTo
  exact Grows.ite (ring.trans (State.msix_grows _ _ _)) ring

theorem State.spill_grows (s : State) : Grows s s.spill := by
  unfold State.spill
  refine Grows.ite ?_ (Grows.trans ?_ (State.bumpBy_grows _ _ _))
  · exact Grows.of_out rfl
  · exact Grows.of_out rfl

theorem State.copyRecord_grows (s : State) (e : EvRec) : Grows s (s.copyRecord e) := by
  unfold State.copyRecord
  exact Grows.ite (s.bulk_grows _ _ _) (Grows.refl s)

theorem State.route_grows (s : State) (e : EvRec) : Grows s (s.route e) := Grows.foldl _ (fun s f => s.routeTo_grows e f) _ s

theorem State.record_grows (s : State) (k u : Nat) (d : Octets) : Grows s (s.record k u d) := by
  have push : ∀ u, Grows s (s.pushRecord k u d) := by
    intro u
    unfold State.pushRecord
    refine ((Grows.trans ?_ (State.spill_grows _)).trans (State.route_grows _ _)).trans (State.copyRecord_grows _ _)
    exact Grows.of_out rfl
  have again : ∀ e l, Grows s (s.repeatRecord e l) := by
    intro e l
    unfold State.repeatRecord
    refine (Grows.trans ?_ (State.route_grows _ _)).trans (State.copyRecord_grows _ _)
    exact Grows.of_out rfl
  unfold State.record
  dsimp only
  split
  · exact Grows.ite (again _ _) (push _)
  · exact push _

theorem State.raise_grows (s : State) (k : Nat) (d : Octets) : Grows s (s.raise k d) := by
  unfold State.raise
  refine Grows.ite (s.bulk_grows _ _ _) (Grows.ite ?_ (s.record_grows _ _ _))
  exact (s.record_grows k _ d).trans (Grows.of_out rfl)

theorem State.accepted_grows (s : State) (c : Cmd) : Grows s (s.accepted c) := Grows.of_out rfl

/-- A posted completion has been put out. -/
theorem State.post_puts (s : State) (op : Nat) (c : Cmd) (st : Status) (i : Nat) (r : Octets) :
    putsOut (.completed op c st (i % 256) (padTo 48 r)) s (s.post' op c st i r) := by
  have base : ∀ (x q : Ring) (k : Nat) (l : List Octets), putsOut (.completed op c st (i % 256) (padTo 48 r)) s
      ((((s.setRing c.func.val c.ring.val x).emit (.completed op c st (i % 256) (padTo 48 r))).setRing c.func.val k q).produce
        c.func.val k 1 l).2 := by
    intro x q k l
    exact (putsOut.of_cons rfl).grows (State.produce_grows _ _ _ _ _)
  unfold State.post'
  dsimp only
  split
  · exact (base _ _ _ _).grows (State.raise_grows _ _ _)
  · exact base _ _ _ _

theorem State.post_grows (s : State) (op : Nat) (c : Cmd) (st : Status) (i : Nat) (r : Octets) : Grows s (s.post' op c st i r) := by
  have base : ∀ (x q : Ring) (k : Nat) (l : List Octets), Grows s
      ((((s.setRing c.func.val c.ring.val x).emit (.completed op c st (i % 256) (padTo 48 r))).setRing c.func.val k q).produce
        c.func.val k 1 l).2 := by
    intro x q k l
    exact (Grows.of_cons rfl).trans (State.produce_grows _ _ _ _ _)
  unfold State.post'
  dsimp only
  split
  · exact (base _ _ _ _).trans (State.raise_grows _ _ _)
  · exact base _ _ _ _

/-- A command's end is put out by a unit that posts it. -/
theorem State.complete_puts (s : State) (op : Nat) (c : Cmd) (st : Status) (i : Nat) (r : Octets) (ha : s.rdg.applying = false)
    (hp : s.get Fl.RDG_STATE_STATE ≠ 2 ∨ readClass op = true ∨ op = 1) :
    putsOut (.completed op c st (i % 256) (padTo 48 r)) s (s.complete op c st i r) := by
  have note : Grows s (if readClass op ∨ op < 5 then s else s.note 4 (completionOctets op c st i r)) :=
    Grows.ite (Grows.refl s) (s.note_grows _ _)
  unfold State.complete
  dsimp only
  have k1 : (if readClass op ∨ op < 5 then s else s.note 4 (completionOctets op c st i r)).rdg.applying = s.rdg.applying := by
    split <;> simp
  have k2 : (if readClass op ∨ op < 5 then s else s.note 4 (completionOctets op c st i r)).get Fl.RDG_STATE_STATE
      = s.get Fl.RDG_STATE_STATE := by
    split
    · rfl
    · unfold State.get State.word; rw [State.note_regs]
  rw [k1, k2, ha]
  split
  · next h => rcases h with h | ⟨h1, h2, h3⟩
              · cases h
              · rcases hp with hp | hp | hp
                · exact absurd h1 hp
                · rw [hp] at h2; cases h2
                · exact absurd hp h3
  · exact note.puts (State.post_puts _ _ _ _ _ _)

theorem State.complete_grows (s : State) (op : Nat) (c : Cmd) (st : Status) (i : Nat) (r : Octets) :
    Grows s (s.complete op c st i r) := by
  have note : Grows s (if readClass op ∨ op < 5 then s else s.note 4 (completionOctets op c st i r)) :=
    Grows.ite (Grows.refl s) (s.note_grows _ _)
  unfold State.complete
  exact note.trans (Grows.ite (Grows.refl _) (State.post_grows _ _ _ _ _ _))

/-! ### The newest record -/

theorem newest_of_records {k : Nat} {d : Octets} {s t : State} (h : t.evt.records = s.evt.records) (n : newest k d s = true) :
    newest k d t = true := by
  unfold newest at *
  rw [h]; exact n

/-- The recorder is untouched. -/
def SameEvt (s t : State) : Prop := t.evt = s.evt

theorem SameEvt.refl (s : State) : SameEvt s s := rfl
theorem SameEvt.trans {s t u : State} (a : SameEvt s t) (b : SameEvt t u) : SameEvt s u := Eq.trans b a
theorem SameEvt.ite {s a b : State} {c : Prop} [Decidable c] (ha : SameEvt s a) (hb : SameEvt s b) :
    SameEvt s (if c then a else b) := by
  split
  · exact ha
  · exact hb

@[simp] theorem State.msix_evt (s : State) (f v : Nat) : (s.msix f v).evt = s.evt := by unfold State.msix; split <;> rfl
@[simp] theorem State.ringInterrupt_evt (s : State) (f r : Nat) : (s.ringInterrupt f r).evt = s.evt := by
  unfold State.ringInterrupt
  dsimp only
  split
  · rfl
  · split
    · rfl
    · split <;> simp
@[simp] theorem State.produce_evt (s : State) (f r ty : Nat) (l : List Octets) : (s.produce f r ty l).2.evt = s.evt := by
  unfold State.produce
  dsimp only
  split
  · rfl
  · split
    · rfl
    · simp

theorem State.routeTo_evt (s : State) (e : EvRec) (f : Nat) : (s.routeTo e f).evt = s.evt := by
  have ring : SameEvt s
      (if !bitOf 31 (s.fword f (Reg.HST_EVT_ROUTE e.source)).toNat then s
       else if !s.ringAdmits f (bitsOf 7 0 (s.fword f (Reg.HST_EVT_ROUTE e.source)).toNat) 3 then s.bump Fl.HST_EVT_DROP_COUNT_COUNT
       else (s.produce f (bitsOf 7 0 (s.fword f (Reg.HST_EVT_ROUTE e.source)).toNat) 3 [e.octets]).2) :=
    SameEvt.ite (SameEvt.refl s) (SameEvt.ite (s.bump_evt _) (s.produce_evt _ _ _ _))
  have send : ∀ (t : State) (v : Nat), SameEvt t (t.msix f v) := fun t v => t.msix_evt f v
  unfold State.routeTo
  exact SameEvt.ite (ring.trans (send _ _)) ring

theorem State.route_evt (s : State) (e : EvRec) : (s.route e).evt = s.evt :=
  foldl_keeps (·.evt) _ (fun s f => s.routeTo_evt e f) _ s

theorem State.bulkDrain_evt (k : Nat) (s : State) : (State.bulkDrain k s).evt = s.evt := by
  induction k generalizing s with
  | zero => rfl
  | succ k ih =>
    unfold State.bulkDrain
    split
    · rfl
    · split
      · rfl
      · rw [ih]; rfl

theorem State.bulk_evt (s : State) (k n : Nat) (l : Octets) : (s.bulk k n l).evt = s.evt := by
  unfold State.bulk
  split
  · rfl
  · rw [State.bulkDrain_evt]

theorem State.copyRecord_evt (s : State) (e : EvRec) : (s.copyRecord e).evt = s.evt := by
  unfold State.copyRecord
  split
  · exact s.bulk_evt _ _ _
  · rfl

theorem State.spill_records (s : State) : s.spill.evt.records = s.evt.records.take onChipLimit := by
  unfold State.spill
  dsimp only
  generalize (List.filter _ (List.drop onChipLimit s.evt.records)).isEmpty = b
  cases b
  · rw [if_neg (by simp), State.bumpBy_evt]
  · rw [if_pos rfl]

/-- After a raise on a unit that is not standby the newest record is the source's. -/
theorem State.raise_newest (s : State) (k : Nat) (d : Octets) (h : s.get Fl.RDG_STATE_STATE ≠ 2) : newest k d (s.raise k d) = true := by
  have push : ∀ u, newest k d (s.pushRecord k u d) = true := by
    intro u
    unfold State.pushRecord newest
    rw [State.copyRecord_evt, State.route_evt, State.spill_records]
    simp [onChipLimit]
  have rec' : newest k d (s.record k s.unitCode d) = true := by
    unfold State.record
    dsimp only
    split
    · split
      · next e l _ c =>
        unfold State.repeatRecord newest
        rw [State.copyRecord_evt, State.route_evt]
        simp [c.2.2.1, c.2.2.2.2]
      · exact push _
    · exact push _
  unfold State.raise
  rw [if_neg (fun c => h c.1)]
  dsimp only
  split
  · exact newest_of_records rfl rec'
  · exact rec'

/-! ### What a function keeps but its rings -/

/-- Each function keeps everything but its rings. -/
def KeepsFn (s t : State) : Prop := ∀ f, { t.fn f with rings := [] } = { s.fn f with rings := [] }

theorem KeepsFn.refl (s : State) : KeepsFn s s := fun _ => rfl
theorem KeepsFn.trans {s t u : State} (a : KeepsFn s t) (b : KeepsFn t u) : KeepsFn s u := fun f => (b f).trans (a f)
theorem KeepsFn.of_funcs {s t : State} (h : t.hst.funcs = s.hst.funcs) : KeepsFn s t := fun f => by unfold State.fn; rw [h]
theorem KeepsFn.ite {s a b : State} {c : Prop} [Decidable c] (ha : KeepsFn s a) (hb : KeepsFn s b) :
    KeepsFn s (if c then a else b) := by
  split
  · exact ha
  · exact hb
theorem KeepsFn.foldl {α : Type} (f : State → α → State) (h : ∀ s a, KeepsFn s (f s a)) (l : List α) (s : State) :
    KeepsFn s (l.foldl f s) := by
  induction l generalizing s with
  | nil => exact KeepsFn.refl s
  | cons a l ih => exact (h s a).trans (ih (f s a))

theorem KeepsFn.fenced {s t : State} (h : KeepsFn s t) (f : Nat) : (t.fn f).fenced = (s.fn f).fenced := by
  simpa using congrArg FuncState.fenced (h f)
theorem KeepsFn.cause {s t : State} (h : KeepsFn s t) (f : Nat) : (t.fn f).cause = (s.fn f).cause := by
  simpa using congrArg FuncState.cause (h f)
theorem State.bumpBy_keepsFn (s : State) (f : Fld) (n : Nat) : KeepsFn s (s.bumpBy f n) := KeepsFn.of_funcs (by simp)
theorem State.bump_keepsFn (s : State) (f : Fld) : KeepsFn s (s.bump f) := KeepsFn.of_funcs (by simp)

@[simp] theorem State.fn_setFn_same (s : State) (f : Nat) (x : FuncState) : (s.setFn f x).fn f = x := by
  unfold State.fn; simp
theorem State.fn_setFn_ne (s : State) {f g : Nat} (x : FuncState) (h : g ≠ f) : (s.setFn f x).fn g = s.fn g := by
  unfold State.fn
  rw [State.setFn_funcs]
  exact FMap.get_set_other _ _ _ x h
@[simp] theorem State.ring_setRing_same (s : State) (f r : Nat) (x : Ring) : (s.setRing f r x).ring f r = x := by
  unfold State.ring State.setRing; simp

theorem State.setRing_keepsFn (s : State) (f r : Nat) (x : Ring) : KeepsFn s (s.setRing f r x) := by
  intro g
  unfold State.setRing
  by_cases h : g = f
  · rw [h, State.fn_setFn_same]
  · rw [State.fn_setFn_ne s _ h]

theorem State.msix_keepsFn (s : State) (f v : Nat) : KeepsFn s (s.msix f v) := by
  unfold State.msix
  exact KeepsFn.ite (KeepsFn.refl s) (KeepsFn.of_funcs rfl)

theorem State.ringInterrupt_keepsFn (s : State) (f r : Nat) : KeepsFn s (s.ringInterrupt f r) := by
  unfold State.ringInterrupt
  refine KeepsFn.ite (KeepsFn.refl s) (KeepsFn.ite (s.setRing_keepsFn _ _ _) ?_)
  exact KeepsFn.ite (s.msix_keepsFn _ _) ((s.msix_keepsFn _ _).trans (State.setRing_keepsFn _ _ _ _))

theorem State.produce_keepsFn (s : State) (f r ty : Nat) (l : List Octets) : KeepsFn s (s.produce f r ty l).2 := by
  unfold State.produce
  dsimp only
  split
  · exact KeepsFn.refl s
  · split
    · exact s.setRing_keepsFn _ _ _
    · refine KeepsFn.trans ?_ (State.ringInterrupt_keepsFn _ _ _)
      refine KeepsFn.trans (t := s.setRing f r _) (s.setRing_keepsFn _ _ _) (KeepsFn.of_funcs rfl)

theorem State.bulkDrain_funcs (k : Nat) (s : State) : (State.bulkDrain k s).hst.funcs = s.hst.funcs := by
  induction k generalizing s with
  | zero => rfl
  | succ k ih =>
    unfold State.bulkDrain
    split
    · rfl
    · split
      · rfl
      · rw [ih]; rfl

theorem State.bulk_funcs (s : State) (k n : Nat) (l : Octets) : (s.bulk k n l).hst.funcs = s.hst.funcs := by
  unfold State.bulk
  split
  · rfl
  · rw [State.bulkDrain_funcs]

theorem State.routeTo_keepsFn (s : State) (e : EvRec) (f : Nat) : KeepsFn s (s.routeTo e f) := by
  have ring : KeepsFn s
      (if !bitOf 31 (s.fword f (Reg.HST_EVT_ROUTE e.source)).toNat then s
       else if !s.ringAdmits f (bitsOf 7 0 (s.fword f (Reg.HST_EVT_ROUTE e.source)).toNat) 3 then s.bump Fl.HST_EVT_DROP_COUNT_COUNT
       else (s.produce f (bitsOf 7 0 (s.fword f (Reg.HST_EVT_ROUTE e.source)).toNat) 3 [e.octets]).2) :=
    KeepsFn.ite (KeepsFn.refl s) (KeepsFn.ite (s.bump_keepsFn _) (s.produce_keepsFn _ _ _ _))
  unfold State.routeTo
  exact KeepsFn.ite (ring.trans (State.msix_keepsFn _ _ _)) ring

theorem State.spill_keepsFn (s : State) : KeepsFn s s.spill := by
  unfold State.spill
  refine KeepsFn.ite ?_ (KeepsFn.trans ?_ (State.bumpBy_keepsFn _ _ _))
  · exact fun _ => rfl
  · exact fun _ => rfl

theorem State.copyRecord_keepsFn (s : State) (e : EvRec) : KeepsFn s (s.copyRecord e) := by
  unfold State.copyRecord
  exact KeepsFn.ite (KeepsFn.of_funcs (s.bulk_funcs _ _ _)) (KeepsFn.refl s)

theorem State.route_keepsFn (s : State) (e : EvRec) : KeepsFn s (s.route e) :=
  KeepsFn.foldl _ (fun s f => s.routeTo_keepsFn e f) _ s

theorem State.record_keepsFn (s : State) (k u : Nat) (d : Octets) : KeepsFn s (s.record k u d) := by
  have push : ∀ u, KeepsFn s (s.pushRecord k u d) := by
    intro u
    unfold State.pushRecord
    refine ((KeepsFn.trans ?_ (State.spill_keepsFn _)).trans (State.route_keepsFn _ _)).trans (State.copyRecord_keepsFn _ _)
    exact fun _ => rfl
  have again : ∀ e l, KeepsFn s (s.repeatRecord e l) := by
    intro e l
    unfold State.repeatRecord
    refine (KeepsFn.trans ?_ (State.route_keepsFn _ _)).trans (State.copyRecord_keepsFn _ _)
    exact fun _ => rfl
  unfold State.record
  dsimp only
  split
  · exact KeepsFn.ite (again _ _) (push _)
  · exact push _

/-- A raise leaves every function's fence and causes alone. -/
theorem State.raise_keepsFn (s : State) (k : Nat) (d : Octets) : KeepsFn s (s.raise k d) := by
  unfold State.raise
  refine KeepsFn.ite (KeepsFn.of_funcs (s.bulk_funcs _ _ _)) (KeepsFn.ite ?_ (s.record_keepsFn _ _ _))
  exact fun f => s.record_keepsFn k _ d f

theorem State.accepted_keepsFn (s : State) (c : Cmd) : KeepsFn s (s.accepted c) :=
  (s.setRing_keepsFn _ _ _).trans (State.setRing_keepsFn _ _ _ _)

end Sys2Proof.Machine
end

