-- ==== Sys2Proof/Machine/Tap.lean ====
section
/-!
DEFINITION. Machine/Tap.lean: the JTAG test access port (R574): its controller as IEEE 1149.1 has it, its instructions, its identity, its
boundary cells. TRST_N has an internal pull-down, so the port stays in Test-Logic-Reset until a tester drives it; no row of the table
drives TCK (log entry 143).
-/

namespace Sys2Proof.Machine

/-- The controller after a rising edge of TCK, by TMS. PRESUMED (log entry 143): the diagram of IEEE 1149.1. -/
def tapNext (c : TapCtl) (tms : Bool) : TapCtl :=
  match c with
  | .testLogicReset => if tms then .testLogicReset else .runTestIdle
  | .runTestIdle => if tms then .selectDr else .runTestIdle
  | .selectDr => if tms then .selectIr else .captureDr
  | .captureDr => if tms then .exit1Dr else .shiftDr
  | .shiftDr => if tms then .exit1Dr else .shiftDr
  | .exit1Dr => if tms then .updateDr else .pauseDr
  | .pauseDr => if tms then .exit2Dr else .pauseDr
  | .exit2Dr => if tms then .updateDr else .shiftDr
  | .updateDr => if tms then .selectDr else .runTestIdle
  | .selectIr => if tms then .testLogicReset else .captureIr
  | .captureIr => if tms then .exit1Ir else .shiftIr
  | .shiftIr => if tms then .exit1Ir else .shiftIr
  | .exit1Ir => if tms then .updateIr else .pauseIr
  | .pauseIr => if tms then .exit2Ir else .pauseIr
  | .exit2Ir => if tms then .updateIr else .shiftIr
  | .updateIr => if tms then .selectDr else .runTestIdle

/-- The identity: version 1h, part 0014h and Ovgeal's manufacturer code (R574). -/
def tapIdcode : Nat := 0x100141CB

/-- `n` bits of a number, least significant first. -/
def bitsLsb (n x : Nat) : List Bool := (List.range n).map fun i => bitOf i x

/-- The balls whose boundary cells observe only: the permits (R574). -/
def observeOnly (ball : String) : Bool := ball == "SWP_A" || ball == "SWP_B"

/-- An instruction by which the latched cells drive balls. -/
def TapInstr.drivesBalls : TapInstr → Bool
  | .extest | .extestPulse | .extestTrain | .clamp => true
  | _ => false

/-- The balls that the port drives, with their values: none of a permit under any instruction. -/
def State.tapDrives (s : State) : List (String × Bool) :=
  if s.tap.instr.drivesBalls then s.tap.cells.filter fun p => !observeOnly p.1 else []

/-- The data register that an instruction captures; `balls` are the balls' values in the order of the boundary register. BYPASS, HIGHZ
and CLAMP select the one-bit bypass register. -/
def tapCapture (i : TapInstr) (balls : List Bool) : List Bool :=
  match i with
  | .idcode => bitsLsb 32 tapIdcode
  | .bypass | .highz | .clamp => [false]
  | _ => balls

/-- One bit shifted: TDI enters at the far end, TDO is the first. -/
def shiftBit (r : List Bool) (tdi : Bool) : List Bool := r.drop 1 ++ [tdi]

/-- A rising edge of TCK. `balls` are the balls with their values in the order of the boundary register, and `code` reads an
instruction code. The order and the codes are the BSDL file's, which the spec does not give. -/
def State.tapClock (s : State) (tms tdi : Bool) (balls : List (String × Bool)) (code : List Bool → TapInstr) : State :=
  let x := s.tap
  let x : TapState := match x.ctl with
    | .captureDr => { x with dr := tapCapture x.instr (balls.map (·.2)) }
    | .shiftDr => { x with dr := shiftBit x.dr tdi }
    | .captureIr => { x with ir := [true, false] ++ List.replicate Config.tapIrBits false }
    | .shiftIr => { x with ir := shiftBit x.ir tdi }
    | _ => x
  let x := { x with ctl := tapNext x.ctl tms }
  let x : TapState := match x.ctl with
    | .testLogicReset => { x with instr := .idcode }
    | .updateIr => { x with instr := code x.ir }
    | .updateDr => match x.instr with
      | .samplePreload | .extest | .extestPulse | .extestTrain => { x with cells := (balls.map (·.1)).zip x.dr }
      | _ => x
    | _ => x
  { s with tap := x }

/-- TRST_N low: Test-Logic-Reset, with IDCODE in force. -/
def State.tapReset (s : State) : State := { s with tap := { s.tap with ctl := .testLogicReset, instr := .idcode } }

end Sys2Proof.Machine
end

