-- ==== Sys2Proof/Tests/Slice0.lean ====
section
/-!
SUPPORT. Tests/Slice0.lean: ill-formed commands refused by the check, worked values of the spec, and for each statement a state and
operands that meet its hypotheses together.
-/

namespace Sys2Proof.Tests

set_option Elab.async false

open Sys2Proof Sys2Proof.Machine

set_option maxRecDepth 100000

/-- A host command of function 0 on ring 0 without data. -/
def cmd0 : Cmd := { func := 0, ring := 0, tag := 7#32, high := false, addr := 0#64, len := 0#32 }
/-- Reset, with function 0 as the owner. -/
def owned0 : State := { State.reset with hst := { State.reset.hst with ownership := .owned 0 0 } }

/-- `owned0` out of reset with every clock running and the registers listed. -/
def liveWith (regs : FMap Word) : State :=
  { owned0 with
    regs := FMap.place regs Reg.GLB_CLK_ALIVE 0xFFFFFFFF#32
    otp := { owned0.otp with inReset := false } }

/-- `owned0` with COMMAND ring 0 enabled, which a doorbell has covered, its cache, and COMPLETION ring 1 enabled. -/
def rings0 (cache : List Cached) : State :=
  { owned0 with hst := { owned0.hst with funcs := [(0, { rings :=
      [(0, { cfg := 0x04010000#32, enabled := true, pidx := 1#32, cache := cache }), (1, { cfg := 0x44000000#32, enabled := true })] })] } }

/-- `liveWith []` in unit state ACTIVE. -/
def active0 : State := liveWith [(Reg.RDG_STATE, 0xFFFFFFF1#32)]

/-- The row of a register that is defined. -/
def rowAt (a : Nat) : RegRow := (regRow a).getD ⟨0, 0, 0, false, []⟩

/-- `liveWith []` with one record, which the window of function 0 shows, and a fetch in progress. -/
def evt0 : State :=
  { liveWith [] with
    evt := { owned0.evt with records := [⟨1, 0, 3, 1, zeros 16⟩], fetching := [(0, true)] }
    fregs := [(funcKey 0 Reg.EVT_CURSOR_LO, 1#32)] }

/-- `owned0` in UNLOCKED with candidate 1 qualified and held off. -/
def time0 : State :=
  { owned0 with
    regs := [(Reg.TIM_STATE, 1#32)]
    tim := { owned0.tim with cands := [(1, { heldOff := true, qualified := true })], held := false } }

/-- Reset, waiting for a reference before courses run. -/
def wait0 : State := { State.reset with tim := { State.reset.tim with held := true, waiting := true } }

/-- Ethernet port 0 enabled, with the request numbered 3 open and its timestamp in the queue. -/
def ptp0 : State :=
  { State.reset with
    regs := [(Reg.TIM_PTP_CFG, 0xFFFFFFFF#32), (Reg.LANE_GRP_STATUS 0, 0x1013#32)]
    tim := { State.reset.tim with ports := [(0, { txq := [(3, 7)], reqOpen := some 3 })] } }

/-- An Announce of port identity 9. -/
def ann0 : PtpAnnounce := ⟨1#8, 6#8, 0#8, 0#16, 1#8, 5#64, 0#16, 9#80, 37#16, true, false, false⟩

/-- `ptp0` with the master of `ann0` chosen on port 0 and Sync 1 open. -/
def ptp1 : State :=
  { ptp0 with tim := { ptp0.tim with master := some 0, ports := [(0, { announce := some ann0, syncOpen := some (1, 5, 0) })] } }

/-- Reset, with lane group 0 a fronthaul group that is not trained. -/
def lane0 : State := { State.reset with regs := [(Reg.LANE_GRP_STATUS 0, 1#32)] }

/-- Reset, after a thermal trip with a point that reads low. -/
def hot0 : State := { State.reset with hlt := { State.reset.hlt with tripped := true, lowRun := [(3, 1)] } }

/-- Reset, with an item of two entries in FIFO 9 of block 4. -/
def fifo0 : State := { State.reset with hlt := { State.reset.hlt with fifos := [(256 * 4 + 9, { entries := [([], false), ([], true)] })] } }

/-- Reset, with every tamper input enabled, input 0 sampled seven times and input 1 six times away from its state. -/
def soffit0 : State :=
  { State.reset with
    regs := [(Reg.TMP_CFG, 0x0F#32)]
    tmp := { State.reset.tmp with runs := [7, 6, 0, 0], mainPower := true } }

/-- A chain on lane 0 whose eave has power-line cell 0 and radio cell 1. -/
def plan0 : Plan :=
  { chains := [⟨0, 2, 2, [⟨1, 0, 0, 0x11, 0⟩]⟩]
    cells := [⟨0, 0, 1, 0, 0⟩, ⟨1, 0, 5, 0, 1⟩]
    params := [[1#8, 1#8, 0#8, 0#8, 0#8, 0#8, 0#8, 2#8] ++ zeros 10 ++ [3#8] ++ zeros 45,
      [2#8, 0x11#8, 0#8, 0#8, 0#8, 0#8, 0#8, 1#8, 1#8, 5#8] ++ zeros 10 ++ [3#8] ++ zeros 43]
    windows := [[⟨0, 0, []⟩]] }

/-- A member at index 3 with key 9. -/
def slot3 : Slot := { key := 9, index := 3, valid := true, m0 := true, m1 := true }

/-- `plan0` in force with PLC and RAD enabled, function 0 the owner, key slot 0 bound to every purpose, and meter 3 with short address 7
on the route table of cell 0. -/
def cells0 : State :=
  { owned0 with
    regs := [(Reg.CRS_PLAN_STATUS, 0#32), (Reg.STATUS 4, 0xFFFFFFFF#32), (Reg.STATUS 5, 0xFFFFFFFF#32)]
    crs := { owned0.crs with active := plan0 }
    cel := { owned0.cel with routes := [(0, [⟨3, 7, 7, 0, 1, 0⟩])] }
    key := { owned0.key with
      courseSlots := [(0, { loaded := true, attr := 4, key := zeros 16 })]
      courseBindings := [(1, 1), (2, 1), (3, 1), (4, 1)] } }

/-- `cells0` with the MACs of its cells, and the member found in the stash. -/
def cellsWith (m : CellMac) : State :=
  { cells0 with
    cel := { cells0.cel with macs := [(0, m), (1, m)] }
    mtb := { cells0.mtb with slots := [(stashFirst, slot3)] } }

/-- A control message of a type with nothing but its check. -/
def msgOf (type : Nat) : Octets := be 1 type ++ zeros 29 ++ be 2 (crc16 (be 1 type ++ zeros 29))

/-- A sub-frame header of a version alone, with its check. -/
def header0 : Octets := be 1 1 ++ zeros 27 ++ be 4 (crc32 (be 1 1 ++ zeros 27))

/-- `header0` and the element of an eave with no cells, of zeros. -/
def subframe0 : Octets := header0 ++ zeros 18 ++ be 2 (crc16 (zeros 18))

/-- `cmd0` with a data buffer of 16 octets. -/
def load0 : Cmd := { cmd0 with addr := 4#64, len := 16#32 }

/-- `owned0` with a commit pending for a course. -/
def commit0 (target : Nat) : State := { owned0 with crs := { owned0.crs with pending := some ⟨cmd0, target⟩ } }

/-- `owned0` with a staged plan and the seal closed. -/
def sealed0 : State :=
  { owned0 with
    regs := [(Reg.CRS_STAGE_SEAL, 0xFFFFFFFF#32)]
    crs := { owned0.crs with staged := some {} } }

/-- MTB enabled, the shadow in use, and a mismatch at slot 5 that is due. -/
def scrub0 : State :=
  { State.reset with
    regs := [(Reg.STATUS 6, 0xFFFFFFFF#32), (Reg.MTB_SHADOW_LO, 0xFFFFFFFF#32)]
    mtb := { State.reset.mtb with mismatches := [⟨5, 0, false⟩] } }

/-- `scrub0` with the scrubber at its last block. -/
def scrubEnd0 : State := { scrub0 with regs := scrub0.regs ++ [(Reg.MTB_SCRUB_STATUS, 0x80200000#32)] }

/-- `scrub0` with REPAIR, in a unit state. -/
def scrubWith (unit : Nat) : State :=
  { scrub0 with regs := FMap.place (scrub0.regs ++ [(Reg.MTB_SCRUB_CFG, 0xFFFFFFFF#32)]) Reg.RDG_STATE (BitVec.ofNat 32 unit) }

/-- A shadow of a slot that holds key 1. -/
def shadow5 : Octets := 1#8 :: zeros 9 ++ [0x30#8] ++ zeros 5

/-- HELLO of the eave of `plan0`. -/
def hello1 : Octets :=
  let b : Octets := be 1 0x81 ++ zeros 1 ++ be 8 1 ++ zeros 20
  b ++ be 2 (crc16 b)

/-- The eave of `plan0`. -/
def eave0 : EaveRec := ⟨1, 0, 0, 0x11, 0⟩

/-- The chain of `plan0`. -/
def chain0 : Chain := ⟨0, 2, 2, [eave0]⟩

/-- `cells0` with group 0 trained, eave 0 mapped, epoch 6 in force, and what is kept for its place. -/
def eav0 (x : EavPort) : State :=
  { cells0 with
    regs := [(Reg.CRS_PLAN_STATUS, 0#32), (Reg.CRS_EPOCH, 6#32), (Reg.LANE_GRP_STATUS 0, 0x1013#32),
      (Reg.EAV_EAVE_STATE 0, 0x10000000#32)]
    eav := { cells0.eav with ports := [(0, x)] } }

/-- `cells0` with lanes 0 and 1 up as Fronthaul lanes. -/
def front0 : State :=
  { cells0 with
    regs := [(Reg.LANE_GRP_STATUS 0, 0x1031#32)]
    crs := { cells0.crs with active := { plan0 with roles := [(1, 3), (2, 1)] } } }

/-- `front0`, of whose chain the eave has no cells. -/
def front1 : State :=
  { front0 with crs := { front0.crs with active := { front0.crs.active with chains := [⟨0, 2, 2, [⟨1, 0, 0, 0, 0⟩]⟩] } } }

/-- A frame of the engine for meter 3. -/
def frame0 : Frame := { origin := .engine, kind := .data, meter := some 3, hop := 7, dsn := 4 }

/-- `cells0` with meter 3 joined in cell 0 and associated in cell 1. -/
def joined0 : State :=
  { cellsWith {} with
    meters := [(3, { key := 9, plc := { joined := true, cell := 0, short := 7 }, rad := { assoc := true, cell := 1, short := 2 } })] }

/-- The route entry of meter 3 in `cells0`. -/
def route3 : RouteEntry := ⟨3, 7, 7, 0, 1, 0⟩

/-- `frame0` for a host, on its second round. -/
def hostFrame0 : Frame := { frame0 with origin := .host cmd0, again := true }

/-- A data frame from short address 7 to cell 0 that asks for an acknowledgement. -/
def plcFrame0 : PlcFrame :=
  ⟨0, 1000, true, false, true, .data, 0#16, 0#16, 0#16, 7#16, 7#16, true, false, false, false, 1#32, true, 5#8, [], 200#8, false, false,
    none, []⟩

/-- A secured data frame of meter 3 to cell 1 that asks for an acknowledgement. -/
def radFrame0 : RadFrame :=
  { cell := 1, frameEnd := 1000, decoded := true, fcsOk := true, modeSwitch := false, version2 := true, suppressed := false, kind := .data,
    dstPan := 1#16, dstExtended := false, dst := 0#64, srcPan := 0#16, extended := true, source := 9#64, ackReq := true, secLevel := 5,
    keyMode := 0, fc := 1#32, header := [], dsn := 5#8, csl := none, rssi := 200#8, chains := 3, late := false, clip := false, mesh := false,
    fragment := none, payload := []
    mic := ((cells0.deriveKey 3 (be 8 9)).1.map fun x => ccmTag x (ccmNonce 9 1 5) [] [] (ccmLength 5)).getD [] }

/-- Reset, with the queue of class 2 of port 3 at its limit. -/
def full0 : State :=
  { State.reset with swc := { State.reset.swc with packets := [⟨1, 2, outQueue 3 2, 0, 0, 65536, 61440, 0, 0⟩] } }

/-- A packet with one cell in DRAM. -/
def waiting0 : Packet := ⟨1, 2, outQueue 3 2, 64, 0, 0, 0, 1, 1⟩

/-- `owned0` with the packet `waiting0`, and an overflow region that is to shrink to 1 MiB. -/
def overflow0 : State := { owned0 with swc := { owned0.swc with packets := [waiting0], shrinkTo := some 1 } }

/-- `owned0` with a loaded wrapping key of zeros in slot 8. -/
def wrap0 : State :=
  { owned0 with key := { owned0.key with slots := [(8, { loaded := true, attr := 3, key := zeros 16 })] } }

/-- Sixteen octets of zeros wrapped under a key of zeros. -/
def wrapped0 : Octets := be 24 0xBF3B77B5E90CAA9F5009FE9626E4EFE20DED75EE3B1AC0D5

/-- `wrap0` with an identity, and the entropy source in a state. -/
def rng0 (rng : Nat) : State :=
  { wrap0 with
    regs := [(Reg.KEY_ENGINE_STATE, BitVec.ofNat 32 (0xFFFFFFF8 + rng))]
    otp := { wrap0.otp with identValid := true, rootseedValid := true } }

/-- `rng0 1` part-way through the health tests, with the last sample and the first of its window 5. -/
def rngRun0 (run seen matched passed : Nat) : State :=
  { rng0 1 with key := { wrap0.key with
    rctLast := 5, rctRun := run, aptFirst := 5, aptSeen := seen, aptMatches := matched, passing := passed } }

/-- `cmd0` with a buffer for an attestation. -/
def attest0 : Cmd := { cmd0 with addr := 4#64, len := 192#32 }

/-- A yelm of EUI 9 with sixteen seconds without data. -/
def yelm0 : Octets :=
  [0x0F#8, 0#8, 0#8, 0#8, 0#8, 0x00#8, 0x13#8, 0x01#8, 0x00#8, 0x01#8, 0x09#8, 41#8, 40#8, 1#8, 0#8] ++ be 2 5 ++ be 8 9 ++ be 4 7
    ++ List.replicate 16 3#8 ++ zeros 8

/-- `yelm0` as a power-line frame of cell 0 brought it. -/
def yelmIn0 : YelmIn := ⟨yelm0, false, 0, 7, false, false, 0⟩

/-- REC enabled, with `yelmIn0` on its way to it. -/
def record0 : State :=
  { State.reset with
    regs := [(Reg.STATUS 7, 0xFFFFFFFF#32)]
    swc := { State.reset.swc with toRecord := [yelmIn0] } }

/-- `owned0` with meter 3 in a state of Table 7.12, after top-up 1. -/
def prepay0 (state : Nat) : State := { owned0 with meters := [(3, { bill := { topupId := 1, prepay := state } })] }

/-- A staged record. -/
def staged0 : Staged := { at' := 0, second := 0, octets := [], released := false, place := none }

/-- Reset at 300 s, with `staged0` held since the start. -/
def staging0 : State :=
  { State.reset with
    arc := { State.reset.arc with staging := [staged0] }
    tim := { State.reset.tim with now := 300000000000 } }

/-- `cells0` whose plan declares one target for pushes. -/
def push0 : State := { cells0 with crs := { cells0.crs with active := { plan0 with totals := [(0x0E, 1)] } } }

/-- The header of the first sequenced frame of hub 3 in epoch 1. -/
def slateHdr3 : SlateHdr := ⟨3, 1#8, 0#32, 0#32⟩

/-- Reset, with hub 3 in a state. -/
def hub3 (x : Hub) : State := { State.reset with arc := { State.reset.arc with hubs := [(3, x)] } }

/-- A geometry of one channel of one die. -/
def geometry0 : Geometry := ⟨1, 1, 64, 4, 1, [0, 0, 64, 0], 0, 0, 0⟩

/-- A geometry with four blocks to a die. -/
def geometry9 : Geometry := { geometry0 with dies := 4 }

/-- A format of hub 3 alone, whose hot stream ends below band 5. -/
def format3 : Format := ⟨1, 3, 32, 4, 5, [(3, some ⟨0, 3, 1, geometry0⟩)], 5⟩

/-- A format whose hot stream has four free bands. -/
def format9 : Format := ⟨1, 3, 32, 4, 5, [(0, some ⟨0, 0, 1, geometry9⟩)], 4⟩

/-- An operation with TAG 5. -/
def dieOp3 (why : Purpose) : DieOp := ⟨5, 3, 0, 0, 0, 0, [], why⟩

/-- Hub 3 UP with one operation outstanding, `format3` in force, and band 9. -/
def band3 (why : Purpose) (b : Band) : State :=
  { State.reset with arc := { State.reset.arc with
    format := some format3, hubs := [(3, { state := 2, epoch := 1, outstanding := [dieOp3 why] })], bands := [(9, b)] } }

/-- Reset, mounted. -/
def mounted0 : State := { State.reset with regs := [(Reg.ARC_STATE, 0x10#32)] }

/-- What `format3` records of hub 3. -/
def hubFmt0 : HubFmt := ⟨0, 3, 1, geometry0⟩

/-- A format that waits for its hubs. -/
def job0 : FormatJob := ⟨cmd0, 3, 32, 4, 5, [], false⟩

/-- `owned0` with a Media group of one lane, trained, whose hub has not answered. -/
def media0 : State :=
  { owned0 with
    regs := [(Reg.LANE_GRP_STATUS 0, 0x1012#32), (Reg.CRS_PLAN_STATUS, 0#32)]
    crs := { owned0.crs with active := { plan0 with roles := [(2, 1)] } } }

/-- A format of hub 3 alone, whose last erase is outstanding. -/
def formatting0 : State :=
  { owned0 with arc := { owned0.arc with
    job := some { job0 with hubs := [(3, some hubFmt0)], started := true }
    hubs := [(3, { state := 2, epoch := 1, formatting := true, outstanding := [dieOp3 .format] })] } }

/-- `owned0` with `format3`, whose hub was replaced by another of the same geometry. -/
def adopt0 : State :=
  { owned0 with arc := { owned0.arc with
    format := some format3, hubs := [(3, { state := 5, seenId := 9, geom := some geometry0 })] } }

/-- A scan of meters 0 to 9 over seconds 0 to 5 to ring 3. -/
def scanParams0 : ScanParams := { fromS := 0, toS := 5, first := 0, last := 9, mask := 0, valley := 0, ring := 3 }

/-- `owned0` mounted, with ARC enabled and ring 3 a tile ring. -/
def scans0 : State :=
  { owned0 with
    regs := [(Reg.STATUS 10, 0xFFFFFFFF#32), (Reg.ARC_STATE, 0x10#32)]
    hst := { owned0.hst with funcs := [(0, { rings := [(3, { cfg := 0x84000000#32 })] })] } }

/-- `owned0` with `format3` mounted and five hot bands free. -/
def archive0 : State :=
  { owned0 with
    regs := [(Reg.ARC_STATE, 0x10#32), (Reg.ARC_HOT_FREE, 5#32)]
    arc := { owned0.arc with format := some format3 } }

/-- `archive0` with HOST unit 0 at the start of hot band 9, which is open. -/
def unit0 : State :=
  { archive0 with arc := { archive0.arc with
    hotOpen := 10, hotMap := [(262144, 589825)], bands := [(9, { use := .hot, isOpen := true, bytes := 65536, done := [0] })] } }

/-- The scan of `scanParams0` with records at hand. -/
def scanOf (batch : List Octets) : Scan :=
  { cmd := cmd0, fromS := 0, toS := 9, first := 0, last := 9, mask := 0, valley := false, ring := 3, batch := batch }

/-- `format3` with a scan in place 0 whose tile ring of one entry is full. -/
def scan0 (batch : List Octets) : State :=
  { owned0 with
    arc := { owned0.arc with format := some format3, scans := [(0, some (scanOf batch))] }
    hst := { owned0.hst with funcs := [(0, { rings := [(3, { cfg := 0x80000000#32, enabled := true, pidx := 1#32 })] })] } }

/-- A superblock of one record in band 5. -/
def super0 : Superblock := ⟨0, 5, 0, 2, 1, [⟨0, 0, [le 8 5 ++ zeros 56]⟩], 0, 0, false⟩

/-- `scan0` with a scan that has `super0` to read. -/
def held0 (done : List Nat) : State :=
  { scan0 [] with arc := { (scan0 []).arc with
    scans := [(0, some { scanOf [] with left := [327680] })], supers := [super0], bands := [(5, { use := .cold, done := done })] } }

/-- The header of the first frame of unit B in epoch 0. -/
def ridgeHdr0 : RidgeHdr := { unit := 2, epoch := 0#8, state := 1, seq := 0#32, ack := 0#32, fcsBad := false }

/-- Unit A in STANDBY, in link epoch 0. -/
def ridge0 : State :=
  { State.reset with
    regs := [(Reg.RDG_STATE, 2#32)]
    rdg := { State.reset.rdg with epoch := 0, refused := false } }

/-- An exchange with nothing in it. -/
def ridgeCx0 : RidgeCx :=
  { course := 5, tDep := 0, tArr := 0, digest := [], classes := [], verdict := 0, replayed := 0, log := [] }

/-- Unit A in ACTIVE with the link up and a bulk frame unacknowledged. -/
def ridgeUp0 (resends : Nat) : State :=
  { State.reset with
    regs := [(Reg.LANE_GRP_STATUS 0, 4#32), (Reg.RDG_STATE, 0x101#32)]
    tim := { State.reset.tim with held := false }
    rdg := { State.reset.rdg with unacked := [⟨0, 1, 2, 0, 0, [], resends⟩], silent := 0 } }

/-- Unit A in start-up, with every lane of a Ridge group up. -/
def election0 : State :=
  { owned0 with
    regs := [(Reg.LANE_GRP_STATUS 0, 0xFF4#32)]
    tim := { owned0.tim with held := true, waiting := true }
    rdg := { owned0.rdg with phase := 0, refused := false, epoch := 0 } }

/-- Unit A in course 7, with courses of MARK 0 since course 5. -/
def probe0 : State :=
  { owned0 with
    regs := [(Reg.CRS_COURSE_LO, 7#32)]
    tim := { owned0.tim with held := false }
    rdg := { owned0.rdg with phase := 1, probeFrom := 5 } }

/-- HELLO of a partner that asks for a join, with five eaves that accept it. -/
def partner0 : RidgeHello := { owned0.ownHello with flags := 8#8, accepted := 5#16 }

/-- Unit A in course 4 with `partner0`, and a word of RDG_STATE. -/
def pair0 (word : Word) : State :=
  { owned0 with
    regs := FMap.place [(Reg.CRS_COURSE_LO, 4#32), (Reg.GLB_CLK_ALIVE, 0xFFFFFFFF#32)] Reg.RDG_STATE word
    otp := { owned0.otp with inReset := false }
    rdg := { owned0.rdg with phase := 2, partner := some partner0 } }

/-- Reset, with every input used, channel A of input 0 open for nineteen samples, channel A of the seal open, and one comparison that
differed. -/
def safety0 : State :=
  { State.reset with
    regs := [(Reg.SAF_ISO_RAW, 1#32), (Reg.SAF_PINS, 0x8#32), (Reg.SAF_FORCE0, 0x8000FFFF#32)]
    saf := { State.reset.saf with openRun := [(0, 19)], crossRun := 1 } }

/-- `owned0` in LOCKOUT, armed. -/
def lockout0 : State := { owned0 with regs := [(Reg.SAF_STATE, 3#32), (Reg.SAF_PINS, 0x100#32)] }

/-- `joined0` with a grant on lane 0. -/
def grant0 : State := { joined0 with saf := { joined0.saf with logged := 1 } }

/-- Reset, with telegram 5 past its deadline. -/
def telegram0 : State := { State.reset with saf := { State.reset.saf with telegrams := [⟨5, 3, 1, 0, 0, 0, 0, none⟩] } }

/-- A run over second 0 of the whole tree of epoch 0, to ring 3. -/
def retroParams0 : RetroParams := ⟨0, 0, 0xFFFF, 0, 3, 0, 0, 0⟩

/-- `owned0` with VAL enabled, nine seconds evaluated, a tree of epoch 0, and ring 3 a tile ring. -/
def retro0 : State :=
  { owned0 with
    regs := [(Reg.STATUS 8, 0xFFFFFFFF#32), (Reg.VAL_EVAL_LO, 9#32)]
    val := { owned0.val with held := [{ epoch := 0 }] }
    hst := { owned0.hst with funcs := [(0, { rings := [(3, { cfg := 0x84000000#32 })] })] } }

/-- A run in progress. -/
def retroRun0 : RetroRun := ⟨cmd0, 1, 0, 0, 0, false, 3, 0, 0, {}⟩

/-- `liveWith []` at the end of a power-safe stop that a firmware reset asked for. -/
def stopping4 : State :=
  { liveWith [] with
    otp := { (liveWith []).otp with resetCause := some 4 }
    arc := { owned0.arc with stopping := some [] } }

/-- `liveWith []` with a transfer in progress. -/
def receiving0 (x : Transfer) : State := { liveWith [] with otp := { (liveWith []).otp with transfer := some x } }

/-- `owned0` with the seal open. -/
def seal0 : State := { owned0 with regs := [(Reg.SAF_PINS, 0xFFFF#32)] }

/-- A calibration of zeros. -/
def cal0 : Octets := zeros 124 ++ le 4 (crc32 (zeros 124))

/-- The defaults of Table 17.5, with period code 8 the only other value. -/
def defaults0 : Octets :=
  let d : Octets := [0#8, 0#8, 0#8, 0#8, 8#8] ++ zeros 7 ++ [10#8, 0#8, 1#8, 0x10#8, 1#8] ++ zeros 235
  d ++ le 4 (crc32 d)

/-- `liveWith` with the seal open and safety values staged that R436 allows. -/
def safeWords0 : State :=
  liveWith [(Reg.SAF_CFG2, 0x00100501#32), (Reg.SAF_PINS, 0xFFFF#32)]

/-- The opcode of the command that programs a block. -/
def progOp (block : Nat) : Nat := if block = 1 then 0x62 else if block = 2 then 0x61 else 0x60

/-- `owned0` with the first word or slot of a block in programming. -/
def programming0 (block : Nat) : State :=
  { owned0 with otp := { owned0.otp with prog := some ⟨block, 0, [], some (progOp block, cmd0)⟩ } }

/-- Reset, with `format3` on the hubs. -/
def unmounted0 : State := { State.reset with arc := { State.reset.arc with format := some format3 } }

theorem fragmented_short (s : State) (c : Nat) (f : Frame) (h : f.payload.length ≤ 1) : s.fragmented c f = f := by
  unfold State.fragmented
  exact if_pos (Nat.le_trans h (Nat.le_max_left 1 _))

/-- Hypotheses of OwnershipCommands that are met together, clause by clause. -/
theorem witness_OwnershipCommands :
    (let c : Cmd := cmd0;
     let s : State := State.reset;
     opens c s = true ∧ s.logsCommands = false ∧ c.len = 0 ∧ s.hst.ownership = .noOwner ∧ s.get Fl.RDG_STATE_STATE ≠ 2)
    ∧ (let c : Cmd := cmd0;
     let s : State := { State.reset with hst := { State.reset.hst with ownership := .election 0 [] } };
     let n := 0;
     let l := [];
     opens c s = true ∧ s.logsCommands = false ∧ c.len = 0 ∧ s.hst.ownership = .election n l)
    ∧ (let c : Cmd := cmd0;
     let s : State := owned0;
     let f := 0;
     let n := 0;
     opens c s = true ∧ s.logsCommands = false ∧ c.len = 0 ∧ posts 1 s = true ∧ s.hst.ownership = .owned f n)
    ∧ (let c : Cmd := cmd0;
     let s : State := owned0;
     admits c s = true ∧ c.len = 0 ∧ posts 2 s = true)
    ∧ (let c : Cmd := cmd0;
     let target : Byte := 1#8;
     let s : State := { owned0 with hst := { owned0.hst with bifurcation := 1 } };
     admits c s = true ∧ c.len = 0 ∧ target.toNat ≤ 3 ∧ s.present target.toNat = true ∧ (s.fn target.toNat).fenced =
     false ∧ target.toNat ≠ c.func.val ∧ posts 3 s = true) := by decide +kernel

/-- Hypotheses of OwnershipCommands that are met together, clause by clause. -/
theorem witness_OwnershipCommands_2 :
    (let c : Cmd := cmd0;
     let target : Byte := 1#8;
     let s : State := owned0;
     admits c s = true ∧ c.len = 0 ∧ target.toNat ≤ 3 ∧
     (s.present target.toNat = false ∨ (s.fn target.toNat).fenced = true ∨ target.toNat = c.func.val) ∧ posts 3 s =
     true)
    ∧ (let c : Cmd := cmd0;
     let s : State := owned0;
     admits c s = true ∧ c.len = 0 ∧ posts 4 s = true)
    ∧ (let c : Cmd := cmd0;
     let s : State := { owned0 with crs := { owned0.crs with nextBatten := 3 } };
     defers c s = true ∧ c.len = 0)
    ∧ (let c : Cmd := cmd0;
     let s : State := { owned0 with crs := { owned0.crs with nextBatten := 3 } };
     opens c s = true ∧ s.logsCommands = true ∧ c.len = 0)
    ∧ (let c : Cmd := cmd0;
     let s : State := State.reset;
     s.decommissioned = false ∧ malformed c = false ∧ c.len = 0 ∧ s.isOwner c.func.val = false) := by decide +kernel

/-- Hypotheses of ElectionAndLease that are met together, clause by clause. -/
theorem witness_ElectionAndLease :
    (let s : State := { State.reset with tim := { State.reset.tim with now := 10000000 }, hst := { State.reset.hst with ownership := .election 0 [(cmd0, 5)] } };
     let n := 0;
     let l := [(cmd0, 5)];
     let w := (cmd0, 5);
     s.hst.ownership = .election n l ∧ n + 10000000 ≤ s.now ∧ s.rdg.applying = false ∧
     (bestClaim (l.filter fun x => !(s.fn x.1.func.val).fenced) = some w))
    ∧ (let s : State := { State.reset with tim := { State.reset.tim with now := 10000000 }, hst := { State.reset.hst with ownership := .election 0 [(cmd0, 5)], funcs := [(0, { fenced := true })] } };
     let n := 0;
     let l := [(cmd0, 5)];
     s.hst.ownership = .election n l ∧ n + 10000000 ≤ s.now ∧ s.rdg.applying = false ∧
     (bestClaim (l.filter fun x => !(s.fn x.1.func.val).fenced) = none))
    ∧ (let s : State := { State.reset with tim := { State.reset.tim with now := 9999999 }, hst := { State.reset.hst with ownership := .election 0 [] } };
     let n := 0;
     let l := ([] : List (Cmd × Nat));
     s.hst.ownership = .election n l ∧ s.now < n + 10000000)
    ∧ (let s : State := { owned0 with tim := { owned0.tim with now := 250000000 } };
     let f := 0;
     let n := 0;
     s.hst.ownership = .owned f n ∧ n + s.leaseNs ≤ s.now ∧ (s.fn f).fenced = false) := by decide +kernel

/-- Hypotheses of ElectionAndLease that are met together, clause by clause. -/
theorem witness_ElectionAndLease_2 :
    (let s : State := owned0;
     let f := 0;
     let n := 0;
     s.hst.ownership = .owned f n ∧ s.now < n + s.leaseNs)
    ∧ (let s : State := { owned0 with tim := { owned0.tim with now := 249000000 }, hst := { owned0.hst with leaseShortArmed := true } };
     let f := 0;
     s.owner = some f ∧ s.hst.leaseShortArmed = true ∧ s.leaseLeft < 50 ∧ s.get Fl.RDG_STATE_STATE ≠ 2)
    ∧ (let s : State := owned0;
     (s.hst.leaseShortArmed = false ∨ 50 ≤ s.leaseLeft)) := by decide +kernel

/-- Hypotheses of FenceCauses that are met together, clause by clause. -/
theorem witness_FenceCauses :
    (let f : Fin 4 := 0;
     let s : State := State.reset;
     (s.fn f.val).fenced = false)
    ∧ (let a : Nat := 0x0B0000;
     a < 2 ^ 22)
    ∧ (let f : Fin 4 := 0;
     let k : Fin 4 := 1;
     let s : State := { liveWith [] with hst := { owned0.hst with bifurcation := 1 } };
     writes f Reg.HST_FENCE_CMD s = true ∧ s.isOwner f.val = true ∧ s.standbyOrHold = false ∧ (s.fn k.val).fenced =
     false)
    ∧ (let f : Fin 4 := 1;
     let s : State := { liveWith [] with hst := { owned0.hst with bifurcation := 1 } };
     writes f Reg.HST_FENCE_CMD s = true ∧ s.isOwner f.val = false ∧ s.fget f.val Fl.HST_WSW_STATUS_STICKY = 0)
    ∧ (let f : Fin 4 := 2;
     let s : State := { State.reset with hst := { State.reset.hst with funcs := [(2, { fenced := true, cause := 3 })] } };
     (s.fn f.val).fenced = true)
    ∧ (let f : Fin 4 := 0;
     let s : State := State.reset;
     (s.fn f.val).fenced = false) := by decide +kernel

/-- Hypotheses of Unfencing that are met together, clause by clause. -/
theorem witness_Unfencing :
    (let f : Fin 4 := 0;
     let s : State := { liveWith [] with hst := { State.reset.hst with funcs := [(0, { fenced := true, cause := 5 })] } };
     writes f Reg.HST_FENCE s = true ∧ (s.fn f.val).fenced = true ∧ (s.fn f.val).linkDown = false ∧ (s.fn f.val).flr =
     false ∧ (s.fn f.val).masterClear = false ∧ (s.fn f.val).d3hot = false ∧ s.get Fl.RDG_STATE_STATE ≠ 2)
    ∧ (let f : Fin 4 := 0;
     let s : State := liveWith [];
     writes f Reg.HST_RING_CTRL s = true ∧ (s.ring f.val (s.ringSel f.val)).enabled = false ∧
     (s.ring f.val (s.ringSel f.val)).idle = true)
    ∧ (let f : Fin 4 := 0;
     let s : State := { liveWith [] with hst := { State.reset.hst with funcs := [(0, { fenced := true, cause := 3, masterClear := true })] } };
     writes f Reg.HST_FENCE s = true ∧ (s.fn f.val).fenced = true ∧
     ((s.fn f.val).linkDown = true ∨ (s.fn f.val).flr = true ∨ (s.fn f.val).masterClear = true ∨ (s.fn f.val).d3hot = true)) := by decide +kernel

/-- Hypotheses of RingControl that are met together, clause by clause. -/
theorem witness_RingControl :
    (let f : Fin 4 := 0;
     let s : State := { liveWith [] with hst := { owned0.hst with funcs := [(0, { rings := [(0, { active := 1 })] })] } };
     writes f Reg.HST_RING_CTRL s = true ∧ (s.ring f.val (s.ringSel f.val)).enabled = false ∧
     (s.ring f.val (s.ringSel f.val)).idle = false ∧ s.fget f.val Fl.HST_WSW_STATUS_STICKY = 0)
    ∧ (let f : Fin 4 := 0;
     let s : State := { liveWith [] with hst := { owned0.hst with funcs := [(0, { rings := [(0, { enabled := true })] })] } };
     writes f Reg.HST_RING_CTRL s = true ∧ (s.ring f.val (s.ringSel f.val)).enabled = true ∧ s.ringNeeded f.val
     (s.ringSel f.val) = false)
    ∧ (let f : Fin 4 := 0;
     let s : State := { liveWith [] with fregs := [(funcKey 0 Reg.HST_RING_SEL, 1#32)], hst := { owned0.hst with funcs := [(0, { rings := [(0, { cfg := 0x04010000#32, enabled := true }), (1, { cfg := 0x44000000#32, enabled := true })] })] } };
     writes f Reg.HST_RING_CTRL s = true ∧ (s.ring f.val (s.ringSel f.val)).enabled = true ∧ s.ringNeeded f.val
     (s.ringSel f.val) = true ∧ s.fget f.val Fl.HST_WSW_STATUS_STICKY = 0)
    ∧ (let f : Fin 4 := 0;
     let s : State := { liveWith [] with hst := { owned0.hst with funcs := [(0, { rings := [(0, { enabled := true, cache := [{ octets := [2#8] ++ zeros 63 }] })] })] } };
     writes f Reg.HST_RING_CTRL s = true ∧ (s.ring f.val (s.ringSel f.val)).type = 0 ∧
     (s.ring f.val (s.ringSel f.val)).idle = false) := by decide +kernel

/-- Hypotheses of RingControl that are met together, clause by clause. -/
theorem witness_RingControl_2 :
    (let f : Fin 4 := 0;
     let s : State := liveWith [];
     writes f Reg.HST_RING_CTRL s = true ∧ s.fget f.val Fl.HST_WSW_STATUS_STICKY = 0)
    ∧ (let f : Fin 4 := 0;
     let r : Fin 256 := 0;
     let index : Word := 1#32;
     let s : State := { liveWith [] with hst := { owned0.hst with funcs := [(0, { rings := [(0, { enabled := true })] })] } };
     s.decommissioned = false ∧ (s.ring f.val r.val).enabled = true ∧ (s.ring f.val r.val).err = false ∧
     (s.ring f.val r.val).indexValid index = true)
    ∧ (let f : Fin 4 := 0;
     let r : Fin 256 := 0;
     let index : Word := 17#32;
     let s : State := { liveWith [] with hst := { owned0.hst with funcs := [(0, { rings := [(0, { enabled := true })] })] } };
     s.decommissioned = false ∧ (s.ring f.val r.val).enabled = true ∧ (s.ring f.val r.val).err = false ∧
     (s.ring f.val r.val).indexValid index = false ∧ s.get Fl.RDG_STATE_STATE ≠ 2)
    ∧ (let s : State := State.reset;
     s.decommissioned = false ∧ s.get Fl.RDG_STATE_STATE ≠ 2) := by decide +kernel

/-- Hypotheses of RingControl that are met together, clause by clause. -/
theorem witness_RingControl_3 :
    (let f : Fin 4 := 0;
     let r : Fin 256 := 3;
     let s : State := { State.reset with hst := { State.reset.hst with funcs := [(0, { rings := [(3, { enabled := true, dropsOwed := true, moderating := true })] })] } };
     (s.ring f.val r.val).dropsOwed = true ∧ (s.ring f.val r.val).enabled = true ∧ (s.ring f.val r.val).err = false ∧
     (s.fn f.val).fenced = false)
    ∧ (let f : Fin 4 := 0;
     let r : Fin 256 := 3;
     let s : State := { State.reset with hst := { State.reset.hst with funcs := [(0, { rings := [(3, { enabled := true, moderating := true, messageOwed := true })] })] } };
     (s.ring f.val r.val).moderating = true ∧ (s.fn f.val).fenced = false)
    ∧ (let f : Fin 4 := 0;
     let r : Fin 256 := 3;
     let s : State := { State.reset with hst := { State.reset.hst with funcs := [(0, { rings := [(3, { enabled := true, moderating := true })] })] } };
     (s.ring f.val r.val).moderating = true ∧ (s.fn f.val).fenced = false)
    ∧ (let f : Fin 4 := 0;
     let s : State := { liveWith [] with fregs := [(funcKey 0 Reg.HST_WSW_STATUS, 0x80000001#32)] };
     writes f Reg.HST_WSW_STATUS s = true ∧ s.fget f.val Fl.HST_WSW_STATUS_STICKY = 1) := by decide +kernel

/-- Hypotheses of Descriptors that are met together, clause by clause. -/
theorem witness_Descriptors :
    (let f : Fin 4 := 0;
     let r : Fin 256 := 0;
     let s : State := rings0 [];
     s.decommissioned = false ∧ (s.ring f.val r.val).enabled = true ∧ (s.ring f.val r.val).err = false ∧
     (s.ring f.val r.val).type = 0 ∧ (s.fn f.val).fenced = false ∧ (s.ring f.val r.val).pidx ≠
     (s.ring f.val r.val).cidx ∧ (s.ring f.val r.val).cache.length < 16 ∧
     (s.ring f.val (s.ring f.val r.val).cplRing).enabled = true ∧ (s.ring f.val (s.ring f.val r.val).cplRing).err =
     false ∧ (s.ring f.val (s.ring f.val r.val).cplRing).type = 1 ∧ (s.ring f.val (s.ring f.val r.val).cplRing).held +
     (s.ring f.val (s.ring f.val r.val).cplRing).reserved < (s.ring f.val (s.ring f.val r.val).cplRing).size)
    ∧ (let f : Fin 4 := 0;
     let r : Fin 256 := 0;
     let d : Octets := [0x10#8] ++ zeros 15 ++ [4#8] ++ zeros 47;
     let s : State := rings0 [];
     let i := Instr.planLoad { func := 0, ring := 0, tag := 0#32, high := false, addr := 0#64, len := 4#32 } [];
     s.decommissioned = false ∧ (s.ring f.val r.val).enabled = true ∧ (s.ring f.val r.val).err = false ∧
     (s.ring f.val r.val).type = 0 ∧ (s.fn f.val).fenced = false ∧ (s.ring f.val r.val).pidx ≠
     (s.ring f.val r.val).cidx ∧ (s.ring f.val r.val).cache = [] ∧ (s.ring f.val (s.ring f.val r.val).cplRing).enabled
     = true ∧ (s.ring f.val (s.ring f.val r.val).cplRing).err = false ∧
     (s.ring f.val (s.ring f.val r.val).cplRing).type = 1 ∧ (s.ring f.val (s.ring f.val r.val).cplRing).held +
     (s.ring f.val (s.ring f.val r.val).cplRing).reserved < (s.ring f.val (s.ring f.val r.val).cplRing).size ∧
     commandOf f.val r.val d [] = some i ∧ readClass (leAt d 0 1) = false ∧ commandBad i = false ∧ s.isOwner f.val =
     true ∧ s.standbyOrHold = false ∧ malformed (cmdOf f.val r.val d) = false ∧ (cmdOf f.val r.val d).len ≠ 0) := by decide +kernel

/-- Hypotheses of Descriptors that are met together, clause by clause. -/
theorem witness_Descriptors_2 :
    (let f : Fin 4 := 0;
     let r : Fin 256 := 0;
     let s : State := State.reset;
     (s.ring f.val r.val).pidx = (s.ring f.val r.val).cidx)
    ∧ (let f : Fin 4 := 0;
     let r : Fin 256 := 0;
     let s : State := rings0 [{ octets := [0x10#8] ++ zeros 15 ++ [4#8] ++ zeros 47 }];
     let d := ({ octets := [0x10#8] ++ zeros 15 ++ [4#8] ++ zeros 47 } : Cached);
     let rest := ([] : List Cached);
     s.fetchOwed f.val r.val = some (d, rest)) := by decide +kernel

/-- Hypotheses of Descriptors that are met together, clause by clause. -/
theorem witness_Descriptors_3 :
    (let f : Fin 4 := 0;
     let r : Fin 256 := 0;
     let data : Octets := zeros 4;
     let s : State := rings0 [{ octets := [0x10#8] ++ zeros 15 ++ [4#8] ++ zeros 47 }];
     let d := ({ octets := [0x10#8] ++ zeros 15 ++ [4#8] ++ zeros 47 } : Cached);
     let i := Instr.planLoad { func := 0, ring := 0, tag := 0#32, high := false, addr := 0#64, len := 4#32 } (zeros 4);
     s.fetchOwed f.val r.val = some (d, []) ∧ [0x10, 0x1A, 0x20, 0x21, 0x3C, 0x40, 0x62].contains (leAt d.octets 0 1)
     = true ∧ bitOf 1 (leAt d.octets 1 1) = false ∧ bitOf 2 (leAt d.octets 1 1) = false ∧ data.length = leAt d.octets
     16 4 ∧ d.object = 0 ∧ commandOf f.val r.val d.octets data = some i ∧ commandBad i = false ∧
     (s.ring f.val r.val).err = false ∧ s.isOwner f.val = true ∧ s.get Fl.RDG_STATE_STATE = 0 ∧ malformed
     (cmdOf f.val r.val d.octets) = false ∧ s.loggedCommands < 256)
    ∧ (let f : Fin 4 := 0;
     let r : Fin 256 := 0;
     let s : State := rings0 [{ octets := [0x44#8, 2#8] ++ zeros 62 }];
     let d := ({ octets := [0x44#8, 2#8] ++ zeros 62 } : Cached);
     s.fetchOwed f.val r.val = some (d, []) ∧ readClass (leAt d.octets 0 1) = true) := by decide +kernel

/-- Hypotheses of Descriptors that are met together, clause by clause. -/
theorem witness_Descriptors_4 :
    (let f : Fin 4 := 0;
     let r : Fin 256 := 0;
     let s : State := rings0 [{ octets := [0x10#8] ++ zeros 15 ++ [4#8] ++ zeros 47 }];
     let d := ({ octets := [0x10#8] ++ zeros 15 ++ [4#8] ++ zeros 47 } : Cached);
     let i := Instr.planLoad { func := 0, ring := 0, tag := 0#32, high := false, addr := 0#64, len := 4#32 } [];
     s.fetchOwed f.val r.val = some (d, []) ∧ readClass (leAt d.octets 0 1) = false ∧ commandOf f.val r.val d.octets
     d.data = some i ∧ commandBad i = false ∧ malformed (cmdOf f.val r.val d.octets) = false ∧ s.isOwner f.val = true
     ∧ s.standbyOrHold = false)
    ∧ (let f : Fin 4 := 0;
     let r : Fin 256 := 0;
     let s : State := State.reset;
     s.fetchOwed f.val r.val = none) := by decide +kernel

/-- Hypotheses of ReadCommands that are met together, clause by clause. -/
theorem witness_ReadCommands :
    (let c : Cmd := cmd0;
     let s : State := State.reset;
     opens c s = true ∧ c.len = 0 ∧ s.rdg.applying = false)
    ∧ (let c : Cmd := cmd0;
     let key : BitVec 64 := 9#64;
     let s : State := cellsWith {};
     let i := 3;
     let p := false;
     opens c s = true ∧ c.len = 0 ∧ s.rdg.applying = false ∧ s.lookup key.toNat = some (i, p))
    ∧ (let c : Cmd := cmd0;
     let key : BitVec 64 := 5#64;
     let s : State := State.reset;
     opens c s = true ∧ c.len = 0 ∧ s.rdg.applying = false ∧ s.lookup key.toNat = none) := by decide +kernel

/-- Hypotheses of ReadCommands that are met together, clause by clause. -/
theorem witness_ReadCommands_2 :
    (let c : Cmd := { cmd0 with addr := 4#64, len := 256#32 };
     let first : BitVec 32 := 0#32;
     let count : BitVec 32 := 1#32;
     let s : State := State.reset;
     opens c s = true ∧ c.len.toNat = 256 * count.toNat ∧ 1 ≤ count.toNat ∧ count.toNat ≤ 4096 ∧ first.toNat +
     count.toNat ≤ 1048576 ∧ s.rdg.applying = false ∧ (s.fn c.func.val).fenced = false)
    ∧ (let c : Cmd := cmd0;
     let first : BitVec 32 := 0#32;
     let count : BitVec 32 := 0#32;
     let s : State := State.reset;
     opens c s = true ∧ c.len.toNat = 256 * count.toNat ∧ s.rdg.applying = false ∧
     (count.toNat = 0 ∨ 4096 < count.toNat ∨ 1048576 < first.toNat + count.toNat))
    ∧ (let c : Cmd := { cmd0 with addr := 4#64, len := 4#32 };
     let s : State := State.reset;
     opens c s = true ∧ c.len ≠ 0 ∧ s.rdg.applying = false) := by decide +kernel

/-- Hypotheses of RegisterWrites that are met together, clause by clause. -/
theorem witness_RegisterWrites :
    (let a : BitVec 22 := 0#22;
     let n : Fin 17 := 2;
     (n.val ≠ 4 ∨ a.toNat % 4 ≠ 0))
    ∧ (let f : Fin 4 := 0;
     let a : BitVec 22 := 0x000FFC#22;
     let s : State := liveWith [];
     reaches f a.toNat s = true ∧ regRow a.toNat = none)
    ∧ (let f : Fin 4 := 0;
     let s : State := { State.reset with otp := { State.reset.otp with inReset := true } };
     s.otp.inReset = true ∧ ((s.hung.any fun h => h.func == f.val) = false))
    ∧ (let f : Fin 4 := 0;
     let a : BitVec 22 := BitVec.ofNat 22 Reg.KEY_SLOT_SEL;
     let s : State := { liveWith [] with regs := [(Reg.GLB_CLK_ALIVE, 0#32)] };
     s.present f.val = true ∧ a.toNat % 4 = 0 ∧ s.otp.inReset = false ∧ s.hangs a.toNat = true) := by decide +kernel

/-- Hypotheses of RegisterWrites that are met together, clause by clause. -/
theorem witness_RegisterWrites_2 :
    (let f : Fin 4 := 0;
     let a : BitVec 22 := BitVec.ofNat 22 Reg.TMP_CFG;
     let v := 0#32;
     let s : State := { liveWith [] with hst := State.reset.hst };
     let r := rowAt Reg.TMP_CFG;
     let w := WswReason.notOwner;
     writes f a.toNat s = true ∧ a.toNat % 4 = 0 ∧ regRow a.toNat = some r ∧ singular a.toNat = false ∧ s.writeRefusal
     f.val a.toNat v r = some w)
    ∧ (let f : Fin 4 := 0;
     let a : BitVec 22 := BitVec.ofNat 22 Reg.TMP_CFG;
     let s : State := { liveWith [] with hst := State.reset.hst };
     let r := rowAt Reg.TMP_CFG;
     writes f a.toNat s = true ∧ a.toNat % 4 = 0 ∧ regRow a.toNat = some r ∧ singular a.toNat = false ∧ r.owned = true
     ∧ s.isOwner f.val = false ∧ s.fget f.val Fl.HST_WSW_STATUS_STICKY = 0)
    ∧ (let f : Fin 4 := 0;
     let a : BitVec 22 := BitVec.ofNat 22 Reg.TMP_CFG;
     let s : State := liveWith [(Reg.SAF_PINS, 0#32)];
     let r := rowAt Reg.TMP_CFG;
     ownerReaches f a.toNat s = true ∧ a.toNat % 4 = 0 ∧ regRow a.toNat = some r ∧ singular a.toNat = false ∧
     r.sealedFields = true ∧ s.flag Fl.SAF_PINS_SEAL_OPEN = false ∧ s.fget f.val Fl.HST_WSW_STATUS_STICKY = 0)
    ∧ (let f : Fin 4 := 0;
     let a : BitVec 22 := BitVec.ofNat 22 Reg.KEY_SLOT_SEL;
     let v := 5#32;
     let s : State := liveWith [];
     let r := rowAt Reg.KEY_SLOT_SEL;
     writes f a.toNat s = true ∧ a.toNat % 4 = 0 ∧ regRow a.toNat = some r ∧ singular a.toNat = false ∧ s.writeRefusal
     f.val a.toNat v r = none ∧ s.carriesExpert a.toNat v r = false ∧ r.owned = false ∧ r.perFunc = true ∧ pairLo
     a.toNat = none ∧ (a.toNat < Reg.HST_RING_CFG ∨ Reg.HST_RING_WB_HI < a.toNat)) := by decide +kernel

/-- Hypotheses of RegisterWrites that are met together, clause by clause. -/
theorem witness_RegisterWrites_3 :
    (let f : Fin 4 := 0;
     let a : BitVec 22 := 0x0C004C#22;
     let v := 5#32;
     let s : State := liveWith [];
     let r := rowAt 0x0C004C;
     ownerReaches f a.toNat s = true ∧ a.toNat % 4 = 0 ∧ regRow a.toNat = some r ∧ singular a.toNat = false ∧
     s.writeRefusal f.val a.toNat v r = none ∧ s.flag Fl.GLB_EXPERT_EN_EN = false ∧ s.carriesExpert a.toNat v r =
     false ∧ r.owned = true ∧ r.perFunc = false ∧ hasHeader (a.toNat / 65536) = true ∧ 8 ≤ a.toNat % 65536 ∧
     boundaryBasic a.toNat = false ∧ a.toNat ∉
     [Reg.CRS_STAGE_SEAL, Reg.MTB_SHADOW_LO, Reg.MTB_SHADOW_HI, Reg.REC_BILL_CFG, Reg.TMP_CFG] ∧ isSeed a.toNat =
     false ∧ a.toNat ≠ Reg.SWC_QLIMIT 0 ∧ a.toNat ≠ Reg.SWC_QLIMIT 1 ∧ s.get Fl.RDG_STATE_STATE ≠ 1)
    ∧ (let f : Fin 4 := 0;
     let a : BitVec 22 := BitVec.ofNat 22 Reg.MTB_STASH;
     let v := 5#32;
     let s : State := liveWith [];
     let r := rowAt Reg.MTB_STASH;
     writes f a.toNat s = true ∧ a.toNat % 4 = 0 ∧ regRow a.toNat = some r ∧ singular a.toNat = false ∧ s.writeRefusal
     f.val a.toNat v r = none ∧ s.carriesExpert a.toNat v r = false ∧ r.owned = false ∧ r.perFunc = false ∧ pairLo
     a.toNat = none ∧ (a.toNat < Reg.HST_RING_CFG ∨ Reg.HST_RING_WB_HI < a.toNat)) := by decide +kernel

/-- Hypotheses of RegisterReads that are met together, clause by clause. -/
theorem witness_RegisterReads :
    (let f : Fin 4 := 0;
     let a : BitVec 22 := BitVec.ofNat 22 Reg.TIM_NOW_SEC_LO;
     let s : State := liveWith [];
     reaches f a.toNat s = true ∧ a.toNat % 4 = 0 ∧ latchedBy a.toNat ≠ [])
    ∧ (let f : Fin 4 := 0;
     let a : BitVec 22 := BitVec.ofNat 22 Reg.HST_DB_ERR_COUNT;
     let s : State := liveWith [(Reg.HST_DB_ERR_COUNT, 7#32)];
     let r := rowAt Reg.HST_DB_ERR_COUNT;
     reaches f a.toNat s = true ∧ a.toNat % 4 = 0 ∧ regRow a.toNat = some r ∧
     ((r.fields.any fun x => x.acc == .rc) = true) ∧ latchedBy a.toNat = [] ∧ a.toNat < Reg.EVT_WIN 0 ∧ a.toNat ≠
     Reg.KEY_RNG_DATA ∧ a.toNat ≠ Reg.KEY_NOISE_RAW)
    ∧ (let f : Fin 4 := 0;
     let s : State := liveWith [(Reg.HST_DB_ERR_COUNT, 7#32)];
     reaches f Reg.HST_DB_ERR_COUNT s = true)
    ∧ (let f : Fin 4 := 0;
     let n : Fin 17 := 8;
     let s : State := liveWith [];
     s.present f.val = true ∧ n.val ≠ 4)
    ∧ (let f : Fin 4 := 0;
     let a : BitVec 22 := BitVec.ofNat 22 Reg.HST_DB_ERR_COUNT;
     let s : State := State.reset;
     s.present f.val = true ∧ ((s.hung.any fun h => h.func == f.val) = false) ∧ a.toNat % 4 = 0 ∧ s.otp.inReset = true) := by decide +kernel

/-- Hypotheses of RegisterReads that are met together, clause by clause. -/
theorem witness_RegisterReads_2 :
    (let f : Fin 4 := 0;
     let s : State := liveWith [];
     writes f Reg.HST_RING_BASE_LO s = true ∧ (s.ring f.val (s.ringSel f.val)).idle = true)
    ∧ (let f : Fin 4 := 0;
     let lo := 0x1000#32;
     let s : State := { liveWith [] with held := [(0, 0x1000#32)] };
     writes f Reg.HST_RING_BASE_HI s = true ∧ (s.ring f.val (s.ringSel f.val)).idle = true ∧
     (s.held.find? fun p => p.1 == f.val) = some (f.val, lo))
    ∧ (let f : Fin 4 := 0;
     let s : State := { liveWith [] with regs := [], hung := [⟨0, Reg.KEY_SLOT_SEL, none⟩] };
     let h := (⟨0, Reg.KEY_SLOT_SEL, none⟩ : HungAccess);
     s.hung = [h] ∧ h.func = f.val ∧ s.hangs h.addr = true)
    ∧ (let f : Fin 4 := 0;
     let s : State := { liveWith [] with hung := [⟨0, Reg.KEY_SLOT_SEL, none⟩] };
     let h := (⟨0, Reg.KEY_SLOT_SEL, none⟩ : HungAccess);
     s.hung = [h] ∧ h.func = f.val ∧ s.hangs h.addr = false)
    ∧ (let f : Fin 4 := 0;
     let s : State := { liveWith [] with hung := [⟨0, Reg.KEY_SLOT_SEL, none⟩] };
     let h := (⟨0, Reg.KEY_SLOT_SEL, none⟩ : HungAccess);
     s.hung = [h] ∧ h.func = f.val ∧ h.write = none ∧ s.hangs h.addr = false ∧ s.otp.inReset = false ∧ h.addr <
     Reg.EVT_WIN 0 ∧ h.addr ≠ Reg.KEY_RNG_DATA ∧ h.addr ≠ Reg.KEY_NOISE_RAW) := by decide +kernel

/-- Hypotheses of BlockControl that are met together, clause by clause. -/
theorem witness_BlockControl :
    (let f : Fin 4 := 0;
     let b : Fin 22 := 4;
     let s : State := liveWith [];
     disablable b.val = true ∧ ownerReaches f (b.val * 0x10000) s = true ∧ s.get Fl.RDG_STATE_STATE ≠ 1)
    ∧ (let f : Fin 4 := 0;
     let b : Fin 22 := 4;
     let s : State := active0;
     disablable b.val = true ∧ ownerReaches f (b.val * 0x10000) s = true ∧ s.get Fl.RDG_STATE_STATE = 1)
    ∧ (let f : Fin 4 := 0;
     let b : Fin 22 := 4;
     let s : State := liveWith [];
     disablable b.val = true ∧ ownerReaches f (b.val * 0x10000) s = true ∧ s.get Fl.RDG_STATE_STATE ≠ 1 ∧ s.draining
     b.val = false)
    ∧ (let f : Fin 4 := 0;
     let b : Fin 22 := 4;
     let s : State := liveWith [(Reg.CTRL 4, 0#32), (Reg.STATUS 4, 0#32)];
     disablable b.val = true ∧ ownerReaches f (b.val * 0x10000) s = true ∧ s.get Fl.RDG_STATE_STATE ≠ 1 ∧ s.flag
     (Fl.STATUS_IDLE b.val) = false) := by decide +kernel

/-- Hypotheses of BlockControl that are met together, clause by clause. -/
theorem witness_BlockControl_2 :
    (let f : Fin 4 := 0;
     let b : Fin 22 := 4;
     let s : State := liveWith [];
     disablable b.val = true ∧ ownerReaches f (b.val * 0x10000) s = true ∧ s.fget f.val Fl.HST_WSW_STATUS_STICKY = 0)
    ∧ (let f : Fin 4 := 0;
     let b : Fin 22 := 3;
     let s : State := liveWith [];
     disablable b.val = false ∧ hasHeader b.val = true ∧ ownerReaches f (b.val * 0x10000) s = true ∧ s.fget f.val
     Fl.HST_WSW_STATUS_STICKY = 0)
    ∧ (let f : Fin 4 := 0;
     let b : Fin 22 := 3;
     let s : State := liveWith [];
     disablable b.val = false ∧ hasHeader b.val = true ∧ ownerReaches f (b.val * 0x10000) s = true ∧ s.get
     Fl.RDG_STATE_STATE ≠ 1)
    ∧ (let b : Fin 22 := 4;
     let s : State := liveWith [(Reg.CTRL 4, 0#32), (Reg.STATUS 4, 0#32)];
     s.draining b.val = true ∧ s.quiet b.val = true ∧ s.get Fl.RDG_STATE_STATE ≠ 2) := by decide +kernel

/-- Hypotheses of BlockControl that are met together, clause by clause. -/
theorem witness_BlockControl_3 :
    (let b : Fin 22 := 7;
     let s : State := { owned0 with bill := { owned0.bill with current := some (⟨[], false, 0, 0, false, false, 0⟩, 0) } };
     s.quiet b.val = false)
    ∧ (let f : Fin 4 := 0;
     let b : Fin 22 := 5;
     let code : Byte := 2#8;
     let s : State := liveWith [];
     hasHeader b.val = true ∧ ownerReaches f (b.val * 0x10000 + 4) s = true ∧ s.get Fl.RDG_STATE_STATE ≠ 1 ∧
     code.toNat ≤ profileMost b.val)
    ∧ (let f : Fin 4 := 0;
     let b : Fin 22 := 5;
     let code : Byte := 3#8;
     let s : State := liveWith [];
     hasHeader b.val = true ∧ ownerReaches f (b.val * 0x10000 + 4) s = true ∧ profileMost b.val < code.toNat ∧ s.fget
     f.val Fl.HST_WSW_STATUS_STICKY = 0)
    ∧ (let f : Fin 4 := 0;
     let s : State := liveWith [];
     ownerReaches f Reg.GLB_EXPERT_EN s = true ∧ s.get Fl.RDG_STATE_STATE = 0) := by decide +kernel

/-- Hypotheses of RegisterCommands that are met together, clause by clause. -/
theorem witness_RegisterCommands :
    (let f : Fin 4 := 0;
     let x : Bool := true;
     let s : State := liveWith [];
     ownerReaches f Reg.CRS_STAGE_SEAL s = true ∧ s.get Fl.RDG_STATE_STATE ≠ 1 ∧
     (x = true ∨ s.flag Fl.CRS_PLAN_STATUS_COMMIT_PENDING = false))
    ∧ (let f : Fin 4 := 0;
     let s : State := liveWith [(Reg.CRS_PLAN_STATUS, 0xFFFFFFFF#32)];
     ownerReaches f Reg.CRS_STAGE_SEAL s = true ∧ s.flag Fl.CRS_PLAN_STATUS_COMMIT_PENDING = true ∧ s.fget f.val
     Fl.HST_WSW_STATUS_STICKY = 0)
    ∧ (let f : Fin 4 := 0;
     let s : State := liveWith [(Reg.GLB_EXPERT_EN, 1#32)];
     ownerReaches f Reg.MTB_HASH_SEED1 s = true ∧ s.get Fl.RDG_STATE_STATE ≠ 1 ∧ s.flag Fl.GLB_EXPERT_EN_EN = true ∧
     s.get Fl.MTB_OCCUPANCY_ENTRIES = 0)
    ∧ (let f : Fin 4 := 0;
     let seed := 1#32;
     let s : State := liveWith [];
     ownerReaches f Reg.MTB_HASH_SEED0 s = true ∧ s.get Fl.RDG_STATE_STATE ≠ 1 ∧ s.flag Fl.GLB_EXPERT_EN_EN = false ∧
     s.get Fl.MTB_OCCUPANCY_ENTRIES = 0 ∧ seed ≠ s.word Reg.MTB_HASH_SEED0 ∧ s.fget f.val Fl.HST_WSW_STATUS_STICKY = 0) := by decide +kernel

/-- Hypotheses of RegisterCommands that are met together, clause by clause. -/
theorem witness_RegisterCommands_2 :
    (let f : Fin 4 := 0;
     let s : State := liveWith [];
     ownerReaches f Reg.MTB_SHADOW_LO s = true ∧ ownerReaches f Reg.MTB_SHADOW_HI s = true ∧ s.get Fl.RDG_STATE_STATE
     ≠ 1)
    ∧ (let f : Fin 4 := 0;
     let s : State := liveWith [(Reg.SAF_PINS, 0xFFFF#32)];
     ownerReaches f Reg.REC_BILL_CFG s = true ∧ s.get Fl.RDG_STATE_STATE ≠ 1 ∧ s.flag Fl.SAF_PINS_SEAL_OPEN = true ∧
     s.get Fl.MTB_OCCUPANCY_ENTRIES = 0)
    ∧ (let f : Fin 4 := 0;
     let s : State := liveWith [(Reg.SAF_PINS, 0xFFFF#32)];
     ownerReaches f Reg.TMP_CFG s = true ∧ s.get Fl.RDG_STATE_STATE ≠ 1 ∧ s.flag Fl.SAF_PINS_SEAL_OPEN = true)
    ∧ (let f : Fin 4 := 0;
     let g : Fin 40 := 39;
     let mode : Fin 4 := 2;
     let s : State := liveWith [];
     ownerReaches f (Reg.LANE_ELEC_CFG g.val) s = true ∧ s.get Fl.RDG_STATE_STATE ≠ 1 ∧ mode.val < 3) := by decide +kernel

/-- Hypotheses of RecorderWindow that are met together, clause by clause. -/
theorem witness_RecorderWindow :
    (let f : Fin 4 := 0;
     let s : State := liveWith [];
     writes f Reg.EVT_CURSOR_HI s = true)
    ∧ (let f : Fin 4 := 0;
     let i : Fin 4 := 0;
     let s : State := evt0;
     let e := (⟨1, 0, 3, 1, zeros 16⟩ : EvRec);
     reaches f (Reg.EVT_WIN (8 * i.val)) s = true ∧ s.evtShown f.val i.val = some e)
    ∧ (let f : Fin 4 := 0;
     let i : Fin 4 := 1;
     let s : State := evt0;
     reaches f (Reg.EVT_WIN (8 * i.val)) s = true ∧ s.evtShown f.val i.val = none)
    ∧ (let f : Fin 4 := 0;
     let s : State := evt0;
     FMap.get false s.evt.fetching f.val = true)
    ∧ (let f : Fin 4 := 0;
     let s : State := owned0;
     FMap.get false s.evt.fetching f.val = false)
    ∧ (let c : Cmd := cmd0;
     let n : BitVec 64 := 1#64;
     let s : State := evt0;
     admits c s = true ∧ c.len = 0 ∧ n.toNat < 2 ^ 48 ∧ s.evtTail ≤ n.toNat ∧ n.toNat ≤ s.evtHead ∧ posts 0x58 s =
     true)
    ∧ (let c : Cmd := cmd0;
     let n : BitVec 64 := 2#64;
     let s : State := evt0;
     admits c s = true ∧ c.len = 0 ∧ n.toNat < 2 ^ 48 ∧ s.evtHead < n.toNat ∧ posts 0x58 s = true) := by decide +kernel

/-- Hypotheses of TimeCommands that are met together, clause by clause. -/
theorem witness_TimeCommands :
    (let c : Cmd := cmd0;
     let delta : BitVec 64 := 5#64;
     let s : State := time0;
     admits c s = true ∧ c.len = 0 ∧ (s.get Fl.TIM_STATE_STATE = 1 ∨ s.get Fl.TIM_STATE_STATE = 4) ∧
     delta.toInt.natAbs ≤ 10 ^ 12 ∧ posts 0x48 s = true)
    ∧ (let c : Cmd := cmd0;
     let s : State := owned0;
     admits c s = true ∧ c.len = 0 ∧ s.get Fl.TIM_STATE_STATE ≠ 1 ∧ s.get Fl.TIM_STATE_STATE ≠ 4 ∧ posts 0x48 s = true)
    ∧ (let c : Cmd := cmd0;
     let s : State := time0;
     let k := 1;
     admits c s = true ∧ c.len = 0 ∧ (k = 1 ∨ k = 2 ∨ k = 3) ∧ (s.cand k).heldOff = true)
    ∧ (let c : Cmd := cmd0;
     let delta : BitVec 64 := 5#64;
     let s : State := time0;
     admits c s = true ∧ c.len = 0 ∧ delta.toInt.natAbs < 2 ^ 62) := by decide +kernel

/-- Hypotheses of TimeCommands that are met together, clause by clause. -/
theorem witness_TimeCommands_2 :
    (let c : Cmd := cmd0;
     let cand : Byte := 1#8;
     let s : State := time0;
     admits c s = true ∧ c.len = 0 ∧ 1 ≤ cand.toNat ∧ cand.toNat ≤ 3 ∧ (s.cand cand.toNat).qualified = true ∧
     s.freeRun = false)
    ∧ (let c : Cmd := cmd0;
     let cand : Byte := 2#8;
     let s : State := time0;
     admits c s = true ∧ c.len = 0 ∧ 1 ≤ cand.toNat ∧ cand.toNat ≤ 3 ∧ (s.cand cand.toNat).qualified = false ∧ posts
     0x49 s = true)
    ∧ (let c : Cmd := cmd0;
     let s : State := time0;
     admits c s = true ∧ c.len = 0 ∧ posts 0x49 s = true)
    ∧ (let c : Cmd := cmd0;
     let s : State := time0;
     admits c s = true ∧ c.len = 0) := by decide +kernel

/-- Hypotheses of TimeScale that are met together, clause by clause. -/
theorem witness_TimeScale :
    (let s : State := { State.reset with regs := [(Reg.TIM_STATE, 0x00000010#32), (Reg.TIM_UTC, 0xFFFFFFFF#32)] };
     s.tim.smearLeft = 0 ∧ s.flag Fl.TIM_UTC_LEAP61 = true ∧ s.get Fl.TIM_STATE_SEL = 1 ∧ s.get Fl.RDG_STATE_STATE ≠ 2)
    ∧ (let s : State := { State.reset with regs := [(Reg.TIM_STATE, 0x00000400#32)] };
     s.flag Fl.TIM_STATE_LEAP = true ∧ s.get Fl.RDG_STATE_STATE ≠ 2)
    ∧ (let s : State := wait0;
     let ns : BitVec 32 := 0#32;
     s.tim.held = true ∧ s.tim.waiting = true ∧ ns.toNat < 1000000000 ∧ s.rdg.phase = 0)
    ∧ (let s : State := { owned0 with tim := { owned0.tim with waiting := false } };
     s.tim.waiting = false) := by decide +kernel

/-- Hypotheses of TimeScale that are met together, clause by clause. -/
theorem witness_TimeScale_2 :
    (let s : State := wait0;
     s.tim.held = true ∧ s.tim.waiting = true ∧ s.flag Fl.TIM_STATE_SET = false ∧ s.flag Fl.ARC_STATE_MOUNTED = false
     ∧ s.rdg.phase = 0 ∧ s.get Fl.RDG_STATE_STATE ≠ 2)
    ∧ (let s : State := { wait0 with regs := [(Reg.TIM_STATE, 0xFFFFFFFF#32)] };
     s.tim.held = true ∧ s.tim.waiting = true ∧ s.flag Fl.TIM_STATE_SET = true ∧ s.rdg.phase = 0)
    ∧ (let s : State := { owned0 with tim := { owned0.tim with waiting := false } };
     s.tim.waiting = false)
    ∧ (let s : State := { wait0 with regs := [(Reg.TIM_STATE, 0x80#32)], rdg := { wait0.rdg with phase := 1 } };
     s.tim.held = true ∧ s.tim.waiting = true ∧ s.flag Fl.TIM_STATE_SET = true ∧ s.rdg.phase ≠ 0 ∧ s.crs.resuming =
     false ∧ s.flag Fl.TIM_STATE_STEP_PENDING = false) := by decide +kernel

/-- Hypotheses of TimeInputs that are met together, clause by clause. -/
theorem witness_TimeInputs :
    (let p : Fin 16 := 0;
     let s : State := ptp0;
     s.portEnabled p.val = true)
    ∧ (let p : Fin 16 := 0;
     let s : State := ptp0;
     s.portEnabled p.val = true)
    ∧ (let p : Fin 16 := 0;
     let m : PdelayResp := ({ seq := 3#16, t2 := 100, t3 := 0, t4 := 300, correction := 4, twoStep := false, followUp := false } : PdelayResp);
     let t1 : Int := 7;
     let s : State := ptp0;
     s.portEnabled p.val = true ∧ m.followUp = false ∧ m.twoStep = false ∧ (s.ptpPort p.val).reqOpen = some
     m.seq.toNat ∧ ((s.ptpPort p.val).txq.find? fun q => q.1 == m.seq.toNat) = some (m.seq.toNat, t1))
    ∧ (let p : Fin 16 := 0;
     let m : PdelayResp := ({ seq := 3#16, t2 := 0, t3 := 150, t4 := 0, correction := 4, twoStep := true, followUp := true } : PdelayResp);
     let t1 : Int := 7;
     let t2 : Int := 100;
     let t4 : Int := 300;
     let k : Int := 1;
     let s : State := { ptp0 with tim := { ptp0.tim with ports := [(0, { respOpen := some (3, 7, 100, 300, 1) })] } };
     s.portEnabled p.val = true ∧ m.followUp = true ∧ (s.ptpPort p.val).respOpen = some (m.seq.toNat, t1, t2, t4, k)) := by decide +kernel

/-- Hypotheses of TimeInputs that are met together, clause by clause. -/
theorem witness_TimeInputs_2 :
    (let p : Fin 16 := 0;
     let seq : BitVec 16 := 9#16;
     let s : State := ptp0;
     (s.ptpPort p.val).txq.length < 16 ∧ (((s.ptpPort p.val).owed.find? fun q => q.1 == seq.toNat) = none))
    ∧ (let p : Fin 16 := 0;
     let seq : BitVec 16 := 3#16;
     let who : Nat := 8;
     let s : State := { ptp0 with tim := { ptp0.tim with ports := [(0, { owed := [(3, 8)] })] } };
     (s.ptpPort p.val).txq.length < 16 ∧ ((s.ptpPort p.val).owed.find? fun q => q.1 == seq.toNat) = some
     (seq.toNat, who))
    ∧ (let p : Fin 16 := 0;
     let s : State := { ptp0 with tim := { ptp0.tim with ports := [(0, { txq := List.replicate 16 (3, 7) })] } };
     16 ≤ (s.ptpPort p.val).txq.length)
    ∧ (let stamp : Int := 65536000;
     let s : State := { State.reset with regs := [(Reg.TIM_PPS_IN_CFG, 0x80000000#32)] };
     s.get Fl.TIM_PPS_IN_CFG_EN = 1 ∧ (s.cand 2).edge ≠ some ((stamp / 65536 + 500000000) / 1000000000 * 1000000000)) := by decide +kernel

/-- Hypotheses of TimeInputs that are met together, clause by clause. -/
theorem witness_TimeInputs_3 :
    (let stamp : Int := 65536000;
     let s : State := { State.reset with regs := [(Reg.TIM_PPS_IN_CFG, 0x80000000#32)], tim := { State.reset.tim with cands := [(2, { edge := some 0, qualified := true })] } };
     s.get Fl.TIM_PPS_IN_CFG_EN = 1 ∧ (s.cand 2).edge = some ((stamp / 65536 + 500000000) / 1000000000 * 1000000000))
    ∧ (let s : State := { State.reset with regs := [(Reg.TIM_STATE, 0x10#32)], tim := { State.reset.tim with cands := [(1, { qualified := true })] } };
     (s.cand 1).qualified = true ∧ s.get Fl.TIM_STATE_SEL = 1 ∧ s.tim.history = []) := by decide +kernel

/-- Hypotheses of PtpMaster that are met together, clause by clause. -/
theorem witness_PtpMaster :
    (let p : Fin 16 := 0;
     let s : State := ptp0;
     s.portEnabled p.val = true ∧ (s.ptpPort p.val).announce = none ∧
     (∀ q : Fin 16, q ≠ p → (s.ptpPort q.val).announce = none))
    ∧ (let p : Fin 16 := 0;
     let m : PtpSync := ({ source := 9#80, seq := 1#16, t2 := 5, twoStep := true, t1 := 0, correction := 0 } : PtpSync);
     let a : PtpAnnounce := ann0;
     let s : State := ptp1;
     s.portEnabled p.val = true ∧ s.tim.master = some p.val ∧ (s.ptpPort p.val).announce = some a ∧ a.source =
     m.source ∧ m.twoStep = true) := by decide +kernel

/-- Hypotheses of PtpMaster that are met together, clause by clause. -/
theorem witness_PtpMaster_2 :
    (let p : Fin 16 := 0;
     let m : PtpSync := ({ source := 9#80, seq := 1#16, t2 := 5, twoStep := false, t1 := 0, correction := 0 } : PtpSync);
     let a : PtpAnnounce := ann0;
     let s : State := ptp1;
     s.portEnabled p.val = true ∧ s.tim.master = some p.val ∧ (s.ptpPort p.val).announce = some a ∧ a.source =
     m.source ∧ m.twoStep = false)
    ∧ (let p : Fin 16 := 0;
     let m : PtpFollowUp := ({ source := 9#80, seq := 1#16, t1 := 0, correction := 0 } : PtpFollowUp);
     let a : PtpAnnounce := ann0;
     let t2 : Int := 5;
     let c : Int := 0;
     let s : State := ptp1;
     s.portEnabled p.val = true ∧ s.tim.master = some p.val ∧ (s.ptpPort p.val).announce = some a ∧ a.source =
     m.source ∧ (s.ptpPort p.val).syncOpen = some (m.seq.toNat, t2, c)) := by decide +kernel

/-- Hypotheses of LaneGroups that are met together, clause by clause. -/
theorem witness_LaneGroups :
    (let g : Fin 40 := 0;
     let s : State := lane0;
     s.get (Fl.LANE_GRP_STATUS_ROLE g.val) ≠ 0 ∧ s.flag (Fl.LANE_GRP_STATUS_TRAINED g.val) = false ∧ s.get
     Fl.RDG_STATE_STATE ≠ 2 ∧ (∀ h : Fin 128, s.hubPresent h.val = true ∨ (s.hub h.val).state = 0))
    ∧ (let g : Fin 40 := 1;
     let s : State := lane0;
     (s.get (Fl.LANE_GRP_STATUS_ROLE g.val) = 0 ∨ s.flag (Fl.LANE_GRP_STATUS_TRAINED g.val) = true))
    ∧ (let g : Fin 40 := 0;
     let s : State := lane0;
     s.get (Fl.LANE_GRP_STATUS_ROLE g.val) ≠ 0 ∧ s.flag (Fl.LANE_GRP_STATUS_TRAINED g.val) = false ∧ s.get
     Fl.RDG_STATE_STATE ≠ 2)
    ∧ (let l : Fin 320 := 319;
     let s : State := lane0;
     s.hasGroup (l.val / 8) = true)
    ∧ (let l : Fin 320 := 160;
     let s : State := { State.reset with regs := [(Reg.GLB_DEVICE_ID, 0x10#32)] };
     s.hasGroup (l.val / 8) = false)
    ∧ (let l : Fin 320 := 3;
     let lock := true;
     let s : State := lane0;
     s.hasGroup (l.val / 8) = true ∧ s.get (Fl.LANE_GRP_STATUS_ROLE (l.val / 8)) ≠ 0 ∧ s.portOfLane l.val = none ∧
     bitOf (l.val % 8) (s.get (Fl.LANE_GRP_STATUS_LANE_UP (l.val / 8))) ≠ lock ∧ s.get Fl.RDG_STATE_STATE ≠ 2) := by decide +kernel

/-- Hypotheses of LaneGroups that are met together, clause by clause. -/
theorem witness_LaneGroups_2 :
    (let k : Fin 5 := 4;
     let ok := true;
     let s : State := lane0;
     s.hasGroup (8 * k.val) = true ∧ s.flag (Fl.LANE_GRP_STATUS_REFCLK_OK (8 * k.val)) ≠ ok ∧ s.get Fl.RDG_STATE_STATE
     ≠ 2)
    ∧ (let k : Fin 5 := 4;
     let ok := false;
     let s : State := lane0;
     (s.hasGroup (8 * k.val) = false ∨ s.flag (Fl.LANE_GRP_STATUS_REFCLK_OK (8 * k.val)) = ok))
    ∧ (let l : Fin 320 := 7;
     let s : State := lane0;
     s.get (Fl.LANE_GRP_STATUS_ROLE (l.val / 8)) ≠ 0 ∧ s.get (Fl.LANE_ELEC_CFG_MODE (l.val / 8)) = 0 ∧
     s.lane.sfi.contains l.val = false ∧ s.get Fl.RDG_STATE_STATE ≠ 2)
    ∧ (let l : Fin 320 := 7;
     let s : State := { lane0 with regs := [(Reg.LANE_GRP_STATUS 0, 1#32), (Reg.LANE_ELEC_CFG 0, 1#32)] };
     s.get (Fl.LANE_GRP_STATUS_ROLE (l.val / 8)) ≠ 0 ∧ s.get (Fl.LANE_ELEC_CFG_MODE (l.val / 8)) = 1 ∧
     s.lane.sfi.contains l.val = false ∧ s.get Fl.RDG_STATE_STATE ≠ 2)
    ∧ (let l : Fin 320 := 319;
     let s : State := { State.reset with lane := { State.reset.lane with sfi := [319] } };
     s.get (Fl.LANE_ELEC_CFG_MODE (l.val / 8)) = 0 ∧ s.lane.sfi.contains l.val = true ∧ bitOf (l.val % 8)
     (s.get (Fl.LANE_GRP_STATUS_LANE_UP (l.val / 8))) = false) := by decide +kernel

/-- Hypotheses of HealthAndDram that are met together, clause by clause. -/
theorem witness_HealthAndDram :
    (let s : State := State.reset;
     s.get Fl.RDG_STATE_STATE ≠ 2)
    ∧ (let s : State := State.reset;
     s.get Fl.RDG_STATE_STATE ≠ 2)
    ∧ (let r : List Int := List.replicate 16 300;
     let s : State := State.reset;
     (∀ i : Fin 16, s.flag (Fl.HLT_TEMP_FAULT i.val) = false) ∧
     (∀ i : Fin 16, -440 ≤ r.getD i.val 0 ∧ r.getD i.val 0 < 1056) ∧
     (∀ i j : Fin 16, r.getD i.val 0 ≤ r.getD j.val 0 + 80))
    ∧ (let s : State := hot0;
     s.hlt.tripped = true ∧ s.arc.stopping = none ∧ s.flag Fl.HLT_CFG_AUTO_RESTART = true)
    ∧ (let s : State := hot0;
     s.hlt.tripped = true ∧ s.arc.stopping = none ∧ s.flag Fl.HLT_CFG_AUTO_RESTART = true) := by decide +kernel

/-- Hypotheses of HealthAndDram that are met together, clause by clause. -/
theorem witness_HealthAndDram_2 :
    (let s : State := State.reset;
     (s.hlt.tripped = false ∨ s.flag Fl.HLT_CFG_AUTO_RESTART = false))
    ∧ (let mv : List Nat := List.replicate 24 1800;
     let s : State := State.reset;
     (∀ p : Fin 24, (supplyLevels p.val).2.2.1 ≤ mv.getD p.val 0 % 65536 ∨ FMap.get 0 s.hlt.resetRun p.val = 0))
    ∧ (let mv : List Nat := List.replicate 24 500;
     let p : Fin 24 := 3;
     let s : State := { State.reset with hlt := { State.reset.hlt with resetRun := [(3, 1)] } };
     mv.getD p.val 0 % 65536 < (supplyLevels p.val).2.2.1 ∧ 1 ≤ FMap.get 0 s.hlt.resetRun p.val ∧
     (∀ q : Fin 24, q < p → (supplyLevels q.val).2.2.1 ≤ mv.getD q.val 0 % 65536 ∨ FMap.get 0 s.hlt.resetRun q.val = 0))
    ∧ (let s : State := State.reset;
     (∀ p : Fin 24, FMap.get 0 s.hlt.lowRun p.val = 0))
    ∧ (let s : State := hot0;
     let p : Fin 24 := 3;
     0 < FMap.get 0 s.hlt.lowRun p.val) := by decide +kernel

/-- Hypotheses of Crossings that are met together, clause by clause. -/
theorem witness_Crossings :
    (let b : Fin 22 := 4;
     let n : Byte := 9#8;
     let s : State := fifo0;
     (s.fifo b.val n.toNat).cut = false ∧ s.get Fl.RDG_STATE_STATE ≠ 2)
    ∧ (let b : Fin 22 := 4;
     let n : Byte := 9#8;
     let s : State := fifo0;
     let x := (([] : Octets), false);
     let l := [(([] : Octets), true)];
     (s.fifo b.val n.toNat).entries = x :: l)
    ∧ (let b : Fin 22 := 0;
     let n : Byte := 0#8;
     let s : State := fifo0;
     (s.fifo b.val n.toNat).entries = [] ∧ s.get Fl.RDG_STATE_STATE ≠ 2)
    ∧ (let b : Fin 22 := 4;
     let n : Byte := 9#8;
     let s : State := fifo0;
     let l := [(([] : Octets), false)];
     let x := (([] : Octets), true);
     let r := ([] : List (Octets × Bool));
     (s.fifo b.val n.toNat).entries = l ++ x :: r ∧ (∀ y ∈ l, y.2 = false) ∧ x.2 = true) := by decide +kernel

theorem witness_Crossings_push :
    (fifo0.fifo 0 (0#8).toNat).cut = false
      ∧ (fifo0.fifo 0 (0#8).toNat).entries.length + (fifo0.fifo 0 (0#8).toNat).partly.length < fifoDepth 0 (0#8).toNat := by
  refine ⟨by decide, ?_⟩
  exact Nat.lt_of_le_of_lt (Nat.le_of_eq (by decide)) (Nat.two_pow_pos _)

/-- Hypotheses of StationMetrology that are met together, clause by clause. -/
theorem witness_StationMetrology :
    (let s : State := { State.reset with regs := [(Reg.STATUS 16, 0xFFFFFFFF#32)] };
     s.enabled 16 = true)
    ∧ (let missed := true;
     let s : State := State.reset;
     (missed = true ∨ s.enabled 16 = false))
    ∧ (let s : State := { State.reset with tim := { State.reset.tim with now := 6000000000 }, met := { State.reset.met with sums := [{ second := 5, count := 8000 }], gen := some (0, []) } };
     let m := ({ second := 5, count := 8000 } : MetSum);
     s.met.sums = [m] ∧ m.second < s.second ∧ m.second < 2 ^ 64 ∧ m.count = 8000 ∧ m.flags = 0 ∧ s.met.gen.isSome =
     true)
    ∧ (let s : State := State.reset;
     s.met.sums = []) := by decide +kernel

/-- Hypotheses of SoffitDomain that are met together, clause by clause. -/
theorem witness_SoffitDomain :
    (let v : BitVec 4 := 3#4;
     let s : State := soffit0;
     let k : Fin 4 := 0;
     bitOf k.val (s.get Fl.TMP_CFG_EN) = true ∧ s.tmp.runs.getD k.val 0 = 7 ∧
     (bitOf k.val v.toNat != bitOf k.val (s.get Fl.TMP_CFG_POL)) = !bitOf k.val (s.get Fl.TMP_SOFFIT_STATE_TAMPER))
    ∧ (let v : BitVec 4 := 3#4;
     let s : State := soffit0;
     let k : Fin 4 := 1;
     bitOf k.val (s.get Fl.TMP_CFG_EN) = true ∧ s.tmp.runs.getD k.val 0 < 7 ∧ s.tmp.runs.length = 4 ∧
     (bitOf k.val v.toNat != bitOf k.val (s.get Fl.TMP_CFG_POL)) = !bitOf k.val (s.get Fl.TMP_SOFFIT_STATE_TAMPER))
    ∧ (let s : State := soffit0;
     s.tmp.mainPower = true ∧ s.flag Fl.TMP_SOFFIT_STATE_SEQ_END = false)
    ∧ (let s : State := { State.reset with tmp := { State.reset.tmp with mainPower := false } };
     s.tmp.mainPower = false ∧ s.flag Fl.TMP_SOFFIT_STATE_SEQ_END = false) := by decide +kernel

/-- Hypotheses of EaveMessages that are met together, clause by clause. -/
theorem witness_EaveMessages :
    (let m := ([] : Octets);
     upMessage 0x81 m = none)
    ∧ (let l : Fin 320 := 0;
     let p : Fin 32 := 0;
     let m := hello1;
     let s : State := cells0;
     let e := eave0;
     upMessage 0x81 m = some m ∧ (((s.plan.chainOf l.val).bind fun c => c.at' p.val) = some e) ∧ e.eave < 8192 ∧
     e.identity = beAt m 2 8)
    ∧ (let l : Fin 320 := 0;
     let p : Fin 32 := 0;
     let m := hello1;
     let s : State := cells0;
     let e := eave0;
     upMessage 0x81 m = some m ∧ (((s.plan.chainOf l.val).bind fun c => c.at' p.val) = some e) ∧ e.eave < 8192 ∧
     e.identity = beAt m 2 8 ∧ (s.port l.val p.val).map = none ∧ (s.port l.val p.val).ranged = false ∧ s.flag
     (Fl.EAV_EAVE_STATE_MAPPED e.eave) = false)
    ∧ (let l : Fin 320 := 0;
     let p : Fin 32 := 0;
     let m := hello1;
     let s : State := eav0 {};
     let e := eave0;
     upMessage 0x81 m = some m ∧ (((s.plan.chainOf l.val).bind fun c => c.at' p.val) = some e) ∧ e.eave < 8192 ∧
     e.identity = beAt m 2 8 ∧ (s.port l.val p.val).map = none ∧ s.flag (Fl.EAV_EAVE_STATE_MAPPED e.eave) = true ∧
     beAt m 16 4 ≠ s.get Fl.CRS_EPOCH_CUR ∧ beAt m 20 4 ≠ s.get Fl.CRS_EPOCH_CUR)
    ∧ (let l : Fin 320 := 0;
     let p : Fin 32 := 0;
     let m := msgOf 0x81;
     let s : State := cells0;
     let e := eave0;
     upMessage 0x81 m = some m ∧ (((s.plan.chainOf l.val).bind fun c => c.at' p.val) = some e) ∧ e.eave < 8192 ∧
     e.identity ≠ beAt m 2 8) := by decide +kernel

/-- Hypotheses of EaveMessages that are met together, clause by clause. -/
theorem witness_EaveMessages_2 :
    (let l : Fin 320 := 5;
     let p : Fin 32 := 0;
     let m := hello1;
     let s : State := cells0;
     upMessage 0x81 m = some m ∧ (((s.plan.chainOf l.val).bind fun c => c.at' p.val) = none) ∧ s.resident = false)
    ∧ (let l : Fin 320 := 5;
     let p : Fin 32 := 3;
     let m := hello1;
     let s : State := { cells0 with regs := [(Reg.CRS_PLAN_STATUS, 1#32)] };
     upMessage 0x81 m = some m ∧ (((s.plan.chainOf l.val).bind fun c => c.at' p.val) = none) ∧ s.resident = true ∧
     (32 * ((List.range l.val).filter fun k => (s.plan.roles.getD (k / 8) (0, 0)).1 == 1).length + p.val < 8192))
    ∧ (let l : Fin 320 := 0;
     let p : Fin 32 := 0;
     let m := msgOf 0x82;
     let s : State := cells0;
     let e := 0;
     upMessage 0x82 m = some m ∧ s.eaveAt l.val p.val = some e ∧ e < 8192)
    ∧ (let m := ([] : Octets);
     upMessage 0x82 m = none)
    ∧ (let m := msgOf 0x83;
     let s : State := cells0;
     upMessage 0x83 m = some m ∧ s.get Fl.RDG_STATE_STATE ≠ 2) := by decide +kernel

/-- Hypotheses of EaveMessages that are met together, clause by clause. -/
theorem witness_EaveMessages_3 :
    (let m := ([] : Octets);
     upMessage 0x83 m = none)
    ∧ (let l : Fin 320 := 0;
     let p : Fin 32 := 0;
     let s : State := eav0 {};
     let e := 0;
     s.flag (Fl.LANE_GRP_STATUS_TRAINED (l.val / 8)) = true ∧ s.eaveAt l.val p.val = some e ∧ e < 8192 ∧ s.flag
     (Fl.EAV_EAVE_STATE_MAPPED e) = true ∧ s.flag (Fl.EAV_EAVE_STATE_LOST e) = false ∧ s.get Fl.RDG_STATE_STATE ≠ 2)
    ∧ (let l : Fin 320 := 0;
     let s : State := State.reset;
     s.flag (Fl.LANE_GRP_STATUS_TRAINED (l.val / 8)) = false)
    ∧ (let s : State := { State.reset with regs := [(Reg.EAV_RANGE_CFG, 0#32)] };
     s.get Fl.EAV_RANGE_CFG_INTERVAL = 0)
    ∧ (let s : State := cells0;
     let c : Chain := chain0;
     let e : EaveRec := eave0;
     s.get Fl.EAV_RANGE_CFG_INTERVAL ≠ 0 ∧ c ∈ s.plan.chains ∧ e ∈ c.inOrder ∧ (s.port c.lane e.position).mismatch =
     false ∧ s.flag (Fl.EAV_EAVE_STATE_MISMATCH e.eave) = false) := by decide +kernel

/-- Hypotheses of EaveMessages that are met together, clause by clause. -/
theorem witness_EaveMessages_4 :
    (let l : Fin 320 := 0;
     let p : Fin 32 := 0;
     let s : State := State.reset;
     (s.port l.val p.val).map = none)
    ∧ (let l : Fin 320 := 0;
     let p : Fin 32 := 0;
     let s : State := eav0 { map := some ⟨5, 9, false, true⟩, eave := some 0 };
     let m := (⟨5, 9, false, true⟩ : PendingMap);
     let e := 0;
     (s.port l.val p.val).map = some m ∧ (s.port l.val p.val).eave = some e ∧ e < 8192 ∧ m.acked = true)
    ∧ (let l : Fin 320 := 0;
     let p : Fin 32 := 0;
     let s : State := eav0 { map := some ⟨5, 9, false, false⟩, eave := some 0 };
     let m := (⟨5, 9, false, false⟩ : PendingMap);
     let e := 0;
     (s.port l.val p.val).map = some m ∧ (s.port l.val p.val).eave = some e ∧ e < 8192 ∧ m.acked = false ∧ m.late =
     false ∧ s.get Fl.RDG_STATE_STATE ≠ 2) := by decide +kernel

/-- Hypotheses of SubFrames that are met together, clause by clause. -/
theorem witness_SubFrames :
    (let l : Fin 320 := 8;
     let s : State := front0;
     s.laneRuns l.val 1 = false)
    ∧ (let l : Fin 320 := 0;
     let s : State := front0;
     s.laneRuns l.val 1 = true)
    ∧ (let l : Fin 320 := 8;
     let s : State := front0;
     (s.plan.laneHas l.val 1 = false ∨ s.flag (Fl.LANE_GRP_STATUS_TRAINED (l.val / 8)) = false))
    ∧ (let l : Fin 320 := 0;
     let b := ([] : Octets);
     let s : State := front0;
     s.plan.laneHas l.val 1 = true ∧ s.flag (Fl.LANE_GRP_STATUS_TRAINED (l.val / 8)) = true ∧ subframeOf b = none ∧
     s.get Fl.RDG_STATE_STATE ≠ 2) := by decide +kernel

/-- Hypotheses of SubFrames that are met together, clause by clause. -/
theorem witness_SubFrames_2 :
    (let l : Fin 320 := 1;
     let w := wireFrame 0xD5#8 header0;
     let s : State := front0;
     let b := header0;
     s.plan.laneHas l.val 1 = true ∧ s.flag (Fl.LANE_GRP_STATUS_TRAINED (l.val / 8)) = true ∧ s.plan.chainOf l.val =
     none ∧ subframeOf w = some b)
    ∧ (let l : Fin 320 := 0;
     let w := wireFrame 0xD5#8 header0;
     let s : State := front0;
     let c : Chain := chain0;
     let b := header0;
     s.plan.laneHas l.val 1 = true ∧ s.flag (Fl.LANE_GRP_STATUS_TRAINED (l.val / 8)) = true ∧ s.plan.chainOf l.val =
     some c ∧ subframeOf w = some b)
    ∧ (let l : Fin 320 := 0;
     let w := wireFrame 0xD5#8 subframe0;
     let s : State := front1;
     let c : Chain := (⟨0, 2, 2, [⟨1, 0, 0, 0, 0⟩]⟩ : Chain);
     let b := subframe0;
     let e := (⟨1, 0, 0, 0, 0⟩ : EaveRec);
     let d := 0;
     let u := 0;
     let o := slice subframe0 32 20;
     s.plan.laneHas l.val 1 = true ∧ s.flag (Fl.LANE_GRP_STATUS_TRAINED (l.val / 8)) = true ∧ s.plan.chainOf l.val =
     some c ∧ subframeOf w = some b ∧ c.slots = [(e, d, u)] ∧ e.eave < 8192 ∧ o = slice b (32 + beAt b 16 2 + u) e.up
     ∧ o.length = e.up ∧ beAt o (e.up - 2) 2 = crc16 (o.take (e.up - 2)))
    ∧ (let l : Fin 320 := 0;
     let w := wireFrame 0xD5#8 header0;
     let s : State := front1;
     let c : Chain := (⟨0, 2, 2, [⟨1, 0, 0, 0, 0⟩]⟩ : Chain);
     let b := header0;
     let e := (⟨1, 0, 0, 0, 0⟩ : EaveRec);
     let d := 0;
     let u := 0;
     let o := slice header0 32 20;
     s.plan.laneHas l.val 1 = true ∧ s.flag (Fl.LANE_GRP_STATUS_TRAINED (l.val / 8)) = true ∧ s.plan.chainOf l.val =
     some c ∧ subframeOf w = some b ∧ c.slots = [(e, d, u)] ∧ o = slice b (32 + beAt b 16 2 + u) e.up ∧ beAt o
     (e.up - 2) 2 ≠ crc16 (o.take (e.up - 2))) := by decide +kernel

/-- Hypotheses of PlanCommands that are met together, clause by clause. -/
theorem witness_PlanCommands :
    (let c : Cmd := load0;
     let data := zeros 16;
     let s : State := owned0;
     let st := Status.illegal;
     admits c s = true ∧ c.len ≠ 0 ∧ posts 0x10 s = true ∧ s.crs.pending = none ∧
     (match (s.accepted c).discardStaged.planChecks data with | .ok _ => none | .error e => some e) = some st)
    ∧ (let c : Cmd := load0;
     let s : State := commit0 8;
     let p := (⟨cmd0, 8⟩ : PendingCommit);
     admits c s = true ∧ c.len ≠ 0 ∧ posts 0x10 s = true ∧ s.crs.pending = some p)
    ∧ (let c : Cmd := load0;
     let kind : Byte := 2#8;
     let epoch : BitVec 32 := 1#32;
     let data := [0x54#8, 0x4D#8, 0x44#8, 0x46#8] ++ le 4 1 ++ zeros 8;
     let s : State := owned0;
     admits c s = true ∧ c.len ≠ 0 ∧ s.flag Fl.CRS_STAGE_SEAL_SEAL = false ∧ epochStatus (s.get Fl.CRS_EPOCH_CUR)
     epoch.toNat = none ∧ s.tableBusy kind.toNat = false ∧ s.crs.loads = [] ∧
     ((kind = 1 ∧ (routesOf epoch.toNat data).isSome = true) ∨ (kind = 2 ∧ (tonesOf epoch.toNat data).isSome = true) ∨ (kind = 3 ∧ tariffLoadStatus epoch.toNat s.second (s.tableLimit 11 64) data = .ok) ∨ (kind = 4 ∧ valLoadStatus epoch.toNat (s.tableLimit 9 16384) (s.tableLimit 10 8) data = .ok))) := by decide +kernel

/-- Hypotheses of PlanCommands that are met together, clause by clause. -/
theorem witness_PlanCommands_2 :
    (let c : Cmd := load0;
     let kind : Byte := 2#8;
     let epoch : BitVec 32 := 0#32;
     let s : State := owned0;
     let st := Status.stale;
     admits c s = true ∧ c.len ≠ 0 ∧ kind.toNat ≤ 4 ∧ posts 0x11 s = true ∧ s.crs.loads = [] ∧ s.tableRefusal
     kind.toNat epoch.toNat false = some st)
    ∧ (let c : Cmd := cmd0;
     let target : BitVec 64 := 100#64;
     let s : State := sealed0;
     admits c s = true ∧ c.len = 0 ∧ s.commitRefusal target.toNat = none)
    ∧ (let c : Cmd := cmd0;
     let target : BitVec 64 := 3#64;
     let s : State := sealed0;
     let st := Status.range;
     admits c s = true ∧ c.len = 0 ∧ posts 0x12 s = true ∧ s.commitRefusal target.toNat = some st) := by decide +kernel

/-- Hypotheses of PlanCommands that are met together, clause by clause. -/
theorem witness_PlanCommands_3 :
    (let c : Cmd := cmd0;
     let s : State := commit0 8;
     let p := (⟨cmd0, 8⟩ : PendingCommit);
     admits c s = true ∧ c.len = 0 ∧ posts 0x12 s = true ∧ posts 0x13 s = true ∧ s.crs.pending = some p ∧ s.course + 8
     ≤ p.target)
    ∧ (let c : Cmd := cmd0;
     let s : State := commit0 7;
     admits c s = true ∧ c.len = 0 ∧ posts 0x13 s = true ∧
     (((s.crs.pending.map fun p => decide (s.course + 8 ≤ p.target)).getD false) = false))
    ∧ (let c : Cmd := cmd0;
     let s : State := owned0;
     admits c s = true ∧ c.len = 0 ∧ posts 0x13 s = true ∧
     (((s.crs.pending.map fun p => decide (s.course + 8 ≤ p.target)).getD false) = false)) := by decide +kernel

/-- The sections of a small plan image (Tables 2.3 to 2.11): type, offset, octets. Period 4 ms, two course types, no group in use. -/
def planParts : List (Nat × Nat × Octets) :=
  [(1, 320, zeros 320), (2, 640, le 2 250 ++ zeros 6 ++ [1#8] ++ zeros 255),
   (3, 960, zeros 124 ++ le 4 4 ++ (le 4 0 ++ le 4 3) ++ zeros 116 ++ le 4 4),
   (4, 1216, zeros 512), (5, 1728, []), (6, 1728, zeros 8), (7, 1792, []), (8, 1792, zeros 8), (9, 1856, le 8 1 ++ zeros 32),
   (10, 1920, ((List.range 14).map fun k => le 4 (k + 1) ++ le 4 0).flatten), (11, 2048, zeros 32), (12, 2112, zeros 640)]

/-- The image for epoch 1: header, directory, sections, and the trailer with KEY_ID 5 and the signature (R54 to R56, R69). -/
def planImage : Octets :=
  let dir := (planParts.map fun x => le 2 x.1 ++ le 2 1 ++ le 4 0 ++ le 4 x.2.1 ++ le 4 x.2.2.length).flatten
  let head := [0x57#8, 0x47#8, 0x42#8, 0x50#8] ++ le 2 1 ++ le 2 128 ++ le 4 (2752 + 96) ++ le 4 0 ++ le 8 7 ++ le 4 1
    ++ [3#8, 2#8, 0#8, 2#8] ++ le 2 12 ++ le 2 0 ++ le 4 128 ++ zeros 24 ++ zeros 64
  planParts.foldl (fun b x => padTo x.2.1 b ++ x.2.2) (head ++ dir) ++ le 8 5 ++ zeros 24
    ++ be 32 83469483493489320462234833101672146762301195694025057158317573702067117486313
    ++ be 32 3629137666526676503155704781078150425706176116996434259088693049672995479995

/-- Reset with function 0 as the owner and the base point of P-256 in the verification list under KEY_ID 5. -/
def planState : State :=
  { owned0 with key := { owned0.key with vlist := [(0, { keyId := 5, x := p256G.1, y := p256G.2 })] } }

/-- The command that loads the image. -/
def planCmd : Cmd := { cmd0 with addr := 4#64, len := 2848#32 }

/-- A check's result is plan 7 with epoch 1. -/
def firstPlan : Except Status Plan → Bool
  | .ok p => p.planId == 7 && p.epoch == 1
  | .error _ => false

theorem ok_of_firstPlan (x : Except Status Plan) (h : firstPlan x = true) : ∃ p, x = .ok p := by
  cases x with
  | error e => cases h
  | ok p => exact ⟨p, rfl⟩

/-- A PLAN_LOAD of the image passes every check of Table 2.13. -/
theorem test_plan_image_passes :
    firstPlan ((planState.accepted planCmd).discardStaged.planChecks planImage) = true := by decide +kernel

/-- Hypotheses of the first clause of PlanCommands that are met together. -/
theorem witness_PlanCommands_load :
    ∃ p, admits planCmd planState = true ∧ planCmd.len ≠ 0 ∧ posts 0x10 planState = true ∧ planState.crs.pending = none
      ∧ (planState.accepted planCmd).discardStaged.planChecks planImage = .ok p := by
  obtain ⟨p, h⟩ := ok_of_firstPlan _ test_plan_image_passes
  exact ⟨p, by decide +kernel, by decide +kernel, by decide +kernel, by decide +kernel, h⟩

/-- Hypotheses of Boundaries that are met together, clause by clause. -/
theorem witness_Boundaries :
    (let s : State := { State.reset with tim := { State.reset.tim with held := false } };
     s.running = true ∧ s.crs.nextBatten < 16)
    ∧ (let s : State := { State.reset with tim := { State.reset.tim with held := false }, crs := { State.reset.crs with nextBatten := 16 } };
     s.running = true ∧ 16 ≤ s.crs.nextBatten)
    ∧ (let s : State := { State.reset with tim := { State.reset.tim with held := false } };
     s.running = true)
    ∧ (let s : State := State.reset;
     s.running = false)
    ∧ (let s : State := { State.reset with mtb := { State.reset.mtb with passing := true } };
     s.mtb.passing = true ∧ s.get Fl.RDG_STATE_STATE ≠ 2)
    ∧ (let s : State := State.reset;
     s.mtb.passing = false)
    ∧ (let s : State := State.reset;
     let j : BitVec 22 := 5#22;
     j.toNat < slotCount ∧ s.mtb.bad.contains j.toNat = false)
    ∧ (let s : State := { State.reset with regs := [(Reg.CRS_PLAN_STATUS, 0#32)] };
     let i : BattenIn := { quietBatten with planError := true };
     s.resident = false ∧ i.planError = true)
    ∧ (let s : State := { State.reset with crs := { State.reset.crs with planBad := true } };
     s.crs.planBad = true ∧ s.crs.fallback = none) := by decide +kernel

/-- Hypotheses of MeterTable that are met together, clause by clause. -/
theorem witness_MeterTable :
    (let s : State := scrub0;
     s.enabled 6 = true ∧ s.second % (60 * s.get Fl.MTB_AGE_CFG_COMB_PERIOD) = 0 ∧ s.flag Fl.MTB_COMB_STATUS_RUNNING =
     false)
    ∧ (let s : State := { scrub0 with regs := [(Reg.STATUS 6, 0xFFFFFFFF#32), (Reg.MTB_COMB_STATUS, 0xFFFFFFFF#32)] };
     s.enabled 6 = true ∧ s.second % (60 * s.get Fl.MTB_AGE_CFG_COMB_PERIOD) = 0 ∧ s.flag Fl.MTB_COMB_STATUS_RUNNING =
     true)
    ∧ (let s : State := { State.reset with regs := [(Reg.STATUS 6, 0#32)] };
     (s.enabled 6 = false ∨ s.second % (60 * s.get Fl.MTB_AGE_CFG_COMB_PERIOD) ≠ 0))
    ∧ (let block := zeros 4096;
     let s : State := scrub0;
     s.enabled 6 = true ∧ s.scrubHeld = false ∧ s.flag Fl.MTB_SCRUB_STATUS_RUNNING = false ∧ block.length = 4096) := by decide +kernel

/-- Hypotheses of MeterTable that are met together, clause by clause. -/
theorem witness_MeterTable_2 :
    (let block := zeros 4096;
     let s : State := scrubEnd0;
     s.scrubHeld = false ∧ s.flag Fl.MTB_SCRUB_STATUS_RUNNING = true ∧ block.length = 4096 ∧ slotCount ≤ s.get
     Fl.MTB_SCRUB_STATUS_POSITION / 256 * 256 + 256 ∧ s.get Fl.RDG_STATE_STATE ≠ 2)
    ∧ (let s : State := scrub0;
     s.enabled 6 = true ∧ s.scrubHeld = false ∧ s.get Fl.RDG_STATE_STATE ≠ 2)
    ∧ (let s : State := State.reset;
     s.scrubHeld = true)
    ∧ (let slot : BitVec 22 := 5#22;
     let octets := shadow5;
     let s : State := scrub0;
     let m := (⟨5, 0, false⟩ : Mismatch);
     s.scrubHeld = false ∧ ((s.mtb.mismatches.find? fun x => x.slot == slot.toNat) = some m) ∧ m.due ≤ s.now ∧
     m.written = false ∧ s.sameSlot slot.toNat (slotOf octets) = false ∧ s.flag Fl.MTB_SCRUB_CFG_REPAIR = false ∧
     s.get Fl.RDG_STATE_STATE ≠ 2) := by decide +kernel

/-- Hypotheses of MeterTable that are met together, clause by clause. -/
theorem witness_MeterTable_3 :
    (let slot : BitVec 22 := 5#22;
     let octets := shadow5;
     let s : State := scrubWith 0;
     let m := (⟨5, 0, false⟩ : Mismatch);
     s.scrubHeld = false ∧ ((s.mtb.mismatches.find? fun x => x.slot == slot.toNat) = some m) ∧ m.due ≤ s.now ∧
     m.written = false ∧ s.sameSlot slot.toNat (slotOf octets) = false ∧ s.flag Fl.MTB_SCRUB_CFG_REPAIR = true ∧ s.get
     Fl.RDG_STATE_STATE = 0 ∧ s.repairRefused slot.toNat (s.repaired slot.toNat (slotOf octets)) = false)
    ∧ (let slot : BitVec 22 := 5#22;
     let octets := shadow5;
     let s : State := scrubWith 1;
     let m := (⟨5, 0, false⟩ : Mismatch);
     s.scrubHeld = false ∧ ((s.mtb.mismatches.find? fun x => x.slot == slot.toNat) = some m) ∧ m.due ≤ s.now ∧
     m.written = false ∧ s.sameSlot slot.toNat (slotOf octets) = false ∧ s.flag Fl.MTB_SCRUB_CFG_REPAIR = true ∧ s.get
     Fl.RDG_STATE_STATE = 1 ∧ s.repairRefused slot.toNat (s.repaired slot.toNat (slotOf octets)) = false)
    ∧ (let slot : BitVec 22 := 5#22;
     let octets := 1#8 :: zeros 9 ++ [0x30#8] ++ zeros 5;
     let s : State := { scrubWith 0 with mtb := { scrub0.mtb with slots := [(9, { key := 1, valid := true, m0 := true })] } };
     let m := (⟨5, 0, false⟩ : Mismatch);
     s.scrubHeld = false ∧ ((s.mtb.mismatches.find? fun x => x.slot == slot.toNat) = some m) ∧ m.due ≤ s.now ∧
     m.written = false ∧ s.sameSlot slot.toNat (slotOf octets) = false ∧ s.flag Fl.MTB_SCRUB_CFG_REPAIR = true ∧ s.get
     Fl.RDG_STATE_STATE < 2 ∧ s.repairRefused slot.toNat (s.repaired slot.toNat (slotOf octets)) = true)
    ∧ (let slot : BitVec 22 := 5#22;
     let octets := zeros 16;
     let s : State := scrub0;
     let m := (⟨5, 0, false⟩ : Mismatch);
     s.scrubHeld = false ∧ ((s.mtb.mismatches.find? fun x => x.slot == slot.toNat) = some m) ∧ m.due ≤ s.now ∧
     (m.written = true ∨ s.sameSlot slot.toNat (slotOf octets) = true)) := by decide +kernel

/-- Hypotheses of MeterRecords that are met together, clause by clause. -/
theorem witness_MeterRecords :
    (let c : Cmd := load0;
     let i : BitVec 32 := 3#32;
     let s : State := { owned0 with mtb := { owned0.mtb with slots := [(7, slot3)] } };
     let x := slot3;
     admits c s = true ∧ c.len.toNat = 16 ∧ posts 0x1A s = true ∧ s.memberByIndex i.toNat = some x)
    ∧ (let c : Cmd := cmd0;
     let i : BitVec 32 := 3#32;
     let s : State := { owned0 with mtb := { owned0.mtb with slots := [(7, slot3)] } };
     let x := slot3;
     admits c s = true ∧ c.len = 0 ∧ posts 0x1A s = true ∧ s.memberByIndex i.toNat = some x)
    ∧ (let c : Cmd := load0;
     let i : BitVec 32 := 4#32;
     let s : State := owned0;
     admits c s = true ∧ c.len.toNat = 16 ∧ posts 0x1A s = true ∧ s.memberByIndex i.toNat = none) := by decide +kernel

/-- Hypotheses of PowerLineInputs that are met together, clause by clause. -/
theorem witness_PowerLineInputs :
    (let f : PlcFrame := plcFrame0;
     let s : State := cellsWith { rx := true };
     s.plan.isPlc f.cell.val = true ∧ (s.mac f.cell.val).rx = true ∧ f.unsupported = false ∧ f.decoded = true ∧
     f.fcsOk = true ∧ f.kind = .data ∧ (f.srcPan.toNat == s.plan.panId f.cell.val && f.source.toNat == 0) = false ∧
     f.dstPan.toNat = s.plan.panId f.cell.val ∧ f.dst.toNat = 0 ∧ f.ackReq = true)
    ∧ (let f : PlcFrame := { plcFrame0 with source := 0#16 };
     let s : State := cellsWith { rx := true };
     s.plan.isPlc f.cell.val = true ∧ (s.mac f.cell.val).rx = true ∧ f.unsupported = false ∧ f.decoded = true ∧
     f.fcsOk = true ∧ f.srcPan.toNat = s.plan.panId f.cell.val ∧ (f.kind = .beacon ∨ f.source = 0#16))
    ∧ (let f : PlcFrame := { plcFrame0 with fcsOk := false };
     let s : State := cellsWith { rx := true };
     s.plan.isPlc f.cell.val = true ∧ (s.mac f.cell.val).rx = true ∧ f.unsupported = false ∧
     (f.decoded = false ∨ f.fcsOk = false))
    ∧ (let f : PlcFrame := { plcFrame0 with unsupported := true };
     let s : State := cellsWith { rx := true };
     s.plan.isPlc f.cell.val = true ∧ (s.mac f.cell.val).rx = true ∧ f.unsupported = true ∧ s.get Fl.RDG_STATE_STATE ≠
     2)
    ∧ (let f : PlcFrame := plcFrame0;
     let s : State := cells0;
     (s.plan.isPlc f.cell.val = false ∨ (s.mac f.cell.val).rx = false)) := by decide +kernel

/-- Hypotheses of PowerLineInputs that are met together, clause by clause. -/
theorem witness_PowerLineInputs_2 :
    (let c : Fin 32768 := 0;
     let source : BitVec 16 := 7#16;
     let n : Nat := 20000000;
     let s : State := cellsWith { wait := some hostFrame0, waitFrom := 4885000 };
     let f : Frame := hostFrame0;
     s.plan.isPlc c.val = true ∧ (s.mac c.val).wait = some f ∧ f.hop = source.toNat ∧ s.awaited c.val
     (n - s.plan.plcAckNs c.val) = true)
    ∧ (let c : Fin 32768 := 0;
     let source : BitVec 16 := 7#16;
     let n : Nat := 20000000;
     let s : State := cellsWith { wait := some hostFrame0, waitFrom := 4885000 };
     let f : Frame := hostFrame0;
     let x := cmd0;
     s.plan.isPlc c.val = true ∧ (s.mac c.val).wait = some f ∧ f.hop = source.toNat ∧ s.awaited c.val
     (n - s.plan.plcAckNs c.val) = true ∧ f.rest = [] ∧ f.origin = .host x ∧ posts 0x20 s = true)
    ∧ (let c : Fin 32768 := 0;
     let n : Nat := 30000000;
     let s : State := cellsWith { wait := some frame0 };
     s.plan.isPlc c.val = true ∧ s.awaited c.val (n - s.plan.plcAckNs c.val) = false)
    ∧ (let c : Fin 32768 := 0;
     let s : State := cellsWith { wait := some frame0 };
     let f : Frame := frame0;
     s.plan.isPlc c.val = true ∧ s.waitOver c.val = true ∧ (s.mac c.val).wait = some f ∧ f.kind ≠ .beacon ∧ f.nr + 1 ≤
     s.plan.maxRetries c.val)
    ∧ (let c : Fin 32768 := 0;
     let s : State := cellsWith { wait := some { hostFrame0 with nr := 9 } };
     let f : Frame := { hostFrame0 with nr := 9 };
     let x := cmd0;
     s.plan.isPlc c.val = true ∧ s.waitOver c.val = true ∧ (s.mac c.val).wait = some f ∧ f.kind ≠ .beacon ∧
     s.plan.maxRetries c.val < f.nr + 1 ∧ f.again = true ∧ f.origin = .host x ∧ posts 0x20 s = true) := by decide +kernel

/-- Hypotheses of PowerLineInputs that are met together, clause by clause. -/
theorem witness_PowerLineInputs_3 :
    (let c : Fin 32768 := 0;
     let s : State := cells0;
     (s.plan.isPlc c.val = false ∨ s.waitOver c.val = false ∨ (s.mac c.val).wait = none))
    ∧ (let r : ToneResponse := (⟨0, 7#16, false, 2#2, 3#5, 4#24⟩ : ToneResponse);
     let s : State := cellsWith {};
     let i := 3;
     s.plan.isPlc r.cell.val = true ∧ r.coherent = false ∧ s.plcMeter r.cell.val r.source.toNat = some i)
    ∧ (let c : Fin 32768 := 0;
     let d : BitVec 16 := 7#16;
     let s : State := cellsWith {};
     let i := 3;
     s.plan.isPlc c.val = true ∧ s.plcMeter c.val d.toNat = some i ∧ s.get Fl.RDG_STATE_STATE ≠ 2)
    ∧ (let i : BitVec 20 := 3#20;
     let s : State := cellsWith {};
     (s.meterRec i.toNat).plc.failUntil ≤ s.second % 2 ^ 32)
    ∧ (let i : BitVec 20 := 3#20;
     let s : State := { cells0 with meters := [(3, { plc := { failUntil := 9 } })] };
     s.second % 2 ^ 32 < (s.meterRec i.toNat).plc.failUntil) := by decide +kernel

/-- Hypotheses of PowerLineInputs that are met together, clause by clause. -/
theorem witness_PowerLineInputs_4 :
    (let c : Fin 32768 := 0;
     let s : State := cells0;
     s.plan.isPlc c.val = true)
    ∧ (let c : Fin 32768 := 1;
     let s : State := cells0;
     s.plan.kind c.val ≠ 0) := by decide +kernel

/-- Hypotheses of PowerLineJoins that are met together, clause by clause. -/
theorem witness_PowerLineJoins :
    (let s : State := State.reset;
     s.resident = true)
    ∧ (let c : Fin 32768 := 0;
     let s : State := { cells0 with crs := { cells0.crs with active := { plan0 with params := [zeros 64] } } };
     s.resident = false ∧ s.plan.isPlc c.val = true ∧ bitOf 1 (s.plan.param c.val 7 1) = false)
    ∧ (let c : Fin 32768 := 0;
     let eui : BitVec 64 := 8#64;
     let s : State := cellsWith {};
     s.resident = false ∧ s.plan.isPlc c.val = true ∧ bitOf 1 (s.plan.param c.val 7 1) = true ∧ s.lookup eui.toNat =
     none)
    ∧ (let c : Fin 32768 := 0;
     let eui : BitVec 64 := 9#64;
     let s : State := { cellsWith {} with cel := {} };
     let i := 3;
     let p := false;
     s.resident = false ∧ s.plan.isPlc c.val = true ∧ bitOf 1 (s.plan.param c.val 7 1) = true ∧ s.lookup eui.toNat =
     some (i, p) ∧ (((FMap.get [] s.cel.routes c.val).find? fun (x : RouteEntry) => x.meter == i) = none)) := by decide +kernel

/-- Hypotheses of PowerLineJoins that are met together, clause by clause. -/
theorem witness_PowerLineJoins_2 :
    (let c : Fin 32768 := 0;
     let eui : BitVec 64 := 9#64;
     let s : State := cellsWith {};
     let i := 3;
     let p := false;
     let e := route3;
     s.resident = false ∧ s.plan.isPlc c.val = true ∧ bitOf 1 (s.plan.param c.val 7 1) = true ∧ s.lookup eui.toNat =
     some (i, p) ∧ (((FMap.get [] s.cel.routes c.val).find? fun (x : RouteEntry) => x.meter == i) = some e) ∧
     (s.mac c.val).lbp.length < 64 ∧ (s.deriveKey 1 (be 8 eui.toNat)).1.isSome = true)
    ∧ (let c : Fin 32768 := 0;
     let eui : BitVec 64 := 9#64;
     let s : State := cellsWith { lbp := [9] };
     let i := 3;
     let p := false;
     let e := route3;
     (s.mac c.val).lbp.contains eui.toNat = true ∧ s.lookup eui.toNat = some (i, p) ∧
     (((FMap.get [] s.cel.routes c.val).find? fun (x : RouteEntry) => x.meter == i) = some e) ∧ FMap.get 0
     s.key.courseBindings 2 ≠ 0 ∧ s.get Fl.RDG_STATE_STATE ≠ 2)
    ∧ (let c : Fin 32768 := 0;
     let eui : BitVec 64 := 9#64;
     let s : State := cellsWith { lbp := [9] };
     (s.mac c.val).lbp.contains eui.toNat = true)
    ∧ (let c : Fin 32768 := 0;
     let eui : BitVec 64 := 9#64;
     let s : State := cells0;
     (s.mac c.val).lbp.contains eui.toNat = false) := by decide +kernel

/-- Hypotheses of PowerLineJoins that are met together, clause by clause. -/
theorem witness_PowerLineJoins_3 :
    (let c : Fin 32768 := 0;
     let o : BitVec 16 := 7#16;
     let id : BitVec 16 := 5#16;
     let s : State := cellsWith {};
     s.plan.isPlc c.val = true ∧ FMap.get 0 (s.mac c.val).answered o.toNat ≠ id.toNat + 1 ∧
     (∀ x ∈ (s.mac c.val).requests, x.originator ≠ o.toNat ∨ x.id ≠ id.toNat))
    ∧ (let c : Fin 32768 := 0;
     let o : BitVec 16 := 7#16;
     let id : BitVec 16 := 5#16;
     let cost : BitVec 16 := 1#16;
     let hops : Byte := 1#8;
     let s : State := cellsWith { requests := [⟨7, 5, 7, 2, 1, 9⟩] };
     let x := (⟨7, 5, 7, 2, 1, 9⟩ : RouteRequest);
     s.plan.isPlc c.val = true ∧ FMap.get 0 (s.mac c.val).answered o.toNat ≠ id.toNat + 1 ∧ (s.mac c.val).requests =
     [x] ∧ x.originator = o.toNat ∧ x.id = id.toNat ∧
     (cost.toNat < x.cost ∨ (cost.toNat = x.cost ∧ hops.toNat < x.hops)))
    ∧ (let c : Fin 32768 := 0;
     let o : BitVec 16 := 7#16;
     let id : BitVec 16 := 5#16;
     let s : State := cellsWith { requests := [⟨7, 5, 7, 2, 1, 0⟩] };
     let r := (⟨7, 5, 7, 2, 1, 0⟩ : RouteRequest);
     s.plan.isPlc c.val = true ∧
     (((s.mac c.val).requests.find? fun x => x.originator == o.toNat && x.id == id.toNat) = some r) ∧ r.due ≤ s.now ∧
     (s.placeCells (cellQueue c.val true) 2 (cellsOf 1)).1.isSome = true)
    ∧ (let c : Fin 32768 := 0;
     let ok := true;
     let s : State := cellsWith { gmkSwitch := some 7 };
     let due := 7;
     (s.mac c.val).gmkSwitch = some due ∧ (ok = true ∨ due ≤ s.now) ∧ s.get Fl.RDG_STATE_STATE ≠ 2) := by decide +kernel

/-- Hypotheses of PowerLineJoins that are met together, clause by clause. -/
theorem witness_PowerLineJoins_4 :
    (let c : Fin 32768 := 0;
     let ok := false;
     let s : State := cellsWith { gmkSwitch := some 0 };
     let due := 0;
     (s.mac c.val).gmkSwitch = some due ∧ (ok = true ∨ due ≤ s.now) ∧ s.get Fl.RDG_STATE_STATE ≠ 2) := by decide +kernel

/-- Hypotheses of FrameSending that are met together, clause by clause. -/
theorem witness_FrameSending :
    (let c : Cmd := load0;
     let medium : Byte := 1#8;
     let ack : Byte := 1#8;
     let s : State := { joined0 with regs := [(Reg.STATUS 4, 0#32)] };
     admits c s = true ∧ frameSendIllegal c medium ack = false ∧ posts 0x20 s = true ∧
     (s.enabled (if medium = 1 then 4 else 5) = false))
    ∧ (let c : Cmd := load0;
     let i : BitVec 32 := 4#32;
     let ack : Byte := 1#8;
     let s : State := joined0;
     admits c s = true ∧ frameSendIllegal c 1#8 ack = false ∧ posts 0x20 s = true ∧ s.enabled 4 = true ∧ s.routeOf
     i.toNat = none)
    ∧ (let c : Cmd := load0;
     let i : BitVec 32 := 3#32;
     let ack : Byte := 1#8;
     let s : State := cellsWith {};
     let x := (0, route3);
     admits c s = true ∧ frameSendIllegal c 1#8 ack = false ∧ posts 0x20 s = true ∧ s.enabled 4 = true ∧ s.routeOf
     i.toNat = some x ∧ (s.meterRec i.toNat).plc.joined = false) := by decide +kernel

/-- Hypotheses of FrameSending that are met together, clause by clause. -/
theorem witness_FrameSending_2 :
    (let c : Cmd := load0;
     let i : BitVec 32 := 4#32;
     let ack : Byte := 1#8;
     let s : State := joined0;
     admits c s = true ∧ frameSendIllegal c 2#8 ack = false ∧ posts 0x20 s = true ∧ s.enabled 5 = true ∧
     s.memberByIndex i.toNat = none)
    ∧ (let c : Cmd := load0;
     let i : BitVec 32 := 3#32;
     let ack : Byte := 1#8;
     let s : State := cellsWith {};
     admits c s = true ∧ frameSendIllegal c 2#8 ack = false ∧ posts 0x20 s = true ∧ s.enabled 5 = true ∧
     (s.memberByIndex i.toNat).isSome = true ∧ (s.meterRec i.toNat).rad.assoc = false) := by decide +kernel

/-- Hypotheses of the first clause of FrameSending that are met together: a frame of one octet is never cut. -/
theorem witness_FrameSending_plc :
    let f : Frame := joined0.routed 0 7 false { hostFrame load0 3 true [5#8] with dest := 7 }
    admits load0 joined0 = true ∧ frameSendIllegal load0 1#8 1#8 = false ∧ joined0.enabled 4 = true
      ∧ joined0.routeOf 3 = some (0, route3) ∧ (joined0.meterRec 3).plc.joined = true
      ∧ joined0.chooseHop 0 route3 = some (7, false) ∧ f = joined0.fragmented 0 f
      ∧ (joined0.placeCells (cellQueue 0 f.high) 2 (cellsOf f.bytes)).1.isSome = true := by
  exact ⟨by decide +kernel, by decide +kernel, by decide +kernel, by decide +kernel, by decide +kernel, by decide +kernel,
    (fragmented_short _ _ _ (by decide +kernel)).symm, by decide +kernel⟩

/-- Hypotheses of the second clause of FrameSending that are met together. -/
theorem witness_FrameSending_rad :
    let f : Frame := { hostFrame load0 3 true [5#8] with dest := 2, hop := 2 }
    admits load0 joined0 = true ∧ frameSendIllegal load0 2#8 1#8 = false ∧ joined0.enabled 5 = true
      ∧ (joined0.memberByIndex 3).isSome = true ∧ (joined0.meterRec 3).rad.assoc = true ∧ (joined0.meterRec 3).rad.cell = 1
      ∧ (joined0.meterRec 3).rad.unreachable = false ∧ f = joined0.fragmented 1 f
      ∧ (joined0.placeCells (cellQueue 1 f.high) 2 (cellsOf f.bytes)).1.isSome = true := by
  exact ⟨by decide +kernel, by decide +kernel, by decide +kernel, by decide +kernel, by decide +kernel, by decide +kernel, by decide +kernel,
    (fragmented_short _ _ _ (by decide +kernel)).symm, by decide +kernel⟩

/-- Hypotheses of RadioInputs that are met together, clause by clause. -/
theorem witness_RadioInputs :
    (let f : RadFrame := radFrame0;
     let s : State := cellsWith { rx := true };
     s.plan.isRad f.cell.val = true ∧ (s.mac f.cell.val).rx = true ∧ f.modeSwitch = false ∧ f.decoded = true ∧ f.fcsOk
     = true ∧ f.version2 = true ∧ f.kind ≠ .beacon ∧ f.kind ≠ .other ∧ s.radForeign f = 0 ∧ s.radOurs f = true ∧
     f.ackReq = true)
    ∧ (let f : RadFrame := { radFrame0 with fcsOk := false };
     let s : State := cellsWith { rx := true };
     s.plan.isRad f.cell.val = true ∧ (s.mac f.cell.val).rx = true ∧ f.modeSwitch = false ∧
     (f.decoded = false ∨ f.fcsOk = false))
    ∧ (let f : RadFrame := { radFrame0 with modeSwitch := true };
     let s : State := cellsWith { rx := true };
     s.plan.isRad f.cell.val = true ∧ (s.mac f.cell.val).rx = true ∧
     (f.modeSwitch = true ∨ (f.decoded = true ∧ f.fcsOk = true ∧ f.version2 = false)) ∧ s.get Fl.RDG_STATE_STATE ≠ 2)
    ∧ (let f : RadFrame := { radFrame0 with version2 := false };
     let s : State := cellsWith { rx := true };
     s.plan.isRad f.cell.val = true ∧ (s.mac f.cell.val).rx = true ∧
     (f.modeSwitch = true ∨ (f.decoded = true ∧ f.fcsOk = true ∧ f.version2 = false)) ∧ s.get Fl.RDG_STATE_STATE ≠ 2) := by decide +kernel

/-- Hypotheses of RadioInputs that are met together, clause by clause. -/
theorem witness_RadioInputs_2 :
    (let f : RadFrame := { radFrame0 with kind := .beacon, srcPan := 1#16 };
     let s : State := cellsWith { rx := true };
     s.plan.isRad f.cell.val = true ∧ (s.mac f.cell.val).rx = true ∧ f.modeSwitch = false ∧ f.decoded = true ∧ f.fcsOk
     = true ∧ s.radForeign f ≠ 0)
    ∧ (let f : RadFrame := radFrame0;
     let s : State := cells0;
     (s.plan.isRad f.cell.val = false ∨ (s.mac f.cell.val).rx = false))
    ∧ (let f : RadFrame := radFrame0;
     let s : State := cellsWith { rx := true };
     let i := 3;
     let p := false;
     s.plan.isRad f.cell.val = true ∧ (s.mac f.cell.val).rx = true ∧ f.modeSwitch = false ∧ f.decoded = true ∧ f.fcsOk
     = true ∧ f.version2 = true ∧ f.suppressed = false ∧ f.kind = .data ∧ s.radForeign f = 0 ∧ s.radOurs f = true ∧
     f.extended = true ∧ 5 ≤ f.secLevel.val ∧ f.keyMode = 0 ∧ s.lookup f.source.toNat = some (i, p) ∧
     (((s.deriveKey 3 (be 8 f.source.toNat)).1.map fun x => ccmTag x (ccmNonce f.source.toNat f.fc.toNat f.secLevel.val) f.header f.payload (ccmLength f.secLevel.val)) = some f.mic)
     ∧ FMap.get 0 (s.mac f.cell.val).lastDsn f.source.toNat ≠ f.dsn.toNat + 1 ∧ (s.meterRec i).rad.rxFc < f.fc.toNat)
    ∧ (let f : RadFrame := radFrame0;
     let s : State := { cellsWith { rx := true } with meters := [(3, { key := 9, rad := { rxFc := 1 } })] };
     let i := 3;
     let p := false;
     s.plan.isRad f.cell.val = true ∧ (s.mac f.cell.val).rx = true ∧ f.modeSwitch = false ∧ f.decoded = true ∧ f.fcsOk
     = true ∧ f.version2 = true ∧ f.suppressed = false ∧ f.kind = .data ∧ s.radForeign f = 0 ∧ s.radOurs f = true ∧
     f.extended = true ∧ 5 ≤ f.secLevel.val ∧ f.keyMode = 0 ∧ s.lookup f.source.toNat = some (i, p) ∧
     (((s.deriveKey 3 (be 8 f.source.toNat)).1.map fun x => ccmTag x (ccmNonce f.source.toNat f.fc.toNat f.secLevel.val) f.header f.payload (ccmLength f.secLevel.val)) = some f.mic)
     ∧ FMap.get 0 (s.mac f.cell.val).lastDsn f.source.toNat ≠ f.dsn.toNat + 1 ∧ f.fc.toNat ≤ (s.meterRec i).rad.rxFc ∧
     s.get Fl.RDG_STATE_STATE ≠ 2) := by decide +kernel

/-- Hypotheses of RadioInputs that are met together, clause by clause. -/
theorem witness_RadioInputs_3 :
    (let f : RadFrame := { radFrame0 with secLevel := 1 };
     let s : State := cellsWith { rx := true };
     s.plan.isRad f.cell.val = true ∧ (s.mac f.cell.val).rx = true ∧ f.modeSwitch = false ∧ f.decoded = true ∧ f.fcsOk
     = true ∧ f.version2 = true ∧ f.suppressed = false ∧ f.kind = .data ∧ s.radForeign f = 0 ∧ s.radOurs f = true ∧
     (f.extended = false ∨ f.secLevel.val < 5 ∨ f.keyMode ≠ 0))
    ∧ (let f : RadFrame := { radFrame0 with source := 8#64 };
     let s : State := cellsWith { rx := true };
     s.plan.isRad f.cell.val = true ∧ (s.mac f.cell.val).rx = true ∧ f.modeSwitch = false ∧ f.decoded = true ∧ f.fcsOk
     = true ∧ f.version2 = true ∧ f.suppressed = false ∧ f.kind = .data ∧ s.radForeign f = 0 ∧ s.radOurs f = true ∧
     f.extended = true ∧ 5 ≤ f.secLevel.val ∧ f.keyMode = 0 ∧
     (s.lookup f.source.toNat = none ∨ ((s.deriveKey 3 (be 8 f.source.toNat)).1.map fun x => ccmTag x (ccmNonce f.source.toNat f.fc.toNat f.secLevel.val) f.header f.payload (ccmLength f.secLevel.val)) ≠ some f.mic))
    ∧ (let f : RadFrame := { radFrame0 with mic := [] };
     let s : State := cellsWith { rx := true };
     s.plan.isRad f.cell.val = true ∧ (s.mac f.cell.val).rx = true ∧ f.modeSwitch = false ∧ f.decoded = true ∧ f.fcsOk
     = true ∧ f.version2 = true ∧ f.suppressed = false ∧ f.kind = .data ∧ s.radForeign f = 0 ∧ s.radOurs f = true ∧
     f.extended = true ∧ 5 ≤ f.secLevel.val ∧ f.keyMode = 0 ∧
     (s.lookup f.source.toNat = none ∨ ((s.deriveKey 3 (be 8 f.source.toNat)).1.map fun x => ccmTag x (ccmNonce f.source.toNat f.fc.toNat f.secLevel.val) f.header f.payload (ccmLength f.secLevel.val)) ≠ some f.mic))
    ∧ (let c : Fin 32768 := 1;
     let dsn : Byte := 4#8;
     let sfd : Nat := 7;
     let s : State := cellsWith { wait := some frame0, waitFrom := 7 };
     let f : Frame := frame0;
     let i := 3;
     s.plan.isRad c.val = true ∧ (s.mac c.val).wait = some f ∧ f.dsn = dsn.toNat ∧ s.awaited c.val sfd = true ∧
     f.meter = some i) := by decide +kernel

/-- Hypotheses of RadioInputs that are met together, clause by clause. -/
theorem witness_RadioInputs_4 :
    (let c : Fin 32768 := 1;
     let dsn : Byte := 4#8;
     let sfd : Nat := 7;
     let s : State := cellsWith { wait := some hostFrame0, waitFrom := 7 };
     let f : Frame := hostFrame0;
     let x := cmd0;
     s.plan.isRad c.val = true ∧ (s.mac c.val).wait = some f ∧ f.dsn = dsn.toNat ∧ s.awaited c.val sfd = true ∧ f.rest
     = [] ∧ f.origin = .host x ∧ posts 0x20 s = true)
    ∧ (let c : Fin 32768 := 1;
     let sfd : Nat := 8;
     let s : State := cellsWith { wait := some frame0, waitFrom := 7 };
     s.awaited c.val sfd = false)
    ∧ (let c : Fin 32768 := 1;
     let s : State := cellsWith { wait := some frame0 };
     let f : Frame := frame0;
     s.plan.isRad c.val = true ∧ s.waitOver c.val = true ∧ (s.mac c.val).wait = some f ∧
     (((f.meter.map fun i => (s.meterRec i).rad.sleepy).getD false) = false) ∧ f.kind ≠ .beacon ∧ f.nr + 1 ≤
     s.plan.maxRetries c.val)
    ∧ (let c : Fin 32768 := 1;
     let s : State := { cellsWith { wait := some frame0 } with meters := [(3, { rad := { sleepy := true, cslFails := 2 } })] };
     let f : Frame := frame0;
     let i := 3;
     s.plan.isRad c.val = true ∧ s.waitOver c.val = true ∧ (s.mac c.val).wait = some f ∧ f.meter = some i ∧
     (s.meterRec i).rad.sleepy = true ∧ (s.meterRec i).rad.cslFails = 2) := by decide +kernel

/-- Hypotheses of RadioInputs that are met together, clause by clause. -/
theorem witness_RadioInputs_5 :
    (let c : Fin 32768 := 1;
     let s : State := cells0;
     (s.plan.isRad c.val = false ∨ s.waitOver c.val = false ∨ (s.mac c.val).wait = none))
    ∧ (let c : Fin 32768 := 1;
     let eui : BitVec 64 := 9#64;
     let s : State := joined0;
     let i := 3;
     let p := false;
     s.lookup eui.toNat = some (i, p) ∧ (s.meterRec i).rad.cell = c.val ∧ (s.meterRec i).rad.assoc = true ∧ s.get
     Fl.RDG_STATE_STATE ≠ 2)
    ∧ (let eui : BitVec 64 := 8#64;
     let s : State := joined0;
     s.lookup eui.toNat = none)
    ∧ (let c : Fin 32768 := 1;
     let s : State := cells0;
     s.plan.isRad c.val = true ∧ s.radChains c.val = 3 ∧ s.get Fl.RDG_STATE_STATE ≠ 2) := by decide +kernel

/-- Hypotheses of RadioInputs that are met together, clause by clause. -/
theorem witness_RadioInputs_6 :
    (let c : Fin 32768 := 0;
     let s : State := cells0;
     (s.plan.isRad c.val = false ∨ s.radChains c.val ≠ 3)) := by decide +kernel

/-- Hypotheses of RadioAssociation that are met together, clause by clause. -/
theorem witness_RadioAssociation :
    (let s : State := State.reset;
     s.resident = true)
    ∧ (let c : Fin 32768 := 1;
     let s : State := { cells0 with crs := { cells0.crs with active := { plan0 with params := [zeros 64, zeros 64] } } };
     s.resident = false ∧ s.plan.isRad c.val = true ∧ bitOf 0 (s.plan.param c.val 7 1) = false)
    ∧ (let c : Fin 32768 := 1;
     let eui : BitVec 64 := 8#64;
     let s : State := cellsWith {};
     s.resident = false ∧ s.plan.isRad c.val = true ∧ bitOf 0 (s.plan.param c.val 7 1) = true ∧ s.lookup eui.toNat =
     none)
    ∧ (let c : Fin 32768 := 1;
     let eui : BitVec 64 := 9#64;
     let s : State := cellsWith { pendingList := List.replicate 16 ⟨7, 0, 1, none, 0⟩ };
     let x := (3, false);
     s.resident = false ∧ s.plan.isRad c.val = true ∧ bitOf 0 (s.plan.param c.val 7 1) = true ∧ s.lookup eui.toNat =
     some x ∧ (s.associated c.val).length < 4095 ∧ 16 ≤ (s.mac c.val).pendingList.length) := by decide +kernel

/-- Hypotheses of RadioAssociation that are met together, clause by clause. -/
theorem witness_RadioAssociation_2 :
    (let c : Fin 32768 := 1;
     let eui : BitVec 64 := 9#64;
     let s : State := cellsWith {};
     let i := 3;
     let p := false;
     s.resident = false ∧ s.plan.isRad c.val = true ∧ bitOf 0 (s.plan.param c.val 7 1) = true ∧ s.lookup eui.toNat =
     some (i, p) ∧ (s.meterRec i).rad.assoc = false ∧ (s.associated c.val).length < 4095 ∧
     (s.mac c.val).pendingList.length < 16)
    ∧ (let c : Fin 32768 := 1;
     let eui : BitVec 64 := 9#64;
     let s : State := joined0;
     let i := 3;
     let p := false;
     s.resident = false ∧ s.plan.isRad c.val = true ∧ bitOf 0 (s.plan.param c.val 7 1) = true ∧ s.lookup eui.toNat =
     some (i, p) ∧ (s.meterRec i).rad.assoc = true ∧ (s.meterRec i).rad.cell = c.val ∧
     (s.mac c.val).pendingList.length < 16)
    ∧ (let c : Fin 32768 := 1;
     let eui : BitVec 64 := 9#64;
     let s : State := { joined0 with meters := [(3, { key := 9, rad := { assoc := true, cell := 2, short := 2 } })] };
     let i := 3;
     let p := false;
     s.resident = false ∧ s.plan.isRad c.val = true ∧ bitOf 0 (s.plan.param c.val 7 1) = true ∧ s.lookup eui.toNat =
     some (i, p) ∧ (s.meterRec i).rad.assoc = true ∧ (s.meterRec i).rad.cell ≠ c.val ∧ (s.associated c.val).length <
     4095 ∧ (s.mac c.val).pendingList.length < 16)
    ∧ (let c : Fin 32768 := 1;
     let eui : BitVec 64 := 9#64;
     let s : State := cellsWith { pendingList := [⟨9, 0, 1, some 3, 0⟩] };
     let p := (⟨9, 0, 1, some 3, 0⟩ : PendingResponse);
     s.plan.isRad c.val = true ∧ (((s.mac c.val).pendingList.find? fun x => x.eui == eui.toNat) = some p) ∧
     (s.placeCells (cellQueue c.val true) 2 (cellsOf 1)).1.isSome = true) := by decide +kernel

/-- Hypotheses of RadioAssociation that are met together, clause by clause. -/
theorem witness_RadioAssociation_3 :
    (let c : Fin 32768 := 1;
     let eui : BitVec 64 := 9#64;
     let s : State := cells0;
     (((s.mac c.val).pendingList.find? fun x => x.eui == eui.toNat) = none))
    ∧ (let c : Fin 32768 := 1;
     let eui : BitVec 64 := 9#64;
     let s : State := { joined0 with cel := { joined0.cel with macs := [(1, { pendingList := [⟨9, 0, 2, some 3, 0⟩] })] } };
     let p := (⟨9, 0, 2, some 3, 0⟩ : PendingResponse);
     let i := 3;
     (((s.mac c.val).pendingList.find? fun x => x.eui == eui.toNat) = some p) ∧ p.due ≤ s.now ∧ p.meter = some i ∧
     (s.meterRec i).rad.cell = c.val ∧ (s.meterRec i).rad.short = p.short)
    ∧ (let c : Fin 32768 := 1;
     let eui : BitVec 64 := 9#64;
     let s : State := cellsWith { pendingList := [⟨9, 0, 1, none, 0⟩] };
     let p := (⟨9, 0, 1, none, 0⟩ : PendingResponse);
     (((s.mac c.val).pendingList.find? fun x => x.eui == eui.toNat) = some p) ∧ p.due ≤ s.now ∧ p.meter = none)
    ∧ (let s : State := joined0;
     let c : Nat := 1;
     (s.associated c).length < 4095) := by decide +kernel

/-- Hypotheses of SwitchCore that are met together, clause by clause. -/
theorem witness_SwitchCore :
    (let port : Fin 64 := 3;
     let cls : Fin 8 := 2;
     let n : Fin 16385 := 64;
     let s : State := State.reset;
     let r := 1;
     let p := 0;
     let d := 0;
     let x := false;
     n.val ≠ 0 ∧ cls ≠ 0 ∧ ((s.swc.holding.any fun h => h.2.1 == cls.val) = false) ∧ s.placeCells
     (outQueue port.val cls.val) cls.val (cellsOf n.val) = (some (r, p, d), x))
    ∧ (let n : Fin 16385 := 64;
     let s : State := State.reset;
     n.val ≠ 0 ∧ ((s.swc.holding.any fun h => h.2.1 == 0) = false))
    ∧ (let port : Fin 64 := 3;
     let cls : Fin 8 := 2;
     let n : Fin 16385 := 64;
     let s : State := full0;
     let x := false;
     n.val ≠ 0 ∧ classHolds cls.val = false ∧ ((s.swc.holding.any fun h => h.2.1 == cls.val) = false) ∧ s.placeCells
     (outQueue port.val cls.val) cls.val (cellsOf n.val) = (none, x))
    ∧ (let port : Fin 64 := 3;
     let cls : Fin 8 := 4;
     let n : Fin 16385 := 64;
     let s : State := { full0 with swc := { full0.swc with holding := [(outQueue 3 4, 4, 64)] } };
     n.val ≠ 0 ∧
     ((s.swc.holding.any fun h => h.2.1 == cls.val) = true ∨ (classHolds cls.val = true ∧ (s.placeCells (outQueue port.val cls.val) cls.val (cellsOf n.val)).1 = none))) := by decide +kernel

/-- Hypotheses of SwitchCore that are met together, clause by clause. -/
theorem witness_SwitchCore_2 :
    (let id : BitVec 32 := 1#32;
     let s : State := overflow0;
     let p := waiting0;
     ((s.swc.packets.find? fun p => p.id == id.toNat) = some p))
    ∧ (let id : BitVec 32 := 1#32;
     let s : State := overflow0;
     let p := waiting0;
     ((s.swc.packets.find? fun p => p.id == id.toNat && decide (0 < p.waiting)) = some p) ∧
     (∀ m ∈ s.cel.macs, (m.2.queue.find? fun f => f.packet == id.toNat) = none))
    ∧ (let id : BitVec 32 := 1#32;
     let s : State := { overflow0 with cel := { macs := [(0, { queue := [{ hostFrame0 with packet := 1 }] })] } };
     let p := waiting0;
     let m := ((0, { queue := [{ hostFrame0 with packet := 1 }] }) : Nat × CellMac);
     let f : Frame := { hostFrame0 with packet := 1 };
     let x := cmd0;
     ((s.swc.packets.find? fun p => p.id == id.toNat && decide (0 < p.waiting)) = some p) ∧ s.cel.macs = [m] ∧
     ((m.2.queue.find? fun f => f.packet == id.toNat) = some f) ∧ f.origin = .host x ∧ posts 0x20 s = true)
    ∧ (let id : BitVec 32 := 2#32;
     let s : State := overflow0;
     ((s.swc.packets.find? fun p => p.id == id.toNat && decide (0 < p.waiting)) = none)) := by decide +kernel

/-- Hypotheses of SwitchCore that are met together, clause by clause. -/
theorem witness_SwitchCore_3 :
    (let s : State := overflow0;
     let mib := 1;
     s.swc.shrinkTo = some mib ∧ s.ovfUsed ≤ mib * 16384 ∧ mib < 2 ^ 14)
    ∧ (let s : State := { overflow0 with swc := { overflow0.swc with shrinkTo := some 0 } };
     (((s.swc.shrinkTo.map fun mib => decide (mib * 16384 < s.ovfUsed)).getD true) = true))
    ∧ (let s : State := { State.reset with regs := [(Reg.SWC_SHED, 1#32)], swc := { State.reset.swc with fallSince := some 0 }, tim := { State.reset.tim with now := 1000000000000 } };
     let at' := 0;
     s.get Fl.RDG_STATE_STATE ≠ 2 ∧ s.swc.fallSince = some at' ∧ s.get Fl.SWC_SHED_LEVEL ≠ 0 ∧ s.levelMargin
     (s.get Fl.SWC_SHED_LEVEL - 1) = true ∧ at' + s.get Fl.SWC_SHED_CFG_FALL_S * 1000000000 ≤ s.now)
    ∧ (let s : State := State.reset;
     (s.swc.fallSince = none ∨ s.get Fl.SWC_SHED_LEVEL = 0)) := by decide +kernel

/-- Hypotheses of KeySlots that are met together, clause by clause. -/
theorem witness_KeySlots :
    (let c : Cmd := load0;
     let p : KeyWriteParams := ⟨0, 7, 4, 1, 0x10, 0, 4, 0, 0⟩;
     let data := zeros 16;
     let s : State := owned0;
     admits c s = true ∧ p.target = 0 ∧ p.format = 1 ∧ keyWriteIllegal p data.length = false ∧ s.slotStateBad
     p.index.toNat p.attr.toNat p.replace.toNat p.purpose.toNat = false ∧ posts 0x40 s = true)
    ∧ (let c : Cmd := load0;
     let p : KeyWriteParams := ⟨0, 7, 4, 2, 0x10, 8, 4, 0, 0⟩;
     let data := wrapped0;
     let s : State := wrap0;
     let key := (kwUnwrap (zeros 16) wrapped0).getD [];
     admits c s = true ∧ p.target = 0 ∧ p.format = 2 ∧ keyWriteIllegal p data.length = false ∧ s.slotStateBad
     p.index.toNat p.attr.toNat p.replace.toNat p.purpose.toNat = false ∧ (s.keySlot p.wrapSlot.toNat).loaded = true ∧
     (s.keySlot p.wrapSlot.toNat).attr = 3 ∧ kwUnwrap (s.keySlot p.wrapSlot.toNat).key data = some key)
    ∧ (let c : Cmd := load0;
     let p : KeyWriteParams := ⟨0, 7, 4, 2, 0x10, 8, 4, 0, 0⟩;
     let data := zeros 24;
     let s : State := wrap0;
     admits c s = true ∧ p.target = 0 ∧ p.format = 2 ∧ keyWriteIllegal p data.length = false ∧ s.slotStateBad
     p.index.toNat p.attr.toNat p.replace.toNat p.purpose.toNat = false ∧ (s.keySlot p.wrapSlot.toNat).loaded = true ∧
     (s.keySlot p.wrapSlot.toNat).attr = 3 ∧ kwUnwrap (s.keySlot p.wrapSlot.toNat).key data = none ∧ posts 0x40 s =
     true) := by decide +kernel

/-- Hypotheses of KeySlots that are met together, clause by clause. -/
theorem witness_KeySlots_2 :
    (let c : Cmd := load0;
     let p : KeyWriteParams := ⟨0, 8, 3, 1, 0x10, 0, 0, 0, 0⟩;
     let data := zeros 16;
     let s : State := wrap0;
     admits c s = true ∧ p.target = 0 ∧ keyWriteIllegal p data.length = false ∧ s.slotStateBad p.index.toNat
     p.attr.toNat p.replace.toNat p.purpose.toNat = true ∧ posts 0x40 s = true)
    ∧ (let c : Cmd := load0;
     let p : KeyWriteParams := ⟨1, 7, 0, 0, 0, 0, 0, 0, 5⟩;
     let data := be 32 p256G.1 ++ be 32 p256G.2;
     let s : State := owned0;
     admits c s = true ∧ p.target = 1 ∧ keyWriteIllegal p data.length = false ∧ p.index.toNat ≤ 7 ∧
     (FMap.get ({} : VKey) s.key.vlist p.index.toNat).keyId = 0 ∧ p.keyId ≠ 0 ∧
     ((s.key.vlist.any fun q => q.1 != p.index.toNat && q.2.keyId == p.keyId.toNat) = false) ∧ onCurve
     (beAt data 0 32) (beAt data 32 32) = true)
    ∧ (let c : Cmd := cmd0;
     let p : KeyGenParams := ⟨7, 4, 0x10, 1, 4, 0, zeros 16, []⟩;
     let s : State := rng0 1;
     admits c s = true ∧ c.len = 0 ∧ keyGenerateIllegal p = false ∧ p.mode = 1 ∧ p.drawn = [] ∧ s.slotStateBad
     p.slot.toNat p.attr.toNat p.replace.toNat p.purpose.toNat = false ∧ s.get Fl.KEY_ENGINE_STATE_RNG = 1) := by decide +kernel

/-- Hypotheses of KeySlots that are met together, clause by clause. -/
theorem witness_KeySlots_3 :
    (let c : Cmd := cmd0;
     let p : KeyGenParams := ⟨7, 4, 0x10, 1, 4, 0, zeros 16, []⟩;
     let s : State := rng0 2;
     admits c s = true ∧ c.len = 0 ∧ keyGenerateIllegal p = false ∧ p.mode = 1 ∧ p.drawn = [] ∧
     (s.get Fl.KEY_ENGINE_STATE_RNG = 0 ∨ s.get Fl.KEY_ENGINE_STATE_RNG = 2))
    ∧ (let c : Cmd := cmd0;
     let p : KeyGenParams := ⟨7, 4, 0x10, 1, 4, 0, zeros 16, []⟩;
     let s : State := rng0 3;
     admits c s = true ∧ c.len = 0 ∧ keyGenerateIllegal p = false ∧ p.mode = 1 ∧ p.drawn = [] ∧ s.slotStateBad
     p.slot.toNat p.attr.toNat p.replace.toNat p.purpose.toNat = false ∧ s.get Fl.KEY_ENGINE_STATE_RNG = 3 ∧ posts
     0x41 s = true)
    ∧ (let c : Cmd := cmd0;
     let p : KeyGenParams := ⟨7, 4, 0x10, 2, 4, 0, zeros 16, []⟩;
     let s : State := rng0 0;
     admits c s = true ∧ c.len = 0 ∧ keyGenerateIllegal p = false ∧ p.mode = 2 ∧ p.drawn = [] ∧ s.slotStateBad
     p.slot.toNat p.attr.toNat p.replace.toNat p.purpose.toNat = false ∧ s.otp.identValid = true ∧ s.otp.rootseedValid
     = true) := by decide +kernel

/-- Hypotheses of KeySlots that are met together, clause by clause. -/
theorem witness_KeySlots_4 :
    (let c : Cmd := cmd0;
     let i : Byte := 8#8;
     let s : State := wrap0;
     admits c s = true ∧ c.len = 0 ∧ (s.keySlot i.toNat).loaded = true ∧ posts 0x42 s = true)
    ∧ (let c : Cmd := cmd0;
     let i : Byte := 9#8;
     let s : State := wrap0;
     admits c s = true ∧ c.len = 0 ∧ (s.keySlot i.toNat).loaded = false ∧ posts 0x42 s = true)
    ∧ (let c : Cmd := cmd0;
     let i : Byte := 7#8;
     let s : State := owned0;
     admits c s = true ∧ c.len = 0 ∧ i.toNat ≤ 7) := by decide +kernel

/-- Hypotheses of RandomAndAttestation that are met together, clause by clause. -/
theorem witness_RandomAndAttestation :
    (let c : Cmd := attest0;
     let slot : Byte := 8#8;
     let nonce := zeros 32;
     let s : State := rng0 1;
     opens c s = true ∧ c.len = 192#32 ∧ nonce.length = 32 ∧ (s.keySlot slot.toNat).loaded = true ∧ s.otp.identValid =
     true ∧ s.otp.rootseedValid = true ∧ s.rdg.applying = false ∧ (s.fn c.func.val).fenced = false)
    ∧ (let c : Cmd := attest0;
     let slot : Byte := 9#8;
     let nonce := zeros 32;
     let s : State := rng0 1;
     opens c s = true ∧ c.len = 192#32 ∧ nonce.length = 32 ∧ (s.keySlot slot.toNat).loaded = false ∧ s.rdg.applying =
     false)
    ∧ (let c : Cmd := load0;
     let s : State := rng0 1;
     opens c s = true ∧ c.len ≠ 0 ∧ c.len.toNat ≤ 4096 ∧ s.get Fl.KEY_ENGINE_STATE_RNG = 1 ∧ s.key.reseedWaiting =
     false ∧ s.rdg.applying = false ∧ (s.fn c.func.val).fenced = false)
    ∧ (let c : Cmd := load0;
     let s : State := rng0 2;
     opens c s = true ∧ c.len ≠ 0 ∧ c.len.toNat ≤ 4096 ∧ s.get Fl.KEY_ENGINE_STATE_RNG ≠ 3 ∧
     (s.get Fl.KEY_ENGINE_STATE_RNG ≠ 1 ∨ s.key.reseedWaiting = true) ∧ s.rdg.applying = false ∧
     (s.fn c.func.val).fenced = false)
    ∧ (let c : Cmd := load0;
     let s : State := rng0 3;
     opens c s = true ∧ c.len ≠ 0 ∧ c.len.toNat ≤ 4096 ∧ s.get Fl.KEY_ENGINE_STATE_RNG = 3 ∧ s.rdg.applying = false)
    ∧ (let b : Byte := 3#8;
     let s : State := rng0 1;
     s.get Fl.KEY_ENGINE_STATE_RNG ≠ 3 ∧ s.key.rctLast ≠ b.toNat ∧ s.key.aptMatches < 459) := by decide +kernel

/-- Hypotheses of RandomAndAttestation that are met together, clause by clause. -/
theorem witness_RandomAndAttestation_2 :
    (let b : Byte := 5#8;
     let s : State := rngRun0 80 0 0 0;
     s.get Fl.KEY_ENGINE_STATE_RNG = 1 ∧ s.key.rctRun = 80 ∧ s.key.rctLast = b.toNat ∧ s.get Fl.RDG_STATE_STATE ≠ 2)
    ∧ (let b : Byte := 5#8;
     let s : State := rngRun0 7 5 459 0;
     s.get Fl.KEY_ENGINE_STATE_RNG = 1 ∧ s.key.rctRun < 80 ∧ 0 < s.key.aptSeen ∧ s.key.aptSeen < 512 ∧ s.key.aptFirst
     = b.toNat ∧ s.key.aptMatches = 459)
    ∧ (let b : Byte := 3#8;
     let s : State := { rngRun0 7 0 0 1023 with regs := [] };
     s.get Fl.KEY_ENGINE_STATE_RNG = 0 ∧ s.key.rctLast ≠ b.toNat ∧ s.key.aptMatches < 459 ∧ s.key.passing = 1023 ∧
     s.get Fl.RDG_STATE_STATE ≠ 2)
    ∧ (let s : State := { rng0 3 with regs := (rng0 3).regs ++ [(Reg.OTP_LIFECYCLE, 2#32)] };
     s.get Fl.KEY_ENGINE_STATE_RNG = 3 ∧ s.get Fl.OTP_LIFECYCLE_CODE ≠ 1)
    ∧ (let s : State := rng0 1;
     s.get Fl.KEY_ENGINE_STATE_RNG = 1)
    ∧ (let s : State := rng0 2;
     s.get Fl.KEY_ENGINE_STATE_RNG ≠ 1) := by decide +kernel

/-- Hypotheses of RecordInputs that are met together, clause by clause. -/
theorem witness_RecordInputs :
    (let s : State := record0;
     let y := yelmIn0;
     let rest := ([] : List YelmIn);
     let m := (yelmOf yelm0).getD ⟨0, 0, 0, 0, [], [], []⟩;
     s.swc.toRecord = y :: rest ∧ yelmOf y.payload = some m ∧ s.enabled 7 = true)
    ∧ (let s : State := { record0 with swc := { record0.swc with toRecord := [{ yelmIn0 with payload := [] }] } };
     let y := { yelmIn0 with payload := [] };
     let rest := ([] : List YelmIn);
     s.swc.toRecord = y :: rest ∧ yelmOf y.payload = none)
    ∧ (let s : State := { record0 with regs := [(Reg.STATUS 7, 0#32)] };
     let y := yelmIn0;
     let rest := ([] : List YelmIn);
     let m := (yelmOf yelm0).getD ⟨0, 0, 0, 0, [], [], []⟩;
     s.swc.toRecord = y :: rest ∧ yelmOf y.payload = some m ∧ s.enabled 7 = false)
    ∧ (let s : State := State.reset;
     s.swc.toRecord = []) := by decide +kernel

/-- Hypotheses of RecordInputs that are met together, clause by clause. -/
theorem witness_RecordInputs_2 :
    (let c : Cmd := cmd0;
     let i : BitVec 32 := 3#32;
     let amount : BitVec 32 := 5#32;
     let id : BitVec 16 := 1#16;
     let s : State := joined0;
     admits c s = true ∧ c.len = 0 ∧ posts 0x28 s = true ∧
     (((s.bill.current.map fun x => x.2 == i.toNat).getD false) = false) ∧ id ≠ 0 ∧ i.toNat < 1048576 ∧ id.toNat ≠
     (s.meterRec i.toNat).bill.topupId ∧ -(2 ^ 31 : Int) ≤ (s.meterRec i.toNat).bill.credit + amount.toInt ∧
     (s.meterRec i.toNat).bill.credit + amount.toInt < 2 ^ 31 ∧ (s.memberByIndex i.toNat).isSome = true)
    ∧ (let c : Cmd := cmd0;
     let i : BitVec 32 := 3#32;
     let id : BitVec 16 := 1#16;
     let s : State := prepay0 4;
     admits c s = true ∧ c.len = 0 ∧ posts 0x28 s = true ∧
     (((s.bill.current.map fun x => x.2 == i.toNat).getD false) = false) ∧ id ≠ 0 ∧ i.toNat < 1048576 ∧ id.toNat =
     (s.meterRec i.toNat).bill.topupId)
    ∧ (let c : Cmd := cmd0;
     let i : BitVec 32 := 3#32;
     let id : BitVec 16 := 0#16;
     let s : State := owned0;
     admits c s = true ∧ c.len = 0 ∧ posts 0x28 s = true ∧
     (((s.bill.current.map fun x => x.2 == i.toNat).getD false) = false) ∧ (id = 0 ∨ 1048576 ≤ i.toNat))
    ∧ (let c : Cmd := cmd0;
     let i : BitVec 32 := 4#32;
     let amount : BitVec 32 := 5#32;
     let id : BitVec 16 := 1#16;
     let s : State := owned0;
     admits c s = true ∧ c.len = 0 ∧ posts 0x28 s = true ∧
     (((s.bill.current.map fun x => x.2 == i.toNat).getD false) = false) ∧ id ≠ 0 ∧ i.toNat < 1048576 ∧ id.toNat ≠
     (s.meterRec i.toNat).bill.topupId ∧ -(2 ^ 31 : Int) ≤ (s.meterRec i.toNat).bill.credit + amount.toInt ∧
     (s.meterRec i.toNat).bill.credit + amount.toInt < 2 ^ 31 ∧ s.memberByIndex i.toNat = none) := by decide +kernel

/-- Hypotheses of RecordInputs that are met together, clause by clause. -/
theorem witness_RecordInputs_3 :
    (let c : Cmd := cmd0;
     let i : BitVec 32 := 3#32;
     let s : State := { owned0 with bill := { owned0.bill with current := some (yelmIn0, 3) } };
     let y : YelmIn := yelmIn0;
     admits c s = true ∧ c.len = 0 ∧ s.bill.current = some (y, i.toNat))
    ∧ (let s : State := { prepay0 4 with bill := { owned0.bill with results := [(3, 1, 0)] } };
     let i : Nat := 3;
     let rest := ([] : List (Nat × Nat × Nat));
     s.bill.results = (i, 1, 0) :: rest ∧ (s.meterRec i).bill.prepay = 4 ∧ s.validateOnly = false)
    ∧ (let s : State := { prepay0 6 with bill := { owned0.bill with results := [(3, 2, 0)] } };
     let i : Nat := 3;
     let rest := ([] : List (Nat × Nat × Nat));
     s.bill.results = (i, 2, 0) :: rest ∧ (s.meterRec i).bill.prepay = 6 ∧ s.validateOnly = false)
    ∧ (let s : State := State.reset;
     s.bill.results = []) := by decide +kernel

/-- Hypotheses of RecordInputs that are met together, clause by clause. -/
theorem witness_RecordInputs_4 :
    (let s : State := staging0;
     let r : Staged := staged0;
     let l := ([] : List Staged);
     s.arc.staging = r :: l ∧ r.at' + 300000000000 ≤ s.now ∧ s.flag Fl.REC_STAGING_FULL = false ∧ s.get
     Fl.RDG_STATE_STATE ≠ 2)
    ∧ (let s : State := State.reset;
     s.arc.staging = [])
    ∧ (let c : Cmd := load0;
     let kind : Byte := 1#8;
     let times : Byte := 1#8;
     let n : BitVec 16 := 1#16;
     let data := [5#8, 0#8, 0#8];
     let s : State := push0;
     let p := (1, 0, 0);
     let k := 0;
     admits c s = true ∧ pushIllegal kind n 1#16 data = false ∧ 1 ≤ n.toNat ∧ n.toNat ≤ 1200 ∧ times ≠ 0 ∧ times.toNat
     ≤ 4 ∧ 1 ≤ FMap.get 0 s.plan.totals 0x0E ∧ (s.placeCells (outQueue 58 3) 3 (cellsOf n.toNat)).1 = some p ∧ leAt
     data n.toNat 2 = k ∧ k < 32768 ∧ s.plan.kind k ≠ 0 ∧
     (s.packetSum (fun p => p.queue == cellQueue k false) (fun p => p.reserve + p.pool + p.dram) + s.pushCells (cellQueue k false) + cellsOf n.toNat ≤ 256)
     ∧ (∀ m ∈ s.swc.mcasts, m.id ≠ s.swc.nextId))
    ∧ (let c : Cmd := load0;
     let kind : Byte := 1#8;
     let times : Byte := 1#8;
     let n : BitVec 16 := 1#16;
     let data := [5#8, 9#8, 0#8];
     let s : State := push0;
     let p := (1, 0, 0);
     admits c s = true ∧ pushIllegal kind n 1#16 data = false ∧ 1 ≤ n.toNat ∧ n.toNat ≤ 1200 ∧ times ≠ 0 ∧ times.toNat
     ≤ 4 ∧ 1 ≤ FMap.get 0 s.plan.totals 0x0E ∧ posts 0x21 s = true ∧
     (s.placeCells (outQueue 58 3) 3 (cellsOf n.toNat)).1 = some p ∧ s.plan.kind (leAt data n.toNat 2) = 0 ∧
     (∀ m ∈ s.swc.mcasts, m.id ≠ s.swc.nextId)) := by decide +kernel

/-- Hypotheses of RecordInputs that are met together, clause by clause. -/
theorem witness_RecordInputs_5 :
    (let c : Cmd := load0;
     let kind : Byte := 1#8;
     let times : Byte := 0#8;
     let n : BitVec 16 := 1#16;
     let data := [5#8, 0#8, 0#8];
     let s : State := push0;
     admits c s = true ∧ pushIllegal kind n 1#16 data = false ∧ posts 0x21 s = true ∧
     (n = 0 ∨ 1200 < n.toNat ∨ times = 0 ∨ 4 < times.toNat ∨ FMap.get 0 s.plan.totals 0x0E = 0)) := by decide +kernel

/-- Hypotheses of SlateLink that are met together, clause by clause. -/
theorem witness_SlateLink :
    (let h : SlateHdr := slateHdr3;
     let s : State := State.reset;
     ((s.hub h.hub.val).epoch ≠ h.epoch.toNat ∨ (s.hub h.hub.val).state = 0))
    ∧ (let h : SlateHdr := slateHdr3;
     let s : State := hub3 { epoch := 1 };
     ((s.hub h.hub.val).epoch ≠ h.epoch.toNat ∨ (s.hub h.hub.val).state = 0))
    ∧ (let h : SlateHdr := slateHdr3;
     let s : State := hub3 { epoch := 1, state := 1 };
     (s.hub h.hub.val).epoch = h.epoch.toNat ∧ (s.hub h.hub.val).state ≠ 0 ∧ (s.hub h.hub.val).unacked = [] ∧
     (s.hub h.hub.val).backlog = [])
    ∧ (let h : SlateHdr := slateHdr3;
     let s : State := hub3 { epoch := 1, state := 1, hello := true };
     (s.hub h.hub.val).epoch = h.epoch.toNat ∧ (s.hub h.hub.val).state ≠ 0 ∧ (s.hub h.hub.val).unacked = [] ∧
     (s.hub h.hub.val).backlog = [] ∧ (s.hub h.hub.val).state = 1 ∧ (s.hub h.hub.val).hello = true ∧
     (s.hub h.hub.val).rxSeq = h.seq.toNat ∧ s.arc.format = none ∧ s.arc.job = none) := by decide +kernel

/-- Hypotheses of SlateLink that are met together, clause by clause. -/
theorem witness_SlateLink_2 :
    (let h : SlateHdr := slateHdr3;
     let s : State := hub3 { epoch := 1, state := 1, rxSeq := 5 };
     (s.hub h.hub.val).epoch = h.epoch.toNat ∧ (s.hub h.hub.val).state ≠ 0 ∧ (s.hub h.hub.val).unacked = [] ∧
     (s.hub h.hub.val).backlog = [] ∧ (s.hub h.hub.val).rxSeq ≠ h.seq.toNat)
    ∧ (let h : SlateHdr := slateHdr3;
     let s : State := hub3 { epoch := 1, state := 1 };
     (s.hub h.hub.val).epoch = h.epoch.toNat ∧ (s.hub h.hub.val).state ≠ 0 ∧ (s.hub h.hub.val).unacked = [] ∧
     (s.hub h.hub.val).backlog = [] ∧ (s.hub h.hub.val).rxSeq = h.seq.toNat)
    ∧ (let h : SlateHdr := slateHdr3;
     let g : BitVec 16 := 5#16;
     let s : State := hub3 { epoch := 1, state := 2 };
     (s.hub h.hub.val).epoch = h.epoch.toNat ∧ (s.hub h.hub.val).state ≠ 0 ∧ (s.hub h.hub.val).unacked = [] ∧
     (s.hub h.hub.val).backlog = [] ∧ (s.hub h.hub.val).state = 2 ∧ (s.hub h.hub.val).rxSeq = h.seq.toNat ∧
     (∀ o ∈ (s.hub h.hub.val).outstanding, o.tag ≠ g.toNat) ∧ noProgram h.hub.val s = true ∧ s.get Fl.RDG_STATE_STATE
     ≠ 2)
    ∧ (let h : SlateHdr := slateHdr3;
     let g : BitVec 16 := 5#16;
     let s : State := band3 (.page 9 4) {};
     let f : Format := format3;
     let o : DieOp := dieOp3 (.page 9 4);
     let b : Nat := 9;
     let p : Nat := 4;
     (s.hub h.hub.val).epoch = h.epoch.toNat ∧ (s.hub h.hub.val).state ≠ 0 ∧ (s.hub h.hub.val).unacked = [] ∧
     (s.hub h.hub.val).backlog = [] ∧ (s.hub h.hub.val).rxSeq = h.seq.toNat ∧ (s.hub h.hub.val).outstanding = [o] ∧
     (s.hub h.hub.val).waiting = [] ∧ o.tag = g.toNat ∧ o.purpose = .page b p ∧ s.arc.format = some f ∧ (s.band b).use
     ≠ .hot) := by decide +kernel

/-- Hypotheses of SlateLink that are met together, clause by clause. -/
theorem witness_SlateLink_3 :
    (let h : SlateHdr := slateHdr3;
     let g : BitVec 16 := 5#16;
     let s : State := band3 (.page 9 4) {};
     let f : Format := format3;
     let o : DieOp := dieOp3 (.page 9 4);
     let b : Nat := 9;
     let p : Nat := 4;
     (s.hub h.hub.val).epoch = h.epoch.toNat ∧ (s.hub h.hub.val).state ≠ 0 ∧ (s.hub h.hub.val).unacked = [] ∧
     (s.hub h.hub.val).backlog = [] ∧ (s.hub h.hub.val).rxSeq = h.seq.toNat ∧ (s.hub h.hub.val).outstanding = [o] ∧
     o.tag = g.toNat ∧ o.purpose = .page b p ∧ s.arc.format = some f)
    ∧ (let h : SlateHdr := slateHdr3;
     let g : BitVec 16 := 5#16;
     let s : State := band3 (.erase 9 0) { use := .erasing, erases := [0] };
     let f : Format := format3;
     let o : DieOp := dieOp3 (.erase 9 0);
     let b : Nat := 9;
     let m : Nat := 0;
     (s.hub h.hub.val).epoch = h.epoch.toNat ∧ (s.hub h.hub.val).state ≠ 0 ∧ (s.hub h.hub.val).unacked = [] ∧
     (s.hub h.hub.val).backlog = [] ∧ (s.hub h.hub.val).rxSeq = h.seq.toNat ∧ (s.hub h.hub.val).outstanding = [o] ∧
     (s.hub h.hub.val).waiting = [] ∧ o.tag = g.toNat ∧ o.purpose = .erase b m ∧ s.arc.format = some f ∧ m < f.width
     (stripeOf b) ∧ (s.band b).erases = [m])
    ∧ (let h : SlateHdr := slateHdr3;
     let s : State := { hub3 { epoch := 1, state := 1 } with arc := { (hub3 { epoch := 1, state := 1 }).arc with stopping := some [3, 4] } };
     let l : List Nat := [3, 4];
     (s.hub h.hub.val).epoch = h.epoch.toNat ∧ (s.hub h.hub.val).state ≠ 0 ∧ (s.hub h.hub.val).unacked = [] ∧
     (s.hub h.hub.val).backlog = [] ∧ (s.hub h.hub.val).rxSeq = h.seq.toNat ∧ s.arc.stopping = some l)
    ∧ (let h : SlateHdr := slateHdr3;
     let ty : Byte := 2#8;
     let s : State := hub3 { epoch := 1, state := 2 };
     (s.hub h.hub.val).epoch = h.epoch.toNat ∧ (s.hub h.hub.val).state = 2 ∧ slateType ty.toNat = false ∧ noProgram
     h.hub.val s = true ∧ s.get Fl.RDG_STATE_STATE ≠ 2) := by decide +kernel

/-- Hypotheses of SlateLink that are met together, clause by clause. -/
theorem witness_SlateLink_4 :
    (let h : SlateHdr := slateHdr3;
     let ty : Byte := 0#8;
     let s : State := hub3 { epoch := 1, state := 2 };
     (s.hub h.hub.val).epoch = h.epoch.toNat ∧ (s.hub h.hub.val).state ≠ 0 ∧ (s.hub h.hub.val).unacked = [] ∧
     (s.hub h.hub.val).backlog = [] ∧ slateType ty.toNat = true)
    ∧ (let h : Fin 128 := 3;
     let s : State := State.reset;
     (s.hub h.val).unacked = [])
    ∧ (let h : Fin 128 := 3;
     let s : State := hub3 { unacked := [⟨0, 0x10, [], 7⟩] };
     (s.hub h.val).unacked ≠ [] ∧ (∀ f ∈ (s.hub h.val).unacked, f.resends < 8))
    ∧ (let h : Fin 128 := 3;
     let s : State := hub3 { state := 2, unacked := [⟨0, 0x10, [], 8⟩] };
     let f := (⟨0, 0x10, [], 8⟩ : SlateFrame);
     (s.hub h.val).state = 2 ∧ (s.hub h.val).unacked = [f] ∧ 8 ≤ f.resends ∧ noProgram h.val s = true ∧ s.get
     Fl.RDG_STATE_STATE ≠ 2) := by decide +kernel

/-- Hypotheses of SlateLink that are met together, clause by clause. -/
theorem witness_SlateLink_5 :
    (let h : Fin 128 := 3;
     let s : State := hub3 { state := 2, ackOwed := true };
     (s.hub h.val).ackOwed = true)
    ∧ (let s : State := { State.reset with rdg := { State.reset.rdg with ackOwed := true } };
     s.rdg.ackOwed = true) := by decide +kernel

/-- Hypotheses of HubTimers that are met together, clause by clause. -/
theorem witness_HubTimers :
    (let h : Fin 128 := 3;
     let s : State := hub3 { state := 2, waiting := [dieOp3 .format] };
     (s.hub h.val).waiting ≠ [] ∧ (s.hub h.val).state = 2 ∧ noProgram h.val s = true ∧ s.get Fl.RDG_STATE_STATE ≠ 2)
    ∧ (let h : Fin 128 := 3;
     let s : State := State.reset;
     (s.hub h.val).waiting = [])
    ∧ (let h : Fin 128 := 3;
     let s : State := hub3 { state := 2, outstanding := [dieOp3 .format] };
     (s.hub h.val).outstanding ≠ [] ∧ (s.hub h.val).state = 2 ∧ noProgram h.val s = true ∧ s.get Fl.RDG_STATE_STATE ≠
     2)
    ∧ (let h : Fin 128 := 3;
     let s : State := State.reset;
     (s.hub h.val).outstanding = [])
    ∧ (let h : Fin 128 := 3;
     let s : State := hub3 { state := 2 };
     (s.hub h.val).state = 2 ∧ noProgram h.val s = true ∧ s.get Fl.RDG_STATE_STATE ≠ 2)
    ∧ (let h : Fin 128 := 3;
     let s : State := hub3 { state := 2 };
     (s.hub h.val).state = 2) := by decide +kernel

/-- Hypotheses of HubTimers that are met together, clause by clause. -/
theorem witness_HubTimers_2 :
    (let h : Fin 128 := 3;
     let s : State := State.reset;
     (s.hub h.val).state ≠ 2)
    ∧ (let h : Fin 128 := 3;
     let s : State := hub3 { state := 1 };
     (s.hub h.val).state ≠ 0 ∧ (s.hub h.val).state ≠ 2)
    ∧ (let h : Fin 128 := 3;
     let s : State := State.reset;
     ((s.hub h.val).state = 0 ∨ (s.hub h.val).state = 2))
    ∧ (let h : Fin 128 := 3;
     let s : State := hub3 { state := 2 };
     ((s.hub h.val).state = 0 ∨ (s.hub h.val).state = 2))
    ∧ (let h : Fin 128 := 3;
     let s : State := hub3 { state := 3 };
     (s.hub h.val).state = 3 ∧ s.get Fl.RDG_STATE_STATE ≠ 2 ∧ s.arc.format = none)
    ∧ (let h : Fin 128 := 3;
     let s : State := hub3 { state := 3 };
     (s.hub h.val).state = 3 ∧ s.get Fl.RDG_STATE_STATE ≠ 2 ∧ (∀ o ∈ (s.hub h.val).waiting, o.op ≠ 1)) := by decide +kernel

/-- Hypotheses of HubTimers that are met together, clause by clause. -/
theorem witness_HubTimers_3 :
    (let h : Fin 128 := 3;
     let s : State := State.reset;
     (s.hub h.val).state ≠ 3)
    ∧ (let b : BitVec 32 := 9#32;
     let s : State := band3 .format { use := .hot, verifying := true, done := [0, 1] };
     let f : Format := format3;
     s.arc.format = some f ∧ (s.band b.toNat).verifying = true ∧
     (∀ p ∈ (s.band b.toNat).done, s.pageLost f b.toNat p = false) ∧ s.arc.staging = [])
    ∧ (let b : BitVec 32 := 9#32;
     let s : State := State.reset;
     (s.band b.toNat).verifying = false)
    ∧ (let s : State := mounted0;
     s.flag Fl.ARC_STATE_MOUNTED = true ∧ s.flag Fl.ARC_STATE_FORMATTING = false ∧ s.arc.format = none)
    ∧ (let s : State := { mounted0 with arc := { mounted0.arc with format := some format3 } };
     let f := format3;
     s.flag Fl.ARC_STATE_MOUNTED = true ∧ s.flag Fl.ARC_STATE_FORMATTING = false ∧ s.arc.format = some f)
    ∧ (let s : State := State.reset;
     s.flag Fl.ARC_STATE_MOUNTED = false) := by decide +kernel

/-- Hypotheses of HubTimers that are met together, clause by clause. -/
theorem witness_HubTimers_4 :
    (let s : State := { State.reset with arc := { State.reset.arc with format := some format9 } };
     let f := format9;
     s.arc.format = some f ∧ (3 ≤ s.countBands f true (fun b => b.use == .free)))
    ∧ (let s : State := { mounted0 with arc := { mounted0.arc with format := some format3, bands := [(9, { use := .hot })] } };
     let f : Format := format3;
     let b := ((9, { use := .hot }) : Nat × Band);
     s.arc.format = some f ∧ (s.countBands f true (fun b => b.use == .free) < 3) ∧ s.flag Fl.ARC_STATE_MOUNTED = true
     ∧ ((s.arc.bands.filter fun p => p.2.use == .hot && !p.2.isOpen && !p.2.verifying) = [b]) ∧ s.validUnits b.1 = []
     ∧ (((f.members (stripeOf b.1 / 128)).all fun m => (s.die (dieNumber m.1 (stripeOf b.1))).failed.isEmpty) = true))
    ∧ (let s : State := { mounted0 with arc := { mounted0.arc with format := some format3, bands := [(9, { use := .hot })] } };
     let f := format3;
     let b := ((9, { use := .hot }) : Nat × Band);
     s.arc.format = some f ∧ (s.countBands f true (fun b => b.use == .free) < 3) ∧ s.flag Fl.ARC_STATE_MOUNTED = true
     ∧ ((s.arc.bands.filter fun p => p.2.use == .hot && !p.2.isOpen && !p.2.verifying) = [b])) := by decide +kernel

/-- Hypotheses of ArchiveCommands that are met together, clause by clause. -/
theorem witness_ArchiveCommands :
    (let c : Cmd := cmd0;
     let mode : Byte := 3#8;
     let coldOpen : Byte := 4#8;
     let spare : Byte := 5#8;
     let hot : BitVec 32 := 65536#32;
     let s : State := owned0;
     admits c s = true ∧ c.len = 0 ∧ s.get Fl.OTP_LIFECYCLE_CODE ≠ 3 ∧ s.get Fl.OTP_LIFECYCLE_CODE ≠ 5 ∧ s.arc.scans =
     [] ∧ s.val.retro = none ∧ s.arc.job = none ∧ 1 ≤ mode.toNat ∧ mode.toNat ≤ 4 ∧ 4 ≤ coldOpen.toNat ∧
     coldOpen.toNat ≤ 32 ∧ 1 ≤ spare.toNat ∧ spare.toNat ≤ 10 ∧ 32 ≤ hot.toNat ∧ hot.toNat ≤ 65536)
    ∧ (let c : Cmd := cmd0;
     let mode : Byte := 3#8;
     let coldOpen : Byte := 4#8;
     let spare : Byte := 5#8;
     let hot : BitVec 32 := 65536#32;
     let s : State := media0;
     admits c s = true ∧ c.len = 0 ∧ s.get Fl.OTP_LIFECYCLE_CODE ≠ 3 ∧ s.get Fl.OTP_LIFECYCLE_CODE ≠ 5 ∧ s.arc.scans =
     [] ∧ s.val.retro = none ∧ s.arc.job = none ∧ 1 ≤ mode.toNat ∧ mode.toNat ≤ 4 ∧ 4 ≤ coldOpen.toNat ∧
     coldOpen.toNat ≤ 32 ∧ 1 ≤ spare.toNat ∧ spare.toNat ≤ 10 ∧ 32 ≤ hot.toNat ∧ hot.toNat ≤ 65536 ∧
     ((s.formatHubs.any fun x => x.2.2.2.isNone) = true))
    ∧ (let c : Cmd := cmd0;
     let mode : Byte := 3#8;
     let coldOpen : Byte := 4#8;
     let spare : Byte := 5#8;
     let hot : BitVec 32 := 32#32;
     let s : State := owned0;
     admits c s = true ∧ c.len = 0 ∧ s.get Fl.OTP_LIFECYCLE_CODE ≠ 3 ∧ s.get Fl.OTP_LIFECYCLE_CODE ≠ 5 ∧ s.arc.scans =
     [] ∧ s.val.retro = none ∧ s.arc.job = none ∧ 1 ≤ mode.toNat ∧ mode.toNat ≤ 4 ∧ 4 ≤ coldOpen.toNat ∧
     coldOpen.toNat ≤ 32 ∧ 1 ≤ spare.toNat ∧ spare.toNat ≤ 10 ∧ 32 ≤ hot.toNat ∧ hot.toNat ≤ 65536 ∧ s.formatHubs = []
     ∧ posts 0x38 s = true) := by decide +kernel

/-- Hypotheses of ArchiveCommands that are met together, clause by clause. -/
theorem witness_ArchiveCommands_2 :
    (let c : Cmd := cmd0;
     let s : State := { owned0 with regs := [(Reg.OTP_LIFECYCLE, 3#32)] };
     admits c s = true ∧ c.len = 0 ∧ s.get Fl.OTP_LIFECYCLE_CODE = 3 ∧ posts 0x38 s = true)
    ∧ (let s : State := { owned0 with arc := { owned0.arc with job := some job0 } };
     let j := job0;
     s.arc.job = some j ∧ j.started = false ∧ posts 0x38 s = true)
    ∧ (let s : State := State.reset;
     s.arc.job = none) := by decide +kernel

/-- Hypotheses of ArchiveCommands that are met together, clause by clause. -/
theorem witness_ArchiveCommands_3 :
    (let h : SlateHdr := slateHdr3;
     let g : BitVec 16 := 5#16;
     let s : State := formatting0;
     let j : FormatJob := { job0 with hubs := [(3, some hubFmt0)], started := true };
     let m : HubFmt := hubFmt0;
     let o : DieOp := dieOp3 .format;
     (s.hub h.hub.val).epoch = h.epoch.toNat ∧ (s.hub h.hub.val).state ≠ 0 ∧ (s.hub h.hub.val).unacked = [] ∧
     (s.hub h.hub.val).backlog = [] ∧ (s.hub h.hub.val).rxSeq = h.seq.toNat ∧ (s.hub h.hub.val).outstanding = [o] ∧
     (s.hub h.hub.val).waiting = [] ∧ o.tag = g.toNat ∧ o.purpose = .format ∧ s.arc.job = some j ∧ j.started = true ∧
     j.hubs = [(h.hub.val, some m)] ∧ (s.hub h.hub.val).formatLeft = [] ∧ m.geom.channels ≤ nextDie m.geom
     (s.hub h.hub.val).formatDie / 8 ∧ s.arc.hostWrites = [] ∧ posts 0x38 s = true)
    ∧ (let c : Cmd := cmd0;
     let h : Byte := 3#8;
     let s : State := adopt0;
     let f := format3;
     let g := geometry0;
     let m := hubFmt0;
     admits c s = true ∧ c.len = 0 ∧ h.toNat ≤ 127 ∧ posts 0x39 s = true ∧ s.arc.format = some f ∧
     (s.hub h.toNat).geom = some g ∧ f.hub h.toNat = some m ∧ (s.hub h.toNat).state = 5 ∧ m.geom.shape = g.shape ∧
     s.arc.staging = [])
    ∧ (let c : Cmd := cmd0;
     let h : Byte := 3#8;
     let s : State := { adopt0 with arc := { adopt0.arc with hubs := [(3, { state := 5, seenId := 9, geom := some geometry9 })] } };
     let f := format3;
     let g := geometry9;
     let m := hubFmt0;
     admits c s = true ∧ c.len = 0 ∧ h.toNat ≤ 127 ∧ posts 0x39 s = true ∧ s.arc.format = some f ∧
     (s.hub h.toNat).geom = some g ∧ f.hub h.toNat = some m ∧ (s.hub h.toNat).state = 5 ∧ m.geom.shape ≠ g.shape) := by decide +kernel

/-- Hypotheses of ArchiveCommands that are met together, clause by clause. -/
theorem witness_ArchiveCommands_4 :
    (let c : Cmd := cmd0;
     let h : Byte := 3#8;
     let s : State := owned0;
     admits c s = true ∧ c.len = 0 ∧ h.toNat ≤ 127 ∧ posts 0x39 s = true ∧ s.arc.format = none)
    ∧ (let c : Cmd := cmd0;
     let p : ScanParams := scanParams0;
     let s : State := scans0;
     opens c s = true ∧ c.len = 0 ∧ p.valley.toNat ≤ 1 ∧ (s.ring c.func.val p.ring.val).type = 2 ∧ s.flag
     Fl.ARC_STATE_MOUNTED = true ∧ s.enabled 10 = true ∧ s.arc.scans = [] ∧ p.fromS.toNat ≤ p.toS.toNat ∧
     p.first.toNat ≤ p.last.toNat ∧ (p.last.toNat < (if p.valley = 1 then 2 ^ 14 else 2 ^ 20)))
    ∧ (let c : Cmd := cmd0;
     let p : ScanParams := scanParams0;
     let s : State := { scans0 with regs := [] };
     opens c s = true ∧ c.len = 0 ∧ p.valley.toNat ≤ 1 ∧ (s.ring c.func.val p.ring.val).type = 2 ∧ s.flag
     Fl.ARC_STATE_MOUNTED = false ∧ posts 0x3A s = true) := by decide +kernel

/-- Hypotheses of ArchiveCommands that are met together, clause by clause. -/
theorem witness_ArchiveCommands_5 :
    (let c : Cmd := { cmd0 with len := 65536#32 };
     let unit : BitVec 32 := 0#32;
     let count : BitVec 32 := 1#32;
     let s : State := archive0;
     opens c s = true ∧ c.len.toNat = 65536 * count.toNat ∧ s.flag Fl.ARC_STATE_MOUNTED = true ∧ 1 ≤ count.toNat ∧
     count.toNat ≤ 256 ∧ unit.toNat + count.toNat ≤ s.hostUnitCount ∧ posts 0x3B s = true ∧ s.arc.hotMap = [])
    ∧ (let c : Cmd := { cmd0 with len := 65536#32 };
     let unit : BitVec 32 := 0#32;
     let s : State := { unit0 with arc := { unit0.arc with hubs := [(3, { state := 2 })] } };
     let f : Format := format3;
     opens c s = true ∧ c.len = 65536 ∧ s.flag Fl.ARC_STATE_MOUNTED = true ∧ unit.toNat + 1 ≤ s.hostUnitCount ∧
     s.arc.format = some f ∧ (s.unitReads f (hostFirst + unit.toNat) (.host s.arc.readNumber)).isEmpty = false ∧
     (((s.unitReads f (hostFirst + unit.toNat) (.host s.arc.readNumber)).all fun o => !s.unreachable o.1) = true))
    ∧ (let c : Cmd := { cmd0 with len := 65536#32 };
     let unit : BitVec 32 := 0#32;
     let s : State := unit0;
     let f : Format := format3;
     opens c s = true ∧ c.len = 65536 ∧ s.flag Fl.ARC_STATE_MOUNTED = true ∧ unit.toNat + 1 ≤ s.hostUnitCount ∧
     s.arc.format = some f ∧ posts 0x3B s = true ∧
     (((s.unitReads f (hostFirst + unit.toNat) (.host s.arc.readNumber)).any fun o => s.unreachable o.1) = true)) := by decide +kernel

/-- Hypotheses of ArchiveCommands that are met together, clause by clause. -/
theorem witness_ArchiveCommands_6 :
    (let h : SlateHdr := slateHdr3;
     let g : BitVec 16 := 5#16;
     let s : State := { (band3 (.host 0) {}) with arc := { (band3 (.host 0) {}).arc with hostReads := [⟨cmd0, 0, 1, []⟩] } };
     let f : Format := format3;
     let o : DieOp := dieOp3 (.host 0);
     let r : HostRead := (⟨cmd0, 0, 1, []⟩ : HostRead);
     (s.hub h.hub.val).epoch = h.epoch.toNat ∧ (s.hub h.hub.val).state ≠ 0 ∧ (s.hub h.hub.val).unacked = [] ∧
     (s.hub h.hub.val).backlog = [] ∧ (s.hub h.hub.val).rxSeq = h.seq.toNat ∧ (s.hub h.hub.val).outstanding = [o] ∧
     (s.hub h.hub.val).waiting = [] ∧ o.tag = g.toNat ∧ o.purpose = .host r.number ∧ s.arc.format = some f ∧
     s.arc.hostReads = [r] ∧ r.left ≤ 1 ∧ posts 0x3B s = true) := by decide +kernel

theorem witness_ArchiveCommands_written :
    admits cmd0 unit0 = true ∧ (zeros 65536).length = 65536 ∧ unit0.flag Fl.ARC_STATE_MOUNTED = true
      ∧ (0#32).toNat + 1 ≤ unit0.hostUnitCount ∧ 1 < unit0.get Fl.ARC_HOT_FREE_BANDS ∧ unit0.arc.format = some format3
      ∧ unit0.arc.hotOpen = 9 + 1 := by
  have h : (zeros 65536).length = 65536 := by unfold zeros; exact List.length_replicate
  rw [eq_true h, true_and]
  decide +kernel

/-- Hypotheses of ScansAndBands that are met together, clause by clause. -/
theorem witness_ScansAndBands :
    (let k : Fin 8 := 2;
     let s : State := scan0 [];
     s.scan k.val = none)
    ∧ (let s : State := { State.reset with regs := [(Reg.SWC_SHED, 2#32)] };
     2 ≤ s.get Fl.SWC_SHED_LEVEL)
    ∧ (let k : Fin 8 := 0;
     let s : State := scan0 [[]];
     let x : Scan := scanOf [[]];
     let f : Format := format3;
     let o := ([] : Octets);
     s.scan k.val = some x ∧ s.arc.format = some f ∧ s.get Fl.SWC_SHED_LEVEL < 2 ∧ x.reading = false ∧ x.batch = [o] ∧
     s.ringAdmits x.cmd.func.val x.ring 2 = true ∧ (s.ring x.cmd.func.val x.ring).size <
     (s.ring x.cmd.func.val x.ring).held + 1) := by decide +kernel

/-- Hypotheses of ScansAndBands that are met together, clause by clause. -/
theorem witness_ScansAndBands_2 :
    (let k : Fin 8 := 0;
     let s : State := { (scan0 [[]]) with hst := { owned0.hst with funcs := [(0, { rings := [(3, { cfg := 0x80000000#32, enabled := true })] })] } };
     let x : Scan := scanOf [[]];
     let f : Format := format3;
     let o := ([] : Octets);
     s.scan k.val = some x ∧ s.arc.format = some f ∧ s.get Fl.SWC_SHED_LEVEL < 2 ∧ x.reading = false ∧ x.batch = [o] ∧
     (s.ring x.cmd.func.val x.ring).held + 1 ≤ (s.ring x.cmd.func.val x.ring).size ∧
     (s.deliverTile x.cmd.func.val x.ring o).1 = true)
    ∧ (let k : Fin 8 := 0;
     let s : State := { (scan0 [[]]) with hst := owned0.hst };
     let x : Scan := scanOf [[]];
     let f : Format := format3;
     let o := ([] : Octets);
     s.scan k.val = some x ∧ s.arc.format = some f ∧ s.get Fl.SWC_SHED_LEVEL < 2 ∧ x.reading = false ∧ x.batch = [o] ∧
     s.ringAdmits x.cmd.func.val x.ring 2 = false)
    ∧ (let k : Fin 8 := 0;
     let s : State := scan0 [];
     let x : Scan := scanOf [];
     let f : Format := format3;
     s.scan k.val = some x ∧ s.arc.format = some f ∧ s.get Fl.SWC_SHED_LEVEL < 2 ∧ x.reading = false ∧ x.batch = [] ∧
     s.scanNext f x = none ∧ posts 0x3A s = true ∧ s.get Fl.RDG_STATE_STATE ≠ 2) := by decide +kernel

/-- Hypotheses of ScansAndBands that are met together, clause by clause. -/
theorem witness_ScansAndBands_3 :
    (let k : Fin 8 := 0;
     let s : State := held0 [];
     let x : Scan := { (scanOf []) with left := [327680] };
     let f : Format := format3;
     let i : Nat := 327680;
     let p : Nat := 0;
     let l : List Nat := ([] : List Nat);
     let y : Superblock := super0;
     s.scan k.val = some x ∧ s.arc.format = some f ∧ s.get Fl.SWC_SHED_LEVEL < 2 ∧ x.reading = false ∧ x.batch = [] ∧
     s.scanNext f x = some (i :: l, p) ∧ s.superAt i = some y ∧ (s.band y.band).done.contains
     (65536 * y.start / max 1 (f.pageSize (stripeOf y.band)) + p) = false)
    ∧ (let k : Fin 8 := 0;
     let s : State := held0 [0];
     let x : Scan := { (scanOf []) with left := [327680] };
     let f : Format := format3;
     let i : Nat := 327680;
     let p : Nat := 0;
     let l : List Nat := ([] : List Nat);
     let y : Superblock := super0;
     let h : Nat := 3;
     let o : DieOp := (⟨0, 1, 0, 5, 0, 0, [], .scan 0 327680 0⟩ : DieOp);
     s.scan k.val = some x ∧ s.arc.format = some f ∧ s.get Fl.SWC_SHED_LEVEL < 2 ∧ x.reading = false ∧ x.batch = [] ∧
     s.scanNext f x = some (i :: l, p) ∧ s.superAt i = some y ∧ (s.band y.band).done.contains
     (65536 * y.start / max 1 (f.pageSize (stripeOf y.band)) + p) = true ∧ s.pageOp f y.band
     (65536 * y.start / max 1 (f.pageSize (stripeOf y.band)) + p) 1 []
     (.scan k.val y.place (65536 * y.start / max 1 (f.pageSize (stripeOf y.band)) + p)) = some (h, o))
    ∧ (let b : BitVec 32 := 9#32;
     let s : State := band3 .format { use := .cold, verifying := true, done := [0, 1] };
     let f : Format := format3;
     s.arc.format = some f ∧ (s.band b.toNat).verifying = true ∧ (s.band b.toNat).use ≠ .hot ∧
     (∀ h : Fin 128, (s.hub h.val).state ≠ 4) ∧ (((s.band b.toNat).done.all fun p => !s.pageLost f b.toNat p) = true)) := by decide +kernel

/-- Hypotheses of RidgeLink that are met together, clause by clause. -/
theorem witness_RidgeLink :
    (let h : RidgeHdr := { ridgeHdr0 with fcsBad := true };
     let s : State := ridge0;
     (h.fcsBad = true ∨ h.epoch.toNat ≠ s.rdg.epoch))
    ∧ (let h : RidgeHdr := { ridgeHdr0 with epoch := 1#8 };
     let s : State := ridge0;
     (h.fcsBad = true ∨ h.epoch.toNat ≠ s.rdg.epoch))
    ∧ (let h : RidgeHdr := ridgeHdr0;
     let s : State := ridge0;
     h.fcsBad = false ∧ h.epoch.toNat = s.rdg.epoch ∧ s.rdg.refused = false ∧ h.unit.val = 3 - s.unitCode ∧
     s.rdg.unacked = [] ∧ s.rdg.backlog = [])
    ∧ (let h : RidgeHdr := ridgeHdr0;
     let s : State := ridge0;
     h.fcsBad = false ∧ h.epoch.toNat = s.rdg.epoch ∧ s.rdg.refused = false ∧ h.unit.val = 3 - s.unitCode ∧
     s.rdg.unacked = [] ∧ s.rdg.backlog = [])
    ∧ (let h : RidgeHdr := ridgeHdr0;
     let s : State := ridge0;
     h.fcsBad = false ∧ h.epoch.toNat = s.rdg.epoch ∧ s.rdg.refused = false ∧ h.unit.val = 3 - s.unitCode ∧
     s.rdg.unacked = [] ∧ s.rdg.backlog = [])
    ∧ (let h : RidgeHdr := ridgeHdr0;
     let s : State := ridge0;
     h.fcsBad = false ∧ h.epoch.toNat = s.rdg.epoch ∧ s.rdg.refused = false ∧ h.unit.val = 3 - s.unitCode ∧
     s.rdg.unacked = [] ∧ s.rdg.backlog = []) := by decide +kernel

/-- Hypotheses of RidgeLink that are met together, clause by clause. -/
theorem witness_RidgeLink_2 :
    (let h : RidgeHdr := ridgeHdr0;
     let s : State := ridge0;
     h.fcsBad = false ∧ h.epoch.toNat = s.rdg.epoch ∧ s.rdg.refused = false ∧ h.unit.val = 3 - s.unitCode ∧
     s.rdg.unacked = [] ∧ s.rdg.backlog = [] ∧ s.get Fl.RDG_STATE_STATE = 2 ∧ s.rdg.rxSeq = h.seq.toNat)
    ∧ (let h : RidgeHdr := ridgeHdr0;
     let n : BitVec 32 := 5#32;
     let bs : Octets := [1#8, 2#8];
     let s : State := ridge0;
     h.fcsBad = false ∧ h.epoch.toNat = s.rdg.epoch ∧ s.rdg.refused = false ∧ h.unit.val = 3 - s.unitCode ∧
     s.rdg.unacked = [] ∧ s.rdg.backlog = [] ∧ s.rdg.rxSeq = h.seq.toNat ∧ bs.length < n.toNat)
    ∧ (let h : RidgeHdr := { ridgeHdr0 with seq := 1#32 };
     let s : State := ridge0;
     h.fcsBad = false ∧ h.epoch.toNat = s.rdg.epoch ∧ s.rdg.refused = false ∧ h.unit.val = 3 - s.unitCode ∧
     s.rdg.unacked = [] ∧ s.rdg.backlog = [] ∧ s.rdg.rxSeq ≠ h.seq.toNat)
    ∧ (let s : State := State.reset;
     s.rdg.unacked = [])
    ∧ (let s : State := ridgeUp0 6;
     s.rdg.unacked ≠ [] ∧ (∀ f ∈ s.rdg.unacked, f.resends < 7))
    ∧ (let s : State := ridgeUp0 7;
     let f := (⟨0, 1, 2, 0, 0, [], 7⟩ : RidgeFrame);
     s.rdg.unacked = [f] ∧ 7 ≤ f.resends) := by decide +kernel

/-- Hypotheses of RidgeLink that are met together, clause by clause. -/
theorem witness_RidgeLink_3 :
    (let s : State := election0;
     s.sendsCx = false ∧ s.ridgeGroups ≠ [] ∧ (s.ridgeLanes = true ∨ s.flag Fl.RDG_STATE_LINK_UP = false))
    ∧ (let s : State := { (ridgeUp0 6) with regs := [(Reg.LANE_GRP_STATUS 0, 4#32)], tim := { State.reset.tim with held := true } };
     s.sendsCx = false ∧ s.ridgeGroups ≠ [] ∧ (s.ridgeLanes = true ∨ s.flag Fl.RDG_STATE_LINK_UP = false))
    ∧ (let s : State := ridgeUp0 6;
     s.sendsCx = true)
    ∧ (let s : State := ridgeUp0 6;
     s.tim.held = false ∧ s.rdg.silent < s.get Fl.RDG_CFG_LINK_TO)
    ∧ (let s : State := { (ridgeUp0 6) with tim := { State.reset.tim with held := true } };
     (s.tim.held = true ∨ s.get Fl.RDG_CFG_LINK_TO ≤ s.rdg.silent) ∧ s.flag Fl.RDG_STATE_LINK_UP = true)
    ∧ (let s : State := { (ridgeUp0 6) with rdg := { (ridgeUp0 6).rdg with silent := 8 } };
     (s.tim.held = true ∨ s.get Fl.RDG_CFG_LINK_TO ≤ s.rdg.silent) ∧ s.flag Fl.RDG_STATE_LINK_UP = true) := by decide +kernel

/-- Hypotheses of RidgeStates that are met together, clause by clause. -/
theorem witness_RidgeStates :
    (let h : RidgeHdr := { ridgeHdr0 with unit := 1 };
     let m : RidgeHello := election0.ownHello;
     let s : State := election0;
     h.fcsBad = false ∧ s.refuses h m = true ∧ s.rdg.refused = false ∧ s.get Fl.RDG_STATE_STATE ≠ 2)
    ∧ (let h : RidgeHdr := { ridgeHdr0 with unit := 1 };
     let m : RidgeHello := election0.ownHello;
     let s : State := { election0 with rdg := { election0.rdg with refused := true } };
     h.fcsBad = false ∧ s.refuses h m = true ∧ s.rdg.refused = true)
    ∧ (let h : RidgeHdr := ridgeHdr0;
     let m : RidgeHello := election0.ownHello;
     let s : State := { election0 with rdg := { election0.rdg with phase := 2 } };
     h.fcsBad = false ∧ s.refuses h m = false ∧ h.epoch.toNat = s.rdg.epoch ∧ s.rdg.phase ≠ 0 ∧ s.ridgeLanes = true)
    ∧ (let h : RidgeHdr := ridgeHdr0;
     let m : RidgeHello := { election0.ownHello with flags := 2#8 };
     let s : State := election0;
     h.fcsBad = false ∧ s.refuses h m = false ∧ h.epoch.toNat = s.rdg.epoch ∧ s.rdg.phase = 0 ∧ s.tim.held = true ∧
     s.tim.waiting = true ∧ bitOf 1 m.flags.toNat = true ∧ m.state.toNat ≤ 1)
    ∧ (let h : RidgeHdr := ridgeHdr0;
     let s : State := { election0 with rdg := { election0.rdg with phase := 2 } };
     h.fcsBad = false ∧ h.epoch.toNat = s.rdg.epoch ∧ s.rdg.refused = false ∧ h.unit.val = 3 - s.unitCode ∧
     s.rdg.unacked = [] ∧ s.rdg.backlog = [] ∧ s.rdg.phase ≠ 0)
    ∧ (let h : RidgeHdr := ridgeHdr0;
     let s : State := election0;
     h.fcsBad = false ∧ h.epoch.toNat = s.rdg.epoch ∧ s.rdg.refused = false ∧ h.unit.val = 3 - s.unitCode ∧
     s.rdg.unacked = [] ∧ s.rdg.backlog = [] ∧ s.rdg.phase = 0 ∧ s.tim.held = true ∧ s.tim.waiting = true) := by decide +kernel

/-- Hypotheses of RidgeStates that are met together, clause by clause. -/
theorem witness_RidgeStates_2 :
    (let s : State := { election0 with rdg := { election0.rdg with backoff := some 3 } };
     let b := 3;
     s.rdg.phase = 0 ∧ s.rdg.backoff = some b ∧ s.rdg.claimSent = false)
    ∧ (let s : State := { election0 with rdg := { election0.rdg with claimSent := true } };
     s.rdg.claimSent = true)
    ∧ (let s : State := { election0 with rdg := { election0.rdg with phase := 2 } };
     s.rdg.phase ≠ 0)
    ∧ (let s : State := election0;
     s.rdg.phase = 0 ∧ s.tim.held = true ∧ s.tim.waiting = true)
    ∧ (let s : State := probe0;
     s.rdg.phase = 1 ∧ s.tim.held = false ∧ s.rdg.probeFrom + 2 ≤ s.course ∧ s.accepting (3 - s.unitCode) = 0 ∧
     (∀ p ∈ s.eav.lanes, p.2.partnerMark ≤ s.rdg.probeFrom))
    ∧ (let s : State := pair0 0x20100#32;
     let m := partner0;
     s.rdg.partner = some m ∧ s.rdg.phase = 2 ∧ s.get Fl.RDG_STATE_STATE = 0 ∧ s.flag Fl.RDG_STATE_LINK_UP = true ∧
     s.flag Fl.RDG_STATE_PARTNER_VALID = true ∧ s.get Fl.RDG_STATE_PARTNER_STATE = 0) := by decide +kernel

/-- Hypotheses of RidgeStates that are met together, clause by clause. -/
theorem witness_RidgeStates_3 :
    (let s : State := pair0 0xA0500#32;
     let m := partner0;
     s.rdg.partner = some m ∧ bitOf 3 m.flags.toNat = true ∧ s.rdg.phase = 2 ∧ s.get Fl.RDG_STATE_STATE = 0 ∧ s.flag
     Fl.RDG_STATE_LINK_UP = true ∧ s.flag Fl.RDG_STATE_PARTNER_VALID = true ∧ 2 ≤ s.get Fl.RDG_STATE_PARTNER_STATE ∧
     s.rdg.join = none)
    ∧ (let s : State := { (pair0 0xA0501#32) with rdg := { (pair0 0).rdg with join := some ⟨0, true, none, []⟩ } };
     let j := (⟨0, true, none, []⟩ : JoinRun);
     s.rdg.join = some j ∧ s.get Fl.RDG_STATE_STATE ≤ 1)
    ∧ (let s : State := pair0 0xA0500#32;
     s.flag Fl.RDG_STATE_CATCHUP = true ∧ s.get Fl.RDG_STATE_STATE ≠ 2)
    ∧ (let s : State := { (pair0 0xA0301#32) with rdg := { (pair0 0).rdg with arbitration := some 2 } };
     let n := 2;
     s.rdg.arbitration = some n ∧ s.course = n + 2 ∧ s.rdg.verdict = 0)
    ∧ (let f : Fin 4 := 0;
     let s : State := pair0 0xA0301#32;
     s.isOwner f.val = true ∧ writes f Reg.RDG_HOLD_CTRL s = true ∧ s.get Fl.RDG_STATE_STATE = 1 ∧ s.flag
     Fl.RDG_STATE_PARTNER_VALID = true ∧ s.get Fl.RDG_STATE_PARTNER_STATE = 2 ∧ s.paired = true ∧ s.rdg.arbitration =
     none)
    ∧ (let f : Fin 4 := 0;
     let s : State := pair0 0xA0302#32;
     s.isOwner f.val = true ∧ writes f Reg.RDG_HOLD_CTRL s = true ∧ s.get Fl.RDG_STATE_STATE ≠ 1 ∧ s.fget f.val
     Fl.HST_WSW_STATUS_STICKY = 0) := by decide +kernel

/-- Hypotheses of RidgeStates that are met together, clause by clause. -/
theorem witness_RidgeStates_4 :
    (let f : Fin 4 := 0;
     let s : State := pair0 3#32;
     s.isOwner f.val = true ∧ writes f Reg.RDG_HOLD_CTRL s = true ∧ s.get Fl.RDG_STATE_STATE = 3)
    ∧ (let f : Fin 4 := 0;
     let s : State := pair0 2#32;
     s.isOwner f.val = true ∧ writes f Reg.RDG_HOLD_CTRL s = true ∧ s.get Fl.RDG_STATE_STATE ≠ 3 ∧ s.fget f.val
     Fl.HST_WSW_STATUS_STICKY = 0)
    ∧ (let f : Fin 4 := 0;
     let s : State := { (pair0 3#32) with hst := State.reset.hst };
     s.isOwner f.val = false ∧ writes f Reg.RDG_HOLD_CTRL s = true ∧ s.fget f.val Fl.HST_WSW_STATUS_STICKY = 0) := by decide +kernel

/-- Hypotheses of SafetyInputs that are met together, clause by clause. -/
theorem witness_SafetyInputs :
    (let a : BitVec 16 := 1#16;
     let s : State := safety0;
     let k : Fin 16 := 0;
     bitOf k.val (s.get Fl.SAF_FORCE0_ISO_USED) = true ∧ bitOf k.val a.toNat = true ∧ FMap.get 0 s.saf.openRun
     (2 * k.val) = 19)
    ∧ (let k : Fin 17 := 0;
     let s : State := safety0;
     s.inputDiffers k.val = true)
    ∧ (let s : State := safety0;
     (s.get Fl.SAF_PINS_SEAL = 1 ∨ s.get Fl.SAF_PINS_SEAL = 2) ∧ s.saf.sealDisc = false ∧ s.get Fl.RDG_STATE_STATE ≠ 2)
    ∧ (let s : State := safety0;
     s.saf.crossRun = 1)
    ∧ (let code : Byte := 9#8;
     1 ≤ code.toNat ∧ code.toNat ≤ 9)
    ∧ (let code : Byte := 1#8;
     1 ≤ code.toNat ∧ code.toNat ≤ 9)
    ∧ (let code : Byte := 9#8;
     1 ≤ code.toNat ∧ code.toNat ≤ 9) := by decide +kernel

/-- Hypotheses of SafetyReset that are met together, clause by clause. -/
theorem witness_SafetyReset :
    (let ms : BitVec 16 := 50#16;
     50 ≤ ms.toNat ∧ ms.toNat ≤ 2000)
    ∧ (let ms : BitVec 16 := 2000#16;
     50 ≤ ms.toNat ∧ ms.toNat ≤ 2000)
    ∧ (let ms : BitVec 16 := 49#16;
     (ms.toNat < 50 ∨ 2000 < ms.toNat))
    ∧ (let ms : BitVec 16 := 2001#16;
     (ms.toNat < 50 ∨ 2000 < ms.toNat))
    ∧ (let s : State := State.reset;
     s.saf.armUntil ≤ s.now)
    ∧ (let s : State := State.reset;
     s.get Fl.RDG_STATE_STATE ≠ 2)
    ∧ (let c : Cmd := cmd0;
     let s : State := lockout0;
     admits c s = true ∧ c.len = 0 ∧ s.flag Fl.SAF_PINS_ARMED = true ∧ s.get Fl.SAF_STATE_STATE = 3 ∧ s.stillFaulty =
     0 ∧ ((s.saf.accepted.find? fun x => x.1 == c) = none) ∧ posts 0x50 s = true) := by decide +kernel

/-- Hypotheses of SafetyReset that are met together, clause by clause. -/
theorem witness_SafetyReset_2 :
    (let c : Cmd := cmd0;
     let s : State := owned0;
     admits c s = true ∧ c.len = 0 ∧ posts 0x50 s = true ∧ s.flag Fl.SAF_PINS_ARMED = false ∧
     ((s.saf.accepted.find? fun x => x.1 == c) = none))
    ∧ (let c : Cmd := cmd0;
     let s : State := { lockout0 with saf := { lockout0.saf with accepted := [(cmd0, false)] } };
     admits c s = true ∧ c.len = 0 ∧ posts 0x50 s = true ∧ (s.saf.accepted.find? fun x => x.1 == c) = some (c, false))
    ∧ (let c : Cmd := cmd0;
     let i : BitVec 32 := 3#32;
     let action : Byte := 1#8;
     let s : State := grant0;
     let lane : Nat := 0;
     admits c s = true ∧ c.len = 0 ∧ (action = 1 ∨ action = 2) ∧ s.get Fl.SAF_STATE_STATE ≠ 3 ∧
     (s.memberByIndex i.toNat).isSome = true ∧ (s.meterRec i.toNat).plc.joined = true ∧ s.plan.laneOf
     (s.meterRec i.toNat).plc.cell = some lane ∧ bitOf lane s.saf.logged = true ∧ s.saf.telegrams.length < 2048)
    ∧ (let c : Cmd := cmd0;
     let action : Byte := 1#8;
     let s : State := lockout0;
     admits c s = true ∧ c.len = 0 ∧ posts 0x22 s = true ∧ (action = 1 ∨ action = 2) ∧ s.get Fl.SAF_STATE_STATE = 3)
    ∧ (let c : Cmd := cmd0;
     let action : Byte := 3#8;
     let s : State := grant0;
     admits c s = true ∧ c.len = 0 ∧ posts 0x22 s = true ∧ action ≠ 1 ∧ action ≠ 2)
    ∧ (let id : BitVec 32 := 5#32;
     let s : State := telegram0;
     let x : Telegram := (⟨5, 3, 1, 0, 0, 0, 0, none⟩ : Telegram);
     ((s.saf.telegrams.find? fun t => t.id == id.toNat) = some x) ∧ x.deadline * 500000 ≤ s.now)
    ∧ (let s : State := pair0 0xA0301#32;
     s.paired = true ∧ s.get Fl.RDG_STATE_STATE ≠ 2) := by decide +kernel

/-- Hypotheses of ValleyRuns that are met together, clause by clause. -/
theorem witness_ValleyRuns :
    (let c : Cmd := cmd0;
     let p : RetroParams := retroParams0;
     let s : State := retro0;
     let tr : ValTree := ({ epoch := 0 } : ValTree);
     admits c s = true ∧ retroIllegal c p = false ∧ (s.ring p.func.toNat p.ring.toNat).type = 2 ∧ s.val.retro = none ∧
     s.enabled 8 = true ∧ ((s.val.held.find? fun x => x.epoch == p.epoch.toNat) = some tr) ∧ p.fromS.toNat ≤
     p.toS.toNat ∧ p.toS.toNat - p.fromS.toNat ≤ 2678400 ∧ p.toS.toNat < s.get64 Reg.VAL_EVAL_LO ∧
     (p.root.toNat = 0xFFFF ∨ p.root.toNat < tr.nodes.length))
    ∧ (let c : Cmd := cmd0;
     let p : RetroParams := retroParams0;
     let s : State := { retro0 with val := { retro0.val with retro := some retroRun0 } };
     let r : RetroRun := retroRun0;
     admits c s = true ∧ retroIllegal c p = false ∧ (s.ring p.func.toNat p.ring.toNat).type = 2 ∧ s.val.retro = some r
     ∧ posts 0x30 s = true)
    ∧ (let c : Cmd := cmd0;
     let p : RetroParams := { retroParams0 with epoch := 4 };
     let s : State := retro0;
     admits c s = true ∧ retroIllegal c p = false ∧ (s.ring p.func.toNat p.ring.toNat).type = 2 ∧ s.val.retro = none ∧
     s.enabled 8 = true ∧ ((s.val.held.find? fun x => x.epoch == p.epoch.toNat) = none) ∧ posts 0x30 s = true) := by decide +kernel

/-- Hypotheses of ValleyRuns that are met together, clause by clause. -/
theorem witness_ValleyRuns_2 :
    (let c : Cmd := cmd0;
     let p : RetroParams := { retroParams0 with toS := 9 };
     let s : State := retro0;
     let tr : ValTree := ({ epoch := 0 } : ValTree);
     admits c s = true ∧ retroIllegal c p = false ∧ (s.ring p.func.toNat p.ring.toNat).type = 2 ∧ s.val.retro = none ∧
     s.enabled 8 = true ∧ ((s.val.held.find? fun x => x.epoch == p.epoch.toNat) = some tr) ∧ posts 0x30 s = true ∧
     (p.toS.toNat < p.fromS.toNat ∨ 2678400 < p.toS.toNat - p.fromS.toNat ∨ s.get64 Reg.VAL_EVAL_LO ≤ p.toS.toNat))
    ∧ (let s : State := { retro0 with val := { retro0.val with retro := some retroRun0 } };
     let r : RetroRun := retroRun0;
     s.val.retro = some r ∧ s.get Fl.SWC_SHED_LEVEL < 2 ∧ posts 0x30 s = true)
    ∧ (let s : State := { State.reset with regs := [(Reg.SWC_SHED, 2#32)], val := { State.reset.val with retro := some retroRun0 } };
     let r : RetroRun := retroRun0;
     s.val.retro = some r ∧ 2 ≤ s.get Fl.SWC_SHED_LEVEL) := by decide +kernel

/-- Hypotheses of Resets that are met together, clause by clause. -/
theorem witness_Resets :
    (let cause : Nat := 7;
     let p : Nat := 31;
     cause < 8 ∧ p < 32)
    ∧ (let s : State := State.reset;
     s.otp.inReset = true)
    ∧ (let s : State := liveWith [];
     s.otp.inReset = false ∧ s.arc.stopping = none ∧ s.flag Fl.ARC_STATE_MOUNTED = false)
    ∧ (let s : State := liveWith [];
     s.otp.inReset = false ∧ s.arc.stopping = none ∧ s.flag Fl.ARC_STATE_MOUNTED = false)
    ∧ (let s : State := liveWith [(Reg.ARC_STATE, 0x10#32)];
     s.otp.inReset = false ∧ s.arc.stopping = none ∧ s.flag Fl.ARC_STATE_MOUNTED = true ∧ s.flag Fl.ARC_STATE_STOPPED
     = false) := by decide +kernel

/-- Hypotheses of Resets that are met together, clause by clause. -/
theorem witness_Resets_2 :
    (let s : State := liveWith [(Reg.SAF_STATE, 3#32)];
     let cause : Nat := 7;
     cause < 8 ∧ s.otp.prog = none)
    ∧ (let fit : DramFit := ⟨0, true, false, 1⟩;
     let s : State := State.reset;
     (s.otp.inReset = true ∨ s.otp.prog = none) ∧ fit.rate.val = 0 ∧
     (s.otp.decomWord ≠ lcForm 5 ∧ ∀ w ∈ s.otp.lcWords, w ≠ lcForm 5))
    ∧ (let fit : DramFit := ⟨0, true, false, 1⟩;
     let s : State := owned0;
     (s.otp.inReset = true ∨ s.otp.prog = none) ∧ fit.rate.val = 0 ∧
     (s.otp.decomWord ≠ lcForm 5 ∧ ∀ w ∈ s.otp.lcWords, w ≠ lcForm 5))
    ∧ (let fit : DramFit := ⟨3, true, false, 1⟩;
     let s : State := State.reset;
     (s.otp.inReset = true ∨ s.otp.prog = none) ∧ fit.rate.val ≠ 0 ∧
     (s.otp.decomWord ≠ lcForm 5 ∧ ∀ w ∈ s.otp.lcWords, w ≠ lcForm 5))
    ∧ (let s : State := { State.reset with otp := { State.reset.otp with decomWord := lcForm 5 } };
     s.otp.inReset = true ∧ s.otp.decomWord = lcForm 5) := by decide +kernel

/-- Hypotheses of BootControl that are met together, clause by clause. -/
theorem witness_BootControl :
    (let f : Fin 4 := 0;
     let next : Fin 4 := 2;
     let s : State := liveWith [];
     writes f Reg.OTP_FW_CTRL s = true ∧ s.isOwner f.val = true ∧ s.standbyOrHold = false ∧ s.get Fl.RDG_STATE_STATE ≠
     1 ∧ next.val ≠ 3)
    ∧ (let f : Fin 4 := 0;
     let next : Fin 4 := 2;
     let s : State := active0;
     writes f Reg.OTP_FW_CTRL s = true ∧ s.isOwner f.val = true ∧ s.standbyOrHold = false ∧ s.get Fl.RDG_STATE_STATE =
     1 ∧ next.val ≠ 3)
    ∧ (let f : Fin 4 := 0;
     let next : Fin 4 := 2;
     let s : State := liveWith [];
     writes f Reg.OTP_FW_CTRL s = true ∧ s.isOwner f.val = true ∧ s.standbyOrHold = false ∧ s.get Fl.RDG_STATE_STATE ≠
     1 ∧ next.val ≠ 3)
    ∧ (let f : Fin 4 := 0;
     let next : Fin 4 := 2;
     let s : State := liveWith [];
     writes f Reg.OTP_FW_CTRL s = true ∧ s.isOwner f.val = true ∧ s.standbyOrHold = false ∧ s.get Fl.RDG_STATE_STATE ≠
     1 ∧ next.val ≠ 3 ∧ s.arc.stopping = none ∧ s.flag Fl.ARC_STATE_MOUNTED = false)
    ∧ (let f : Fin 4 := 0;
     let next : Fin 4 := 2;
     let s : State := liveWith [(Reg.ARC_STATE, 0x10#32)];
     writes f Reg.OTP_FW_CTRL s = true ∧ s.isOwner f.val = true ∧ s.standbyOrHold = false ∧ s.get Fl.RDG_STATE_STATE ≠
     1 ∧ next.val ≠ 3 ∧ s.arc.stopping = none ∧ s.flag Fl.ARC_STATE_MOUNTED = true ∧ s.flag Fl.ARC_STATE_STOPPED =
     false)
    ∧ (let f : Fin 4 := 0;
     let s : State := { (liveWith []) with hst := State.reset.hst };
     writes f Reg.OTP_FW_CTRL s = true ∧ s.isOwner f.val = false ∧ s.fget f.val Fl.HST_WSW_STATUS_STICKY = 0) := by decide +kernel

/-- Hypotheses of BootControl that are met together, clause by clause. -/
theorem witness_BootControl_2 :
    (let f : Fin 4 := 0;
     let s : State := liveWith [];
     writes f Reg.OTP_FW_CTRL s = true ∧ s.isOwner f.val = true ∧ s.fget f.val Fl.HST_WSW_STATUS_STICKY = 0)
    ∧ (let s : State := State.reset;
     s.otp.unconfirmed = false)
    ∧ (let s : State := { (liveWith []) with otp := { (liveWith []).otp with unconfirmed := true } };
     s.otp.unconfirmed = true ∧ s.arc.stopping = none ∧ s.flag Fl.ARC_STATE_MOUNTED = false)
    ∧ (let s : State := { (liveWith [(Reg.ARC_STATE, 0x10#32)]) with otp := { (liveWith []).otp with unconfirmed := true } };
     s.otp.unconfirmed = true ∧ s.arc.stopping = none ∧ s.flag Fl.ARC_STATE_MOUNTED = true ∧ s.flag
     Fl.ARC_STATE_STOPPED = false)
    ∧ (let s : State := { (liveWith []) with otp := { (liveWith []).otp with unconfirmed := true } };
     s.otp.unconfirmed = true)
    ∧ (let s : State := { (liveWith []) with otp := { (liveWith []).otp with unconfirmed := true } };
     s.otp.unconfirmed = true ∧ s.get Fl.RDG_STATE_STATE ≠ 2) := by decide +kernel

/-- Hypotheses of BootControl that are met together, clause by clause. -/
theorem witness_BootControl_3 :
    (let s : State := State.reset;
     s.arc.stopping = none)
    ∧ (let s : State := { (liveWith []) with arc := { owned0.arc with stopping := some [] } };
     let l : List Nat := [];
     s.arc.stopping = some l ∧ s.otp.resetCause = none ∧ s.hlt.tripped = false ∧ s.get Fl.RDG_STATE_STATE ≠ 2)
    ∧ (let s : State := stopping4;
     let l : List Nat := [];
     let c : Nat := 4;
     s.arc.stopping = some l ∧ s.otp.resetCause = some c)
    ∧ (let s : State := stopping4;
     let l : List Nat := [];
     let c : Nat := 4;
     s.arc.stopping = some l ∧ s.otp.resetCause = some c ∧ c < 8) := by decide +kernel

/-- Hypotheses of ServicePort that are met together, clause by clause. -/
theorem witness_ServicePort :
    (let up : Bool := true;
     let s : State := liveWith [];
     s.flag Fl.OTP_SVC_STATUS_LINK ≠ up ∧ s.get Fl.RDG_STATE_STATE ≠ 2)
    ∧ (let a : BitVec 32 := BitVec.ofNat 32 ((liveWith []).get Fl.OTP_SVC_IP_ADDR);
     let s : State := liveWith [];
     s.svcUp = true ∧ a.toNat = s.get Fl.OTP_SVC_IP_ADDR)
    ∧ (let a : BitVec 32 := 0#32;
     let s : State := liveWith [(Reg.OTP_SVC_IP, 1#32)];
     a.toNat ≠ s.get Fl.OTP_SVC_IP_ADDR)
    ∧ (let n : Option Nat := (some 1468);
     let s : State := liveWith [];
     s.svcUp = true ∧ s.otp.transfer = none ∧ 512 ≤ n.getD 512 ∧ n.getD 512 ≤ 1468)
    ∧ (let s : State := liveWith [];
     s.svcUp = true) := by decide +kernel

/-- Hypotheses of ServicePort that are met together, clause by clause. -/
theorem witness_ServicePort_2 :
    (let b : BitVec 16 := 1#16;
     let d : Octets := (zeros 512);
     let s : State := receiving0 ⟨512, 1, [], false, false⟩;
     let x : Transfer := ⟨512, 1, [], false, false⟩;
     s.otp.transfer = some x ∧ x.uart = false ∧ x.whole = false ∧ d.length = x.blksize ∧ b.toNat = x.next % 65536)
    ∧ (let b : BitVec 16 := 1#16;
     let d : Octets := (zeros 511);
     let s : State := receiving0 ⟨512, 1, [], false, false⟩;
     let x : Transfer := ⟨512, 1, [], false, false⟩;
     s.otp.transfer = some x ∧ x.uart = false ∧ x.whole = false ∧ d.length < x.blksize ∧ b.toNat = x.next % 65536)
    ∧ (let b : BitVec 16 := 0#16;
     let d : Octets := (zeros 512);
     let s : State := receiving0 ⟨512, 1, [], false, false⟩;
     let x : Transfer := ⟨512, 1, [], false, false⟩;
     s.otp.transfer = some x ∧ x.uart = false ∧ x.whole = false ∧ d.length ≤ x.blksize ∧ b.toNat = (x.next + 65535) %
     65536)
    ∧ (let s : State := liveWith [(Reg.OTP_BOOT_STATUS, 0x800#32)];
     s.get Fl.OTP_BOOT_STATUS_SOURCE = 2 ∧ s.otp.transfer = none)
    ∧ (let s : State := receiving0 ⟨512, 2, [], true, false⟩;
     let x : Transfer := ⟨512, 2, [], true, false⟩;
     s.otp.transfer = some x ∧ x.whole = true ∧ x.uart = false) := by decide +kernel

/-- Hypotheses of OtpWords that are met together, clause by clause. -/
theorem witness_OtpWords :
    (let c : Cmd := cmd0;
     let d : Octets := cal0;
     let s : State := seal0;
     let k : Nat := 0;
     admits c s = true ∧ calIllegal d = false ∧ c ∉ s.met.sealedAt ∧ s.flag Fl.SAF_PINS_SEAL_OPEN = true ∧ s.get
     Fl.RDG_STATE_STATE = 0 ∧ s.otp.supplyLow = false ∧ s.otp.prog = none ∧ s.otp.blank 2 = some k)
    ∧ (let c : Cmd := cmd0;
     let d : Octets := cal0;
     let s : State := owned0;
     admits c s = true ∧ calIllegal d = false ∧ s.flag Fl.SAF_PINS_SEAL_OPEN = false ∧ posts 0x61 s = true)
    ∧ (let c : Cmd := cmd0;
     let d : Octets := defaults0;
     let s : State := seal0;
     let k : Nat := 0;
     admits c s = true ∧ defaultsIllegal d = false ∧ s.flag Fl.SAF_PINS_SEAL_OPEN = true ∧
     (s.get Fl.OTP_LIFECYCLE_CODE = 1 ∨ s.get Fl.OTP_LIFECYCLE_CODE = 2) ∧ s.otp.supplyLow = false ∧ s.otp.prog = none
     ∧ s.otp.blank 1 = some k)
    ∧ (let c : Cmd := cmd0;
     let d : Octets := defaults0;
     let s : State := { seal0 with otp := { owned0.otp with prog := some ⟨1, 0, [], none⟩ } };
     let p : Programming := ⟨1, 0, [], none⟩;
     admits c s = true ∧ defaultsIllegal d = false ∧ s.flag Fl.SAF_PINS_SEAL_OPEN = true ∧
     (s.get Fl.OTP_LIFECYCLE_CODE = 1 ∨ s.get Fl.OTP_LIFECYCLE_CODE = 2) ∧ s.otp.supplyLow = false ∧ s.otp.prog = some
     p ∧ posts 0x62 s = true)
    ∧ (let c : Cmd := cmd0;
     let target : Byte := 5#8;
     let s : State := seal0;
     let n : Nat := 8;
     admits c s = true ∧ c.len = 0 ∧ target.toNat ≠ 0 ∧ target.toNat ≤ 5 ∧ lcPermitted (s.get Fl.OTP_LIFECYCLE_CODE)
     target.toNat = true ∧
     (target.toNat = 2 → s.get Fl.OTP_LIFECYCLE_CODE = 1 → s.flag Fl.OTP_LIFECYCLE_ROOTSEED_OK = true) ∧ s.get
     Fl.RDG_STATE_STATE = 0 ∧ s.flag Fl.SAF_PINS_SEAL_OPEN = true ∧ s.otp.supplyLow = false ∧ s.otp.prog = none ∧
     s.otp.lcTarget target.toNat = some n) := by decide +kernel

/-- Hypotheses of OtpWords that are met together, clause by clause. -/
theorem witness_OtpWords_2 :
    (let c : Cmd := cmd0;
     let target : Byte := 4#8;
     let s : State := seal0;
     admits c s = true ∧ c.len = 0 ∧ target.toNat ≠ 0 ∧ target.toNat ≤ 5 ∧ lcPermitted (s.get Fl.OTP_LIFECYCLE_CODE)
     target.toNat = false ∧ posts 0x60 s = true)
    ∧ (let s : State := { owned0 with regs := [(Reg.KEY_ENGINE_STATE, 0xFFFFFFF9#32)] };
     s.otp.lcState = 1 ∧ s.otp.rootseedValid = false ∧ s.otp.rootseedUsed = false ∧ s.get Fl.KEY_ENGINE_STATE_RNG = 1
     ∧ s.otp.supplyLow = false ∧ s.otp.prog = none)
    ∧ (let f : Fin 4 := 0;
     let s : State := safeWords0;
     let k : Nat := 0;
     writes f Reg.SAF_OTP s = true ∧ s.isOwner f.val = true ∧ s.flag Fl.SAF_PINS_SEAL_OPEN = true ∧ s.standbyOrHold =
     false ∧ s.get Fl.SAF_STATE_STATE ≠ 1 ∧ s.get Fl.RDG_STATE_STATE ≠ 1 ∧ s.safStagedBad = false ∧ s.otp.supplyLow =
     false ∧ s.otp.prog = none ∧ s.otp.blank 3 = some k)
    ∧ (let s : State := programming0 1;
     let p : Programming := ⟨1, 0, [], some (0x62, cmd0)⟩;
     let c : Cmd := cmd0;
     s.otp.prog = some p ∧ p.block = 1 ∧ p.cmd = some (0x62, c) ∧ posts 0x62 s = true)
    ∧ (let s : State := programming0 2;
     let p : Programming := ⟨2, 0, [], some (0x61, cmd0)⟩;
     let c : Cmd := cmd0;
     s.otp.prog = some p ∧ p.block = 2 ∧ p.cmd = some (0x61, c) ∧ posts 0x61 s = true) := by decide +kernel

/-- Hypotheses of OtpWords that are met together, clause by clause. -/
theorem witness_OtpWords_3 :
    (let s : State := programming0 3;
     let p : Programming := ⟨3, 0, [], some (0x60, cmd0)⟩;
     s.otp.prog = some p ∧ p.block = 3)
    ∧ (let s : State := programming0 4;
     let p : Programming := ⟨4, 0, [], some (0x60, cmd0)⟩;
     let c : Cmd := cmd0;
     s.otp.prog = some p ∧ p.block = 4 ∧ p.cmd = some (0x60, c) ∧ posts 0x60 s = true ∧ p.slot < s.otp.lcWords.length
     ∧ p.slot ≠ 8 ∧ s.arc.stopping = none ∧ s.flag Fl.ARC_STATE_MOUNTED = false)
    ∧ (let s : State := programming0 5;
     let p : Programming := ⟨5, 0, [], some (0x60, cmd0)⟩;
     s.otp.prog = some p ∧ p.block = 5)
    ∧ (let s : State := programming0 1;
     let p : Programming := ⟨1, 0, [], some (0x62, cmd0)⟩;
     let c : Cmd := cmd0;
     s.otp.prog = some p ∧ p.block = 1 ∧ p.cmd = some (0x62, c) ∧ posts 0x62 s = true)
    ∧ (let s : State := programming0 4;
     let p : Programming := ⟨4, 0, [], some (0x60, cmd0)⟩;
     let c : Cmd := cmd0;
     s.otp.prog = some p ∧ p.block = 4 ∧ p.cmd = some (0x60, c) ∧ posts 0x60 s = true ∧ p.slot < s.otp.lcWords.length
     ∧ p.slot ≠ 8) := by decide +kernel

/-- Hypotheses of OtpWords that are met together, clause by clause. -/
theorem witness_OtpWords_4 :
    (let s : State := State.reset;
     s.otp.prog = none)
    ∧ (let s : State := { owned0 with met := { owned0.met with due := true } };
     s.met.due = true ∧ s.get Fl.RDG_STATE_STATE ≠ 2)
    ∧ (let s : State := State.reset;
     s.met.due = false) := by decide +kernel

/-- Hypotheses of ArchiveMount that are met together, clause by clause. -/
theorem witness_ArchiveMount :
    (let s : State := State.reset;
     s.flag Fl.ARC_STATE_MOUNTED = false ∧ s.arc.job = none ∧ s.arc.format = none ∧ s.get Fl.RDG_STATE_STATE ≠ 2)
    ∧ (let ok : Bool := false;
     let s : State := unmounted0;
     let f : Format := format3;
     s.flag Fl.ARC_STATE_MOUNTED = false ∧ s.arc.job = none ∧ s.arc.format = some f ∧
     (ok = false ∨ s.formatMatches f = false) ∧ s.get Fl.RDG_STATE_STATE ≠ 2)
    ∧ (let ok : Bool := true;
     let s : State := { unmounted0 with arc := { unmounted0.arc with hubs := [(3, { seenId := 9, geom := some geometry0 })] } };
     let f : Format := format3;
     s.flag Fl.ARC_STATE_MOUNTED = false ∧ s.arc.job = none ∧ s.arc.format = some f ∧
     (ok = false ∨ s.formatMatches f = false) ∧ s.get Fl.RDG_STATE_STATE ≠ 2)
    ∧ (let s : State := unmounted0;
     let f : Format := format3;
     s.flag Fl.ARC_STATE_MOUNTED = false ∧ s.arc.job = none ∧ s.arc.format = some f ∧ s.formatMatches f = true ∧
     ((s.arc.bands.all fun p => !p.2.isOpen && p.2.use != .erasing) = true)) := by decide +kernel

/-- Hypotheses of ArchiveMount that are met together, clause by clause. -/
theorem witness_ArchiveMount_2 :
    (let s : State := unmounted0;
     let f : Format := format3;
     s.flag Fl.ARC_STATE_MOUNTED = false ∧ s.arc.job = none ∧ s.arc.format = some f ∧ s.formatMatches f = true ∧
     ((s.arc.bands.all fun p => !p.2.isOpen && p.2.use != .erasing) = true) ∧ s.arc.staging = [] ∧ s.get
     Fl.OTP_LIFECYCLE_CODE ≠ 3)
    ∧ (let s : State := { unmounted0 with arc := { unmounted0.arc with marker := true } };
     let f : Format := format3;
     s.flag Fl.ARC_STATE_MOUNTED = false ∧ s.arc.job = none ∧ s.arc.format = some f ∧ s.formatMatches f = true ∧
     ((s.arc.bands.all fun p => !p.2.isOpen && p.2.use != .erasing) = true) ∧ s.arc.staging = [] ∧ s.get
     Fl.OTP_LIFECYCLE_CODE ≠ 3)
    ∧ (let s : State := mounted0;
     s.flag Fl.ARC_STATE_MOUNTED = true) := by decide +kernel

/-- Hypotheses of HalvesOfQuantities that are met together, clause by clause. -/
theorem witness_HalvesOfQuantities :
    (let f : Fin 4 := 0;
     let a : BitVec 22 := BitVec.ofNat 22 Reg.CRS_COURSE_LO;
     let s : State := liveWith [];
     reaches f a.toNat s = true ∧ a.toNat % 4 = 0 ∧ latchedBy a.toNat ≠ [])
    ∧ (let f : Fin 4 := 0;
     let a : BitVec 22 := BitVec.ofNat 22 Reg.CRS_COURSE_LO;
     let b : BitVec 22 := BitVec.ofNat 22 Reg.CRS_COURSE_HI;
     let s : State := liveWith [];
     reaches f b.toNat s = true ∧ b.toNat % 4 = 0 ∧ b.toNat ∈ latchedBy a.toNat)
    ∧ (let f : Fin 4 := 0;
     let a : BitVec 22 := BitVec.ofNat 22 Reg.CRS_COURSE_HI;
     let s : State := liveWith [];
     (∀ p ∈ s.latch, p.1 ≠ funcKey f.val a.toNat)) := by decide +kernel

/-- Hypotheses of EnableWhileDraining that are met together, clause by clause. -/
theorem witness_EnableWhileDraining :
    (let f : Fin 4 := 0;
     let b : Fin 22 := 4;
     let s : State := liveWith [(Reg.CTRL 4, 0#32), (Reg.STATUS 4, 0#32)];
     disablable b.val = true ∧ ownerReaches f (b.val * 0x10000) s = true ∧ s.flag (Fl.CTRL_ENABLE b.val) = false ∧
     s.flag (Fl.STATUS_ENABLED b.val) = false ∧ s.flag (Fl.STATUS_IDLE b.val) = false) := by decide +kernel

/-- Hypotheses of FrameOfService that are met together, clause by clause. -/
theorem witness_FrameOfService :
    (let i : Instr := .secondTick;
     frameGroup i = 1)
    ∧ (let i : Instr := .ringEnable 0;
     frameGroup i = 4)
    ∧ (let i : Instr := .entropySample 0;
     frameGroup i = 6) := by decide +kernel

/-- Hypotheses of FrameOfArchive that are met together, clause by clause. -/
theorem witness_FrameOfArchive :
    (let i : Instr := .hotGc;
     frameGroup i = 2)
    ∧ (let i : Instr := .fenceOwnerCmd 0 1;
     frameGroup i = 5)
    ∧ (let i : Instr := .combPassStart;
     frameGroup i = 7)
    ∧ (let i : Instr := .planCancel cmd0;
     frameGroup i = 9) := by decide +kernel

/-- Hypotheses of FrameOfCells that are met together, clause by clause. -/
theorem witness_FrameOfCells :
    (let i : Instr := .shedStepDown;
     frameGroup i = 3)
    ∧ (let i : Instr := .retroRunEnd;
     frameGroup i = 8)
    ∧ (let i : Instr := .statusRx 0 0 [];
     frameGroup i = 10)
    ∧ (let i : Instr := .radFrameRx radFrame0;
     frameGroup i = 11) := by decide +kernel

theorem witness_FilesKept :
    State.reset.filesOk = true ∧ step State.reset = .next State.reset ∧ (liveWith [(Reg.CRS_COURSE_LO, 7#32)]).filesOk = true := by
  refine ⟨by decide, rfl, by decide +kernel⟩

/-- Hypotheses of StepTakesTheFront that are met together, clause by clause. -/
theorem witness_StepTakesTheFront :
    (let s : State := State.reset;
     s.pending = []) := by decide +kernel

/-! ### The check of commands -/

/-- Commands that the check refuses: data of another length than DATA_LEN gives, and lists of a wrong length or value. -/
theorem test_ill_formed :
    (Instr.keyWrite cmd0 ⟨1, 0, 0, 0, 16, 0, 0, 0, 0⟩ [1#8]).wf = false ∧ (Instr.planLoad { cmd0 with len := 1#32 } []).wf = false
      ∧ (Instr.keyGenerate cmd0 ⟨0, 0, 16, 1, 0, 0, [], []⟩).wf = false ∧ (Instr.keyAttest cmd0 0 [0#8]).wf = false
      ∧ (Instr.scrubBlockRead false []).wf = false ∧ (Instr.scrubConfirm 0 false [0#8]).wf = false
      ∧ (Instr.temperatureRead []).wf = false ∧ (Instr.supplySample [0]).wf = false ∧ (Instr.processMonitor []).wf = false
      ∧ (Instr.descriptorPrefetch 0 0 []).wf = false ∧ (Instr.nop cmd0).wf = true := by decide

/-! ### Checks, hashes and ciphers: published vectors and the worked inputs of the spec -/

/-- The check values of the octets "123456789" in the catalogues of CRCs: R97's CRC-16, R93's CRC-32, and CRC-32C. -/
theorem test_crc_check_values :
    crc16 (ascii "123456789") = 0x29B1 ∧ crc32 (ascii "123456789") = 0xCBF43926 ∧ crc32c (ascii "123456789") = 0xE3069283 := by
  decide +kernel

/-- R97: an element of all 00h octets fails its check. -/
theorem test_zero_element_fails : crc16 (zeros 18) ≠ 0 := by decide +kernel

/-- FIPS 180-4: the digest of "abc". -/
theorem test_sha256_abc :
    unBe (sha256 (ascii "abc")) = 0xba7816bf8f01cfea414140de5dae2223b00361a396177a9cb410ff61f20015ad := by decide +kernel

/-- FIPS 197, appendix C.1. -/
theorem test_aes_block :
    unBe (aesEnc (be 16 0x000102030405060708090a0b0c0d0e0f) (be 16 0x00112233445566778899aabbccddeeff))
      = 0x69c4e0d86a7b0430d8cdb78070b4c55a := by decide +kernel

/-- RFC 4493: examples 1 and 2. -/
theorem test_cmac_vectors :
    unBe (cmac (be 16 0x2b7e151628aed2a6abf7158809cf4f3c) []) = 0xbb1d6929e95937287fa37d129b756746
      ∧ unBe (cmac (be 16 0x2b7e151628aed2a6abf7158809cf4f3c) (be 16 0x6bc1bee22e409f96e93d7e117393172a))
        = 0x070a16b46b4d4144f79bdd9dd04a287c := by decide +kernel

/-- The example of R402: the RAD_CCM input of EUI-64 4A-57-31-00-01-0F-3C-62, and the PLC_GMK input of PAN ID 6A29h, generation 3. -/
theorem test_kdf_inputs :
    kdf (zeros 16) (purposeLabel 3) (be 8 0x4A573100010F3C62) 128 = cmac (zeros 16) (be 16 0x015243434D004A573100010F3C620080)
      ∧ kdf (zeros 16) (purposeLabel 2) (be 2 0x6A29 ++ be 1 3) 128 = cmac (zeros 16) (be 12 0x014733474D4B006A29030080) := by
  decide +kernel

/-! ### Commands on small states -/

/-- The example of R51: 1,786,000,004,000 ms under the 2 ms period is course 893,000,002,000. -/
theorem test_period_change : 1786000004000 * periodNs 1 / periodNs 2 = 893000002000 := by decide

/-- The example of R206: slot 681,600 is visited in course 21,300 of a pass of 32 slots a course. -/
theorem test_comb_slot : 32 * 21300 = 681600 ∧ slotCount / 32 * 32 ≤ slotCount := by decide

/-- R207: a visit with HIT clears HIT and STALE; without HIT it sets STALE. -/
theorem test_comb_visits :
    let hit : State := { State.reset with mtb := { State.reset.mtb with slots := [(5, { slot3 with hit := true, stale := true })] } }
    let quiet : State := { State.reset with mtb := { State.reset.mtb with slots := [(5, slot3)] } }
    ((hit.combVisit 5).mtb.slots.at 5).hit = false ∧ ((hit.combVisit 5).mtb.slots.at 5).stale = false
      ∧ ((quiet.combVisit 5).mtb.slots.at 5).stale = true := by decide +kernel

end Sys2Proof.Tests
end

section
/-!
SUPPORT. What the commands of the archive, the slate link, keys, OTP images and fences leave as it is.
-/

namespace Sys2Proof.Machine

set_option Elab.async false

/-- The components that a command of the archive, the slate link, keys, OTP images or fences leaves as they are. -/
structure ArchiveFrame where
  meters : FMap MeterRec
  mtb : MtbState
  bill : RecState
  val : ValState
  crs : CrsState
  cel : CelState
  swc : SwcState
  saf : SafState
  eav : EavState
  overrides : List Nat
  cfgPend : List CfgWrite
  hung : List HungAccess
  pending : List Instr

/-- Those components of a state. -/
def State.archiveFrame (s : State) : ArchiveFrame := ⟨s.meters, s.mtb, s.bill, s.val, s.crs, s.cel, s.swc, s.saf, s.eav,
  s.overrides, s.cfgPend, s.hung, s.pending⟩

theorem State.archiveFrame_eq_iff {s t : State} : t.archiveFrame = s.archiveFrame ↔
    t.meters = s.meters ∧ t.mtb = s.mtb ∧ t.bill = s.bill ∧ t.val = s.val ∧ t.crs = s.crs ∧ t.cel = s.cel ∧ t.swc = s.swc
      ∧ t.saf = s.saf ∧ t.eav = s.eav ∧ t.overrides = s.overrides ∧ t.cfgPend = s.cfgPend ∧ t.hung = s.hung
      ∧ t.pending = s.pending := by
  rw [State.archiveFrame, State.archiveFrame, ArchiveFrame.mk.injEq]

/-- A change of the other components alone. -/
theorem State.archiveFrame_update (s : State) (regs : FMap Word) (fregs : FMap Word) (latch : FMap Word) (held : FMap Word)
    (free : Nat) (out : List Out) (hst : HstState) (evt : EvtState) (tim : TimState) (key : KeyState) (arc : ArcState)
    (rdg : RdgState) (met : MetState) (tmp : TmpState) (otp : OtpState) (hlt : HltState) (lane : LaneState) (tap : TapState) :
    ({ s with regs := regs, fregs := fregs, latch := latch, held := held, free := free, out := out, hst := hst, evt := evt,
               tim := tim, key := key, arc := arc, rdg := rdg, met := met, tmp := tmp, otp := otp, hlt := hlt, lane := lane,
               tap := tap } : State).archiveFrame = s.archiveFrame := rfl

theorem State.archiveFrame_ite (c : Prop) [Decidable c] (a b : State) :
    (if c then a else b).archiveFrame = if c then a.archiveFrame else b.archiveFrame := apply_ite _ _ _ _

theorem State.archiveFrame_foldl {α : Type} (f : State → α → State) (h : ∀ s a, (f s a).archiveFrame = s.archiveFrame) (l : List α)
    (s : State) :
    (l.foldl f s).archiveFrame = s.archiveFrame := foldl_keeps (·.archiveFrame) f h l s

/-- The state that an operation answers beside a result. -/
theorem State.archiveFrame_of_pair {α : Type} {p : α × State} {a : α} {s t : State} (e : p = (a, t))
    (h : p.2.archiveFrame = s.archiveFrame) :
    t.archiveFrame = s.archiveFrame := by subst e; exact h

/-- A step of the shared operations leaves them. -/
theorem Shared.archiveFrame {s t : State} (h : Shared s t) : t.archiveFrame = s.archiveFrame := by obtain ⟨_, rfl⟩ := h; rfl
theorem State.put_archiveFrame (s : State) (f : Fld) (v : Nat) : (s.put f v).archiveFrame = s.archiveFrame :=
    (s.put_shared f v).archiveFrame
theorem State.putFlag_archiveFrame (s : State) (f : Fld) (b : Bool) : (s.putFlag f b).archiveFrame = s.archiveFrame :=
    (s.putFlag_shared f b).archiveFrame
theorem State.bumpBy_archiveFrame (s : State) (f : Fld) (n : Nat) : (s.bumpBy f n).archiveFrame = s.archiveFrame :=
    (s.bumpBy_shared f n).archiveFrame
theorem State.bump_archiveFrame (s : State) (f : Fld) : (s.bump f).archiveFrame = s.archiveFrame := (s.bump_shared f).archiveFrame
theorem State.emit_archiveFrame (s : State) (o : Out) : (s.emit o).archiveFrame = s.archiveFrame := (s.emit_shared o).archiveFrame
theorem State.setFn_archiveFrame (s : State) (f : Nat) (x : FuncState) : (s.setFn f x).archiveFrame = s.archiveFrame :=
    (s.setFn_shared f x).archiveFrame
theorem State.setRing_archiveFrame (s : State) (f r : Nat) (x : Ring) : (s.setRing f r x).archiveFrame = s.archiveFrame :=
    (s.setRing_shared f r x).archiveFrame
theorem State.raise_archiveFrame (s : State) (k : Nat) (d : Octets) : (s.raise k d).archiveFrame = s.archiveFrame :=
    (s.raise_shared k d).archiveFrame
theorem State.accepted_archiveFrame (s : State) (c : Cmd) : (s.accepted c).archiveFrame = s.archiveFrame :=
    (s.accepted_shared c).archiveFrame
theorem State.complete_archiveFrame (s : State) (op : Nat) (c : Cmd) (st : Status) (i : Nat) (r : Octets) :
    (s.complete op c st i r).archiveFrame = s.archiveFrame := (s.complete_shared op c st i r).archiveFrame
theorem State.post_archiveFrame (s : State) (op : Nat) (c : Cmd) (st : Status) (i : Nat) (r : Octets) :
    (s.post' op c st i r).archiveFrame = s.archiveFrame := (s.post_shared op c st i r).archiveFrame
theorem State.returnData_archiveFrame (s : State) (c : Cmd) (l : Octets) : (s.returnData c l).archiveFrame = s.archiveFrame :=
    (s.returnData_shared c l).archiveFrame
theorem State.capture_archiveFrame (s : State) (f a : Nat) (w : WswReason) : (s.capture f a w).archiveFrame = s.archiveFrame :=
    (s.capture_shared f a w).archiveFrame

/-! ### Free values and the input log -/

theorem State.freshOctet_archiveFrame (s : State) :
    (s.freshOctet).2.archiveFrame = s.archiveFrame := by
  unfold State.freshOctet
  simp only [State.archiveFrame_update]

theorem State.freshOctets_archiveFrame (k : Nat) (s : State) : (State.freshOctets k s).2.archiveFrame = s.archiveFrame := by
  induction k generalizing s with
  | zero => rfl
  | succ k ih =>
    rw [State.freshOctets]
    exact (ih _).trans s.freshOctet_archiveFrame

theorem State.ridgeNow_archiveFrame (s : State) (type part : Nat) (payload : Octets) :
    (s.ridgeNow type part payload).archiveFrame = s.archiveFrame := by
  unfold State.ridgeNow
  simp only [State.emit_archiveFrame]

theorem State.logItem_archiveFrame (s : State) (i : LogItem) :
    (s.logItem i).archiveFrame = s.archiveFrame := by
  unfold State.logItem
  simp only [State.archiveFrame_update]

/-! ### Host commands -/

theorem State.cacheCommand_archiveFrame (s : State) (op : Nat) (c : Cmd) (params data : Octets) :
    (s.cacheCommand op c params data).archiveFrame = s.archiveFrame := by
  unfold State.cacheCommand
  simp only [State.setRing_archiveFrame]

theorem State.writeCommand_archiveFrame (s : State) (op : Nat) (c : Cmd) (params data : Octets) (bad : Bool)
    (effect : State → State)
    (h : (effect (s.accepted c)).archiveFrame = (s.accepted c).archiveFrame) :
    (s.writeCommand op c params data bad effect).archiveFrame = s.archiveFrame := by
  unfold State.writeCommand
  split
  · rfl
  · split
    · rw [State.post_archiveFrame, State.accepted_archiveFrame]
    · split
      · exact s.cacheCommand_archiveFrame op c params data
      · exact h.trans (s.accepted_archiveFrame c)

theorem State.readCommand_archiveFrame (s : State) (op : Nat) (c : Cmd) (effect : State → State)
    (h : (effect (s.accepted c)).archiveFrame = (s.accepted c).archiveFrame) :
    (s.readCommand op c effect).archiveFrame = s.archiveFrame := by
  unfold State.readCommand
  dsimp only
  split
  · rfl
  · split
    · rw [State.complete_archiveFrame, State.accepted_archiveFrame]
    · exact h.trans (s.accepted_archiveFrame c)

/-! ### Keys -/

theorem State.keySync_archiveFrame (s : State) :
    s.keySync.archiveFrame = s.archiveFrame := by
  unfold State.keySync
  simp only [State.put_archiveFrame, State.putFlag_archiveFrame, State.archiveFrame_foldl, implies_true]

theorem State.keyCourseStart_archiveFrame (s : State) :
    s.keyCourseStart.archiveFrame = s.archiveFrame := by
  unfold State.keyCourseStart
  simp only [State.archiveFrame_update]

theorem State.keyStore_archiveFrame (s : State) :
    s.keyStore.archiveFrame = s.archiveFrame := by
  unfold State.keyStore
  simp only [State.putFlag_archiveFrame, State.archiveFrame_update, State.archiveFrame_ite, ite_self]

theorem State.keyDone_archiveFrame (s : State) (op : Nat) (c : Cmd) (result : Octets) (event index : Nat) :
    (s.keyDone op c result event index).archiveFrame = s.archiveFrame := by
  unfold State.keyDone
  simp only [State.raise_archiveFrame, State.complete_archiveFrame, State.archiveFrame_update, State.archiveFrame_ite, ite_self]

theorem State.keyLoad_archiveFrame (s : State) (slot attr : Nat) (key : Octets) (origin purpose : Nat) :
    (s.keyLoad slot attr key origin purpose).archiveFrame = s.archiveFrame := by
  unfold State.keyLoad
  simp only [State.keyStore_archiveFrame, State.keyCourseStart_archiveFrame, State.keySync_archiveFrame, State.archiveFrame_update]

theorem keyWriteEffect_archiveFrame (c : Cmd) (p : KeyWriteParams) (data : Octets) (s : State) :
    (keyWriteEffect c p data s).archiveFrame = s.archiveFrame := by
  unfold keyWriteEffect
  dsimp only
  repeat' split
  all_goals simp only [State.complete_archiveFrame, State.bump_archiveFrame, State.raise_archiveFrame, State.keyLoad_archiveFrame,
    State.keyDone_archiveFrame, State.keyStore_archiveFrame, State.keySync_archiveFrame, State.archiveFrame_update]

theorem State.drbg_archiveFrame (s : State) (k : Nat) :
    (s.drbg k).2.archiveFrame = s.archiveFrame := by
  exact State.freshOctets_archiveFrame k _

theorem keyGenerateEffect_archiveFrame (c : Cmd) (p : KeyGenParams) (s : State) :
    (keyGenerateEffect c p s).archiveFrame = s.archiveFrame := by
  unfold keyGenerateEffect
  dsimp only
  repeat' split
  all_goals simp only [State.complete_archiveFrame, State.drbg_archiveFrame, State.keyLoad_archiveFrame, State.keyDone_archiveFrame]

theorem keyDestroyEffect_archiveFrame (c : Cmd) (target index : Byte) (s : State) :
    (keyDestroyEffect c target index s).archiveFrame = s.archiveFrame := by
  unfold keyDestroyEffect
  dsimp only
  repeat' split
  all_goals simp only [State.complete_archiveFrame, State.keyDone_archiveFrame, State.keyStore_archiveFrame,
    State.keySync_archiveFrame, State.keyCourseStart_archiveFrame, State.archiveFrame_update]

theorem randomReadEffect_archiveFrame (c : Cmd) (s : State) :
    (randomReadEffect c s).archiveFrame = s.archiveFrame := by
  unfold randomReadEffect
  simp only [State.complete_archiveFrame, State.returnData_archiveFrame, State.drbg_archiveFrame, State.archiveFrame_ite, ite_self]

theorem drbgReseedEffect_archiveFrame (s : State) :
    (drbgReseedEffect s).archiveFrame = s.archiveFrame := by
  unfold drbgReseedEffect
  simp only [State.archiveFrame_update, State.archiveFrame_ite, ite_self]

theorem State.keyZeroise_archiveFrame (s : State) :
    s.keyZeroise.archiveFrame = s.archiveFrame := by
  unfold State.keyZeroise
  simp only [State.raise_archiveFrame, State.keyStore_archiveFrame, State.keyCourseStart_archiveFrame, State.keySync_archiveFrame,
    State.archiveFrame_update]

theorem State.keyAtMount_archiveFrame (s : State) :
    s.keyAtMount.archiveFrame = s.archiveFrame := by
  unfold State.keyAtMount
  dsimp only
  repeat' split
  all_goals simp only [State.putFlag_archiveFrame, State.raise_archiveFrame, State.keySync_archiveFrame, State.archiveFrame_update]

/-! ### The archive and the slate link -/

theorem State.setHub_archiveFrame (s : State) (h : Nat) (x : Hub) :
    (s.setHub h x).archiveFrame = s.archiveFrame := by
  unfold State.setHub
  simp only [State.archiveFrame_update]

theorem State.modHub_archiveFrame (s : State) (h : Nat) (f : Hub → Hub) :
    (s.modHub h f).archiveFrame = s.archiveFrame := by
  unfold State.modHub
  simp only [State.setHub_archiveFrame]

theorem State.modBand_archiveFrame (s : State) (b : Nat) (f : Band → Band) :
    (s.modBand b f).archiveFrame = s.archiveFrame := by
  unfold State.modBand
  simp only [State.archiveFrame_update]

theorem State.modDie_archiveFrame (s : State) (d : Nat) (f : Die → Die) :
    (s.modDie d f).archiveFrame = s.archiveFrame := by
  unfold State.modDie
  simp only [State.archiveFrame_update]

theorem State.arcSync_archiveFrame (s : State) :
    s.arcSync.archiveFrame = s.archiveFrame := by
  unfold State.arcSync
  split
  · rfl
  · simp only [State.put_archiveFrame]

theorem State.slateOut_archiveFrame (s : State) (h type flags seq : Nat) (payload : Octets) :
    (s.slateOut h type flags seq payload).archiveFrame = s.archiveFrame := by
  unfold State.slateOut
  simp only [State.emit_archiveFrame, State.setHub_archiveFrame]

theorem State.slateBare_archiveFrame (s : State) (h type : Nat) (payload : Octets) :
    (s.slateBare h type payload).archiveFrame = s.archiveFrame := by
  unfold State.slateBare
  simp only [State.slateOut_archiveFrame]

theorem State.slateSend_archiveFrame (s : State) (h type : Nat) (payload : Octets) :
    (s.slateSend h type payload).archiveFrame = s.archiveFrame := by
  unfold State.slateSend
  simp only [State.setHub_archiveFrame, State.slateOut_archiveFrame, State.archiveFrame_ite, ite_self]

theorem State.slateDrain_archiveFrame (s : State) (h : Nat) :
    (s.slateDrain h).archiveFrame = s.archiveFrame := by
  unfold State.slateDrain
  simp only [State.slateSend_archiveFrame, State.modHub_archiveFrame, State.archiveFrame_foldl, implies_true]

theorem State.slateAck_archiveFrame (s : State) (h ack : Nat) :
    (s.slateAck h ack).archiveFrame = s.archiveFrame := by
  unfold State.slateAck
  simp only [State.slateDrain_archiveFrame, State.modHub_archiveFrame]

theorem State.pump_archiveFrame (n h : Nat) (s : State) : (State.pump n h s).archiveFrame = s.archiveFrame := by
  induction n generalizing s with
  | zero => rfl
  | succ n ih =>
    unfold State.pump
    dsimp only
    split
    · rfl
    · split
      · rfl
      · split
        · rfl
        · rw [ih, State.slateSend_archiveFrame, State.setHub_archiveFrame]

theorem State.pumpAll_archiveFrame (s : State) (h : Nat) :
    (s.pumpAll h).archiveFrame = s.archiveFrame := by
  exact State.pump_archiveFrame _ h s

theorem State.dieOp_archiveFrame (s : State) (h : Nat) (o : DieOp) :
    (s.dieOp h o).archiveFrame = s.archiveFrame := by
  unfold State.dieOp
  simp only [State.pumpAll_archiveFrame, State.modHub_archiveFrame]

theorem State.programPages_archiveFrame (n : Nat) (f : Format) (b : Nat) (s : State) :
    (State.programPages n f b s).archiveFrame = s.archiveFrame := by
  induction n generalizing s with
  | zero => rfl
  | succ n ih =>
    unfold State.programPages
    dsimp only
    split
    · rfl
    · split
      · exact s.modBand_archiveFrame b _
      · rw [ih, State.dieOp_archiveFrame, State.modBand_archiveFrame]

theorem State.bandAppend_archiveFrame (s : State) (f : Format) (b : Nat) (bs : Octets) :
    (s.bandAppend f b bs).archiveFrame = s.archiveFrame := by
  exact (State.programPages_archiveFrame _ f b _).trans (s.modBand_archiveFrame b _)

theorem State.hubEvent_archiveFrame (s : State) (source h : Nat) :
    (s.hubEvent source h).archiveFrame = s.archiveFrame := by
  unfold State.hubEvent
  simp only [State.raise_archiveFrame]

theorem State.takeSpare_archiveFrame (s : State) (f : Format) (g : Geometry) (d b : Nat) :
    (s.takeSpare f g d b).2.archiveFrame = s.archiveFrame := by
  unfold State.takeSpare
  dsimp only
  split
  · rfl
  · exact s.modDie_archiveFrame d _

theorem State.retireBand_archiveFrame (s : State) (b h : Nat) :
    (s.retireBand b h).archiveFrame = s.archiveFrame := by
  unfold State.retireBand
  simp only [State.hubEvent_archiveFrame, State.arcSync_archiveFrame, State.modBand_archiveFrame]

theorem State.eraseMembers_archiveFrame (s : State) (f : Format) (b : Nat) (p : Nat → Bool) :
    (s.eraseMembers f b p).archiveFrame = s.archiveFrame := by
  unfold State.eraseMembers
  simp only [State.modBand_archiveFrame, State.dieOp_archiveFrame, State.archiveFrame_foldl, implies_true]

theorem State.eraseBand_archiveFrame (s : State) (f : Format) (b : Nat) :
    (s.eraseBand f b).archiveFrame = s.archiveFrame := by
  unfold State.eraseBand
  extract_lets x failed r
  have h : r.2.archiveFrame = s.archiveFrame := by
    refine foldl_keeps (fun r : Option Nat × State => r.2.archiveFrame) _ (fun acc m => ?_) failed (none, s)
    split
    · rfl
    · next e => exact State.archiveFrame_of_pair e (State.takeSpare_archiveFrame _ _ _ _ _)
    · rfl
  split
  · rw [State.retireBand_archiveFrame, h]
  · rw [State.eraseMembers_archiveFrame, h]

theorem State.dropBand_archiveFrame (s : State) (f : Format) (b : Nat) :
    (s.dropBand f b).archiveFrame = s.archiveFrame := by
  unfold State.dropBand
  simp only [State.eraseBand_archiveFrame, State.archiveFrame_update]

theorem State.coldFull_archiveFrame (s : State) (f : Format) :
    (s.coldFull f).archiveFrame = s.archiveFrame := by
  unfold State.coldFull
  dsimp only
  repeat' split
  all_goals simp only [State.putFlag_archiveFrame, State.raise_archiveFrame, State.dropBand_archiveFrame]

theorem State.openBand_archiveFrame (s : State) (f : Format) (hot : Bool) :
    (s.openBand f hot).2.archiveFrame = s.archiveFrame := by
  unfold State.openBand
  dsimp only
  split
  · rfl
  · split
    · repeat' split
      all_goals simp only [State.arcSync_archiveFrame, State.modBand_archiveFrame, State.raise_archiveFrame,
        State.putFlag_archiveFrame]
    · split
      · rfl
      · exact s.coldFull_archiveFrame f

theorem State.unplace_archiveFrame (s : State) (b : Nat) (p : Nat → Bool) :
    (s.unplace b p).archiveFrame = s.archiveFrame := by
  unfold State.unplace
  simp only [State.archiveFrame_update]

theorem State.closeSupers_archiveFrame (s : State) (b cause : Nat) :
    (s.closeSupers b cause).archiveFrame = s.archiveFrame := by
  unfold State.closeSupers
  simp only [State.archiveFrame_update]

theorem State.closeBand_archiveFrame (s : State) (f : Format) (b : Nat) (early : Bool) :
    (s.closeBand f b early).archiveFrame = s.archiveFrame := by
  unfold State.closeBand
  simp only [State.closeSupers_archiveFrame, State.unplace_archiveFrame, State.arcSync_archiveFrame, State.modBand_archiveFrame,
    State.archiveFrame_update, State.archiveFrame_ite, ite_self]

theorem State.closeIfFull_archiveFrame (s : State) (f : Format) (b : Nat) :
    (s.closeIfFull f b).archiveFrame = s.archiveFrame := by
  unfold State.closeIfFull
  simp only [State.closeBand_archiveFrame, State.archiveFrame_ite, ite_self]

theorem State.setSuper_archiveFrame (s : State) (b : Nat) (g : Superblock → Superblock) :
    (s.setSuper b g).archiveFrame = s.archiveFrame := by
  unfold State.setSuper
  simp only [State.archiveFrame_update]

theorem State.closeSuper_archiveFrame (s : State) (f : Format) (b cause : Nat) :
    (s.closeSuper f b cause).archiveFrame = s.archiveFrame := by
  unfold State.closeSuper
  split
  · rfl
  · dsimp only
    rw [State.closeIfFull_archiveFrame, State.bandAppend_archiveFrame]
    exact s.closeSupers_archiveFrame b cause

theorem State.slotBand_archiveFrame (s : State) (f : Format) (k : Nat) :
    (s.slotBand f k).2.archiveFrame = s.archiveFrame := by
  unfold State.slotBand
  split
  · rfl
  · split
    · next e => exact (State.archiveFrame_of_pair e (s.openBand_archiveFrame f false) :)
    · next e => exact (State.archiveFrame_of_pair e (s.openBand_archiveFrame f false) :)

theorem State.closeIfDone_archiveFrame (s : State) (f : Format) (b : Nat) :
    (s.closeIfDone f b).archiveFrame = s.archiveFrame := by
  unfold State.closeIfDone
  split
  · rfl
  · split
    · exact s.closeSuper_archiveFrame f b 2
    · split
      · exact s.closeSuper_archiveFrame f b 3
      · rfl

theorem State.placeRecords_archiveFrame (s : State) (f : Format) (b firstByte : Nat) (records : List Octets) :
    (s.placeRecords f b firstByte records).archiveFrame = s.archiveFrame := by
  unfold State.placeRecords
  simp only [State.archiveFrame_update]

theorem State.appendRun_archiveFrame (n : Nat) (f : Format) (k group : Nat) (records : List Octets) (s : State) :
    (State.appendRun n f k group records s).archiveFrame = s.archiveFrame := by
  induction n generalizing records s with
  | zero => rfl
  | succ n ih =>
    unfold State.appendRun
    split
    · rfl
    · split
      · next e => exact State.archiveFrame_of_pair e (s.slotBand_archiveFrame f k)
      · next e =>
        have h := State.archiveFrame_of_pair e (s.slotBand_archiveFrame f k)
        dsimp only
        split
        · split
          · rw [ih, State.closeBand_archiveFrame, h]
          · repeat' split
            all_goals simp only [ih, h, State.coldFull_archiveFrame, State.putFlag_archiveFrame, State.archiveFrame_update]
        · split
          · rw [ih, State.closeSuper_archiveFrame, h]
          · rw [ih, State.archiveFrame_update, State.closeIfDone_archiveFrame, State.bandAppend_archiveFrame,
            State.placeRecords_archiveFrame,
              State.setSuper_archiveFrame, h]

theorem State.writeReleased_archiveFrame (s : State) :
    s.writeReleased.archiveFrame = s.archiveFrame := by
  unfold State.writeReleased
  split
  · rfl
  · dsimp only
    split
    · rfl
    · exact State.archiveFrame_foldl _ (fun _ _ => State.appendRun_archiveFrame _ _ _ _ _ _) _ _

theorem State.hotBand_archiveFrame (s : State) (f : Format) (gc : Bool) :
    (s.hotBand f gc).2.archiveFrame = s.archiveFrame := by
  unfold State.hotBand
  split
  · rfl
  · split
    · next e => exact (State.archiveFrame_of_pair e (s.openBand_archiveFrame f true) :)
    · next e => exact (State.archiveFrame_of_pair e (s.openBand_archiveFrame f true) :)

theorem State.metaBand_archiveFrame (s : State) :
    s.metaBand.archiveFrame = s.archiveFrame := by
  unfold State.metaBand
  split
  · rfl
  · split
    · rfl
    · split
      · next e => exact (State.archiveFrame_of_pair e (s.openBand_archiveFrame _ true) :)
      · next e => exact (State.archiveFrame_of_pair e (s.openBand_archiveFrame _ true) :)

theorem State.hotWrite_archiveFrame (s : State) (f : Format) (gc : Bool) (u : Nat) :
    (s.hotWrite f gc u).archiveFrame = s.archiveFrame := by
  unfold State.hotWrite
  split
  · next e => exact (State.archiveFrame_of_pair e (s.hotBand_archiveFrame f gc) :)
  · next e =>
    dsimp only
    rw [State.closeIfFull_archiveFrame, State.bandAppend_archiveFrame, State.modBand_archiveFrame]
    exact (State.archiveFrame_of_pair e (s.hotBand_archiveFrame f gc) :)

theorem State.hotWrites_archiveFrame (s : State) (us : List Nat) :
    (s.hotWrites us).archiveFrame = s.archiveFrame := by
  unfold State.hotWrites
  split
  · rfl
  · simp only [State.hotWrite_archiveFrame, State.archiveFrame_ite, ite_self, State.archiveFrame_foldl, implies_true]

theorem hotGcEffect_archiveFrame (s : State) :
    (hotGcEffect s).archiveFrame = s.archiveFrame := by
  unfold hotGcEffect
  dsimp only
  repeat' split
  all_goals simp only [State.eraseBand_archiveFrame, State.hotWrite_archiveFrame, State.archiveFrame_foldl, implies_true]

theorem checkpointTimerEffect_archiveFrame (s : State) :
    (checkpointTimerEffect s).archiveFrame = s.archiveFrame := by
  unfold checkpointTimerEffect
  simp only [State.hotWrites_archiveFrame, State.metaBand_archiveFrame, State.archiveFrame_update, State.archiveFrame_ite, ite_self]

theorem State.hostWriteCheck_archiveFrame (s : State) (f : Format) :
    (s.hostWriteCheck f).archiveFrame = s.archiveFrame := by
  unfold State.hostWriteCheck
  refine (State.archiveFrame_foldl _ (fun t w => ?_) _ _).trans (State.archiveFrame_update s ..)
  dsimp only
  split
  · rw [State.raise_archiveFrame, State.complete_archiveFrame]
  · rw [State.complete_archiveFrame]

theorem State.pageWritten_archiveFrame (s : State) (f : Format) (b page : Nat) :
    (s.pageWritten f b page).archiveFrame = s.archiveFrame := by
  unfold State.pageWritten
  simp only [State.modBand_archiveFrame, State.hostWriteCheck_archiveFrame, State.archiveFrame_update, State.archiveFrame_ite,
    ite_self]

theorem State.bandFor_archiveFrame (s : State) (f : Format) (k units : Nat) :
    (s.bandFor f k units).2.archiveFrame = s.archiveFrame := by
  unfold State.bandFor
  split
  · next e => exact State.archiveFrame_of_pair e (s.slotBand_archiveFrame f k)
  · next e =>
    have h := State.archiveFrame_of_pair e (s.slotBand_archiveFrame f k)
    dsimp only
    split
    · rw [State.slotBand_archiveFrame, State.closeBand_archiveFrame, State.closeSuper_archiveFrame, h]
    · rw [State.slotBand_archiveFrame, State.closeSuper_archiveFrame, h]

theorem State.moveSuper_archiveFrame (s : State) (f : Format) (x : Superblock) :
    (s.moveSuper f x).archiveFrame = s.archiveFrame := by
  unfold State.moveSuper
  split
  · next e => exact (State.archiveFrame_of_pair e (s.bandFor_archiveFrame f _ _) :)
  · next e =>
    dsimp only
    rw [State.closeIfFull_archiveFrame, State.bandAppend_archiveFrame]
    exact (State.archiveFrame_of_pair e (s.bandFor_archiveFrame f _ _) :)

theorem State.rewrite_archiveFrame (s : State) (f : Format) (b : Nat) (pages : List Nat) :
    (s.rewrite f b pages).archiveFrame = s.archiveFrame := by
  unfold State.rewrite
  simp only [State.closeBand_archiveFrame, State.unplace_archiveFrame, State.writeReleased_archiveFrame,
    State.hotWrites_archiveFrame, State.moveSuper_archiveFrame, State.archiveFrame_update, State.archiveFrame_ite, ite_self,
    State.archiveFrame_foldl, implies_true]

theorem State.setScan_archiveFrame (s : State) (k : Nat) (x : Option Scan) :
    (s.setScan k x).archiveFrame = s.archiveFrame := by
  unfold State.setScan
  simp only [State.put_archiveFrame, State.archiveFrame_update]

theorem State.uncorrectable_archiveFrame (s : State) (status : Nat) :
    (s.uncorrectable status).archiveFrame = s.archiveFrame := by
  rw [State.uncorrectable]
  split
  · dsimp only
    split
    · rw [State.bump_archiveFrame]
    · rw [State.raise_archiveFrame, State.archiveFrame_update, State.bump_archiveFrame]
  · rfl

theorem State.scanRead_archiveFrame (s : State) (f : Format) (k sup page status : Nat) :
    (s.scanRead f k sup page status).archiveFrame = s.archiveFrame := by
  unfold State.scanRead
  repeat' split
  all_goals simp only [State.setScan_archiveFrame, State.uncorrectable_archiveFrame]

theorem State.hostReadDone_archiveFrame (s : State) (number status : Nat) :
    (s.hostReadDone number status).archiveFrame = s.archiveFrame := by
  unfold State.hostReadDone
  dsimp only
  repeat' split
  all_goals simp only [State.complete_archiveFrame, State.uncorrectable_archiveFrame, State.returnData_archiveFrame,
    State.archiveFrame_update]

theorem State.readDone_archiveFrame (s : State) (f : Format) (h : Nat) (o : DieOp) (status : Nat) :
    (s.readDone f h o status).archiveFrame = s.archiveFrame := by
  unfold State.readDone
  repeat' split
  all_goals simp only [State.dieOp_archiveFrame, State.scanRead_archiveFrame, State.hostReadDone_archiveFrame]

theorem State.failReads_archiveFrame (s : State) (h : Nat) :
    (s.failReads h).archiveFrame = s.archiveFrame := by
  unfold State.failReads
  dsimp only
  repeat' split
  all_goals simp only [State.setHub_archiveFrame, State.readDone_archiveFrame, State.archiveFrame_foldl, implies_true]

theorem State.eraseDone_archiveFrame (s : State) (f : Format) (h b m status : Nat) :
    (s.eraseDone f h b m status).archiveFrame = s.archiveFrame := by
  unfold State.eraseDone
  dsimp only
  split
  · rfl
  · split
    · rw [State.arcSync_archiveFrame, State.modBand_archiveFrame]
    · have h : (if status = 2 then (s.bump Fl.ARC_ERASE_FAIL_COUNT_COUNT).hubEvent 377 h else s).archiveFrame = s.archiveFrame := by
        rw [State.archiveFrame_ite, State.hubEvent_archiveFrame, State.bump_archiveFrame, ite_self]
      split
      · next e => rw [State.dieOp_archiveFrame, State.archiveFrame_of_pair e (State.takeSpare_archiveFrame _ _ _ _ _), h]
      · next e => rw [State.retireBand_archiveFrame, State.archiveFrame_of_pair e (State.takeSpare_archiveFrame _ _ _ _ _), h]

theorem State.formatStep_archiveFrame (s : State) (h : Nat) :
    (s.formatStep h).archiveFrame = s.archiveFrame := by
  unfold State.formatStep
  split
  · rfl
  · split
    · rfl
    · dsimp only
      split
      · rw [State.dieOp_archiveFrame, State.setHub_archiveFrame]
      · rw [State.archiveFrame_ite, State.setHub_archiveFrame, State.dieOp_archiveFrame, ite_self]

theorem State.evtAtMount_archiveFrame (s : State) :
    s.evtAtMount.archiveFrame = s.archiveFrame := by
  unfold State.evtAtMount
  simp only [State.archiveFrame_update, State.archiveFrame_ite, ite_self]

theorem State.formatEnd_archiveFrame (s : State) :
    s.formatEnd.archiveFrame = s.archiveFrame := by
  unfold State.formatEnd
  split
  · rfl
  · dsimp only
    simp only [State.complete_archiveFrame, State.put_archiveFrame, State.putFlag_archiveFrame, State.arcSync_archiveFrame,
      State.modHub_archiveFrame, State.keyAtMount_archiveFrame, State.raise_archiveFrame, State.evtAtMount_archiveFrame,
      State.metaBand_archiveFrame, State.archiveFrame_update, State.archiveFrame_foldl, implies_true]

theorem State.formatNext_archiveFrame (s : State) (h : Nat) :
    (s.formatNext h).archiveFrame = s.archiveFrame := by
  unfold State.formatNext
  dsimp only
  repeat' split
  all_goals simp only [State.formatStep_archiveFrame, State.formatEnd_archiveFrame]

theorem State.formatFail_archiveFrame (s : State) (st : Status) :
    (s.formatFail st).archiveFrame = s.archiveFrame := by
  unfold State.formatFail
  split
  · rfl
  · simp only [State.complete_archiveFrame, State.putFlag_archiveFrame, State.archiveFrame_update]

theorem State.formatReady_archiveFrame (s : State) :
    s.formatReady.archiveFrame = s.archiveFrame := by
  unfold State.formatReady
  split
  · rfl
  · dsimp only
    split
    · rfl
    · split
      · rw [State.formatFail_archiveFrame, State.archiveFrame_update]
      · split
        · rw [State.formatFail_archiveFrame, State.archiveFrame_update]
        · refine (State.archiveFrame_foldl _ (fun t p => ?_) _ _).trans ?_
          · rw [State.formatNext_archiveFrame, State.slateSend_archiveFrame, State.modHub_archiveFrame]
          · rw [State.putFlag_archiveFrame, State.putFlag_archiveFrame, State.archiveFrame_update]

theorem State.formatMap_archiveFrame (s : State) (h slice : Nat) (data : Octets) :
    (s.formatMap h slice data).archiveFrame = s.archiveFrame := by
  unfold State.formatMap
  dsimp only
  repeat' split
  all_goals simp only [State.modDie_archiveFrame, State.dieOp_archiveFrame, State.formatNext_archiveFrame,
    State.modHub_archiveFrame]

theorem State.formatErased_archiveFrame (s : State) (h : Nat) (o : DieOp) (status : Nat) :
    (s.formatErased h o status).archiveFrame = s.archiveFrame := by
  unfold State.formatErased
  dsimp only
  repeat' split
  all_goals simp only [State.modDie_archiveFrame, State.hubEvent_archiveFrame, State.bump_archiveFrame, State.modHub_archiveFrame,
    State.formatNext_archiveFrame]

theorem archiveFormatEffect_archiveFrame (c : Cmd) (mode coldOpen spare reserved : Byte) (hotGib : BitVec 32) (s : State) :
    (archiveFormatEffect c mode coldOpen spare reserved hotGib s).archiveFrame = s.archiveFrame := by
  unfold archiveFormatEffect
  simp only [State.complete_archiveFrame, State.formatReady_archiveFrame, State.archiveFrame_update, State.archiveFrame_ite,
    ite_self]

theorem formatHubTimeoutEffect_archiveFrame (s : State) :
    (formatHubTimeoutEffect s).archiveFrame = s.archiveFrame := by
  unfold formatHubTimeoutEffect
  repeat' split
  all_goals simp only [State.formatFail_archiveFrame]

theorem State.failCommands_archiveFrame (s : State) (h : Nat) :
    (s.failCommands h).archiveFrame = s.archiveFrame := by
  unfold State.failCommands
  dsimp only
  repeat' split
  all_goals simp only [State.setHub_archiveFrame, State.rewrite_archiveFrame, State.archiveFrame_foldl, implies_true]

theorem State.newEpoch_archiveFrame (s : State) (h : Nat) :
    (s.newEpoch h).archiveFrame = s.archiveFrame := by
  unfold State.newEpoch
  simp only [State.modHub_archiveFrame]

theorem State.revoke_archiveFrame (s : State) (h : Nat) :
    (s.revoke h).archiveFrame = s.archiveFrame := by
  unfold State.revoke
  dsimp only
  repeat' split
  all_goals simp only [State.modHub_archiveFrame, State.newEpoch_archiveFrame, State.hubEvent_archiveFrame,
    State.bump_archiveFrame, State.failCommands_archiveFrame, State.emit_archiveFrame]

theorem State.hubPresence_archiveFrame (s : State) :
    s.hubPresence.archiveFrame = s.archiveFrame := by
  unfold State.hubPresence
  simp only [State.setHub_archiveFrame, State.failReads_archiveFrame, State.failCommands_archiveFrame, State.modHub_archiveFrame,
    State.newEpoch_archiveFrame, State.archiveFrame_ite, ite_self, State.archiveFrame_foldl, implies_true]

theorem State.slateTake_archiveFrame (s : State) (hdr : SlateHdr) (sequenced : Bool) (act : State → State)
    (h : ∀ t, (act t).archiveFrame = t.archiveFrame) : (s.slateTake hdr sequenced act).archiveFrame = s.archiveFrame := by
  unfold State.slateTake
  dsimp only
  repeat' split
  all_goals simp only [h, State.modHub_archiveFrame, State.slateAck_archiveFrame]

theorem slateHelloRxEffect_archiveFrame (hdr : SlateHdr) (s : State) :
    (slateHelloRxEffect hdr s).archiveFrame = s.archiveFrame := by
  unfold slateHelloRxEffect
  exact s.slateTake_archiveFrame hdr false _ fun t => t.modHub_archiveFrame _ _

theorem State.hubUp_archiveFrame (s : State) (h : Nat) :
    (s.hubUp h).archiveFrame = s.archiveFrame := by
  unfold State.hubUp
  dsimp only
  split
  all_goals simp only [State.hubEvent_archiveFrame, State.modHub_archiveFrame, State.slateSend_archiveFrame,
    State.pumpAll_archiveFrame]

theorem slateGeometryRxEffect_archiveFrame (hdr : SlateHdr) (payload : Octets) (s : State) :
    (slateGeometryRxEffect hdr payload s).archiveFrame = s.archiveFrame := by
  unfold slateGeometryRxEffect
  refine s.slateTake_archiveFrame hdr true _ fun t => ?_
  dsimp only
  split
  · rfl
  · repeat' split
    all_goals simp only [State.setHub_archiveFrame, State.modHub_archiveFrame, State.hubUp_archiveFrame,
      State.hubEvent_archiveFrame, State.formatReady_archiveFrame]

theorem slateCreditRxEffect_archiveFrame (hdr : SlateHdr) (cmdLimit wbufLimit : BitVec 32) (s : State) :
    (slateCreditRxEffect hdr cmdLimit wbufLimit s).archiveFrame = s.archiveFrame := by
  unfold slateCreditRxEffect
  refine s.slateTake_archiveFrame hdr true _ fun t => ?_
  rw [State.pumpAll_archiveFrame, State.modHub_archiveFrame]

theorem State.programDone_archiveFrame (s : State) (f : Format) (h b page status : Nat) :
    (s.programDone f h b page status).archiveFrame = s.archiveFrame := by
  unfold State.programDone
  simp only [State.pageWritten_archiveFrame, State.modDie_archiveFrame, State.hubEvent_archiveFrame, State.bump_archiveFrame,
    State.rewrite_archiveFrame, State.archiveFrame_ite, ite_self]

theorem slateCplRxEffect_archiveFrame (hdr : SlateHdr) (tag : BitVec 16) (status : Byte) (data : Octets) (s : State) :
    (slateCplRxEffect hdr tag status data s).archiveFrame = s.archiveFrame := by
  unfold slateCplRxEffect
  refine s.slateTake_archiveFrame hdr true _ fun t => ?_
  dsimp only
  split
  · exact t.revoke_archiveFrame _
  · rw [State.pumpAll_archiveFrame]
    split
    all_goals simp only [State.setHub_archiveFrame, State.programDone_archiveFrame, State.eraseDone_archiveFrame,
      State.readDone_archiveFrame, State.formatMap_archiveFrame, State.formatErased_archiveFrame]

theorem slateStopDoneRxEffect_archiveFrame (hdr : SlateHdr) (s : State) :
    (slateStopDoneRxEffect hdr s).archiveFrame = s.archiveFrame := by
  unfold slateStopDoneRxEffect
  refine s.slateTake_archiveFrame hdr true _ fun t => ?_
  split
  · rw [State.archiveFrame_update]
  · rfl

theorem slateNopRxEffect_archiveFrame (hdr : SlateHdr) (type : Byte) (fcsBad : Bool) (s : State) :
    (slateNopRxEffect hdr type fcsBad s).archiveFrame = s.archiveFrame := by
  unfold slateNopRxEffect
  split
  · rw [State.bump_archiveFrame, State.archiveFrame_update]
  · split
    · rfl
    · split
      · exact s.revoke_archiveFrame _
      · exact s.slateTake_archiveFrame hdr false _ fun _ => rfl

theorem slateResendTimerEffect_archiveFrame (hub : Fin 128) (s : State) :
    (slateResendTimerEffect hub s).archiveFrame = s.archiveFrame := by
  unfold slateResendTimerEffect
  simp only [State.revoke_archiveFrame, State.setHub_archiveFrame, State.bumpBy_archiveFrame, State.slateOut_archiveFrame,
    State.archiveFrame_ite, ite_self, State.archiveFrame_foldl, implies_true]

theorem creditTimeoutEffect_archiveFrame (hub : Fin 128) (s : State) :
    (creditTimeoutEffect hub s).archiveFrame = s.archiveFrame := by
  unfold creditTimeoutEffect
  simp only [State.revoke_archiveFrame, State.archiveFrame_ite, ite_self]

theorem cmdTimeoutEffect_archiveFrame (hub : Fin 128) (s : State) :
    (cmdTimeoutEffect hub s).archiveFrame = s.archiveFrame := by
  unfold cmdTimeoutEffect
  simp only [State.revoke_archiveFrame, State.archiveFrame_ite, ite_self]

theorem hubLinkLostEffect_archiveFrame (hub : Fin 128) (s : State) :
    (hubLinkLostEffect hub s).archiveFrame = s.archiveFrame := by
  unfold hubLinkLostEffect
  simp only [State.revoke_archiveFrame]

theorem hubHelloTimerEffect_archiveFrame (hub : Fin 128) (s : State) :
    (hubHelloTimerEffect hub s).archiveFrame = s.archiveFrame := by
  unfold hubHelloTimerEffect
  simp only [State.slateBare_archiveFrame, State.archiveFrame_ite, ite_self]

theorem hubLostTimeoutEffect_archiveFrame (hub : Fin 128) (s : State) :
    (hubLostTimeoutEffect hub s).archiveFrame = s.archiveFrame := by
  unfold hubLostTimeoutEffect
  dsimp only
  repeat' split
  all_goals simp only [State.hubEvent_archiveFrame, State.failReads_archiveFrame, State.modHub_archiveFrame,
    State.rewrite_archiveFrame, State.archiveFrame_foldl, implies_true]

theorem State.loseUnit_archiveFrame (s : State) (u : Nat) :
    (s.loseUnit u).archiveFrame = s.archiveFrame := by
  unfold State.loseUnit
  simp only [State.archiveFrame_update, State.archiveFrame_ite, ite_self]

theorem State.loseBand_archiveFrame (s : State) (f : Format) (b : Nat) :
    (s.loseBand f b).archiveFrame = s.archiveFrame := by
  unfold State.loseBand
  simp only [State.unplace_archiveFrame, State.dropBand_archiveFrame, State.loseUnit_archiveFrame, State.archiveFrame_update,
    State.archiveFrame_foldl, implies_true]

theorem archiveAdoptEffect_archiveFrame (c : Cmd) (hub : Byte) (s : State) :
    (archiveAdoptEffect c hub s).archiveFrame = s.archiveFrame := by
  unfold archiveAdoptEffect
  dsimp only
  split
  · split
    · exact s.complete_archiveFrame ..
    · split
      · exact s.complete_archiveFrame ..
      · split
        · exact s.complete_archiveFrame ..
        · rw [State.complete_archiveFrame, State.writeReleased_archiveFrame, State.modHub_archiveFrame]
          refine (State.archiveFrame_foldl _ (fun t b => ?_) _ _).trans (State.archiveFrame_update s ..)
          split
          · exact t.eraseMembers_archiveFrame _ _ _
          · rfl
          · exact t.loseBand_archiveFrame _ _
  · exact s.complete_archiveFrame ..

theorem State.reportLost_archiveFrame (s : State) (gone : List Octets) :
    (s.reportLost gone).archiveFrame = s.archiveFrame := by
  unfold State.reportLost
  dsimp only
  repeat' split
  all_goals simp only [State.raise_archiveFrame, State.bumpBy_archiveFrame]

theorem State.verified_archiveFrame (s : State) (f : Format) (b : Nat) (bad : List Nat) :
    (s.verified f b bad).archiveFrame = s.archiveFrame := by
  unfold State.verified
  simp only [State.raise_archiveFrame, State.bump_archiveFrame, State.reportLost_archiveFrame, State.arcSync_archiveFrame,
    State.modBand_archiveFrame, State.moveSuper_archiveFrame, State.writeReleased_archiveFrame, State.hotWrites_archiveFrame,
    State.archiveFrame_update, State.archiveFrame_foldl, implies_true]

theorem bandVerifyDoneEffect_archiveFrame (band : BitVec 32) (failed : List Nat) (s : State) :
    (bandVerifyDoneEffect band failed s).archiveFrame = s.archiveFrame := by
  unfold bandVerifyDoneEffect
  dsimp only
  repeat' split
  all_goals simp only [State.verified_archiveFrame]

theorem archiveScanEffect_archiveFrame (c : Cmd) (p : ScanParams) (s : State) :
    (archiveScanEffect c p s).archiveFrame = s.archiveFrame := by
  unfold archiveScanEffect
  dsimp only
  repeat' split
  all_goals simp only [State.complete_archiveFrame, State.setScan_archiveFrame]

theorem State.endScan_archiveFrame (s : State) (k : Nat) (st : Status) :
    (s.endScan k st).archiveFrame = s.archiveFrame := by
  unfold State.endScan
  split
  · rfl
  · simp only [State.raise_archiveFrame, State.complete_archiveFrame, State.setScan_archiveFrame]

theorem State.hostOctets_archiveFrame (s : State) (us : List Nat) :
    (s.hostOctets us).2.archiveFrame = s.archiveFrame := by
  unfold State.hostOctets
  refine foldl_keeps (fun r : Octets × State => r.2.archiveFrame) _ (fun acc u => ?_) us ([], s)
  split
  · split
    next e => exact State.archiveFrame_of_pair e (State.freshOctets_archiveFrame 65536 acc.2)
  · rfl

theorem archiveHostReadEffect_archiveFrame (c : Cmd) (unit count : BitVec 32) (s : State) :
    (archiveHostReadEffect c unit count s).archiveFrame = s.archiveFrame := by
  unfold archiveHostReadEffect
  simp only [State.complete_archiveFrame, State.hostOctets_archiveFrame, State.returnData_archiveFrame, State.dieOp_archiveFrame,
    State.archiveFrame_update, State.archiveFrame_ite, ite_self, State.archiveFrame_foldl, implies_true]

theorem archiveHostWriteEffect_archiveFrame (c : Cmd) (unit count : BitVec 32) (data : Octets) (s : State) :
    (archiveHostWriteEffect c unit count data s).archiveFrame = s.archiveFrame := by
  unfold archiveHostWriteEffect
  simp only [State.complete_archiveFrame, State.hotWrites_archiveFrame, State.archiveFrame_update, State.archiveFrame_ite, ite_self]

theorem State.abortScansOf_archiveFrame (s : State) (fn : Nat) :
    (s.abortScansOf fn).archiveFrame = s.archiveFrame := by
  refine State.archiveFrame_foldl _ (fun t k => ?_) _ s
  split
  · rw [State.archiveFrame_ite, State.endScan_archiveFrame, ite_self]
  · rfl

/-! ### The meter table -/

theorem State.shadowCheck_archiveFrame (s : State) :
    s.shadowCheck.archiveFrame = s.archiveFrame := by
  unfold State.shadowCheck
  simp only [State.putFlag_archiveFrame, State.archiveFrame_ite, ite_self]

/-! ### OTP images -/

theorem State.setSlotsOf_archiveFrame (s : State) (block : Nat) (l : List OtpSlot) :
    (s.setSlotsOf block l).archiveFrame = s.archiveFrame := by
  unfold State.setSlotsOf
  dsimp only
  repeat' split
  all_goals simp only [State.archiveFrame_update]

theorem State.freeSync_archiveFrame (s : State) :
    s.freeSync.archiveFrame = s.archiveFrame := by
  unfold State.freeSync
  simp only [State.put_archiveFrame]

theorem State.markSlot_archiveFrame (s : State) (block slot : Nat) (x : OtpSlot) :
    (s.markSlot block slot x).archiveFrame = s.archiveFrame := by
  unfold State.markSlot
  simp only [State.freeSync_archiveFrame, State.setSlotsOf_archiveFrame]

theorem State.uartLine_archiveFrame (s : State) (step : Nat) :
    (s.uartLine step).archiveFrame = s.archiveFrame := by
  unfold State.uartLine
  simp only [State.emit_archiveFrame]

theorem State.progRefused_archiveFrame (s : State) (op : Nat) (c : Cmd) (st : Status) :
    (s.progRefused op c st).archiveFrame = s.archiveFrame := by
  unfold State.progRefused
  simp only [State.complete_archiveFrame, State.raise_archiveFrame, State.archiveFrame_ite, ite_self]

theorem State.progBegin_archiveFrame (s : State) (block slot : Nat) (octets : Octets) (cmd : Option (Nat × Cmd)) :
    (s.progBegin block slot octets cmd).archiveFrame = s.archiveFrame := by
  rw [State.progBegin]
  split
  · rw [State.markSlot_archiveFrame, State.put_archiveFrame, State.put_archiveFrame, State.putFlag_archiveFrame,
    State.archiveFrame_update]
  · split
    · rw [State.archiveFrame_update, State.put_archiveFrame, State.put_archiveFrame, State.putFlag_archiveFrame,
      State.archiveFrame_update]
    · rw [State.put_archiveFrame, State.put_archiveFrame, State.putFlag_archiveFrame, State.archiveFrame_update]

theorem calWriteEffect_archiveFrame (c : Cmd) (data : Octets) (s : State) :
    (calWriteEffect c data s).archiveFrame = s.archiveFrame := by
  unfold calWriteEffect
  dsimp only
  repeat' split
  all_goals simp only [State.complete_archiveFrame, State.progRefused_archiveFrame, State.progBegin_archiveFrame,
    State.archiveFrame_update]

theorem defaultsWriteEffect_archiveFrame (c : Cmd) (data : Octets) (s : State) :
    (defaultsWriteEffect c data s).archiveFrame = s.archiveFrame := by
  unfold defaultsWriteEffect
  dsimp only
  repeat' split
  all_goals simp only [State.complete_archiveFrame, State.progRefused_archiveFrame, State.progBegin_archiveFrame]

theorem lifecycleEffect_archiveFrame (c : Cmd) (target : Byte) (reserved : BitVec 24) (confirm : BitVec 32) (s : State) :
    (lifecycleEffect c target reserved confirm s).archiveFrame = s.archiveFrame := by
  unfold lifecycleEffect
  dsimp only
  repeat' split
  all_goals simp only [State.complete_archiveFrame, State.progRefused_archiveFrame, State.progBegin_archiveFrame,
    State.keyZeroise_archiveFrame]

theorem rootseedProgramEffect_archiveFrame (s : State) :
    (rootseedProgramEffect s).archiveFrame = s.archiveFrame := by
  unfold rootseedProgramEffect
  simp only [State.drbg_archiveFrame, State.uartLine_archiveFrame, State.progBegin_archiveFrame, State.archiveFrame_ite, ite_self]

/-! ### Supplies -/

theorem otpSupplySettledEffect_archiveFrame (s : State) :
    (otpSupplySettledEffect s).archiveFrame = s.archiveFrame := by
  unfold otpSupplySettledEffect
  simp only [State.archiveFrame_update, State.archiveFrame_ite, ite_self]

/-! ### Lane groups -/

theorem laneGroupTrainedEffect_archiveFrame (group : Fin 40) (kr : Bool) (s : State) :
    (laneGroupTrainedEffect group kr s).archiveFrame = s.archiveFrame := by
  unfold laneGroupTrainedEffect
  simp only [State.putFlag_archiveFrame, State.hubPresence_archiveFrame, State.raise_archiveFrame, State.put_archiveFrame,
    State.archiveFrame_ite, ite_self]

/-! ### The ridge pair -/

theorem ackNopTimerEffect_archiveFrame (hub : Option (Fin 128)) (s : State) :
    (ackNopTimerEffect hub s).archiveFrame = s.archiveFrame := by
  unfold ackNopTimerEffect
  dsimp only
  repeat' split
  all_goals simp only [State.slateBare_archiveFrame, State.modHub_archiveFrame, State.ridgeNow_archiveFrame,
    State.archiveFrame_update]

/-! ### Firmware images -/

theorem State.norSync_archiveFrame (s : State) :
    s.norSync.archiveFrame = s.archiveFrame := by
  unfold State.norSync
  simp only [State.put_archiveFrame]

theorem State.setNor_archiveFrame (s : State) (k : Nat) (x : NorSlot) :
    (s.setNor k x).archiveFrame = s.archiveFrame := by
  unfold State.setNor
  simp only [State.norSync_archiveFrame, State.archiveFrame_update]

theorem imageConfirmedEffect_archiveFrame (s : State) :
    (imageConfirmedEffect s).archiveFrame = s.archiveFrame := by
  unfold imageConfirmedEffect
  simp only [State.setNor_archiveFrame, State.raise_archiveFrame, State.archiveFrame_update, State.archiveFrame_ite, ite_self]

theorem State.beginTransfer_archiveFrame (s : State) (t : Transfer) :
    (s.beginTransfer t).archiveFrame = s.archiveFrame := by
  unfold State.beginTransfer
  simp only [State.putFlag_archiveFrame, State.archiveFrame_update]

theorem tftpWriteRequestEffect_archiveFrame (name : Octets) (octet : Bool) (blksize : Option Nat) (s : State) :
    (tftpWriteRequestEffect name octet blksize s).archiveFrame = s.archiveFrame := by
  unfold tftpWriteRequestEffect
  simp only [State.emit_archiveFrame, State.beginTransfer_archiveFrame, State.archiveFrame_ite, ite_self]

theorem tftpDataRxEffect_archiveFrame (block : BitVec 16) (data : Octets) (s : State) :
    (tftpDataRxEffect block data s).archiveFrame = s.archiveFrame := by
  unfold tftpDataRxEffect
  dsimp only
  repeat' split
  all_goals simp only [State.emit_archiveFrame, State.archiveFrame_update]

theorem xmodemReceiveEffect_archiveFrame (octets : Octets) (s : State) :
    (xmodemReceiveEffect octets s).archiveFrame = s.archiveFrame := by
  unfold xmodemReceiveEffect
  simp only [State.beginTransfer_archiveFrame, State.archiveFrame_ite, ite_self]

theorem State.imageRejected_archiveFrame (s : State) (uart : Bool) (reason : Nat) :
    (s.imageRejected uart reason).archiveFrame = s.archiveFrame := by
  unfold State.imageRejected
  simp only [State.raise_archiveFrame, State.emit_archiveFrame, State.archiveFrame_ite, ite_self]

theorem imageReceivedEffect_archiveFrame (flashError : Bool) (s : State) :
    (imageReceivedEffect flashError s).archiveFrame = s.archiveFrame := by
  unfold imageReceivedEffect
  dsimp only
  repeat' split
  all_goals simp only [State.putFlag_archiveFrame, State.imageRejected_archiveFrame, State.setNor_archiveFrame,
    State.raise_archiveFrame, State.emit_archiveFrame, State.archiveFrame_update]

/-! ### Ownership, fences and loads -/

theorem State.setOwnership_archiveFrame (s : State) (o : Ownership) :
    (s.setOwnership o).archiveFrame = s.archiveFrame := by
  unfold State.setOwnership
  simp only [State.archiveFrame_update]

theorem State.expertOff_archiveFrame (s : State) :
    s.expertOff.archiveFrame = s.archiveFrame := by
  unfold State.expertOff
  simp only [State.raise_archiveFrame, State.putFlag_archiveFrame, State.archiveFrame_ite, ite_self]

theorem State.ownerChanged_archiveFrame (s : State) (now : Option Nat) (cause : Nat) :
    (s.ownerChanged now cause).archiveFrame = s.archiveFrame := by
  unfold State.ownerChanged
  simp only [State.shadowCheck_archiveFrame, State.expertOff_archiveFrame, State.logItem_archiveFrame, State.archiveFrame_ite,
    ite_self]

theorem State.dropHeld_archiveFrame (s : State) (f : Nat) :
    (s.dropHeld f).archiveFrame = s.archiveFrame := by
  unfold State.dropHeld
  simp only [State.archiveFrame_update]

theorem State.fence_archiveFrame (s : State) (f cause : Nat) :
    (s.fence f cause).archiveFrame = s.archiveFrame := by
  unfold State.fence
  simp only [State.setFn_archiveFrame, State.raise_archiveFrame, State.shadowCheck_archiveFrame, State.abortScansOf_archiveFrame,
    State.dropHeld_archiveFrame, State.archiveFrame_ite, ite_self]

theorem leaseLapseEffect_archiveFrame (s : State) :
    (leaseLapseEffect s).archiveFrame = s.archiveFrame := by
  unfold leaseLapseEffect
  repeat' split
  all_goals simp only [State.ownerChanged_archiveFrame, State.raise_archiveFrame, State.fence_archiveFrame,
    State.setOwnership_archiveFrame]

theorem State.hardCause_archiveFrame (s : State) (f cause : Nat) (holds : Bool) (mark : FuncState → FuncState) :
    (s.hardCause f cause holds mark).archiveFrame = s.archiveFrame := by
  unfold State.hardCause
  simp only [State.setFn_archiveFrame, State.fence_archiveFrame, State.archiveFrame_ite, ite_self]

theorem fenceLinkDownEffect_archiveFrame (func : Fin 4) (holds : Bool) (s : State) :
    (fenceLinkDownEffect func holds s).archiveFrame = s.archiveFrame := by
  unfold fenceLinkDownEffect
  simp only [State.hardCause_archiveFrame]

theorem fenceFlrEffect_archiveFrame (func : Fin 4) (holds : Bool) (s : State) :
    (fenceFlrEffect func holds s).archiveFrame = s.archiveFrame := by
  unfold fenceFlrEffect
  simp only [State.hardCause_archiveFrame, State.dropHeld_archiveFrame, State.setFn_archiveFrame, State.archiveFrame_update,
    State.archiveFrame_ite, ite_self]

theorem fenceMasterClearEffect_archiveFrame (func : Fin 4) (holds : Bool) (s : State) :
    (fenceMasterClearEffect func holds s).archiveFrame = s.archiveFrame := by
  unfold fenceMasterClearEffect
  simp only [State.hardCause_archiveFrame]

theorem fenceD3hotEffect_archiveFrame (func : Fin 4) (holds : Bool) (s : State) :
    (fenceD3hotEffect func holds s).archiveFrame = s.archiveFrame := by
  unfold fenceD3hotEffect
  simp only [State.hardCause_archiveFrame]

theorem pciePerstEffect_archiveFrame (link : Fin 4) (low : Bool) (s : State) :
    (pciePerstEffect link low s).archiveFrame = s.archiveFrame := by
  unfold pciePerstEffect
  simp only [State.hardCause_archiveFrame]

theorem fenceDmaErrorEffect_archiveFrame (func : Fin 4) (s : State) :
    (fenceDmaErrorEffect func s).archiveFrame = s.archiveFrame := by
  unfold fenceDmaErrorEffect
  simp only [State.fence_archiveFrame, State.bump_archiveFrame, State.archiveFrame_ite, ite_self]

end Sys2Proof.Machine
end

section
/-!
SUPPORT. What loads and the commands of the meter table leave as it is.
-/

namespace Sys2Proof.Machine

set_option Elab.async false

/-- The components that a load or a command of the meter table leaves as they are. -/
structure LoadFrame where
  arc : ArcState
  cel : CelState
  swc : SwcState
  saf : SafState
  eav : EavState
  otp : OtpState
  overrides : List Nat
  cfgPend : List CfgWrite
  hung : List HungAccess
  pending : List Instr

/-- Those components of a state. -/
def State.loadFrame (s : State) : LoadFrame := ⟨s.arc, s.cel, s.swc, s.saf, s.eav, s.otp, s.overrides, s.cfgPend, s.hung, s.pending⟩

theorem State.loadFrame_eq_iff {s t : State} : t.loadFrame = s.loadFrame ↔
    t.arc = s.arc ∧ t.cel = s.cel ∧ t.swc = s.swc ∧ t.saf = s.saf ∧ t.eav = s.eav ∧ t.otp = s.otp ∧ t.overrides = s.overrides
      ∧ t.cfgPend = s.cfgPend ∧ t.hung = s.hung ∧ t.pending = s.pending := by
  rw [State.loadFrame, State.loadFrame, LoadFrame.mk.injEq]

/-- A change of the other components alone. -/
theorem State.loadFrame_update (s : State) (regs : FMap Word) (fregs : FMap Word) (latch : FMap Word) (held : FMap Word)
    (free : Nat) (out : List Out) (hst : HstState) (evt : EvtState) (crs : CrsState) (tim : TimState) (key : KeyState)
    (mtb : MtbState) (meters : FMap MeterRec) (bill : RecState) (val : ValState) (rdg : RdgState) (met : MetState)
    (tmp : TmpState) (hlt : HltState) (lane : LaneState) (tap : TapState) :
    ({ s with regs := regs, fregs := fregs, latch := latch, held := held, free := free, out := out, hst := hst, evt := evt,
               crs := crs, tim := tim, key := key, mtb := mtb, meters := meters, bill := bill, val := val, rdg := rdg, met := met,
               tmp := tmp, hlt := hlt, lane := lane, tap := tap } : State).loadFrame = s.loadFrame := rfl

theorem State.loadFrame_ite (c : Prop) [Decidable c] (a b : State) :
    (if c then a else b).loadFrame = if c then a.loadFrame else b.loadFrame := apply_ite _ _ _ _

theorem State.loadFrame_foldl {α : Type} (f : State → α → State) (h : ∀ s a, (f s a).loadFrame = s.loadFrame) (l : List α)
    (s : State) :
    (l.foldl f s).loadFrame = s.loadFrame := foldl_keeps (·.loadFrame) f h l s

/-- The state that an operation answers beside a result. -/
theorem State.loadFrame_of_pair {α : Type} {p : α × State} {a : α} {s t : State} (e : p = (a, t)) (h : p.2.loadFrame = s.loadFrame)
    :
    t.loadFrame = s.loadFrame := by subst e; exact h

/-- A step of the shared operations leaves them. -/
theorem Shared.loadFrame {s t : State} (h : Shared s t) : t.loadFrame = s.loadFrame := by obtain ⟨_, rfl⟩ := h; rfl
theorem State.setWord_loadFrame (s : State) (a : Nat) (v : Word) : (s.setWord a v).loadFrame = s.loadFrame :=
    (s.setWord_shared a v).loadFrame
theorem State.put_loadFrame (s : State) (f : Fld) (v : Nat) : (s.put f v).loadFrame = s.loadFrame := (s.put_shared f v).loadFrame
theorem State.putFlag_loadFrame (s : State) (f : Fld) (b : Bool) : (s.putFlag f b).loadFrame = s.loadFrame :=
    (s.putFlag_shared f b).loadFrame
theorem State.bump_loadFrame (s : State) (f : Fld) : (s.bump f).loadFrame = s.loadFrame := (s.bump_shared f).loadFrame
theorem State.emit_loadFrame (s : State) (o : Out) : (s.emit o).loadFrame = s.loadFrame := (s.emit_shared o).loadFrame
theorem State.setRing_loadFrame (s : State) (f r : Nat) (x : Ring) : (s.setRing f r x).loadFrame = s.loadFrame :=
    (s.setRing_shared f r x).loadFrame
theorem State.note_loadFrame (s : State) (k : Nat) (l : Octets) : (s.note k l).loadFrame = s.loadFrame :=
    (s.note_shared k l).loadFrame
theorem State.raise_loadFrame (s : State) (k : Nat) (d : Octets) : (s.raise k d).loadFrame = s.loadFrame :=
    (s.raise_shared k d).loadFrame
theorem State.accepted_loadFrame (s : State) (c : Cmd) : (s.accepted c).loadFrame = s.loadFrame := (s.accepted_shared c).loadFrame
theorem State.complete_loadFrame (s : State) (op : Nat) (c : Cmd) (st : Status) (i : Nat) (r : Octets) :
    (s.complete op c st i r).loadFrame = s.loadFrame := (s.complete_shared op c st i r).loadFrame
theorem State.post_loadFrame (s : State) (op : Nat) (c : Cmd) (st : Status) (i : Nat) (r : Octets) :
    (s.post' op c st i r).loadFrame = s.loadFrame := (s.post_shared op c st i r).loadFrame

/-! ### Free values and the input log -/

theorem State.logItem_loadFrame (s : State) (i : LogItem) :
    (s.logItem i).loadFrame = s.loadFrame := by
  unfold State.logItem
  simp only [State.loadFrame_update]

/-! ### Host commands -/

theorem State.cacheCommand_loadFrame (s : State) (op : Nat) (c : Cmd) (params data : Octets) :
    (s.cacheCommand op c params data).loadFrame = s.loadFrame := by
  unfold State.cacheCommand
  simp only [State.setRing_loadFrame]

/-! ### Per-meter records -/

theorem State.setMeter_loadFrame (s : State) (i : Nat) (m : MeterRec) :
    (s.setMeter i m).loadFrame = s.loadFrame := by
  unfold State.setMeter
  simp only [State.note_loadFrame, State.loadFrame_update]

theorem State.modMeter_loadFrame (s : State) (i : Nat) (f : MeterRec → MeterRec) :
    (s.modMeter i f).loadFrame = s.loadFrame := by
  unfold State.modMeter
  simp only [State.setMeter_loadFrame]

theorem State.releaseAssoc_loadFrame (s : State) (i : Nat) :
    (s.releaseAssoc i).loadFrame = s.loadFrame := by
  unfold State.releaseAssoc
  simp only [State.raise_loadFrame, State.setMeter_loadFrame, State.loadFrame_ite, ite_self]

/-! ### The meter table -/

theorem State.touchSlot_loadFrame (s : State) (j : Nat) :
    (s.touchSlot j).loadFrame = s.loadFrame := by
  unfold State.touchSlot
  simp only [State.loadFrame_update]

theorem State.writeSlot_loadFrame (s : State) (j : Nat) (x : Slot) :
    (s.writeSlot j x).loadFrame = s.loadFrame := by
  unfold State.writeSlot
  simp only [State.touchSlot_loadFrame, State.loadFrame_update]

theorem State.setSlots_loadFrame (s : State) (t : Slots) (written : List Nat) :
    (s.setSlots t written).loadFrame = s.loadFrame := by
  unfold State.setSlots
  simp only [State.note_loadFrame, State.put_loadFrame, State.loadFrame_update, State.loadFrame_foldl, implies_true]

theorem State.stashPeak_loadFrame (s : State) (n : Nat) :
    (s.stashPeak n).loadFrame = s.loadFrame := by
  unfold State.stashPeak
  simp only [State.put_loadFrame]

theorem State.mtbLoad_loadFrame (s : State) (update : Bool) (epoch limit : Nat) (bs : Octets) :
    (s.mtbLoad update epoch limit bs).2.loadFrame = s.loadFrame := by
  unfold State.mtbLoad
  split
  · rfl
  · split
    · rfl
    · dsimp only
      split
      · simp only [State.loadFrame_foldl, State.raise_loadFrame, implies_true, State.stashPeak_loadFrame, State.setSlots_loadFrame,
          State.loadFrame_update]
      · rename_i st l _
        have h : (if st = .noSpace then ((l.events.reverse.foldl (fun s e => s.raise e) s).stashPeak l.peak).raise 227
            else (l.events.reverse.foldl (fun s e => s.raise e) s).stashPeak l.peak).loadFrame = s.loadFrame := by
          simp only [State.loadFrame_ite, State.raise_loadFrame, State.stashPeak_loadFrame, State.loadFrame_foldl, implies_true,
            ite_self]
        split
        · exact h
        · rw [State.setSlots_loadFrame, State.loadFrame_update, h]

theorem State.meterLeaves_loadFrame (s : State) (i : Nat) :
    (s.meterLeaves i).loadFrame = s.loadFrame := by
  unfold State.meterLeaves
  simp only [State.releaseAssoc_loadFrame, State.modMeter_loadFrame]

theorem State.initRecord_loadFrame (s : State) (x : Slot) :
    (s.initRecord x).loadFrame = s.loadFrame := by
  unfold State.initRecord
  simp only [State.setMeter_loadFrame, State.loadFrame_ite, ite_self]

theorem State.pauseSync_loadFrame (s : State) :
    s.pauseSync.loadFrame = s.loadFrame := by
  unfold State.pauseSync
  simp only [State.putFlag_loadFrame]

theorem postCommitPassDoneEffect_loadFrame (s : State) :
    (postCommitPassDoneEffect s).loadFrame = s.loadFrame := by
  rw [postCommitPassDoneEffect]
  split
  · rfl
  · rw [State.raise_loadFrame, State.pauseSync_loadFrame, State.loadFrame_update, State.setSlots_loadFrame]
    refine State.loadFrame_foldl _ (fun t p => ?_) _ s
    rw [State.loadFrame_ite, State.initRecord_loadFrame, ite_self]

theorem State.combVisit_loadFrame (s : State) (j : Nat) :
    (s.combVisit j).loadFrame = s.loadFrame := by
  unfold State.combVisit
  simp only [State.writeSlot_loadFrame, State.bump_loadFrame, State.setSlots_loadFrame, State.meterLeaves_loadFrame,
    State.raise_loadFrame, State.loadFrame_ite, ite_self]

theorem State.combStart_loadFrame (s : State) :
    s.combStart.loadFrame = s.loadFrame := by
  unfold State.combStart
  simp only [State.pauseSync_loadFrame, State.putFlag_loadFrame, State.put_loadFrame]

theorem State.combVisits_loadFrame (s : State) :
    s.combVisits.loadFrame = s.loadFrame := by
  unfold State.combVisits
  simp only [State.combVisit_loadFrame, State.putFlag_loadFrame, State.put_loadFrame, State.loadFrame_ite, ite_self,
    State.loadFrame_foldl, implies_true]

theorem combPassStartEffect_loadFrame (s : State) :
    (combPassStartEffect s).loadFrame = s.loadFrame := by
  unfold combPassStartEffect
  simp only [State.combVisits_loadFrame, State.combStart_loadFrame, State.loadFrame_update, State.loadFrame_ite, ite_self]

theorem scrubBlockReadEffect_loadFrame (failed : Bool) (block : Octets) (s : State) :
    (scrubBlockReadEffect failed block s).loadFrame = s.loadFrame := by
  unfold scrubBlockReadEffect
  simp only [State.raise_loadFrame, State.putFlag_loadFrame, State.put_loadFrame, State.loadFrame_update, State.loadFrame_ite,
    ite_self]

theorem State.writeRepair_loadFrame (s : State) (j : Nat) (e : Slot) :
    (s.writeRepair j e).loadFrame = s.loadFrame := by
  rw [State.writeRepair, State.loadFrame_update, State.setSlots_loadFrame]

theorem State.repairSlot_loadFrame (s : State) (j : Nat) (octets : Octets) :
    (s.repairSlot j octets).loadFrame = s.loadFrame := by
  unfold State.repairSlot
  simp only [State.raise_loadFrame, State.putFlag_loadFrame, State.bump_loadFrame, State.writeRepair_loadFrame,
    State.loadFrame_ite, ite_self]

theorem scrubConfirmEffect_loadFrame (slot : BitVec 22) (failed : Bool) (octets : Octets) (s : State) :
    (scrubConfirmEffect slot failed octets s).loadFrame = s.loadFrame := by
  rw [scrubConfirmEffect]
  split
  · rfl
  · split
    · rfl
    · split
      · rw [State.raise_loadFrame, State.putFlag_loadFrame, State.put_loadFrame, State.putFlag_loadFrame, State.loadFrame_update]
      · extract_lets mtb t y u st
        split
        · exact s.loadFrame_update ..
        · have hu : u.loadFrame = s.loadFrame := by
            rw [State.raise_loadFrame, State.setWord_loadFrame, State.bump_loadFrame, State.loadFrame_update]
          split
          · exact hu
          · split
            · rw [State.logItem_loadFrame, State.emit_loadFrame, hu]
            · rw [State.repairSlot_loadFrame, hu]

/-! ### Prepayment -/

theorem State.modRec_loadFrame (s : State) (i : Nat) (f : RecArea → RecArea) :
    (s.modRec i f).loadFrame = s.loadFrame := by
  unfold State.modRec
  simp only [State.modMeter_loadFrame]

theorem State.prepayCommit_loadFrame (s : State) :
    s.prepayCommit.loadFrame = s.loadFrame := by
  unfold State.prepayCommit
  simp only [State.modRec_loadFrame, State.loadFrame_ite, ite_self, State.loadFrame_foldl, implies_true]

theorem passDoneEffect_loadFrame (s : State) :
    (passDoneEffect s).loadFrame = s.loadFrame := by
  unfold passDoneEffect
  simp only [State.prepayCommit_loadFrame, postCommitPassDoneEffect_loadFrame, State.loadFrame_ite, ite_self]

/-! ### Staging and commits -/

theorem State.planLoadEnd_loadFrame (s : State) (c : Cmd) (st : Status) (result : Octets) :
    (s.planLoadEnd c st result).loadFrame = s.loadFrame := by
  unfold State.planLoadEnd
  rw [State.raise_loadFrame, State.complete_loadFrame]

theorem State.discardStaged_loadFrame (s : State) :
    s.discardStaged.loadFrame = s.loadFrame := by
  unfold State.discardStaged
  simp only [State.putFlag_loadFrame, State.loadFrame_update]

theorem planLoadEffect_loadFrame (c : Cmd) (data : Octets) (s : State) :
    (planLoadEffect c data s).loadFrame = s.loadFrame := by
  rw [planLoadEffect]
  split
  · exact s.planLoadEnd_loadFrame ..
  · dsimp only
    split
    · rw [State.planLoadEnd_loadFrame, State.discardStaged_loadFrame]
    · rw [State.planLoadEnd_loadFrame, State.putFlag_loadFrame, State.loadFrame_update, State.discardStaged_loadFrame]

theorem State.tableContent_loadFrame (s : State) (kind mode epoch : Nat) (data : Octets) :
    (s.tableContent kind mode epoch data).2.loadFrame = s.loadFrame := by
  unfold State.tableContent
  split
  · exact s.mtbLoad_loadFrame _ _ _ _
  all_goals rfl

theorem State.stageBit_loadFrame (s : State) (f : Fld) (kind : Nat) (b : Bool) :
    (s.stageBit f kind b).loadFrame = s.loadFrame := by
  unfold State.stageBit
  simp only [State.put_loadFrame]

theorem State.loadingSync_loadFrame (s : State) :
    s.loadingSync.loadFrame = s.loadFrame := by
  unfold State.loadingSync
  simp only [State.pauseSync_loadFrame, State.stageBit_loadFrame, State.loadFrame_foldl, implies_true]

theorem State.tableLoadEnd_loadFrame (s : State) (c : Cmd) (kind : Nat) (next : Bool) (st : Status) :
    (s.tableLoadEnd c kind next st).loadFrame = s.loadFrame := by
  unfold State.tableLoadEnd
  simp only [State.stageBit_loadFrame, State.raise_loadFrame, State.complete_loadFrame, State.loadFrame_ite, ite_self]

theorem State.stageTable_loadFrame (s : State) (kind mode : Nat) (data : Octets) :
    (s.stageTable kind mode data).loadFrame = s.loadFrame := by
  unfold State.stageTable
  simp only [State.stageBit_loadFrame, State.loadFrame_update]

theorem tableLoadEffect_loadFrame (c : Cmd) (kind mode : Byte) (epoch : BitVec 32) (data : Octets) (s : State) :
    (tableLoadEffect c kind mode epoch data s).loadFrame = s.loadFrame := by
  unfold tableLoadEffect
  extract_lets k entry admitted crs t next
  have ht : t.loadFrame = s.loadFrame := by
    unfold t
    generalize entry = e
    split
    · rw [State.loadingSync_loadFrame, State.loadFrame_update]
    · rfl
  split
  · rw [State.tableLoadEnd_loadFrame, ht]
  · split
    · next e =>
      rw [State.tableLoadEnd_loadFrame, State.stageTable_loadFrame,
        State.loadFrame_of_pair e (State.tableContent_loadFrame _ _ _ _ _), ht]
    · next e =>
      have hs := State.loadFrame_of_pair e (State.tableContent_loadFrame _ _ _ _ _)
      rw [State.tableLoadEnd_loadFrame, State.loadFrame_ite, State.stageBit_loadFrame, State.loadFrame_update, ite_self, hs, ht]

theorem State.loadCommand_loadFrame (s : State) (op : Nat) (c : Cmd) (params data : Octets) (bad : Bool) (source : Nat)
    (effect : State → State) (h : (effect (s.accepted c)).loadFrame = (s.accepted c).loadFrame) :
    (s.loadCommand op c params data bad source effect).loadFrame = s.loadFrame := by
  unfold State.loadCommand
  split
  · rfl
  · split
    · rw [State.raise_loadFrame, State.post_loadFrame, State.accepted_loadFrame]
    · split
      · exact s.cacheCommand_loadFrame op c params data
      · exact h.trans (s.accepted_loadFrame c)

end Sys2Proof.Machine
end

section
/-!
SUPPORT. What commits and bulk frames of the ridge leave as it is.
-/

namespace Sys2Proof.Machine

set_option Elab.async false

/-- The components that a commit leaves as they are. -/
structure CommitFrame where
  meters : FMap MeterRec
  mtb : MtbState
  bill : RecState
  val : ValState
  key : KeyState
  cel : CelState
  swc : SwcState
  saf : SafState
  otp : OtpState
  overrides : List Nat
  cfgPend : List CfgWrite
  hung : List HungAccess
  pending : List Instr

/-- Those components of a state. -/
def State.commitFrame (s : State) : CommitFrame := ⟨s.meters, s.mtb, s.bill, s.val, s.key, s.cel, s.swc, s.saf, s.otp, s.overrides,
  s.cfgPend, s.hung, s.pending⟩

theorem State.commitFrame_eq_iff {s t : State} : t.commitFrame = s.commitFrame ↔
    t.meters = s.meters ∧ t.mtb = s.mtb ∧ t.bill = s.bill ∧ t.val = s.val ∧ t.key = s.key ∧ t.cel = s.cel ∧ t.swc = s.swc
      ∧ t.saf = s.saf ∧ t.otp = s.otp ∧ t.overrides = s.overrides ∧ t.cfgPend = s.cfgPend ∧ t.hung = s.hung
      ∧ t.pending = s.pending := by
  rw [State.commitFrame, State.commitFrame, CommitFrame.mk.injEq]

/-- A change of the other components alone. -/
theorem State.commitFrame_update (s : State) (regs : FMap Word) (fregs : FMap Word) (latch : FMap Word) (held : FMap Word)
    (free : Nat) (out : List Out) (hst : HstState) (evt : EvtState) (crs : CrsState) (tim : TimState) (arc : ArcState)
    (rdg : RdgState) (eav : EavState) (met : MetState) (tmp : TmpState) (hlt : HltState) (lane : LaneState) (tap : TapState) :
    ({ s with regs := regs, fregs := fregs, latch := latch, held := held, free := free, out := out, hst := hst, evt := evt,
               crs := crs, tim := tim, arc := arc, rdg := rdg, eav := eav, met := met, tmp := tmp, hlt := hlt, lane := lane,
               tap := tap } : State).commitFrame = s.commitFrame := rfl

theorem State.commitFrame_ite (c : Prop) [Decidable c] (a b : State) :
    (if c then a else b).commitFrame = if c then a.commitFrame else b.commitFrame := apply_ite _ _ _ _

theorem State.commitFrame_foldl {α : Type} (f : State → α → State) (h : ∀ s a, (f s a).commitFrame = s.commitFrame) (l : List α)
    (s : State) :
    (l.foldl f s).commitFrame = s.commitFrame := foldl_keeps (·.commitFrame) f h l s

/-- A step of the shared operations leaves them. -/
theorem Shared.commitFrame {s t : State} (h : Shared s t) : t.commitFrame = s.commitFrame := by obtain ⟨_, rfl⟩ := h; rfl
theorem State.put_commitFrame (s : State) (f : Fld) (v : Nat) : (s.put f v).commitFrame = s.commitFrame :=
    (s.put_shared f v).commitFrame
theorem State.putFlag_commitFrame (s : State) (f : Fld) (b : Bool) : (s.putFlag f b).commitFrame = s.commitFrame :=
    (s.putFlag_shared f b).commitFrame
theorem State.bump_commitFrame (s : State) (f : Fld) : (s.bump f).commitFrame = s.commitFrame := (s.bump_shared f).commitFrame
theorem State.put64_commitFrame (s : State) (a v : Nat) : (s.put64 a v).commitFrame = s.commitFrame :=
    (s.put64_shared a v).commitFrame
theorem State.setRing_commitFrame (s : State) (f r : Nat) (x : Ring) : (s.setRing f r x).commitFrame = s.commitFrame :=
    (s.setRing_shared f r x).commitFrame
theorem State.bulk_commitFrame (s : State) (k n : Nat) (l : Octets) : (s.bulk k n l).commitFrame = s.commitFrame :=
    (s.bulk_shared k n l).commitFrame
theorem State.raise_commitFrame (s : State) (k : Nat) (d : Octets) : (s.raise k d).commitFrame = s.commitFrame :=
    (s.raise_shared k d).commitFrame
theorem State.accepted_commitFrame (s : State) (c : Cmd) : (s.accepted c).commitFrame = s.commitFrame :=
    (s.accepted_shared c).commitFrame
theorem State.complete_commitFrame (s : State) (op : Nat) (c : Cmd) (st : Status) (i : Nat) (r : Octets) :
    (s.complete op c st i r).commitFrame = s.commitFrame := (s.complete_shared op c st i r).commitFrame
theorem State.post_commitFrame (s : State) (op : Nat) (c : Cmd) (st : Status) (i : Nat) (r : Octets) :
    (s.post' op c st i r).commitFrame = s.commitFrame := (s.post_shared op c st i r).commitFrame
theorem State.record_commitFrame (s : State) (k u : Nat) (d : Octets) : (s.record k u d).commitFrame = s.commitFrame :=
    (s.record_shared k u d).commitFrame
theorem State.bulkDrain_commitFrame (k : Nat) (s : State) : (State.bulkDrain k s).commitFrame = s.commitFrame :=
    (State.bulkDrain_shared k s).commitFrame
theorem State.route_commitFrame (s : State) (e : EvRec) : (s.route e).commitFrame = s.commitFrame := (s.route_shared e).commitFrame
theorem State.spill_commitFrame (s : State) : s.spill.commitFrame = s.commitFrame := s.spill_shared.commitFrame

/-! ### Host commands -/

theorem State.cacheCommand_commitFrame (s : State) (op : Nat) (c : Cmd) (params data : Octets) :
    (s.cacheCommand op c params data).commitFrame = s.commitFrame := by
  unfold State.cacheCommand
  simp only [State.setRing_commitFrame]

theorem State.writeCommand_commitFrame (s : State) (op : Nat) (c : Cmd) (params data : Octets) (bad : Bool) (effect : State → State)
    (h : (effect (s.accepted c)).commitFrame = (s.accepted c).commitFrame) :
    (s.writeCommand op c params data bad effect).commitFrame = s.commitFrame := by
  unfold State.writeCommand
  split
  · rfl
  · split
    · rw [State.post_commitFrame, State.accepted_commitFrame]
    · split
      · exact s.cacheCommand_commitFrame op c params data
      · exact h.trans (s.accepted_commitFrame c)

/-! ### The ridge pair -/

theorem State.ridgeAck_commitFrame (s : State) (ack : Nat) :
    (s.ridgeAck ack).commitFrame = s.commitFrame := by
  unfold State.ridgeAck
  simp only [State.bulkDrain_commitFrame, State.commitFrame_update]

theorem State.ridgeTake_commitFrame (s : State) (h : RidgeHdr) (act : State → State) (k : ∀ t, (act t).commitFrame = t.commitFrame)
    :
    (s.ridgeTake h act).commitFrame = s.commitFrame := by
  unfold State.ridgeTake
  split
  · exact s.bump_commitFrame _
  · split
    · rfl
    · rw [k, State.ridgeAck_commitFrame, State.putFlag_commitFrame, State.put_commitFrame]

theorem State.forwarded_commitFrame (s : State) (e : EvRec) :
    (s.forwarded e).commitFrame = s.commitFrame := by
  unfold State.forwarded
  simp only [State.record_commitFrame, State.commitFrame_ite, ite_self]

theorem State.copied_commitFrame (s : State) (e : EvRec) :
    (s.copied e).commitFrame = s.commitFrame := by
  unfold State.copied
  simp only [State.route_commitFrame, State.spill_commitFrame, State.commitFrame_update]

theorem State.takeObject_commitFrame (s : State) (kind object : Nat) (octets : Octets) :
    (s.takeObject kind object octets).commitFrame = s.commitFrame := by
  unfold State.takeObject
  dsimp only
  repeat' split
  all_goals simp only [State.forwarded_commitFrame, State.copied_commitFrame, State.putFlag_commitFrame, State.commitFrame_update]

theorem ridgeBulkRxEffect_commitFrame (h : RidgeHdr) (kind : Byte) (object offset total : BitVec 32) (octets : Octets) (s : State) :
    (ridgeBulkRxEffect h kind object offset total octets s).commitFrame = s.commitFrame := by
  unfold ridgeBulkRxEffect
  refine s.ridgeTake_commitFrame h _ fun t => ?_
  extract_lets
  split
  · rfl
  · split
    · exact (State.takeObject_commitFrame _ _ _ _).trans (State.commitFrame_update t ..)
    · rfl

/-! ### Eaves -/

theorem State.setPort_commitFrame (s : State) (l p : Nat) (x : EavPort) :
    (s.setPort l p x).commitFrame = s.commitFrame := by
  unfold State.setPort
  simp only [State.commitFrame_update]

theorem State.sendDown_commitFrame (s : State) (l p type : Nat) (payload : Octets) :
    (s.sendDown l p type payload).commitFrame = s.commitFrame := by
  unfold State.sendDown
  simp only [State.setPort_commitFrame]

theorem State.sendMap_commitFrame (s : State) (c : Chain) (epoch applySf : Nat) (e : EaveRec) :
    (s.sendMap c epoch applySf e).commitFrame = s.commitFrame := by
  unfold State.sendMap
  simp only [State.sendDown_commitFrame, State.setPort_commitFrame]

theorem State.sendSet_commitFrame (s : State) (l p stream band gain level applySf centre : Nat) :
    (s.sendSet l p stream band gain level applySf centre).commitFrame = s.commitFrame := by
  unfold State.sendSet
  simp only [State.sendDown_commitFrame]

theorem State.sendSets_commitFrame (s : State) (plan : Plan) (old : Option Plan) (l applySf : Nat) (e : EaveRec) :
    (s.sendSets plan old l applySf e).commitFrame = s.commitFrame := by
  unfold State.sendSets
  extract_lets t c u
  have ht : t.commitFrame = s.commitFrame := by
    refine State.commitFrame_foldl _ (fun u k => ?_) _ s
    split
    · rfl
    · rw [State.commitFrame_ite, State.sendSet_commitFrame, ite_self]
  split
  · exact ht
  · rw [State.sendSet_commitFrame, State.sendSet_commitFrame, ht]

theorem State.eavPending_commitFrame (s : State) (plan : Plan) (target : Nat) :
    (s.eavPending plan target).commitFrame = s.commitFrame := by
  unfold State.eavPending
  simp only [State.sendSets_commitFrame, State.sendMap_commitFrame, State.commitFrame_foldl, implies_true]

/-! ### Staging and commits -/

theorem planCommitEffect_commitFrame (c : Cmd) (target : BitVec 64) (s : State) :
    (planCommitEffect c target s).commitFrame = s.commitFrame := by
  rw [planCommitEffect]
  split
  · exact s.complete_commitFrame ..
  · rfl
  · dsimp only
    rw [State.commitFrame_ite, State.bulk_commitFrame, ite_self, State.eavPending_commitFrame, State.put64_commitFrame,
      State.putFlag_commitFrame,
      State.commitFrame_update]

theorem State.endCommitAfter_commitFrame (s : State) (units : List Nat) (reason : Nat) (st : Status) :
    (s.endCommitAfter units reason st).commitFrame = s.commitFrame := by
  rw [State.endCommitAfter]
  split
  · rfl
  · dsimp only
    split
    · rw [State.complete_commitFrame, State.putFlag_commitFrame, State.put_commitFrame, State.put_commitFrame,
      State.putFlag_commitFrame, State.commitFrame_update]
    · rw [State.commitFrame_update, State.putFlag_commitFrame, State.put_commitFrame, State.put_commitFrame,
      State.putFlag_commitFrame, State.commitFrame_update]

theorem State.endCommit_commitFrame (s : State) (reason : Nat) (st : Status) :
    (s.endCommit reason st).commitFrame = s.commitFrame := by
  unfold State.endCommit
  simp only [State.endCommitAfter_commitFrame]

theorem planCancelEffect_commitFrame (c : Cmd) (s : State) :
    (planCancelEffect c s).commitFrame = s.commitFrame := by
  unfold planCancelEffect
  split
  · exact s.complete_commitFrame ..
  · split
    · exact s.complete_commitFrame ..
    · rw [State.raise_commitFrame, State.endCommit_commitFrame, State.complete_commitFrame]

end Sys2Proof.Machine
end

section
/-!
The frame statement of the archive, loads and commits, from what each group leaves.
-/

namespace Sys2Proof.Machine

set_option Elab.async false

/-- A command of the second group. -/
theorem exec_archiveFrame (i : Instr) (s : State) (h : frameGroup i = 2) : Ends i s fun t => t.archiveFrame = s.archiveFrame := by
  cases i with
  | rootseedProgram => exact ⟨_, rfl, rootseedProgramEffect_archiveFrame ..⟩
  | imageConfirmed => exact ⟨_, rfl, imageConfirmedEffect_archiveFrame ..⟩
  | tftpWriteRequest => exact ⟨_, rfl, tftpWriteRequestEffect_archiveFrame ..⟩
  | xmodemReceive => exact ⟨_, rfl, xmodemReceiveEffect_archiveFrame ..⟩
  | imageReceived => exact ⟨_, rfl, imageReceivedEffect_archiveFrame ..⟩
  | leaseLapse => exact ⟨_, rfl, leaseLapseEffect_archiveFrame ..⟩
  | archiveFormat => exact ⟨_, rfl, s.writeCommand_archiveFrame _ _ _ _ _ _ (archiveFormatEffect_archiveFrame ..)⟩
  | archiveAdopt => exact ⟨_, rfl, s.writeCommand_archiveFrame _ _ _ _ _ _ (archiveAdoptEffect_archiveFrame ..)⟩
  | archiveScan => exact ⟨_, rfl, s.readCommand_archiveFrame _ _ _ (archiveScanEffect_archiveFrame ..)⟩
  | archiveHostWrite => exact ⟨_, rfl, s.writeCommand_archiveFrame _ _ _ _ _ _ (archiveHostWriteEffect_archiveFrame ..)⟩
  | keyWrite => exact ⟨_, rfl, s.writeCommand_archiveFrame _ _ _ _ _ _ (keyWriteEffect_archiveFrame ..)⟩
  | keyGenerate c p =>
    refine ⟨_, rfl, s.writeCommand_archiveFrame _ _ _ _ _ _ ?_⟩
    rw [State.archiveFrame_ite, s.cacheCommand_archiveFrame, keyGenerateEffect_archiveFrame, State.accepted_archiveFrame, ite_self]
  | keyDestroy => exact ⟨_, rfl, s.writeCommand_archiveFrame _ _ _ _ _ _ (keyDestroyEffect_archiveFrame ..)⟩
  | randomRead => exact ⟨_, rfl, s.readCommand_archiveFrame _ _ _ (randomReadEffect_archiveFrame ..)⟩
  | lifecycle => exact ⟨_, rfl, s.writeCommand_archiveFrame _ _ _ _ _ _ (lifecycleEffect_archiveFrame ..)⟩
  | calWrite => exact ⟨_, rfl, s.writeCommand_archiveFrame _ _ _ _ _ _ (calWriteEffect_archiveFrame ..)⟩
  | defaultsWrite => exact ⟨_, rfl, s.writeCommand_archiveFrame _ _ _ _ _ _ (defaultsWriteEffect_archiveFrame ..)⟩
  | fenceLinkDown => exact ⟨_, rfl, fenceLinkDownEffect_archiveFrame ..⟩
  | fenceFlr => exact ⟨_, rfl, fenceFlrEffect_archiveFrame ..⟩
  | fenceMasterClear => exact ⟨_, rfl, fenceMasterClearEffect_archiveFrame ..⟩
  | fenceD3hot => exact ⟨_, rfl, fenceD3hotEffect_archiveFrame ..⟩
  | fenceDmaError => exact ⟨_, rfl, fenceDmaErrorEffect_archiveFrame ..⟩
  | pciePerst => exact ⟨_, rfl, pciePerstEffect_archiveFrame ..⟩
  | slateHelloRx => exact ⟨_, rfl, slateHelloRxEffect_archiveFrame ..⟩
  | slateGeometryRx => exact ⟨_, rfl, slateGeometryRxEffect_archiveFrame ..⟩
  | slateCreditRx => exact ⟨_, rfl, slateCreditRxEffect_archiveFrame ..⟩
  | slateCplRx => exact ⟨_, rfl, slateCplRxEffect_archiveFrame ..⟩
  | bandVerifyDone => exact ⟨_, rfl, bandVerifyDoneEffect_archiveFrame ..⟩
  | slateStopDoneRx => exact ⟨_, rfl, slateStopDoneRxEffect_archiveFrame ..⟩
  | slateResendTimer => exact ⟨_, rfl, slateResendTimerEffect_archiveFrame ..⟩
  | creditTimeout => exact ⟨_, rfl, creditTimeoutEffect_archiveFrame ..⟩
  | cmdTimeout => exact ⟨_, rfl, cmdTimeoutEffect_archiveFrame ..⟩
  | hubLinkLost => exact ⟨_, rfl, hubLinkLostEffect_archiveFrame ..⟩
  | hubHelloTimer => exact ⟨_, rfl, hubHelloTimerEffect_archiveFrame ..⟩
  | hubLostTimeout => exact ⟨_, rfl, hubLostTimeoutEffect_archiveFrame ..⟩
  | checkpointTimer => exact ⟨_, rfl, checkpointTimerEffect_archiveFrame ..⟩
  | hotGc => exact ⟨_, rfl, hotGcEffect_archiveFrame ..⟩
  | drbgReseed => exact ⟨_, rfl, drbgReseedEffect_archiveFrame ..⟩
  | otpSupplySettled => exact ⟨_, rfl, otpSupplySettledEffect_archiveFrame ..⟩
  | slateNopRx => exact ⟨_, rfl, slateNopRxEffect_archiveFrame ..⟩
  | ackNopTimer => exact ⟨_, rfl, ackNopTimerEffect_archiveFrame ..⟩
  | tftpDataRx => exact ⟨_, rfl, tftpDataRxEffect_archiveFrame ..⟩
  | formatHubTimeout => exact ⟨_, rfl, formatHubTimeoutEffect_archiveFrame ..⟩
  | archiveHostRead => exact ⟨_, rfl, s.readCommand_archiveFrame _ _ _ (archiveHostReadEffect_archiveFrame ..)⟩
  | laneGroupTrained => exact ⟨_, rfl, laneGroupTrainedEffect_archiveFrame ..⟩
  | _ => cases h

/-- A load or a command of the meter table. -/
theorem exec_loadFrame (i : Instr) (s : State) (h : frameGroup i = 7) : Ends i s fun t => t.loadFrame = s.loadFrame := by
  cases i with
  | postCommitPassDone => exact ⟨_, rfl, passDoneEffect_loadFrame ..⟩
  | combPassStart => exact ⟨_, rfl, combPassStartEffect_loadFrame ..⟩
  | planLoad => exact ⟨_, rfl, s.loadCommand_loadFrame _ _ _ _ _ _ _ (planLoadEffect_loadFrame ..)⟩
  | tableLoad => exact ⟨_, rfl, s.loadCommand_loadFrame _ _ _ _ _ _ _ (tableLoadEffect_loadFrame ..)⟩
  | scrubBlockRead => exact ⟨_, rfl, scrubBlockReadEffect_loadFrame ..⟩
  | scrubConfirm => exact ⟨_, rfl, scrubConfirmEffect_loadFrame ..⟩
  | _ => cases h

/-- A commit or a bulk frame. -/
theorem exec_commitFrame (i : Instr) (s : State) (h : frameGroup i = 9) : Ends i s fun t => t.commitFrame = s.commitFrame := by
  cases i with
  | planCommit => exact ⟨_, rfl, s.writeCommand_commitFrame _ _ _ _ _ _ (planCommitEffect_commitFrame ..)⟩
  | planCancel => exact ⟨_, rfl, s.writeCommand_commitFrame _ _ _ _ _ _ (planCancelEffect_commitFrame ..)⟩
  | ridgeBulkRx => exact ⟨_, rfl, ridgeBulkRxEffect_commitFrame ..⟩
  | _ => cases h

/-- A write of a function is lost, held back, or reaches its register. -/
theorem State.hostWrite_cases (s : State) (f : Fin 4) (a : Nat) (v : Word) :
    s.hostWrite f a v = s ∨ (∃ h, s.hostWrite f a v = { s with hung := s.hung ++ [h] }) ∨ s.hostWrite f a v = s.writeWord f a v :=
      by
  unfold State.hostWrite State.busAccess
  split
  · exact .inl rfl
  · split
    · exact .inl rfl
    · split
      · exact .inr (.inl ⟨_, rfl⟩)
      · unfold State.access
        dsimp only
        split
        · exact .inl rfl
        · exact .inr (.inr rfl)

theorem State.writeWord_fenceCmd (s : State) (f : Fin 4) (v : Word) :
    s.writeWord f Reg.HST_FENCE_CMD v = s ∨ s.writeWord f Reg.HST_FENCE_CMD v = fenceOwnerCmdEffect f (BitVec.ofNat 4 v.toNat) s :=
      by
  unfold State.writeWord
  split
  · exact .inl rfl
  · exact .inr (by rw [if_neg (by decide), if_pos rfl])

theorem State.writeWord_safOtp (s : State) (f : Fin 4) :
    s.writeWord f Reg.SAF_OTP 1#32 = s ∨ s.writeWord f Reg.SAF_OTP 1#32 = safeOtpProgramEffect f s := by
  unfold State.writeWord
  split
  · exact .inl rfl
  · refine .inr ?_
    rw [if_neg (by decide), if_neg (by decide), if_neg (by decide), if_neg (by decide), if_neg (by decide), if_neg (by decide),
      if_pos (by decide)]

theorem fenceOwnerCmdEffect_archiveFrame (f : Fin 4) (mask : BitVec 4) (s : State) :
    (fenceOwnerCmdEffect f mask s).archiveFrame = s.archiveFrame := by
  unfold fenceOwnerCmdEffect
  dsimp only
  split
  · exact s.capture_archiveFrame ..
  · split
    · exact s.capture_archiveFrame ..
    · refine State.archiveFrame_foldl _ (fun t k => ?_) _ s
      rw [State.archiveFrame_ite, State.fence_archiveFrame, ite_self]

theorem State.safProgEnd_archiveFrame (s : State) (code : Nat) : (s.safProgEnd code).archiveFrame = s.archiveFrame := by
  unfold State.safProgEnd
  rw [State.raise_archiveFrame, State.putFlag_archiveFrame, State.put_archiveFrame]

theorem State.safProgram_archiveFrame (s : State) : s.safProgram.archiveFrame = s.archiveFrame := by
  rw [State.safProgram]
  split
  · rw [State.safProgEnd_archiveFrame, State.putFlag_archiveFrame]
  · split
    · rw [State.safProgEnd_archiveFrame, State.archiveFrame_ite, State.raise_archiveFrame, State.putFlag_archiveFrame, ite_self]
    · rw [State.progBegin_archiveFrame, State.putFlag_archiveFrame]

theorem safeOtpProgramEffect_archiveFrame (f : Fin 4) (s : State) : (safeOtpProgramEffect f s).archiveFrame = s.archiveFrame := by
  unfold safeOtpProgramEffect
  dsimp only
  split
  · exact s.capture_archiveFrame ..
  · split
    · exact s.capture_archiveFrame ..
    · split
      · exact s.capture_archiveFrame ..
      · unfold State.logOrDo
        split
        · exact s.logItem_archiveFrame _
        · exact s.safProgram_archiveFrame

/-- A command of the fifth group leaves what one of the second leaves, but that its access may be held back. -/
theorem exec_archiveFrame_or_held (i : Instr) (s : State) (h : frameGroup i = 5) :
    Ends i s fun t => t.archiveFrame = s.archiveFrame ∨ ∃ x, t = { s with hung := s.hung ++ [x] } := by
  cases i with
  | fenceOwnerCmd f mask =>
    refine ⟨_, rfl, ?_⟩
    rcases s.hostWrite_cases f Reg.HST_FENCE_CMD (BitVec.ofNat 32 mask.toNat) with e | ⟨x, e⟩ | e
    · exact .inl (congrArg _ e)
    · exact .inr ⟨x, e⟩
    · rcases s.writeWord_fenceCmd f (BitVec.ofNat 32 mask.toNat) with k | k
      · exact .inl (congrArg _ (e.trans k))
      · exact .inl ((congrArg _ (e.trans k)).trans (fenceOwnerCmdEffect_archiveFrame ..))
  | safeOtpProgram f =>
    refine ⟨_, rfl, ?_⟩
    rcases s.hostWrite_cases f Reg.SAF_OTP 1#32 with e | ⟨x, e⟩ | e
    · exact .inl (congrArg _ e)
    · exact .inr ⟨x, e⟩
    · rcases s.writeWord_safOtp f with k | k
      · exact .inl (congrArg _ (e.trans k))
      · exact .inl ((congrArg _ (e.trans k)).trans (safeOtpProgramEffect_archiveFrame ..))
  | _ => cases h

/-- Settles O54: each group leaves its frame, and an access of the fifth group that is held back only joins the held accesses. -/
theorem frameOfArchive : Obligations.FrameOfArchive := by
  refine ⟨fun i s h => ?_, fun i s h => ?_, fun i s h => ?_, fun i s h => ?_⟩
  · obtain ⟨t, e, k⟩ := exec_archiveFrame i s h
    exact ⟨t, e, State.archiveFrame_eq_iff.1 k⟩
  · obtain ⟨t, e, k | ⟨x, rfl⟩⟩ := exec_archiveFrame_or_held i s h
    · obtain ⟨k1, k2, k3, k4, k5, k6, k7, k8, k9, k10, k11, k12, k13⟩ := State.archiveFrame_eq_iff.1 k
      exact ⟨t, e, k1, k2, k3, k4, k5, k6, k7, k8, k9, k10, k11, by rw [k12, List.take_length], k13⟩
    · exact ⟨_, e, rfl, rfl, rfl, rfl, rfl, rfl, rfl, rfl, rfl, rfl, rfl, List.take_left' rfl, rfl⟩
  · obtain ⟨t, e, k⟩ := exec_loadFrame i s h
    exact ⟨t, e, State.loadFrame_eq_iff.1 k⟩
  · obtain ⟨t, e, k⟩ := exec_commitFrame i s h
    exact ⟨t, e, State.commitFrame_eq_iff.1 k⟩

end Sys2Proof.Machine
end

section
/-!
SUPPORT. How a write of the owner reaches the register it names, and what the register then reads (R14, R18, R354).
-/

namespace Sys2Proof.Machine

set_option Elab.async false

/-! ### The per-function registers through a raise -/

theorem State.fregs_ite {s a b : State} {c : Prop} [Decidable c] (ha : a.fregs = s.fregs) (hb : b.fregs = s.fregs) :
    (if c then a else b).fregs = s.fregs := by
  split
  · exact ha
  · exact hb

theorem State.msix_fregs (s : State) (f v : Nat) : (s.msix f v).fregs = s.fregs := by unfold State.msix; split <;> rfl

theorem State.ringInterrupt_fregs (s : State) (f r : Nat) : (s.ringInterrupt f r).fregs = s.fregs := by
  unfold State.ringInterrupt
  dsimp only
  repeat' split
  · rfl
  · rfl
  · exact s.msix_fregs _ _
  · exact s.msix_fregs _ _

theorem State.produce_fregs (s : State) (f r ty : Nat) (l : List Octets) : (s.produce f r ty l).2.fregs = s.fregs := by
  unfold State.produce
  dsimp only
  repeat' split
  · rfl
  · rfl
  · exact State.ringInterrupt_fregs _ _ _

theorem State.bulkDrain_fregs (k : Nat) (s : State) : (State.bulkDrain k s).fregs = s.fregs := by
  induction k generalizing s with
  | zero => rfl
  | succ k ih =>
    unfold State.bulkDrain
    split
    · rfl
    · split
      · rfl
      · exact ih _

theorem State.bulk_fregs (s : State) (k n : Nat) (l : Octets) : (s.bulk k n l).fregs = s.fregs := by
  unfold State.bulk
  split
  · rfl
  · exact State.bulkDrain_fregs _ _

theorem State.routeTo_fregs (s : State) (e : EvRec) (f : Nat) : (s.routeTo e f).fregs = s.fregs := by
  have ring : (if !bitOf 31 (s.fword f (Reg.HST_EVT_ROUTE e.source)).toNat then s
       else if !s.ringAdmits f (bitsOf 7 0 (s.fword f (Reg.HST_EVT_ROUTE e.source)).toNat) 3 then s.bump Fl.HST_EVT_DROP_COUNT_COUNT
       else (s.produce f (bitsOf 7 0 (s.fword f (Reg.HST_EVT_ROUTE e.source)).toNat) 3 [e.octets]).2).fregs = s.fregs :=
    State.fregs_ite rfl (State.fregs_ite (s.bumpBy_fregs _ _) (s.produce_fregs _ _ _ _))
  unfold State.routeTo
  exact State.fregs_ite ((State.msix_fregs _ _ _).trans ring) ring

theorem State.spill_fregs (s : State) : s.spill.fregs = s.fregs := by
  unfold State.spill
  exact State.fregs_ite rfl (State.bumpBy_fregs _ _ _)

theorem State.copyRecord_fregs (s : State) (e : EvRec) : (s.copyRecord e).fregs = s.fregs := by
  unfold State.copyRecord
  split
  · exact s.bulk_fregs _ _ _
  · rfl

theorem State.route_fregs (s : State) (e : EvRec) : (s.route e).fregs = s.fregs :=
  foldl_keeps (·.fregs) _ (fun s f => s.routeTo_fregs e f) _ s

theorem State.record_fregs (s : State) (k u : Nat) (d : Octets) : (s.record k u d).fregs = s.fregs := by
  have push : (s.pushRecord k (s.recordUnit u) d).fregs = s.fregs := by
    unfold State.pushRecord
    rw [State.copyRecord_fregs, State.route_fregs, State.spill_fregs]
  unfold State.record
  dsimp only
  split
  · split
    · unfold State.repeatRecord
      rw [State.copyRecord_fregs, State.route_fregs]
    · exact push
  · exact push

/-- A raise changes no register of a function. -/
theorem State.raise_fregs (s : State) (k : Nat) (d : Octets) : (s.raise k d).fregs = s.fregs := by
  unfold State.raise
  dsimp only
  repeat' split
  · exact s.bulk_fregs _ _ _
  · exact s.record_fregs _ _ _
  · exact s.record_fregs _ _ _

/-! ### The capture registers (R354) -/

theorem State.fget_setFword_ne (s : State) (f a : Nat) (v : Word) (x : Fld) (h : x.addr ≠ a) :
    (s.setFword f a v).fget f x = s.fget f x := by
  unfold State.fget
  rw [s.fword_setFword_ne v (by unfold funcKey; omega)]

/-- A field of a function's register holds what was put into it. -/
theorem State.fget_fput_same (s : State) (f : Nat) (x : Fld) (v : Nat) (h : x.lo ≤ x.hi) (hw : x.hi < 32) :
    (s.fput f x v).fget f x = v % 2 ^ (x.hi + 1 - x.lo) := by
  unfold State.fget State.fput
  rw [State.fword_setFword_same, BitVec.toNat_ofNat, Nat.mod_eq_of_lt (putBits_lt h hw (s.fword f x.addr).isLt v), bitsOf_putBits_same h]

/-- A put into a field beside it leaves a field of a function's register alone. -/
theorem State.fget_fput_beside (s : State) (f : Nat) (x y : Fld) (v : Nat) (h : x.lo ≤ x.hi) (hw : x.hi < 32) (ha : y.addr = x.addr)
    (hb : y.hi < x.lo ∨ x.hi < y.lo) : (s.fput f x v).fget f y = s.fget f y := by
  unfold State.fget State.fput
  rw [ha, State.fword_setFword_same, BitVec.toNat_ofNat, Nat.mod_eq_of_lt (putBits_lt h hw (s.fword f x.addr).isLt v)]
  rcases hb with hb | hb
  · exact bitsOf_putBits_below h hb _ _
  · exact bitsOf_putBits_above h hb _ _

/-- The first capture since STICKY was cleared shows its reason and its address. -/
theorem captured_capture (s : State) (f : Fin 4) (a : Nat) (w : WswReason) (h : s.fget f.val Fl.HST_WSW_STATUS_STICKY = 0)
    (ha : a < 2 ^ 22) : captured f a w (s.capture f.val a w) := by
  have hs : s.capture f.val a w = ((((s.fput f Fl.HST_WSW_STATUS_STICKY 1).fput f Fl.HST_WSW_STATUS_REASON w.code).fput f
      Fl.HST_WSW_ADDR_ADDR a).raise 422 (le 1 f.val)) := by
    unfold State.capture
    rw [if_neg (by omega)]
  have keep : ∀ x, (s.capture f.val a w).fget f x = (((s.fput f Fl.HST_WSW_STATUS_STICKY 1).fput f
      Fl.HST_WSW_STATUS_REASON w.code).fput f Fl.HST_WSW_ADDR_ADDR a).fget f x := by
    intro x
    rw [hs]
    unfold State.fget State.fword
    rw [State.raise_fregs]
  have other : ∀ (t : State) (x : Fld), x.addr ≠ Fl.HST_WSW_ADDR_ADDR.addr →
      (t.fput f Fl.HST_WSW_ADDR_ADDR a).fget f x = t.fget f x := fun t x hx => t.fget_setFword_ne _ _ _ _ hx
  refine ⟨?_, ?_, ?_⟩
  · rw [keep, other _ _ (by decide), State.fget_fput_beside _ _ Fl.HST_WSW_STATUS_REASON Fl.HST_WSW_STATUS_STICKY _ (by decide)
      (by decide) rfl (by decide),
      State.fget_fput_same _ _ Fl.HST_WSW_STATUS_STICKY _ (by decide) (by decide)]
    rfl
  · rw [keep, other _ _ (by decide), State.fget_fput_same _ _ Fl.HST_WSW_STATUS_REASON _ (by decide) (by decide)]
    cases w <;> rfl
  · rw [keep, State.fget_fput_same _ _ Fl.HST_WSW_ADDR_ADDR _ (by decide) (by decide)]
    exact Nat.mod_eq_of_lt ha

theorem State.capture_counts (s : State) (f a : Nat) (w : WswReason) : Counts s (s.capture f a w) := by
  unfold State.capture
  dsimp only
  split
  · exact Counts.of_regs (State.fput_regs _ _ _ _)
  · refine Counts.trans (Counts.of_regs ?_) (State.raise_counts _ _ _)
    rw [State.fput_regs, State.fput_regs, State.fput_regs]

/-! ### From the bus to the register -/

/-- What the row of a register says when the owner's write of it follows the common rules alone. -/
structure CommonRow (a : Nat) (r : RegRow) : Prop where
  row : regRow a = some r
  aligned : a % 4 = 0
  noRule : singular a = false
  noCtrl : (hasHeader (a / 0x10000) && a % 0x10000 == 0) = false
  noProfile : (hasHeader (a / 0x10000) && a % 0x10000 == 4) = false
  noDelivery : a ≠ Reg.REC_DELIVERY
  noW1c : (r.fields.all fun x => x.acc != .w1c) = true
  noRing : ¬(Reg.HST_RING_CFG ≤ a ∧ a ≤ Reg.HST_RING_WB_HI)
  owner : r.owned = true
  shared : r.perFunc = false
  noExpertEn : a ≠ Reg.GLB_EXPERT_EN

/-- An access that reaches a register of the owner, in a unit that takes writes. -/
theorem ownerReaches_iff (f : Fin 4) (a : Nat) (s : State) : ownerReaches f a s = true ↔
    s.present f.val = true ∧ (s.hung.any fun h => h.func == f.val) = false ∧ s.hangs a = false ∧ s.otp.inReset = false
      ∧ s.decommissioned = false ∧ s.isOwner f.val = true ∧ s.standbyOrHold = false := by
  simp [ownerReaches, reaches, and_assoc]

theorem State.hostWrite_of_ownerReaches {s : State} {f : Fin 4} {a : Nat} (v : Word) (h : ownerReaches f a s = true) (ha : a % 4 = 0) :
    s.hostWrite f a v = s.writeWord f a v := by
  obtain ⟨hp, hh, hg, hr, hd, -, -⟩ := (ownerReaches_iff f a s).1 h
  unfold State.hostWrite State.busAccess State.access
  simp [hp, hh, hg, hr, hd, ha]

theorem State.writeWord_of_common {a : Nat} {r : RegRow} (h : CommonRow a r) (s : State) (f : Fin 4) (v : Word) :
    s.writeWord f a v = s.judgedWrite f.val a v r := by
  have hs := h.noRule
  simp only [singular, List.contains_cons, List.contains_nil, Bool.or_false, Bool.or_eq_false_iff, beq_eq_false_iff_ne, ne_eq] at hs
  obtain ⟨h1, h2, h3, h4, h5, h6, h7, h8⟩ := hs
  unfold State.writeWord
  simp [h.row, h1, h2, h3, h4, h5, h6, h7, h8]

/-- A write that a common rule refuses is lost, with its reason captured. -/
theorem State.judgedWrite_refused {s : State} {f a : Nat} {v : Word} {r : RegRow} {w : WswReason} (h : s.writeRefusal f a v r = some w)
    (hp : pairLo a = none) : s.judgedWrite f a v r = s.capture f a w := by
  simp [State.judgedWrite, h, State.dropPair, hp]

/-- A write that every rule lets through. -/
theorem State.judgedWrite_accepted {s : State} {f a : Nat} {v : Word} {r : RegRow} (h : s.writeRefusal f a v r = none)
    (he : s.carriesExpert a v r = false) : s.judgedWrite f a v r = s.acceptWord f a v r := by
  simp [State.judgedWrite, h, he]

/-- A write to expert fields without EN is captured, and its other fields are taken. -/
theorem State.judgedWrite_noExpert {s : State} {f a : Nat} {v : Word} {r : RegRow} (h : s.writeRefusal f a v r = none)
    (he : s.carriesExpert a v r = true) : s.judgedWrite f a v r = (s.capture f a .noExpert).acceptWord f a v r := by
  simp [State.judgedWrite, h, he]

theorem State.carriesExpert_of_basic (s : State) (a : Nat) (v : Word) {r : RegRow} (h : (r.fields.any (·.expert)) = false) :
    s.carriesExpert a v r = false := by
  rw [List.any_eq_false] at h
  unfold State.carriesExpert
  rw [Bool.and_eq_false_iff, List.any_eq_false]
  exact .inr fun x hx => by simp [h x hx]

/-- Every value of a field of the row is a permitted one. -/
def RegRow.anyValue (r : RegRow) : Bool := r.fields.all fun x => x.least == 0 && decide (2 ^ (x.hi + 1 - x.lo) ≤ x.most + 1)

/-- The value that a write gives a field lies in its range. -/
theorem CommonRow.reservedIn_eq_false {a : Nat} {r : RegRow} (h : CommonRow a r) (v : Word) (en : Bool)
    (hv : ∀ x ∈ r.fields, x.held = true → x.least ≤ x.of v ∧ x.of v ≤ x.most) : r.reservedIn a v en = false := by
  have h4 : (a % 0x10000 == 4 && hasHeader (a / 0x10000)) = false := (Bool.and_comm _ _).trans h.noProfile
  have hf : (r.fields.any fun x => x.held && (!x.expert || en) && (decide (x.of v < x.least) || decide (x.most < x.of v))) = false := by
    rw [List.any_eq_false]
    intro x hx
    cases hh : x.held with
    | false => simp
    | true =>
      obtain ⟨h1, h2⟩ := hv x hx hh
      simp [Nat.not_lt.2 h1, Nat.not_lt.2 h2]
  unfold RegRow.reservedIn
  rw [hf, h4, beq_eq_false_iff_ne.2 h.noDelivery]
  rfl

theorem CommonRow.reservedIn_of_anyValue {a : Nat} {r : RegRow} (h : CommonRow a r) (ho : r.anyValue = true) (v : Word) (en : Bool) :
    r.reservedIn a v en = false := by
  refine h.reservedIn_eq_false v en fun x hx _ => ?_
  have hx := List.all_eq_true.1 ho x hx
  simp only [Bool.and_eq_true, beq_iff_eq, decide_eq_true_eq] at hx
  have := bitsOf_lt x.hi x.lo v.toNat
  unfold FieldRow.of
  omega

/-- The owner's write is judged by the state of the block alone, once its seal is open and its values are permitted. -/
theorem State.writeRefusal_of_owner {s : State} {f : Fin 4} {a : Nat} {v : Word} {r : RegRow} (h : ownerReaches f a s = true)
    (hs : r.sealedFields = false ∨ s.flag Fl.SAF_PINS_SEAL_OPEN = true) (hv : ∀ en, r.reservedIn a v en = false) :
    s.writeRefusal f.val a v r = if s.writeBlocked f.val a v r.owned then some .blockState else none := by
  obtain ⟨-, -, -, -, -, ho, -⟩ := (ownerReaches_iff f a s).1 h
  have hs : (r.sealedFields && !s.flag Fl.SAF_PINS_SEAL_OPEN) = false := by
    rcases hs with e | e <;> simp [e]
  unfold State.writeRefusal
  simp [ho, hs, hv]

/-- The state of the block, as far as it forbids a write of the owner. -/
theorem CommonRow.writeBlocked_eq {a : Nat} {r : RegRow} (h : CommonRow a r) {s : State} {f : Fin 4} (ho : ownerReaches f a s = true)
    (v : Word) : s.writeBlocked f.val a v r.owned =
      if a = Reg.CRS_STAGE_SEAL then !bitOf 0 v.toNat && s.flag Fl.CRS_PLAN_STATUS_COMMIT_PENDING
      else if isSeed a then s.get Fl.MTB_OCCUPANCY_ENTRIES != 0
      else if a = Reg.REC_BILL_CFG then s.get Fl.MTB_OCCUPANCY_ENTRIES != 0 && v.toNat % 4 != s.get Fl.REC_BILL_CFG_RES
      else false := by
  obtain ⟨-, -, -, -, -, -, hs⟩ := (ownerReaches_iff f a s).1 ho
  unfold State.writeBlocked
  simp only [hs, Bool.and_false, h.noCtrl, if_neg h.noRing, Bool.false_eq_true, if_false]

/-! ### An accepted write -/

/-- Nothing of the row is cleared by a 1 written to it. -/
theorem CommonRow.cleared_eq {a : Nat} {r : RegRow} (h : CommonRow a r) (old v : Word) : r.cleared a old v = old := by
  have hf : ∀ (l : List FieldRow) (n : Nat), (l.all fun x => x.acc != .w1c) = true → l.foldl (fun n x =>
      if x.acc == .w1c then putBits x.hi x.lo n (if a = Reg.MTB_STASH ∧ x.of v ≠ 0 then 0 else x.of (old &&& ~~~v)) else n) n = n := by
    intro l
    induction l with
    | nil => exact fun n _ => rfl
    | cons x l ih =>
      intro n hl
      rw [List.all_cons, Bool.and_eq_true] at hl
      have hx : (x.acc == .w1c) = false := by simpa using hl.1
      rw [List.foldl_cons, hx]
      exact ih n hl.2
  unfold RegRow.cleared
  rw [hf r.fields old.toNat h.noW1c, BitVec.ofNat_toNat, BitVec.setWidth_eq]

/-- The state with the word at `a` written over itself. -/
def State.rewritten (s : State) (a : Nat) : State := s.setWord a (s.word a)

@[simp] theorem State.rewritten_word (s : State) (a b : Nat) : (s.rewritten a).word b = s.word b := by
  unfold State.rewritten
  by_cases h : b = a
  · subst h; exact s.word_setWord_same _ _
  · exact s.word_setWord_ne _ h

@[simp] theorem State.rewritten_get (s : State) (a : Nat) (f : Fld) : (s.rewritten a).get f = s.get f := by
  unfold State.get
  rw [State.rewritten_word]

@[simp] theorem State.rewritten_flag (s : State) (a : Nat) (f : Fld) : (s.rewritten a).flag f = s.flag f := by
  unfold State.flag
  rw [State.rewritten_get]

theorem CommonRow.acceptWord_eq {a : Nat} {r : RegRow} (h : CommonRow a r) (hp : pairLo a = none) (s : State) (f : Nat) (v : Word) :
    s.acceptWord f a v r = (s.rewritten a).ownedWrite f a v r := by
  have hl : pairLo a ≠ some a := by rw [hp]; exact nofun
  have hi : a ≠ Reg.MTB_SHADOW_HI := by rintro rfl; exact absurd hp (by decide)
  unfold State.acceptWord
  simp only [h.cleared_eq, h.shared, h.owner, if_neg hl, if_neg hi, if_neg h.noRing, Bool.false_eq_true, if_false, if_true]
  rfl

theorem State.mirrors_eq_false {s : State} (a : Nat) (h : s.get Fl.RDG_STATE_STATE ≠ 1) : s.mirrors a = false := by
  simp [State.mirrors, h]

/-- In a unit that is not ACTIVE the basic fields are taken at once, or at the boundary for an electrical mode, and the expert
fields at the boundary (R39). -/
theorem CommonRow.ownedWrite_eq {a : Nat} {r : RegRow} (h : CommonRow a r) {s : State} (hs : s.get Fl.RDG_STATE_STATE ≠ 1) (f : Nat)
    (v : Word) : s.ownedWrite f a v r =
      let t := if boundaryBasic a then s.deferWrites [.fields f a v false] else s.takeWrite f a v true false
      if s.flag Fl.GLB_EXPERT_EN_EN && r.fields.any (·.expert) then t.deferWrites [.fields f a v true] else t := by
  unfold State.ownedWrite
  simp only [h.noCtrl, h.noProfile, h.noExpertEn, s.mirrors_eq_false a hs, Bool.false_eq_true, if_false]

theorem State.takeWrite_seed {a : Nat} (h : isSeed a = true) (s : State) (f : Nat) (v : Word) (b : Bool) :
    s.takeWrite f a v b false = s := by
  unfold State.takeWrite
  split
  · rfl
  · simp [h]

/-- The basic fields of a register hold what was written to it. -/
def State.takeBasic (s : State) (a : Nat) (r : RegRow) (v : Word) : State :=
  { s.setWord a (r.merge (fun x => !x.expert) (s.word a) v) with arc := { s.arc with settingsDirty := true } }

@[simp] theorem State.takeBasic_word_same (s : State) (a : Nat) (r : RegRow) (v : Word) :
    (s.takeBasic a r v).word a = r.merge (fun x => !x.expert) (s.word a) v := s.word_setWord_same a _

theorem State.takeBasic_word_ne (s : State) {a b : Nat} (r : RegRow) (v : Word) (h : b ≠ a) : (s.takeBasic a r v).word b = s.word b :=
  s.word_setWord_ne _ h

/-- Fields that are neither a seed nor a queue limit are taken as written, and the change has its effects. -/
theorem State.takeWrite_basic {a : Nat} {r : RegRow} (hr : regRow a = some r) (hs : isSeed a = false)
    (hq : a ≠ Reg.SWC_QLIMIT 0 ∧ a ≠ Reg.SWC_QLIMIT 1) (s : State) (f : Nat) (v : Word) :
    s.takeWrite f a v true false = (s.takeBasic a r v).afterWrite s f a := by
  have hm : (fun x : FieldRow => if x.expert then false else true) = fun x => !x.expert := by
    funext x; cases x.expert <;> rfl
  unfold State.takeWrite
  simp only [hr, hs, hq.1, hq.2, or_self, Bool.false_eq_true, if_false, Bool.false_and, hm]
  rfl

/-! ### The effects of a written register -/

theorem State.afterWrite_seal (s old : State) (f : Nat) : s.afterWrite old f Reg.CRS_STAGE_SEAL =
    s.putFlag Fl.CRS_PLAN_STATUS_SEALED (s.flag Fl.CRS_STAGE_SEAL_SEAL) := by
  unfold State.afterWrite
  rw [if_pos rfl]

theorem State.afterWrite_shadowLo (s old : State) (f : Nat) : s.afterWrite old f Reg.MTB_SHADOW_LO = s := by
  unfold State.afterWrite
  rw [if_neg (by decide), if_neg (by decide), if_neg (show ¬Reg.MTB_SHADOW_LO = Reg.REC_BILL_CFG by decide),
    if_neg (show ¬Reg.MTB_SHADOW_LO = Reg.TMP_CFG by decide),
    if_neg (show ¬(Reg.LANE_ELEC_CFG 0 ≤ Reg.MTB_SHADOW_LO ∧ Reg.MTB_SHADOW_LO < Reg.LANE_ELEC_CFG 40) by decide), ite_self]

/-- The writer of the shadow address is named; an owner keeps the shadow in use. -/
theorem State.afterWrite_shadowHi {s : State} (old : State) {f : Nat} (h : s.isOwner f = true) :
    s.afterWrite old f Reg.MTB_SHADOW_HI = { s with mtb := { s.mtb with shadowFunc := f } } := by
  have ho : ({ s with mtb := { s.mtb with shadowFunc := f } } : State).isOwner f = true := h
  unfold State.afterWrite State.shadowCheck
  rw [if_neg (by decide), if_pos rfl]
  simp only [ho, Bool.not_true, Bool.and_false, Bool.false_eq_true, if_false, ite_self]

theorem State.soffitRaise_counts (s : State) (k n : Nat) : Counts s (s.soffitRaise k n) :=
  Counts.ite (s.raise_counts _ _) (Counts.refl s)

/-- A soffit record changes no register but its own two and the counters of records. -/
theorem State.soffitRecord_word (s : State) (k x : Nat) {a : Nat} (ht : a ≠ Reg.TMP_LOG_HEAD) (hs : a ≠ Reg.TMP_SOFFIT_STATE)
    (h1 : a ≠ Reg.HST_EVT_DROP_COUNT) (h2 : a ≠ Reg.EVT_LOST_COUNT) : (s.soffitRecord k x).word a = s.word a := by
  have raised : ∀ t : State, Counts t (if k = 1 then t.soffitRaise 560 (s.get Fl.TMP_LOG_HEAD_SEQ + 1)
      else if k = 5 then t.soffitRaise 562 (s.get Fl.TMP_LOG_HEAD_SEQ + 1) else t) := fun t =>
    Counts.ite (t.soffitRaise_counts _ _) (Counts.ite (t.soffitRaise_counts _ _) (Counts.refl t))
  rw [State.soffitRecord]
  split
  · rfl
  · refine (((Counts.foldl _ (fun t r => t.soffitRaise_counts _ _) _ _).trans (raised _)) a h1 h2).trans ?_
    rw [State.putFlag, State.word_put_ne _ _ _ hs, State.word_put_ne _ _ _ ht]
    rfl

theorem State.soffitPowered_word (s : State) (k x : Nat) {a : Nat} (ht : a ≠ Reg.TMP_LOG_HEAD) (hs : a ≠ Reg.TMP_SOFFIT_STATE)
    (h1 : a ≠ Reg.HST_EVT_DROP_COUNT) (h2 : a ≠ Reg.EVT_LOST_COUNT) : (s.soffitPowered k x).word a = s.word a := by
  unfold State.soffitPowered
  split
  · exact s.soffitRecord_word k x ht hs h1 h2
  · rfl

/-- The billing resolution and the tamper configuration read what was written to them. -/
theorem State.afterWrite_sealed_word (s old : State) (f : Nat) {a : Nat} (h : a = Reg.REC_BILL_CFG ∨ a = Reg.TMP_CFG) :
    (s.afterWrite old f a).word a = s.word a := by
  unfold State.afterWrite
  rcases h with rfl | rfl
  · rw [if_neg (by decide), if_neg (by decide), if_pos rfl, apply_ite (State.word · Reg.REC_BILL_CFG),
      State.soffitPowered_word _ _ _ (by decide) (by decide) (by decide) (by decide), ite_self]
  · rw [if_neg (by decide), if_neg (by decide), if_neg (show ¬Reg.TMP_CFG = Reg.REC_BILL_CFG by decide), if_pos rfl,
      apply_ite (State.word · Reg.TMP_CFG), State.soffitPowered_word _ _ _ (by decide) (by decide) (by decide) (by decide), ite_self]

end Sys2Proof.Machine
end

section
/-!
The register writes with a rule of their own: the seal of staging, the seeds, the shadow address, the sealed fields, electrical modes.
-/

namespace Sys2Proof.Machine

set_option Elab.async false

/-! ### Reading a merged word -/

/-- One field's part in writing a word to a register. -/
def FieldRow.mergeInto (p : FieldRow → Bool) (v : Word) (n : Nat) (x : FieldRow) : Nat :=
  if p x && x.held then putBits x.hi x.lo n (x.of v) else n

/-- The fields of a row lie in a word. -/
def FieldRow.fits (x : FieldRow) : Bool := decide (x.lo ≤ x.hi) && decide (x.hi < 32)

/-- Two fields share no bit. -/
@[reducible] def FieldRow.beside (x y : FieldRow) : Prop := x.hi < y.lo ∨ y.hi < x.lo

theorem RegRow.merge_eq (r : RegRow) (p : FieldRow → Bool) (old v : Word) :
    r.merge p old v = BitVec.ofNat 32 (r.fields.foldl (FieldRow.mergeInto p v) old.toNat) := rfl

theorem FieldRow.mergeInto_lt {x : FieldRow} (hx : x.fits = true) (p : FieldRow → Bool) (v : Word) {n : Nat} (hn : n < 2 ^ 32) :
    x.mergeInto p v n < 2 ^ 32 := by
  simp only [FieldRow.fits, Bool.and_eq_true, decide_eq_true_eq] at hx
  unfold FieldRow.mergeInto
  split
  · exact putBits_lt hx.1 hx.2 hn _
  · exact hn

theorem foldl_mergeInto_lt (p : FieldRow → Bool) (v : Word) (l : List FieldRow) (hl : ∀ x ∈ l, x.fits = true) {n : Nat}
    (hn : n < 2 ^ 32) : l.foldl (FieldRow.mergeInto p v) n < 2 ^ 32 := by
  induction l generalizing n with
  | nil => exact hn
  | cons x l ih =>
    rw [List.forall_mem_cons] at hl
    exact ih hl.2 (FieldRow.mergeInto_lt hl.1 p v hn)

theorem FieldRow.mergeInto_beside {x y : FieldRow} (hy : y.fits = true) (h : x.beside y) (p : FieldRow → Bool) (v : Word) (n : Nat) :
    bitsOf x.hi x.lo (y.mergeInto p v n) = bitsOf x.hi x.lo n := by
  simp only [FieldRow.fits, Bool.and_eq_true, decide_eq_true_eq] at hy
  unfold FieldRow.mergeInto
  split
  · rcases h with h | h
    · exact bitsOf_putBits_below hy.1 h _ _
    · exact bitsOf_putBits_above hy.1 h _ _
  · rfl

theorem foldl_mergeInto_beside (p : FieldRow → Bool) (v : Word) (x : FieldRow) (l : List FieldRow)
    (hl : ∀ y ∈ l, y.fits = true ∧ x.beside y) (n : Nat) :
    bitsOf x.hi x.lo (l.foldl (FieldRow.mergeInto p v) n) = bitsOf x.hi x.lo n := by
  induction l generalizing n with
  | nil => rfl
  | cons y l ih =>
    rw [List.forall_mem_cons] at hl
    rw [List.foldl_cons, ih hl.2, FieldRow.mergeInto_beside hl.1.1 hl.1.2]

theorem foldl_mergeInto_of {p : FieldRow → Bool} (v : Word) {x : FieldRow} (hx : (p x && x.held) = true) {l : List FieldRow}
    (hl : ∀ y ∈ l, y.fits = true) (hd : l.Pairwise FieldRow.beside) (hm : x ∈ l) (n : Nat) :
    bitsOf x.hi x.lo (l.foldl (FieldRow.mergeInto p v) n) = x.of v := by
  induction l generalizing n with
  | nil => cases hm
  | cons y l ih =>
    rw [List.forall_mem_cons] at hl
    rw [List.pairwise_cons] at hd
    rw [List.foldl_cons]
    rcases List.mem_cons.1 hm with rfl | hm
    · rw [foldl_mergeInto_beside p v x l fun z hz => ⟨hl.2 z hz, hd.1 z hz⟩, FieldRow.mergeInto, if_pos hx]
      have hf := hl.1
      simp only [FieldRow.fits, Bool.and_eq_true, decide_eq_true_eq] at hf
      rw [bitsOf_putBits_same hf.1, FieldRow.of, Nat.mod_eq_of_lt (bitsOf_lt _ _ _)]
    · exact ih hl.2 hd.2 hm _

/-- The fields of a row lie in its word, and share no bit. -/
@[reducible] def RegRow.apart (r : RegRow) : Prop := (∀ x ∈ r.fields, x.fits = true) ∧ r.fields.Pairwise FieldRow.beside

/-- A chosen field of a merged word reads what was written. -/
theorem RegRow.of_merge {r : RegRow} (hr : r.apart) {p : FieldRow → Bool} {x : FieldRow} (hm : x ∈ r.fields)
    (hx : (p x && x.held) = true) (old v : Word) : x.of (r.merge p old v) = x.of v := by
  obtain ⟨hf, hd⟩ := hr
  have hlt := foldl_mergeInto_lt p v r.fields hf old.isLt
  rw [RegRow.merge_eq, FieldRow.of, BitVec.toNat_ofNat, Nat.mod_eq_of_lt hlt]
  exact foldl_mergeInto_of v hx hf hd hm _

/-! ### The owner's write -/

/-- The state of the unit and the values written let the owner's write through. -/
theorem State.hostWrite_accepted {s : State} {f : Fin 4} {a : Nat} {v : Word} {r : RegRow} (h : CommonRow a r)
    (ho : ownerReaches f a s = true) (hs : r.sealedFields = false ∨ s.flag Fl.SAF_PINS_SEAL_OPEN = true)
    (hv : ∀ en, r.reservedIn a v en = false) (hb : s.writeBlocked f.val a v r.owned = false) (he : s.carriesExpert a v r = false) :
    s.hostWrite f a v = s.acceptWord f.val a v r := by
  have hn : s.writeRefusal f.val a v r = none := by rw [State.writeRefusal_of_owner ho hs hv, hb]; rfl
  rw [State.hostWrite_of_ownerReaches v ho h.aligned, State.writeWord_of_common h, State.judgedWrite_accepted hn he]

/-- A write of basic fields alone, outside ACTIVE: they hold the value, and the change has its effects. -/
theorem State.hostWrite_basic {s : State} {f : Fin 4} {a : Nat} {v : Word} {r : RegRow} (h : CommonRow a r)
    (ho : ownerReaches f a s = true) (hr : s.get Fl.RDG_STATE_STATE ≠ 1)
    (hs : r.sealedFields = false ∨ s.flag Fl.SAF_PINS_SEAL_OPEN = true)
    (hv : r.anyValue = true) (hb : s.writeBlocked f.val a v r.owned = false)
    (hx : r.fields.any (·.expert) = false) (hp : pairLo a = none) (hl : boundaryBasic a = false) (hseed : isSeed a = false)
    (hq : a ≠ Reg.SWC_QLIMIT 0 ∧ a ≠ Reg.SWC_QLIMIT 1) :
    s.hostWrite f a v = ((s.rewritten a).takeBasic a r v).afterWrite (s.rewritten a) f.val a := by
  have hr' : (s.rewritten a).get Fl.RDG_STATE_STATE ≠ 1 := by rwa [State.rewritten_get]
  rw [State.hostWrite_accepted h ho hs (h.reservedIn_of_anyValue hv v) hb (s.carriesExpert_of_basic a v hx), h.acceptWord_eq hp,
    h.ownedWrite_eq hr']
  simp only [hx, hl, Bool.and_false, Bool.false_eq_true, if_false]
  exact State.takeWrite_basic h.row hseed hq _ _ _

theorem State.takeBasic_get {s : State} {a : Nat} {r : RegRow} (hr : r.apart) {x : FieldRow} (hm : x ∈ r.fields)
    (hx : (!x.expert && x.held) = true) (v : Word) : (s.takeBasic a r v).get ⟨a, x.hi, x.lo⟩ = x.of v := by
  rw [State.get, State.takeBasic_word_same]
  exact RegRow.of_merge hr hm hx _ _

/-! ### The seal of staging (R76) -/

/-- The row of CRS_STAGE_SEAL. -/
def stageSealRow : RegRow := ⟨44, 0, 1, false, [⟨0, 0, .rwo, 0, false, 0, 1⟩]⟩

theorem stageSeal_common : CommonRow Reg.CRS_STAGE_SEAL stageSealRow := by
  constructor <;> decide

theorem stageSeal_blocked {f : Fin 4} {s : State} (ho : ownerReaches f Reg.CRS_STAGE_SEAL s = true) (x : Bool) :
    s.writeBlocked f.val Reg.CRS_STAGE_SEAL (BitVec.ofNat 32 (b2n x)) stageSealRow.owned =
      (!x && s.flag Fl.CRS_PLAN_STATUS_COMMIT_PENDING) := by
  rw [stageSeal_common.writeBlocked_eq ho, if_pos rfl]
  cases x <;> rfl

theorem stageSealWrite_taken (f : Fin 4) (x : Bool) (s : State) (ho : ownerReaches f Reg.CRS_STAGE_SEAL s = true)
    (hr : s.get Fl.RDG_STATE_STATE ≠ 1) (h : x = true ∨ s.flag Fl.CRS_PLAN_STATUS_COMMIT_PENDING = false) :
    Ends (.stageSealWrite f x) s fun t => t.flag Fl.CRS_STAGE_SEAL_SEAL = x ∧ t.flag Fl.CRS_PLAN_STATUS_SEALED = x := by
  refine ⟨_, rfl, ?_⟩
  have hb : s.writeBlocked f.val Reg.CRS_STAGE_SEAL (BitVec.ofNat 32 (b2n x)) stageSealRow.owned = false := by
    rw [stageSeal_blocked ho]
    rcases h with rfl | h
    · rfl
    · rw [h, Bool.and_false]
  have hv : ∀ s : State, (s.takeBasic Reg.CRS_STAGE_SEAL stageSealRow (BitVec.ofNat 32 (b2n x))).flag Fl.CRS_STAGE_SEAL_SEAL = x := by
    intro s
    have := s.takeBasic_get (a := Reg.CRS_STAGE_SEAL) (r := stageSealRow) (x := ⟨0, 0, .rwo, 0, false, 0, 1⟩) (by decide) (by decide)
      rfl (BitVec.ofNat 32 (b2n x))
    unfold State.flag
    refine (congrArg (· != 0) this).trans ?_
    cases x <;> decide
  rw [State.hostWrite_basic stageSeal_common ho hr (.inl rfl) rfl hb rfl rfl rfl rfl (by decide), State.afterWrite_seal, hv]
  refine ⟨?_, State.flag_putFlag_same _ _ _ rfl (by decide)⟩
  rw [State.flag, State.putFlag, State.get_put_ne _ _ _ _ (by decide)]
  exact hv _

theorem stageSealWrite_blocked (f : Fin 4) (s : State) (ho : ownerReaches f Reg.CRS_STAGE_SEAL s = true)
    (hp : s.flag Fl.CRS_PLAN_STATUS_COMMIT_PENDING = true) (hs : s.fget f.val Fl.HST_WSW_STATUS_STICKY = 0) :
    Ends (.stageSealWrite f false) s fun t => Counts s t ∧ captured f Reg.CRS_STAGE_SEAL .blockState t := by
  refine ⟨_, rfl, ?_⟩
  have hw : s.writeRefusal f.val Reg.CRS_STAGE_SEAL (BitVec.ofNat 32 (b2n false)) stageSealRow = some .blockState := by
    rw [State.writeRefusal_of_owner ho (.inl rfl) (stageSeal_common.reservedIn_of_anyValue rfl _), stageSeal_blocked ho, hp]
    rfl
  rw [State.hostWrite_of_ownerReaches _ ho (by decide), State.writeWord_of_common stageSeal_common, State.judgedWrite_refused hw rfl]
  exact ⟨s.capture_counts _ _ _, captured_capture s f _ _ hs (by decide)⟩

/-! ### The seeds of the meter table (R190) -/

/-- The row of a seed. -/
def seedRow (off : Nat) : RegRow := ⟨off, 0, 1, false, [⟨31, 0, .rwo, 0, true, 0, 4294967295⟩]⟩

theorem seed0_common : CommonRow Reg.MTB_HASH_SEED0 (seedRow 16) := by
  constructor <;> decide

theorem seed1_common : CommonRow Reg.MTB_HASH_SEED1 (seedRow 20) := by
  constructor <;> decide

theorem bitsOf_word (v : Word) : bitsOf 31 0 v.toNat = v.toNat := by
  have := v.isLt
  unfold bitsOf
  omega

/-- Without EN a seed that differs from the register's is one that only an expert writes. -/
theorem seed_carriesExpert (s : State) (a off : Nat) (v : Word) : s.carriesExpert a v (seedRow off) =
    (!s.flag Fl.GLB_EXPERT_EN_EN && v != s.word a) := by
  have h : (v.toNat != (s.word a).toNat) = (v != s.word a) := by
    rw [Bool.eq_iff_iff, bne_iff_ne, bne_iff_ne, ne_eq, ne_eq, BitVec.toNat_inj]
  simp only [State.carriesExpert, seedRow, List.any_cons, List.any_nil, Bool.true_and, Bool.or_false, FieldRow.of, bitsOf_word, h]

/-- With an empty table a seed is not blocked. -/
theorem seed_writeRefusal {f : Fin 4} {s : State} {a off : Nat} (h : CommonRow a (seedRow off)) (hd : isSeed a = true)
    (hn : a ≠ Reg.CRS_STAGE_SEAL) (ho : ownerReaches f a s = true) (he : s.get Fl.MTB_OCCUPANCY_ENTRIES = 0) (v : Word) :
    s.writeRefusal f.val a v (seedRow off) = none := by
  rw [State.writeRefusal_of_owner ho (.inl rfl) (h.reservedIn_of_anyValue rfl v), h.writeBlocked_eq ho v, if_neg hn, if_pos hd, he]
  rfl

/-- An accepted seed waits for the boundary under EN, and is left out without EN. -/
theorem seed_acceptWord {s : State} {a off : Nat} (h : CommonRow a (seedRow off)) (hd : isSeed a = true) (hp : pairLo a = none)
    (hl : boundaryBasic a = false) (hr : s.get Fl.RDG_STATE_STATE ≠ 1) (f : Nat) (v : Word) :
    s.acceptWord f a v (seedRow off) =
      if s.flag Fl.GLB_EXPERT_EN_EN then (s.rewritten a).deferWrites [.fields f a v true] else s.rewritten a := by
  have hr' : (s.rewritten a).get Fl.RDG_STATE_STATE ≠ 1 := by rwa [State.rewritten_get]
  have hx : ((seedRow off).fields.any fun x => x.expert) = true := rfl
  rw [h.acceptWord_eq hp, h.ownedWrite_eq hr']
  simp only [hl, hx, State.rewritten_flag, State.takeWrite_seed hd, Bool.and_true, Bool.false_eq_true, if_false]

theorem hashSeedWrite_expert (f : Fin 4) (seed : Word) (s : State) (ho : ownerReaches f Reg.MTB_HASH_SEED1 s = true)
    (hr : s.get Fl.RDG_STATE_STATE ≠ 1) (hx : s.flag Fl.GLB_EXPERT_EN_EN = true) (he : s.get Fl.MTB_OCCUPANCY_ENTRIES = 0) :
    Ends (.hashSeedWrite f true seed) s fun t => t.word Reg.MTB_HASH_SEED1 = s.word Reg.MTB_HASH_SEED1
      ∧ t.cfgPend = s.cfgPend ++ [.fields f.val Reg.MTB_HASH_SEED1 seed true] := by
  refine ⟨s.hostWrite f Reg.MTB_HASH_SEED1 seed, rfl, ?_⟩
  have hc : s.carriesExpert Reg.MTB_HASH_SEED1 seed (seedRow 20) = false := by rw [seed_carriesExpert, hx]; rfl
  rw [State.hostWrite_of_ownerReaches _ ho (by decide), State.writeWord_of_common seed1_common,
    State.judgedWrite_accepted (seed_writeRefusal seed1_common rfl (by decide) ho he _) hc,
    seed_acceptWord seed1_common rfl rfl rfl hr, if_pos hx]
  exact ⟨s.rewritten_word _ _, rfl⟩

theorem hashSeedWrite_noExpert (f : Fin 4) (seed : Word) (s : State) (ho : ownerReaches f Reg.MTB_HASH_SEED0 s = true)
    (hr : s.get Fl.RDG_STATE_STATE ≠ 1) (hx : s.flag Fl.GLB_EXPERT_EN_EN = false) (he : s.get Fl.MTB_OCCUPANCY_ENTRIES = 0)
    (hv : seed ≠ s.word Reg.MTB_HASH_SEED0) (hs : s.fget f.val Fl.HST_WSW_STATUS_STICKY = 0) :
    Ends (.hashSeedWrite f false seed) s fun t => t.word Reg.MTB_HASH_SEED0 = s.word Reg.MTB_HASH_SEED0 ∧ t.cfgPend = s.cfgPend
      ∧ captured f Reg.MTB_HASH_SEED0 .noExpert t := by
  refine ⟨s.hostWrite f Reg.MTB_HASH_SEED0 seed, rfl, ?_⟩
  have hc : s.carriesExpert Reg.MTB_HASH_SEED0 seed (seedRow 16) = true := by
    rw [seed_carriesExpert, hx, bne_iff_ne.2 hv]; rfl
  have keep := s.capture_counts f.val Reg.MTB_HASH_SEED0 .noExpert
  have hr' : (s.capture f.val Reg.MTB_HASH_SEED0 .noExpert).get Fl.RDG_STATE_STATE ≠ 1 := by
    rwa [keep.get _ (by decide) (by decide)]
  have hx' : (s.capture f.val Reg.MTB_HASH_SEED0 .noExpert).flag Fl.GLB_EXPERT_EN_EN = false := by
    rw [State.flag, keep.get _ (by decide) (by decide)]
    exact hx
  rw [State.hostWrite_of_ownerReaches _ ho (by decide), State.writeWord_of_common seed0_common,
    State.judgedWrite_noExpert (seed_writeRefusal seed0_common rfl (by decide) ho he _) hc,
    seed_acceptWord seed0_common rfl rfl rfl hr', hx', if_neg Bool.false_ne_true]
  refine ⟨?_, ?_, ?_⟩
  · rw [State.rewritten_word]
    exact keep _ (by decide) (by decide)
  · exact s.capture_cfgPend _ _ _
  · exact captured_capture s f _ _ hs (by decide)

/-! ### The shadow address (R17, R211) -/

/-- The rows of the shadow address. -/
def shadowLoRow : RegRow := ⟨56, 0, 1, false, [⟨31, 12, .rwo, 0, false, 0, 1048575⟩, ⟨0, 0, .rwo, 0, false, 0, 1⟩]⟩
def shadowHiRow : RegRow := ⟨60, 0, 1, false, [⟨31, 0, .rwo, 0, false, 0, 4294967295⟩]⟩

theorem shadowLo_common : CommonRow Reg.MTB_SHADOW_LO shadowLoRow := by
  constructor <;> decide

theorem shadowHi_common : CommonRow Reg.MTB_SHADOW_HI shadowHiRow := by
  constructor <;> decide

theorem FMap.key_ne_of_mem_erase {α : Type} (m : FMap α) (k : Nat) : ∀ p ∈ FMap.erase m k, p.1 ≠ k := by
  induction m with
  | nil => exact fun p hp => absurd hp List.not_mem_nil
  | cons q m ih =>
    unfold FMap.erase
    split
    · exact ih
    · next h =>
      intro p hp
      rcases List.mem_cons.1 hp with rfl | hp
      · exact h
      · exact ih p hp

theorem FMap.find_place {α : Type} (m : FMap α) (k : Nat) (v : α) (h : ∀ p ∈ m, p.1 ≠ k) :
    (FMap.place m k v).find? (fun p => p.1 == k) = some (k, v) := by
  induction m with
  | nil => simp [FMap.place]
  | cons q m ih =>
    rw [List.forall_mem_cons] at h
    unfold FMap.place
    split
    · simp
    · rw [List.find?_cons_of_neg (by simpa using h.1)]
      exact ih h.2

/-- The part of a pair that is held is found again. -/
theorem State.holdLo_find (s : State) (f : Nat) (v : Word) : (s.holdLo f v).held.find? (fun p => p.1 == f) = some (f, v) :=
  FMap.find_place _ _ _ (FMap.key_ne_of_mem_erase _ _)

theorem State.takeHeld_of_find {s : State} {f : Nat} {v : Word} (h : s.held.find? (fun p => p.1 == f) = some (f, v)) (w : Word) :
    s.takeHeld f w = (v, { s with held := FMap.erase s.held f }) := by
  unfold State.takeHeld
  rw [h]

/-- What the reach of a write depends on. -/
theorem ownerReaches_congr {s t : State} (hh : t.hst = s.hst) (hu : t.hung = s.hung) (hot : t.otp = s.otp)
    (hg : ∀ x, t.get x = s.get x) (f : Fin 4) (a : Nat) : ownerReaches f a t = ownerReaches f a s := by
  simp only [ownerReaches, reaches, State.present, State.hangs, State.clockAlive, State.decommissioned, State.isOwner, State.owner,
    State.fn, State.standbyOrHold, hh, hu, hot, hg]

theorem shadow_unblocked {f : Fin 4} {a : Nat} {r : RegRow} (h : CommonRow a r) (ha : a = Reg.MTB_SHADOW_LO ∨ a = Reg.MTB_SHADOW_HI)
    {s : State} (ho : ownerReaches f a s = true) (v : Word) : s.writeBlocked f.val a v r.owned = false := by
  rw [h.writeBlocked_eq ho]
  rcases ha with rfl | rfl <;> rfl

/-- The lower word of the address waits for the upper one. -/
theorem hostWrite_shadowLo {f : Fin 4} {s : State} (ho : ownerReaches f Reg.MTB_SHADOW_LO s = true) (v : Word) :
    s.hostWrite f Reg.MTB_SHADOW_LO v = (s.rewritten Reg.MTB_SHADOW_LO).holdLo f.val (shadowLoRow.mask v) := by
  rw [State.hostWrite_accepted shadowLo_common ho (.inl rfl) (shadowLo_common.reservedIn_of_anyValue rfl v)
    (shadow_unblocked shadowLo_common (.inl rfl) ho v) (s.carriesExpert_of_basic _ _ rfl), State.acceptWord, shadowLo_common.cleared_eq,
    if_pos (show pairLo Reg.MTB_SHADOW_LO = some Reg.MTB_SHADOW_LO by decide)]
  rfl

/-- Ownership is read in the host block's state alone. -/
theorem State.isOwner_congr {s t : State} (h : t.hst = s.hst) (f : Nat) : t.isOwner f = s.isOwner f := by
  unfold State.isOwner State.owner State.fn
  rw [h]

theorem State.rewritten_held (s : State) (a : Nat) : (s.rewritten a).held = s.held := rfl
theorem State.rewritten_hst (s : State) (a : Nat) : (s.rewritten a).hst = s.hst := rfl
theorem State.takeBasic_hst (s : State) (a : Nat) (r : RegRow) (v : Word) : (s.takeBasic a r v).hst = s.hst := rfl

/-- The function that wrote the shadow address. -/
def State.nameShadow (s : State) (f : Nat) : State := { s with mtb := { s.mtb with shadowFunc := f } }

theorem State.dropHeld_get (s : State) (f : Nat) (x : Fld) : (s.dropHeld f).get x = s.get x := rfl
theorem State.dropHeld_hst (s : State) (f : Nat) : (s.dropHeld f).hst = s.hst := rfl
theorem State.nameShadow_word (s : State) (f a : Nat) : (s.nameShadow f).word a = s.word a := rfl
theorem State.nameShadow_shadowFunc (s : State) (f : Nat) : (s.nameShadow f).mtb.shadowFunc = f := rfl

/-- The state once both words of the shadow address have acted. -/
def State.shadowSet (s : State) (f : Nat) (lo hi : Word) : State :=
  ((((s.rewritten Reg.MTB_SHADOW_HI).dropHeld f).takeBasic Reg.MTB_SHADOW_LO shadowLoRow lo).takeBasic Reg.MTB_SHADOW_HI shadowHiRow
    hi).nameShadow f

theorem State.shadowWrite_eq {s : State} {f : Nat} {lo : Word} (hl : s.held.find? (fun p => p.1 == f) = some (f, lo))
    (hr : s.get Fl.RDG_STATE_STATE ≠ 1) (ho : s.isOwner f = true) (hi : Word) :
    (s.rewritten Reg.MTB_SHADOW_HI).shadowWrite f hi = s.shadowSet f lo hi := by
  have ht : (s.rewritten Reg.MTB_SHADOW_HI).takeHeld f ((s.rewritten Reg.MTB_SHADOW_HI).word Reg.MTB_SHADOW_LO) =
      (lo, (s.rewritten Reg.MTB_SHADOW_HI).dropHeld f) := State.takeHeld_of_find ((congrArg _ (s.rewritten_held _)).trans hl) _
  have hm : ((s.rewritten Reg.MTB_SHADOW_HI).dropHeld f).mirrors Reg.MTB_SHADOW_LO = false :=
    State.mirrors_eq_false _ (by rwa [State.dropHeld_get, State.rewritten_get])
  rw [State.shadowWrite, ht]
  dsimp only
  rw [hm, if_neg Bool.false_ne_true, State.takeWrite_basic shadowLo_common.row rfl (by decide),
    State.afterWrite_shadowLo, State.takeWrite_basic shadowHi_common.row rfl (by decide), State.afterWrite_shadowHi]
  · rfl
  · rw [State.isOwner_congr (State.takeBasic_hst ..), State.isOwner_congr (State.takeBasic_hst ..),
      State.isOwner_congr (State.dropHeld_hst ..), ← ho]
    exact State.isOwner_congr (s.rewritten_hst Reg.MTB_SHADOW_HI) f

/-- Holding the lower word changes nothing that a write's way depends on. -/
theorem State.holdLo_rewritten_get (s : State) (a f : Nat) (v : Word) (x : Fld) :
    ((s.rewritten a).holdLo f v).get x = s.get x := s.rewritten_get a x

theorem ownerReaches_holdLo (s : State) (b f : Nat) (v : Word) (g : Fin 4) (a : Nat) :
    ownerReaches g a ((s.rewritten b).holdLo f v) = ownerReaches g a s :=
  ownerReaches_congr (s := s) (t := (s.rewritten b).holdLo f v) rfl rfl rfl (s.holdLo_rewritten_get b f v) g a

/-- The upper word of the address brings the held lower one with it, and names its writer. -/
theorem hostWrite_shadowHi {f : Fin 4} {s : State} (ho : ownerReaches f Reg.MTB_SHADOW_HI s = true) (hr : s.get Fl.RDG_STATE_STATE ≠ 1)
    {lo : Word} (hl : s.held.find? (fun p => p.1 == f.val) = some (f.val, lo)) (v : Word) :
    s.hostWrite f Reg.MTB_SHADOW_HI v = s.shadowSet f.val lo v := by
  obtain ⟨-, -, -, -, -, hown, -⟩ := (ownerReaches_iff f _ s).1 ho
  rw [State.hostWrite_accepted shadowHi_common ho (.inl rfl) (shadowHi_common.reservedIn_of_anyValue rfl v)
    (shadow_unblocked shadowHi_common (.inr rfl) ho v) (s.carriesExpert_of_basic _ _ rfl), State.acceptWord, shadowHi_common.cleared_eq,
    if_neg (show ¬pairLo Reg.MTB_SHADOW_HI = some Reg.MTB_SHADOW_HI by decide), if_pos rfl, ite_self]
  exact State.shadowWrite_eq hl hr hown v

theorem shadowLo_kept : ∀ x ∈ shadowLoRow.fields, (!x.expert && x.held) = true := by decide

/-- The held word keeps each field of what was written. -/
theorem shadowLo_mask (v : Word) {x : FieldRow} (hx : x ∈ shadowLoRow.fields) : x.of (shadowLoRow.mask v) = x.of v := by
  have hh : (true && x.held) = true := by
    revert x
    decide
  exact RegRow.of_merge (by decide) hx hh _ _

/-- Each field of the lower word reads its part of the word that was held. -/
theorem State.shadowSet_lo (s : State) (f : Nat) (lo hi : Word) {x : FieldRow} (hx : x ∈ shadowLoRow.fields) :
    (s.shadowSet f lo hi).get ⟨Reg.MTB_SHADOW_LO, x.hi, x.lo⟩ = x.of lo := by
  rw [State.get, State.shadowSet, State.nameShadow_word, State.takeBasic_word_ne _ _ _ (show Reg.MTB_SHADOW_LO ≠ _ by decide)]
  exact State.takeBasic_get (by decide) hx (shadowLo_kept x hx) lo

/-- The upper word reads what was written. -/
theorem State.shadowSet_hi (s : State) (f : Nat) (lo hi : Word) : (s.shadowSet f lo hi).word Reg.MTB_SHADOW_HI = hi := by
  rw [State.shadowSet, State.nameShadow_word, State.takeBasic_word_same]
  have h := RegRow.of_merge (r := shadowHiRow) (by decide) (p := fun x => !x.expert) (x := ⟨31, 0, .rwo, 0, false, 0, 4294967295⟩)
    (by decide) rfl
  exact BitVec.eq_of_toNat_eq ((bitsOf_word _).symm.trans ((h _ hi).trans (bitsOf_word hi)))

theorem flag_eq_bitOf (x : FieldRow) (v : Word) (h : x.hi = 0 ∧ x.lo = 0) : (x.of v != 0) = bitOf 0 v.toNat := by
  rw [Bool.eq_iff_iff, bne_iff_ne, bitOf, beq_iff_eq, FieldRow.of, bitsOf, h.1, h.2]
  omega

theorem shadowEnable_taken (f : Fin 4) (low high : Word) (s : State) (hlo : ownerReaches f Reg.MTB_SHADOW_LO s = true)
    (hhi : ownerReaches f Reg.MTB_SHADOW_HI s = true) (hr : s.get Fl.RDG_STATE_STATE ≠ 1) :
    Ends (.shadowEnable f low high) s fun t => t.flag Fl.MTB_SHADOW_LO_EN = bitOf 0 low.toNat
      ∧ t.get Fl.MTB_SHADOW_LO_ADDR = bitsOf 31 12 low.toNat ∧ t.word Reg.MTB_SHADOW_HI = high ∧ t.mtb.shadowFunc = f.val := by
  have e : (s.hostWrite f Reg.MTB_SHADOW_LO low).hostWrite f Reg.MTB_SHADOW_HI high =
      ((s.rewritten Reg.MTB_SHADOW_LO).holdLo f.val (shadowLoRow.mask low)).shadowSet f.val (shadowLoRow.mask low) high := by
    rw [hostWrite_shadowLo hlo]
    exact hostWrite_shadowHi ((ownerReaches_holdLo ..).trans hhi) (by rwa [State.holdLo_rewritten_get]) (State.holdLo_find _ _ _) high
  have lo : ∀ x ∈ shadowLoRow.fields, (((s.rewritten Reg.MTB_SHADOW_LO).holdLo f.val (shadowLoRow.mask low)).shadowSet f.val
      (shadowLoRow.mask low) high).get ⟨Reg.MTB_SHADOW_LO, x.hi, x.lo⟩ = x.of low :=
    fun x hx => (State.shadowSet_lo _ f.val _ high hx).trans (shadowLo_mask low hx)
  refine ⟨_, congrArg Host.Outcome.next e, ?_, lo ⟨31, 12, .rwo, 0, false, 0, 1048575⟩ (by decide), State.shadowSet_hi _ _ _ high,
    State.nameShadow_shadowFunc _ _⟩
  refine (congrArg (· != 0) (lo ⟨0, 0, .rwo, 0, false, 0, 1⟩ (by decide))).trans ?_
  exact flag_eq_bitOf _ _ ⟨rfl, rfl⟩

/-! ### The billing resolution and the tamper configuration (R240, R491) -/

/-- The rows of REC_BILL_CFG and TMP_CFG. -/
def billCfgRow : RegRow := ⟨16, 0, 1, false, [⟨1, 0, .rws, 0, false, 0, 3⟩]⟩
def tamperCfgRow : RegRow := ⟨20, 0, 1, false, [⟨7, 4, .rws, 0, false, 0, 15⟩, ⟨3, 0, .rws, 0, false, 0, 15⟩]⟩

theorem billCfg_common : CommonRow Reg.REC_BILL_CFG billCfgRow := by
  constructor <;> decide

theorem tamperCfg_common : CommonRow Reg.TMP_CFG tamperCfgRow := by
  constructor <;> decide

theorem tamperCfg_kept : ∀ x ∈ tamperCfgRow.fields, (!x.expert && x.held) = true := by decide

/-- A write of one of the two registers that is let through shows in each of its fields. -/
theorem sealedCfg_get {f : Fin 4} {s : State} {a : Nat} {r : RegRow} {v : Word} (h : CommonRow a r)
    (ha : a = Reg.REC_BILL_CFG ∨ a = Reg.TMP_CFG) (ho : ownerReaches f a s = true) (hr : s.get Fl.RDG_STATE_STATE ≠ 1)
    (hs : s.flag Fl.SAF_PINS_SEAL_OPEN = true) (hv : r.anyValue = true) (hb : s.writeBlocked f.val a v r.owned = false)
    (hx : r.fields.any (·.expert) = false) (hd : r.apart) {x : FieldRow} (hm : x ∈ r.fields) (hh : (!x.expert && x.held) = true) :
    (s.hostWrite f a v).get ⟨a, x.hi, x.lo⟩ = x.of v := by
  have hp : pairLo a = none ∧ boundaryBasic a = false ∧ isSeed a = false ∧ a ≠ Reg.SWC_QLIMIT 0 ∧ a ≠ Reg.SWC_QLIMIT 1 := by
    rcases ha with rfl | rfl <;> decide
  obtain ⟨hp, hl, hseed, hq⟩ := hp
  rw [State.hostWrite_basic h ho hr (.inr hs) hv hb hx hp hl hseed hq, State.get, State.afterWrite_sealed_word _ _ _ ha]
  exact State.takeBasic_get hd hm hh v

theorem code_of_res (res : Fin 4) : (⟨1, 0, .rws, 0, false, 0, 3⟩ : FieldRow).of (BitVec.ofNat 32 res.val) = res.val := by
  revert res
  decide

theorem billResWrite_taken (f res : Fin 4) (s : State) (ho : ownerReaches f Reg.REC_BILL_CFG s = true)
    (hr : s.get Fl.RDG_STATE_STATE ≠ 1) (hs : s.flag Fl.SAF_PINS_SEAL_OPEN = true) (he : s.get Fl.MTB_OCCUPANCY_ENTRIES = 0) :
    Ends (.billResWrite f res) s fun t => t.get Fl.REC_BILL_CFG_RES = res.val := by
  refine ⟨_, rfl, ?_⟩
  have hb : s.writeBlocked f.val Reg.REC_BILL_CFG (BitVec.ofNat 32 res.val) billCfgRow.owned = false := by
    rw [billCfg_common.writeBlocked_eq ho, he]
    rfl
  have h := sealedCfg_get billCfg_common (.inl rfl) ho hr hs rfl hb rfl (by decide) (x := ⟨1, 0, .rws, 0, false, 0, 3⟩) (by decide) rfl
  exact h.trans (code_of_res res)

theorem tamperCfgWrite_taken (f : Fin 4) (pol en : BitVec 4) (s : State) (ho : ownerReaches f Reg.TMP_CFG s = true)
    (hr : s.get Fl.RDG_STATE_STATE ≠ 1) (hs : s.flag Fl.SAF_PINS_SEAL_OPEN = true) :
    Ends (.tamperCfgWrite f pol en) s fun t => t.get Fl.TMP_CFG_POL = pol.toNat ∧ t.get Fl.TMP_CFG_EN = en.toNat := by
  refine ⟨_, rfl, ?_⟩
  have hb : s.writeBlocked f.val Reg.TMP_CFG (BitVec.ofNat 32 (16 * pol.toNat + en.toNat)) tamperCfgRow.owned = false := by
    rw [tamperCfg_common.writeBlocked_eq ho]
    rfl
  have h : ∀ x ∈ tamperCfgRow.fields, _ = x.of (BitVec.ofNat 32 (16 * pol.toNat + en.toNat)) := fun x hx =>
    sealedCfg_get tamperCfg_common (.inr rfl) ho hr hs rfl hb rfl (by decide) hx (tamperCfg_kept x hx)
  have hv : (BitVec.ofNat 32 (16 * pol.toNat + en.toNat)).toNat = 16 * pol.toNat + en.toNat := by
    rw [BitVec.toNat_ofNat]
    omega
  refine ⟨(h ⟨7, 4, .rws, 0, false, 0, 15⟩ (by decide)).trans ?_, (h ⟨3, 0, .rws, 0, false, 0, 15⟩ (by decide)).trans ?_⟩
  · rw [FieldRow.of, hv]
    show (16 * pol.toNat + en.toNat) / 2 ^ 4 % 2 ^ 4 = _
    omega
  · rw [FieldRow.of, hv]
    show (16 * pol.toNat + en.toNat) / 2 ^ 0 % 2 ^ 4 = _
    omega

/-! ### Electrical modes (R561) -/

/-- The row of LANE_ELEC_CFG. -/
def elecCfgRow : RegRow := ⟨512, 4, 40, false, [⟨3, 2, .ro, 0, false, 0, 3⟩, ⟨1, 0, .rwo, 0, false, 0, 2⟩]⟩

theorem elecCfg_row (g : Fin 40) : regRow (Reg.LANE_ELEC_CFG g.val) = some elecCfgRow := by
  revert g
  decide

theorem elecCfg_common (g : Fin 40) : CommonRow (Reg.LANE_ELEC_CFG g.val) elecCfgRow where
  row := elecCfg_row g
  aligned := by revert g; decide
  noRule := by revert g; decide
  noCtrl := by revert g; decide
  noProfile := by revert g; decide
  noDelivery := by revert g; decide
  noW1c := rfl
  noRing := by revert g; decide
  owner := rfl
  shared := rfl
  noExpertEn := by revert g; decide

/-- No rule of another register holds of an electrical mode, which waits for the boundary. -/
theorem elecCfg_place (g : Fin 40) : pairLo (Reg.LANE_ELEC_CFG g.val) = none ∧ boundaryBasic (Reg.LANE_ELEC_CFG g.val) = true
    ∧ Reg.LANE_ELEC_CFG g.val ≠ Reg.CRS_STAGE_SEAL ∧ isSeed (Reg.LANE_ELEC_CFG g.val) = false
    ∧ Reg.LANE_ELEC_CFG g.val ≠ Reg.REC_BILL_CFG := by
  revert g
  decide

/-- The two modes and the automatic choice are permitted. -/
theorem elecCfg_permitted (g : Fin 40) (mode : Fin 4) (h : mode.val < 3) (en : Bool) :
    elecCfgRow.reservedIn (Reg.LANE_ELEC_CFG g.val) (BitVec.ofNat 32 mode.val) en = false := by
  refine (elecCfg_common g).reservedIn_eq_false _ en fun x hx _ => ?_
  revert mode x
  decide

theorem elecCfg_unblocked {f : Fin 4} {g : Fin 40} {s : State} (ho : ownerReaches f (Reg.LANE_ELEC_CFG g.val) s = true) (v : Word) :
    s.writeBlocked f.val (Reg.LANE_ELEC_CFG g.val) v elecCfgRow.owned = false := by
  obtain ⟨-, -, hn, hd, hb⟩ := elecCfg_place g
  rw [(elecCfg_common g).writeBlocked_eq ho, if_neg hn, hd, if_neg Bool.false_ne_true, if_neg hb]

theorem laneModeWrite_deferred (f : Fin 4) (g : Fin 40) (mode : Fin 4) (s : State)
    (ho : ownerReaches f (Reg.LANE_ELEC_CFG g.val) s = true) (hr : s.get Fl.RDG_STATE_STATE ≠ 1) (hm : mode.val < 3) :
    Ends (.laneModeWrite f g mode) s fun t =>
      t.get (Fl.LANE_ELEC_CFG_MODE g.val) = s.get (Fl.LANE_ELEC_CFG_MODE g.val)
      ∧ t.cfgPend = s.cfgPend ++ [.fields f.val (Reg.LANE_ELEC_CFG g.val) (BitVec.ofNat 32 mode.val) false] := by
  refine ⟨_, rfl, ?_⟩
  have hr' : (s.rewritten (Reg.LANE_ELEC_CFG g.val)).get Fl.RDG_STATE_STATE ≠ 1 := by rwa [State.rewritten_get]
  obtain ⟨hp, hl, -⟩ := elecCfg_place g
  have hx : elecCfgRow.fields.any (·.expert) = false := rfl
  rw [State.hostWrite_accepted (elecCfg_common g) ho (.inl rfl) (elecCfg_permitted g mode hm) (elecCfg_unblocked ho _)
    (s.carriesExpert_of_basic _ _ hx), (elecCfg_common g).acceptWord_eq hp, (elecCfg_common g).ownedWrite_eq hr']
  simp only [hl, hx, Bool.and_false, Bool.false_eq_true, if_false, if_true]
  exact ⟨s.rewritten_get _ _, rfl⟩

/-- Settles O11: each register's write is followed from the bus to what its rule makes of it. -/
theorem registerCommands : Obligations.RegisterCommands :=
  ⟨stageSealWrite_taken, stageSealWrite_blocked, hashSeedWrite_expert, hashSeedWrite_noExpert, shadowEnable_taken, billResWrite_taken,
    tamperCfgWrite_taken, laneModeWrite_deferred⟩

end Sys2Proof.Machine
end

section
/-!
SUPPORT. How a command that the gate admits comes to its effect and to its end.
-/

namespace Sys2Proof.Machine

set_option Elab.async false

/-! ### An admitted command -/

theorem State.accepted_get (s : State) (c : Cmd) (x : Fld) : (s.accepted c).get x = s.get x := rfl

theorem State.accepted_flag (s : State) (c : Cmd) (x : Fld) : (s.accepted c).flag x = s.flag x := by
  rw [State.flag, State.flag, State.accepted_get]

theorem State.accepted_out (s : State) (c : Cmd) : (s.accepted c).out = s.out := rfl

theorem State.accepted_word (s : State) (c : Cmd) (a : Nat) : (s.accepted c).word a = s.word a := rfl

theorem State.accepted_course (s : State) (c : Cmd) : (s.accepted c).course = s.course := by
  rw [State.course, State.course, State.get64, State.get64, State.accepted_word, State.accepted_word]

theorem State.accepted_owner (s : State) (c : Cmd) : (s.accepted c).owner = s.owner := rfl

theorem State.accepted_isOwner (s : State) (c : Cmd) (f : Nat) : (s.accepted c).isOwner f = s.isOwner f := by
  unfold State.isOwner
  rw [State.accepted_owner, (s.accepted_keepsFn c).fenced f]

theorem State.accepted_gateRefusal (s : State) (c : Cmd) (bad : Bool) : (s.accepted c).gateRefusal c bad = s.gateRefusal c bad := by
  unfold State.gateRefusal State.standbyOrHold
  rw [State.accepted_isOwner, State.accepted_get]

/-- The gate admits a command: no refusal, and no log that keeps it for later. -/
theorem admits_iff (c : Cmd) (s : State) : admits c s = true ↔
    s.decommissioned = false ∧ s.gateRefusal c false = none ∧ s.logsCommands = false := by
  simp [admits, State.accepted_gateRefusal, and_assoc]

theorem State.standbyOrHold_of_admits {s : State} {c : Cmd} (h : admits c s = true) : s.standbyOrHold = false := by
  obtain ⟨-, hg, -⟩ := (admits_iff c s).1 h
  unfold State.gateRefusal at hg
  split at hg
  · cases hg
  · split at hg
    · cases hg
    · split at hg
      · cases hg
      · next hs => exact Bool.not_eq_true _ ▸ hs

theorem State.loadCommand_of_admits {s : State} {c : Cmd} (h : admits c s = true) (op : Nat) (params data : Octets) (source : Nat)
    (effect : State → State) : s.loadCommand op c params data false source effect = effect (s.accepted c) := by
  obtain ⟨hd, hg, hl⟩ := (admits_iff c s).1 h
  simp [State.loadCommand, hd, hg, hl]

theorem State.writeCommand_of_admits {s : State} {c : Cmd} (h : admits c s = true) (op : Nat) (params data : Octets)
    (effect : State → State) : s.writeCommand op c params data false effect = effect (s.accepted c) := by
  obtain ⟨hd, hg, hl⟩ := (admits_iff c s).1 h
  simp [State.writeCommand, hd, hg, hl]

/-! ### The end of a command -/

/-- On the way from `s` to `t` nothing that was put out is lost, and the unit posts completions as before. -/
structure Posting (s t : State) : Prop where
  grows : Grows s t
  applying : t.rdg.applying = s.rdg.applying
  state : t.get Fl.RDG_STATE_STATE = s.get Fl.RDG_STATE_STATE

theorem Posting.trans {s t u : State} (a : Posting s t) (b : Posting t u) : Posting s u :=
  ⟨a.grows.trans b.grows, b.applying.trans a.applying, b.state.trans a.state⟩

theorem State.accepted_posting (s : State) (c : Cmd) : Posting s (s.accepted c) :=
  ⟨s.accepted_grows c, rfl, s.accepted_get c _⟩

theorem State.complete_posting (s : State) (op : Nat) (c : Cmd) (st : Status) (i : Nat) (r : Octets) :
    Posting s (s.complete op c st i r) :=
  ⟨s.complete_grows op c st i r, s.complete_rdg_applying op c st i r, s.complete_get op c st i r _ (by decide) (by decide)⟩

theorem State.put_posting (s : State) {f : Fld} (v : Nat) (h : f.addr ≠ Fl.RDG_STATE_STATE.addr) : Posting s (s.put f v) :=
  ⟨Grows.of_out rfl, rfl, s.get_put_ne f _ v h.symm⟩

/-- A command that completes on the way from `s` to `t` has ended there. -/
theorem ended_of_complete {op : Nat} {c : Cmd} {st : Status} {i : Nat} {r : Octets} {s u t : State} (hp : posts op s = true)
    (hu : Posting s u) (ht : Grows (u.complete op c st i r) t) : ended op c st s t := by
  simp only [posts, Bool.and_eq_true, Bool.not_eq_true', Bool.or_eq_true, bne_iff_ne, beq_iff_eq, or_assoc] at hp
  obtain ⟨ha, hs⟩ := hp
  exact ⟨_, _, hu.grows.puts ((u.complete_puts op c st i r (hu.applying.trans ha) (by rwa [hu.state])).grows ht)⟩

end Sys2Proof.Machine
end

section
/-!
PLAN_LOAD, TABLE_LOAD, PLAN_COMMIT and PLAN_CANCEL: what they stage, make pending and end (R67, R73 to R84).
-/

namespace Sys2Proof.Machine

set_option Elab.async false

/-! ### Flags -/

theorem State.flag_putFlag_ne (s : State) (f g : Fld) (b : Bool) (h : g.addr ≠ f.addr) : (s.putFlag f b).flag g = s.flag g := by
  rw [State.flag, State.flag, State.putFlag, s.get_put_ne f g _ h]

theorem Counts.flag {s t : State} (h : Counts s t) (f : Fld) (h1 : f.addr ≠ Reg.HST_EVT_DROP_COUNT) (h2 : f.addr ≠ Reg.EVT_LOST_COUNT) :
    t.flag f = s.flag f := by
  rw [State.flag, State.flag, h.get f h1 h2]

/-! ### PLAN_LOAD -/

theorem State.planLoadEnd_crs (s : State) (c : Cmd) (st : Status) (r : Octets) : (s.planLoadEnd c st r).crs = s.crs := by
  rw [State.planLoadEnd, State.raise_crs, State.complete_crs]

theorem State.planLoadEnd_counts (s : State) (c : Cmd) (st : Status) (r : Octets) : Counts s (s.planLoadEnd c st r) :=
  (s.complete_counts _ _ _ _ _).trans (State.raise_counts _ _ _)

theorem State.planLoadEnd_ended {s u : State} (hp : posts 0x10 s = true) (hu : Posting s u) (c : Cmd) (st : Status) (r : Octets) :
    ended 0x10 c st s (u.planLoadEnd c st r) := ended_of_complete hp hu (State.raise_grows _ _ _)

theorem State.discardStaged_posting (s : State) : Posting s s.discardStaged :=
  Posting.trans (t := { s with crs := { s.crs with staged := none, stagedImage := [] } }) ⟨Grows.of_out rfl, rfl, rfl⟩
    (((State.put_posting _ _ (by decide)).trans (State.put_posting _ _ (by decide))).trans (State.put_posting _ _ (by decide)))

theorem State.discardStaged_staged (s : State) : s.discardStaged.crs.staged = none := rfl

theorem State.discardStaged_seal (s : State) : s.discardStaged.flag Fl.CRS_STAGE_SEAL_SEAL = false := by
  rw [State.discardStaged, State.flag_putFlag_ne _ _ _ _ (by decide), State.flag_putFlag_ne _ _ _ _ (by decide)]
  exact State.flag_putFlag_same _ _ _ rfl (by decide)

theorem State.discardStaged_stagedFlag (s : State) : s.discardStaged.flag Fl.CRS_PLAN_STATUS_STAGED = false :=
  State.flag_putFlag_same _ _ _ rfl (by decide)

/-- The state that an image leaves staged. -/
def State.withStaged (s : State) (p : Plan) (data : Octets) : State :=
  ({ s with crs := { s.crs with staged := some p, stagedImage := data } } : State).putFlag Fl.CRS_PLAN_STATUS_STAGED true

theorem State.withStaged_posting (s : State) (p : Plan) (data : Octets) : Posting s (s.withStaged p data) :=
  Posting.trans (t := { s with crs := { s.crs with staged := some p, stagedImage := data } }) ⟨Grows.of_out rfl, rfl, rfl⟩
    (State.put_posting _ _ (by decide))

theorem State.withStaged_stagedFlag (s : State) (p : Plan) (data : Octets) :
    (s.withStaged p data).flag Fl.CRS_PLAN_STATUS_STAGED = true := State.flag_putFlag_same _ _ _ rfl (by decide)

theorem State.withStaged_seal (s : State) (p : Plan) (data : Octets) :
    (s.withStaged p data).flag Fl.CRS_STAGE_SEAL_SEAL = s.flag Fl.CRS_STAGE_SEAL_SEAL :=
  State.flag_putFlag_ne _ _ _ _ (by decide)

theorem planLoadEffect_ok {s : State} {data : Octets} {p : Plan} (hp : s.crs.pending = none)
    (hc : s.discardStaged.planChecks data = .ok p) (c : Cmd) :
    planLoadEffect c data s = (s.discardStaged.withStaged p data).planLoadEnd c .ok (le 8 p.planId) := by
  unfold planLoadEffect
  rw [hp, if_neg (by decide)]
  dsimp only
  rw [hc]
  rfl

theorem planLoadEffect_error {s : State} {data : Octets} {st : Status} (hp : s.crs.pending = none)
    (hc : s.discardStaged.planChecks data = .error st) (c : Cmd) : planLoadEffect c data s = s.discardStaged.planLoadEnd c st := by
  unfold planLoadEffect
  rw [hp, if_neg (by decide)]
  dsimp only
  rw [hc]

theorem planLoadEffect_pending {s : State} {p : PendingCommit} (hp : s.crs.pending = some p) (c : Cmd) (data : Octets) :
    planLoadEffect c data s = s.planLoadEnd c .state := by
  unfold planLoadEffect
  rw [hp, if_pos (by rfl)]

theorem exec_planLoad {c : Cmd} {s : State} (h : admits c s = true) (hl : c.len ≠ 0) (data : Octets) :
    exec (.planLoad c data) s = .next (planLoadEffect c data (s.accepted c)) := by
  have hb : (c.len == 0) = false := by simpa using hl
  show Host.Outcome.next (s.loadCommand 0x10 c [] data (c.len == 0) 81 (planLoadEffect c data)) = _
  rw [hb, State.loadCommand_of_admits h]

theorem planLoad_ok (c : Cmd) (data : Octets) (s : State) (p : Plan) (h : admits c s = true) (hl : c.len ≠ 0)
    (hp : posts 0x10 s = true) (hn : s.crs.pending = none) (hc : (s.accepted c).discardStaged.planChecks data = .ok p) :
    Ends (.planLoad c data) s fun t => t.crs.staged = some p ∧ t.crs.stagedImage = data
      ∧ t.flag Fl.CRS_PLAN_STATUS_STAGED = true ∧ t.flag Fl.CRS_STAGE_SEAL_SEAL = false ∧ ended 0x10 c .ok s t := by
  have hn' : (s.accepted c).crs.pending = none := by rw [State.accepted_crs, hn]
  refine ⟨_, exec_planLoad h hl data, ?_⟩
  rw [planLoadEffect_ok hn' hc]
  have keep := ((s.accepted c).discardStaged.withStaged p data).planLoadEnd_counts c .ok (le 8 p.planId)
  refine ⟨?_, ?_, ?_, ?_, ?_⟩
  · rw [State.planLoadEnd_crs]
    rfl
  · rw [State.planLoadEnd_crs]
    rfl
  · rw [keep.flag _ (by decide) (by decide), State.withStaged_stagedFlag]
  · rw [keep.flag _ (by decide) (by decide), State.withStaged_seal, State.discardStaged_seal]
  · exact State.planLoadEnd_ended hp
      (((s.accepted_posting c).trans (State.discardStaged_posting _)).trans (State.withStaged_posting _ _ _)) c .ok _

theorem planLoad_error (c : Cmd) (data : Octets) (s : State) (st : Status) (h : admits c s = true) (hl : c.len ≠ 0)
    (hp : posts 0x10 s = true) (hn : s.crs.pending = none)
    (hc : (match (s.accepted c).discardStaged.planChecks data with | .ok _ => none | .error e => some e) = some st) :
    Ends (.planLoad c data) s fun t => t.crs.staged = none ∧ t.flag Fl.CRS_PLAN_STATUS_STAGED = false ∧ ended 0x10 c st s t := by
  have hn' : (s.accepted c).crs.pending = none := by rw [State.accepted_crs, hn]
  have hc' : (s.accepted c).discardStaged.planChecks data = .error st := by
    cases e : (s.accepted c).discardStaged.planChecks data with
    | ok p => rw [e] at hc; cases hc
    | error x => rw [e] at hc; cases hc; rfl
  refine ⟨_, exec_planLoad h hl data, ?_⟩
  rw [planLoadEffect_error hn' hc']
  refine ⟨?_, ?_, ?_⟩
  · rw [State.planLoadEnd_crs, State.discardStaged_staged]
  · rw [(State.planLoadEnd_counts _ _ _ _).flag _ (by decide) (by decide), State.discardStaged_stagedFlag]
  · exact State.planLoadEnd_ended hp ((s.accepted_posting c).trans (State.discardStaged_posting _)) c st _

theorem planLoad_pending (c : Cmd) (data : Octets) (s : State) (p : PendingCommit) (h : admits c s = true) (hl : c.len ≠ 0)
    (hp : posts 0x10 s = true) (hn : s.crs.pending = some p) :
    Ends (.planLoad c data) s fun t => t.crs.staged = s.crs.staged ∧ ended 0x10 c .state s t := by
  have hn' : (s.accepted c).crs.pending = some p := by rw [State.accepted_crs, hn]
  refine ⟨_, exec_planLoad h hl data, ?_⟩
  rw [planLoadEffect_pending hn']
  refine ⟨?_, State.planLoadEnd_ended hp (s.accepted_posting c) c .state _⟩
  rw [State.planLoadEnd_crs, State.accepted_crs]

/-! ### TABLE_LOAD -/

theorem State.stageBit_crs (s : State) (f : Fld) (k : Nat) (b : Bool) : (s.stageBit f k b).crs = s.crs := rfl

theorem State.stageBit_posting (s : State) {f : Fld} (k : Nat) (b : Bool) (h : f.addr ≠ Fl.RDG_STATE_STATE.addr) :
    Posting s (s.stageBit f k b) := s.put_posting _ h

theorem State.tableLoadEnd_crs (s : State) (c : Cmd) (k : Nat) (next : Bool) (st : Status) :
    (s.tableLoadEnd c k next st).crs = s.crs := by
  rw [State.tableLoadEnd, State.raise_crs, State.complete_crs, apply_ite State.crs, State.stageBit_crs, ite_self]

theorem State.tableLoadEnd_stagedTable (s : State) (c : Cmd) (k : Nat) (next : Bool) (st : Status) (j : Nat) :
    (s.tableLoadEnd c k next st).stagedTable j = s.stagedTable j := by
  unfold State.stagedTable
  rw [State.tableLoadEnd_crs]

theorem State.tableLoadEnd_ended {s u : State} (hp : posts 0x11 s = true) (hu : Posting s u) (c : Cmd) (k : Nat) (next : Bool)
    (st : Status) : ended 0x11 c st s (u.tableLoadEnd c k next st) := by
  have hn : Posting s (if next then u.stageBit Fl.CRS_STAGE_TABLES_FAILED k (st != .ok) else u) := by
    split
    · exact hu.trans (u.stageBit_posting k _ (by decide))
    · exact hu
  exact ended_of_complete hp hn (State.raise_grows _ _ _)

theorem State.accepted_tableBusy (s : State) (c : Cmd) (k : Nat) : (s.accepted c).tableBusy k = s.tableBusy k := by
  unfold State.tableBusy
  rw [State.accepted_mtb, State.accepted_bill, State.accepted_val]

theorem State.accepted_tableRefusal (s : State) (c : Cmd) (k e : Nat) (b : Bool) :
    (s.accepted c).tableRefusal k e b = s.tableRefusal k e b := by
  unfold State.tableRefusal
  rw [State.accepted_flag, State.accepted_get, State.accepted_tableBusy]

/-- A table of kinds 1 to 4 whose content passes its own chapter (R115, R153, R247, R279). -/
def tablePasses (s : State) (k e : Nat) (data : Octets) : Prop :=
  (k = 1 ∧ (routesOf e data).isSome = true) ∨ (k = 2 ∧ (tonesOf e data).isSome = true)
    ∨ (k = 3 ∧ tariffLoadStatus e s.second (s.tableLimit 11 64) data = .ok)
    ∨ (k = 4 ∧ valLoadStatus e (s.tableLimit 9 16384) (s.tableLimit 10 8) data = .ok)

theorem State.tableContent_ok {s : State} {k e : Nat} {data : Octets} (h : tablePasses s k e data) (mode : Nat) :
    s.tableContent k mode e data = (.ok, s) := by
  rcases h with ⟨rfl, h⟩ | ⟨rfl, h⟩ | ⟨rfl, h⟩ | ⟨rfl, h⟩
  · rw [State.tableContent, if_pos h]
  · rw [State.tableContent, if_pos h]
  · rw [State.tableContent, h]
  · rw [State.tableContent, h]
    all_goals decide

/-- Replace mode stages the image alone. -/
theorem State.stageTable_replace (s : State) (k : Nat) (data : Octets) : (s.stageTable k 1 data).stagedTable k = some ⟨1, data⟩ := by
  unfold State.stageTable State.stagedTable
  rw [State.stageBit_crs, FMap.get_set_same]
  split
  · rw [if_neg (by omega)]
  · rfl

theorem exec_tableLoad {c : Cmd} {s : State} {kind : Byte} (h : admits c s = true) (hl : c.len ≠ 0) (hk : kind.toNat ≤ 4)
    (epoch : BitVec 32) (data : Octets) :
    exec (.tableLoad c kind 1#8 0#16 epoch data) s = .next (tableLoadEffect c kind 1#8 epoch data (s.accepted c)) := by
  have hb : tableLoadIllegal c kind 1#8 0#16 = false := by
    simpa [tableLoadIllegal, Nat.not_lt.2 hk] using hl
  show Host.Outcome.next (s.loadCommand 0x11 c _ data (tableLoadIllegal c kind 1#8 0#16) 86 _) = _
  rw [hb, State.loadCommand_of_admits h]

/-- With no load admitted before a seal, the refusals are judged in the state as it is. -/
theorem tableLoadEffect_refused {s : State} {kind : Byte} {epoch : BitVec 32} {st : Status} (hl : s.crs.loads = [])
    (hr : s.tableRefusal kind.toNat epoch.toNat false = some st) (c : Cmd) (mode : Byte) (data : Octets) :
    tableLoadEffect c kind mode epoch data s =
      s.tableLoadEnd c kind.toNat (epochStatus (s.get Fl.CRS_EPOCH_CUR) epoch.toNat).isNone st := by
  unfold tableLoadEffect
  rw [hl, List.find?_nil]
  dsimp only
  rw [hr]

theorem tableLoadEffect_staged {s : State} {kind : Byte} {epoch : BitVec 32} {data : Octets} (hl : s.crs.loads = [])
    (hr : s.tableRefusal kind.toNat epoch.toNat false = none) (ht : tablePasses s kind.toNat epoch.toNat data) (c : Cmd) (mode : Byte) :
    tableLoadEffect c kind mode epoch data s = (s.stageTable kind.toNat mode.toNat data).tableLoadEnd c kind.toNat
      (epochStatus (s.get Fl.CRS_EPOCH_CUR) epoch.toNat).isNone .ok := by
  unfold tableLoadEffect
  rw [hl, List.find?_nil]
  dsimp only
  rw [hr]
  dsimp only
  rw [State.tableContent_ok ht]

theorem State.tableRefusal_eq_none {s : State} {k e : Nat} (hs : s.flag Fl.CRS_STAGE_SEAL_SEAL = false)
    (he : epochStatus (s.get Fl.CRS_EPOCH_CUR) e = none) (hb : s.tableBusy k = false) : s.tableRefusal k e false = none := by
  simp [State.tableRefusal, hs, he, hb]

theorem tableLoad_staged (c : Cmd) (kind : Byte) (epoch : BitVec 32) (data : Octets) (s : State) (h : admits c s = true)
    (hl : c.len ≠ 0) (hs : s.flag Fl.CRS_STAGE_SEAL_SEAL = false) (he : epochStatus (s.get Fl.CRS_EPOCH_CUR) epoch.toNat = none)
    (hb : s.tableBusy kind.toNat = false) (hn : s.crs.loads = [])
    (ht : (kind = 1 ∧ (routesOf epoch.toNat data).isSome = true) ∨ (kind = 2 ∧ (tonesOf epoch.toNat data).isSome = true)
      ∨ (kind = 3 ∧ tariffLoadStatus epoch.toNat s.second (s.tableLimit 11 64) data = .ok)
      ∨ (kind = 4 ∧ valLoadStatus epoch.toNat (s.tableLimit 9 16384) (s.tableLimit 10 8) data = .ok)) :
    Ends (.tableLoad c kind 1#8 0#16 epoch data) s fun t => t.stagedTable kind.toNat = some ⟨1, data⟩ := by
  have hp : tablePasses (s.accepted c) kind.toNat epoch.toNat data ∧ kind.toNat ≤ 4 := by
    rcases ht with ⟨rfl, ht⟩ | ⟨rfl, ht⟩ | ⟨rfl, ht⟩ | ⟨rfl, ht⟩
    · exact ⟨.inl ⟨rfl, ht⟩, by decide⟩
    · exact ⟨.inr (.inl ⟨rfl, ht⟩), by decide⟩
    · exact ⟨.inr (.inr (.inl ⟨rfl, ht⟩)), by decide⟩
    · exact ⟨.inr (.inr (.inr ⟨rfl, ht⟩)), by decide⟩
  obtain ⟨hp, hk⟩ := hp
  have hr : (s.accepted c).tableRefusal kind.toNat epoch.toNat false = none := by
    rw [State.accepted_tableRefusal, State.tableRefusal_eq_none hs he hb]
  have hn' : (s.accepted c).crs.loads = [] := by rw [State.accepted_crs, hn]
  refine ⟨_, exec_tableLoad h hl hk epoch data, ?_⟩
  rw [tableLoadEffect_staged hn' hr hp]
  refine (State.tableLoadEnd_stagedTable ..).trans ?_
  exact State.stageTable_replace _ _ data

theorem tableLoad_refused (c : Cmd) (kind : Byte) (epoch : BitVec 32) (data : Octets) (s : State) (st : Status) (h : admits c s = true)
    (hl : c.len ≠ 0) (hk : kind.toNat ≤ 4) (hp : posts 0x11 s = true) (hn : s.crs.loads = [])
    (hr : s.tableRefusal kind.toNat epoch.toNat false = some st) :
    Ends (.tableLoad c kind 1#8 0#16 epoch data) s fun t => t.crs.tables = s.crs.tables ∧ ended 0x11 c st s t := by
  have hr' : (s.accepted c).tableRefusal kind.toNat epoch.toNat false = some st := by rw [State.accepted_tableRefusal, hr]
  have hn' : (s.accepted c).crs.loads = [] := by rw [State.accepted_crs, hn]
  refine ⟨_, exec_tableLoad h hl hk epoch data, ?_⟩
  rw [tableLoadEffect_refused hn' hr']
  refine ⟨?_, State.tableLoadEnd_ended hp (s.accepted_posting c) c _ _ st⟩
  rw [State.tableLoadEnd_crs, State.accepted_crs]

/-! ### PLAN_COMMIT -/

/-- At most the eaves' ports differ. -/
def PortsOnly (s t : State) : Prop := ∃ e, t = { s with eav := e }

theorem PortsOnly.refl (s : State) : PortsOnly s s := ⟨_, rfl⟩

theorem PortsOnly.trans {s t u : State} (a : PortsOnly s t) (b : PortsOnly t u) : PortsOnly s u := by
  obtain ⟨e, rfl⟩ := a
  obtain ⟨g, rfl⟩ := b
  exact ⟨g, rfl⟩

theorem PortsOnly.ite {s a b : State} {c : Prop} [Decidable c] (ha : PortsOnly s a) (hb : PortsOnly s b) :
    PortsOnly s (if c then a else b) := by
  split
  · exact ha
  · exact hb

theorem PortsOnly.foldl {α : Type} (f : State → α → State) (h : ∀ s a, PortsOnly s (f s a)) (l : List α) (s : State) :
    PortsOnly s (l.foldl f s) := by
  induction l generalizing s with
  | nil => exact PortsOnly.refl s
  | cons a l ih => exact (h s a).trans (ih (f s a))

theorem PortsOnly.crs {s t : State} (h : PortsOnly s t) : t.crs = s.crs := by obtain ⟨e, rfl⟩ := h; rfl
theorem PortsOnly.out {s t : State} (h : PortsOnly s t) : t.out = s.out := by obtain ⟨e, rfl⟩ := h; rfl
theorem PortsOnly.regs {s t : State} (h : PortsOnly s t) : t.regs = s.regs := by obtain ⟨e, rfl⟩ := h; rfl

theorem State.sendDown_portsOnly (s : State) (l p type : Nat) (payload : Octets) : PortsOnly s (s.sendDown l p type payload) := ⟨_, rfl⟩

theorem State.sendMap_portsOnly (s : State) (c : Chain) (epoch sf : Nat) (e : EaveRec) : PortsOnly s (s.sendMap c epoch sf e) :=
  (s.sendDown_portsOnly _ _ _ _).trans ⟨_, rfl⟩

theorem State.sendSets_portsOnly (s : State) (plan : Plan) (old : Option Plan) (l sf : Nat) (e : EaveRec) :
    PortsOnly s (s.sendSets plan old l sf e) := by
  have streams : PortsOnly s ((List.range e.plcCount).foldl (fun s k =>
      match plan.streamCell e k with
      | none => s
      | some c =>
        if plan.setDiffers old l e k then
          s.sendSet l e.position k (plan.param c 1 1) (plan.param c 5 1) (plan.param c 4 1) sf 0
        else s) s) := by
    refine PortsOnly.foldl _ (fun t k => ?_) _ s
    split
    · exact PortsOnly.refl t
    · exact PortsOnly.ite (t.sendDown_portsOnly _ _ _ _) (PortsOnly.refl t)
  unfold State.sendSets
  exact PortsOnly.ite streams ((streams.trans (State.sendDown_portsOnly _ _ _ _ _)).trans (State.sendDown_portsOnly _ _ _ _ _))

/-- A pending commit queues slot maps and cell settings at the eaves' ports, and nothing else. -/
theorem State.eavPending_portsOnly (s : State) (plan : Plan) (target : Nat) : PortsOnly s (s.eavPending plan target) :=
  PortsOnly.foldl _ (fun t c => PortsOnly.foldl _ (fun u e => (u.sendMap_portsOnly c _ _ e).trans (State.sendSets_portsOnly _ _ _ _ _ e))
    _ t) _ s

/-- The state in which a commit waits for its target. -/
def State.withPending (s : State) (c : Cmd) (target : Nat) : State :=
  (({ s with crs := { s.crs with pending := some ⟨c, target⟩, standbyConfirmed := false, decided := none } } : State).putFlag
    Fl.CRS_PLAN_STATUS_COMMIT_PENDING true).put64 Reg.CRS_COMMIT_TARGET_LO target

theorem State.withPending_pending (s : State) (c : Cmd) (target : Nat) : (s.withPending c target).crs.pending = some ⟨c, target⟩ := rfl
theorem State.withPending_out (s : State) (c : Cmd) (target : Nat) : (s.withPending c target).out = s.out := rfl

theorem State.get_put64_ne (s : State) (a v : Nat) (f : Fld) (h : f.addr ≠ a) (h4 : f.addr ≠ a + 4) :
    (s.put64 a v).get f = s.get f := by
  rw [State.get, State.get, State.put64, State.word_setWord_ne _ _ h4, State.word_setWord_ne _ _ h]

theorem State.withPending_state (s : State) (c : Cmd) (target : Nat) :
    (s.withPending c target).get Fl.RDG_STATE_STATE = s.get Fl.RDG_STATE_STATE := by
  rw [State.withPending, State.get_put64_ne _ _ _ _ (by decide) (by decide), State.putFlag, State.get_put_ne _ _ _ _ (by decide)]
  rfl

theorem State.withPending_flag (s : State) (c : Cmd) (target : Nat) :
    (s.withPending c target).flag Fl.CRS_PLAN_STATUS_COMMIT_PENDING = true := by
  rw [State.withPending, State.flag, State.get_put64_ne _ _ _ _ (by decide) (by decide)]
  exact State.flag_putFlag_same _ _ _ rfl (by decide)

theorem State.get_of_regs {s t : State} (h : t.regs = s.regs) (f : Fld) : t.get f = s.get f := by
  rw [State.get, State.get, State.word, State.word, h]

theorem planCommitEffect_refused {s : State} {target : BitVec 64} {st : Status} (h : s.commitRefusal target.toNat = some st) (c : Cmd) :
    planCommitEffect c target s = s.complete 0x12 c st := by
  unfold planCommitEffect
  rw [h]

/-- A commit that nothing refuses has a staged plan. -/
theorem State.staged_of_commitRefusal {s : State} {target : Nat} (h : s.commitRefusal target = none) : ∃ p, s.crs.staged = some p := by
  cases e : s.crs.staged with
  | none =>
    rw [State.commitRefusal, e] at h
    cases h
  | some p => exact ⟨p, rfl⟩

/-- Outside STANDBY a commit becomes pending with no word to the partner. -/
theorem planCommitEffect_pending {s : State} {target : BitVec 64} (h : s.commitRefusal target.toNat = none)
    (hs : s.get Fl.RDG_STATE_STATE ≠ 2) (c : Cmd) : PortsOnly (s.withPending c target.toNat) (planCommitEffect c target s) := by
  obtain ⟨p, hp⟩ := State.staged_of_commitRefusal h
  have he := (s.withPending c target.toNat).eavPending_portsOnly p target.toNat
  have hs' : ((s.withPending c target.toNat).eavPending p target.toNat).get Fl.RDG_STATE_STATE ≠ 2 := by
    rwa [State.get_of_regs he.regs, State.withPending_state]
  have e : planCommitEffect c target s = (s.withPending c target.toNat).eavPending p target.toNat := by
    unfold planCommitEffect
    rw [h, hp]
    exact if_neg hs'
  rw [e]
  exact he

theorem exec_planCommit {c : Cmd} {s : State} (h : admits c s = true) (hl : c.len = 0) (target : BitVec 64) :
    exec (.planCommit c target) s = .next (planCommitEffect c target (s.accepted c)) := by
  have hb : (c.len != 0) = false := by simpa using hl
  show Host.Outcome.next (s.writeCommand 0x12 c _ [] (c.len != 0) _) = _
  rw [hb, State.writeCommand_of_admits h]

theorem State.accepted_commitRefusal (s : State) (c : Cmd) (target : Nat) :
    (s.accepted c).commitRefusal target = s.commitRefusal target := by
  have hm : ∀ p, (s.accepted c).periodMisfit p target = s.periodMisfit p target := fun p => by
    unfold State.periodMisfit State.period
    rw [State.accepted_get]
  unfold State.commitRefusal
  rw [State.accepted_crs, State.accepted_course, State.accepted_flag, State.accepted_flag]
  simp only [hm]

theorem planCommit_pending (c : Cmd) (target : BitVec 64) (s : State) (h : admits c s = true) (hl : c.len = 0)
    (hr : s.commitRefusal target.toNat = none) :
    Ends (.planCommit c target) s fun t => t.crs.pending = some ⟨c, target.toNat⟩
      ∧ t.flag Fl.CRS_PLAN_STATUS_COMMIT_PENDING = true ∧ t.out = s.out := by
  have hr' : (s.accepted c).commitRefusal target.toNat = none := by rw [State.accepted_commitRefusal, hr]
  have hs : (s.accepted c).get Fl.RDG_STATE_STATE ≠ 2 := by
    have := State.standbyOrHold_of_admits h
    rw [State.standbyOrHold, Bool.or_eq_false_iff, beq_eq_false_iff_ne] at this
    exact this.1
  have he := planCommitEffect_pending hr' hs c
  refine ⟨_, exec_planCommit h hl target, ?_, ?_, ?_⟩
  · rw [he.crs, State.withPending_pending]
  · rw [State.flag, State.get_of_regs he.regs]
    exact State.withPending_flag _ _ _
  · rw [he.out, State.withPending_out, State.accepted_out]

theorem planCommit_refused (c : Cmd) (target : BitVec 64) (s : State) (st : Status) (h : admits c s = true) (hl : c.len = 0)
    (hp : posts 0x12 s = true) (hr : s.commitRefusal target.toNat = some st) :
    Ends (.planCommit c target) s fun t => t.crs = s.crs ∧ ended 0x12 c st s t := by
  have hr' : (s.accepted c).commitRefusal target.toNat = some st := by rw [State.accepted_commitRefusal, hr]
  refine ⟨_, exec_planCommit h hl target, ?_⟩
  rw [planCommitEffect_refused hr']
  refine ⟨?_, ended_of_complete hp (s.accepted_posting c) (Grows.refl _)⟩
  rw [State.complete_crs, State.accepted_crs]

/-! ### PLAN_CANCEL -/

/-- The pending commit is gone, and COMMIT_STATUS says why. -/
def State.commitEnded (s : State) (reason : Nat) (st : Status) : State :=
  (((({ s with crs := { s.crs with pending := none, decided := none } } : State).putFlag Fl.CRS_COMMIT_STATUS_VALID true).put
    Fl.CRS_COMMIT_STATUS_REASON reason).put Fl.CRS_COMMIT_STATUS_RESULT st.code).putFlag Fl.CRS_PLAN_STATUS_COMMIT_PENDING false

theorem State.commitEnded_posting (s : State) (reason : Nat) (st : Status) : Posting s (s.commitEnded reason st) :=
  Posting.trans (t := { s with crs := { s.crs with pending := none, decided := none } }) ⟨Grows.of_out rfl, rfl, rfl⟩
    ((((State.put_posting _ _ (by decide)).trans (State.put_posting _ _ (by decide))).trans (State.put_posting _ _ (by decide))).trans
      (State.put_posting _ _ (by decide)))

theorem State.commitEnded_pending (s : State) (reason : Nat) (st : Status) : (s.commitEnded reason st).crs.pending = none := by
  rw [State.commitEnded, State.putFlag_crs, State.put_crs, State.put_crs, State.putFlag_crs]

theorem State.commitEnded_staged (s : State) (reason : Nat) (st : Status) : (s.commitEnded reason st).crs.staged = s.crs.staged := by
  rw [State.commitEnded, State.putFlag_crs, State.put_crs, State.put_crs, State.putFlag_crs]

theorem State.commitEnded_reason (s : State) (reason : Nat) (st : Status) :
    (s.commitEnded reason st).get Fl.CRS_COMMIT_STATUS_REASON = reason % 16 := by
  rw [State.commitEnded, State.putFlag, State.get_put_ne _ _ _ _ (by decide),
    State.get_put_beside _ Fl.CRS_COMMIT_STATUS_RESULT Fl.CRS_COMMIT_STATUS_REASON _ (by decide) (by decide) rfl (by decide),
    State.get_put_same _ _ _ (by decide) (by decide)]
  rfl

theorem State.commitEnded_result (s : State) (reason : Nat) (st : Status) :
    (s.commitEnded reason st).get Fl.CRS_COMMIT_STATUS_RESULT = st.code % 256 := by
  rw [State.commitEnded, State.putFlag, State.get_put_ne _ _ _ _ (by decide), State.get_put_same _ _ _ (by decide) (by decide)]
  rfl

theorem State.commitEnded_flag (s : State) (reason : Nat) (st : Status) :
    (s.commitEnded reason st).flag Fl.CRS_PLAN_STATUS_COMMIT_PENDING = false := State.flag_putFlag_same _ _ _ rfl (by decide)

theorem State.endCommit_of_pending {s : State} {p : PendingCommit} (h : s.crs.pending = some p) (reason : Nat) (st : Status) :
    s.endCommit reason st = (s.commitEnded reason st).complete 0x12 p.cmd st reason (le 8 p.target) := by
  rw [State.endCommit, State.endCommitAfter, h]
  dsimp only
  rw [List.isEmpty_nil, Bool.true_or, if_pos rfl, State.commitEnded]

theorem planCancelEffect_early {s : State} {p : PendingCommit} (hp : s.crs.pending = some p) (ht : s.course + 8 ≤ p.target) (c : Cmd) :
    planCancelEffect c s = ((((s.complete 0x13 c .ok).commitEnded 8 .aborted).complete 0x12 p.cmd .aborted 8
      (le 8 p.target)).raise 84) := by
  have hp' : (s.complete 0x13 c .ok).crs.pending = some p := by rw [State.complete_crs, hp]
  unfold planCancelEffect
  rw [hp]
  dsimp only
  rw [if_neg (by omega), State.endCommit_of_pending hp']

theorem planCancelEffect_late {s : State}
    (h : ((s.crs.pending.map fun p => decide (s.course + 8 ≤ p.target)).getD false) = false) (c : Cmd) :
    planCancelEffect c s = s.complete 0x13 c .state := by
  unfold planCancelEffect
  cases hp : s.crs.pending with
  | none => rfl
  | some p =>
    rw [hp, Option.map_some, Option.getD_some, decide_eq_false_iff_not] at h
    dsimp only
    rw [if_pos (by omega)]

theorem exec_planCancel {c : Cmd} {s : State} (h : admits c s = true) (hl : c.len = 0) :
    exec (.planCancel c) s = .next (planCancelEffect c (s.accepted c)) := by
  have hb : (c.len != 0) = false := by simpa using hl
  show Host.Outcome.next (s.writeCommand 0x13 c [] [] (c.len != 0) _) = _
  rw [hb, State.writeCommand_of_admits h]

theorem planCancel_early (c : Cmd) (s : State) (p : PendingCommit) (h : admits c s = true) (hl : c.len = 0)
    (h12 : posts 0x12 s = true) (h13 : posts 0x13 s = true) (hp : s.crs.pending = some p) (ht : s.course + 8 ≤ p.target) :
    Ends (.planCancel c) s fun t => t.crs.pending = none ∧ t.crs.staged = s.crs.staged
      ∧ t.get Fl.CRS_COMMIT_STATUS_REASON = 8 ∧ t.get Fl.CRS_COMMIT_STATUS_RESULT = 9
      ∧ t.flag Fl.CRS_PLAN_STATUS_COMMIT_PENDING = false ∧ ended 0x13 c .ok s t ∧ ended 0x12 p.cmd .aborted s t := by
  have hp' : (s.accepted c).crs.pending = some p := by rw [State.accepted_crs, hp]
  have ht' : (s.accepted c).course + 8 ≤ p.target := by rwa [State.accepted_course]
  refine ⟨_, exec_planCancel h hl, ?_⟩
  rw [planCancelEffect_early hp' ht']
  generalize hu : ((s.accepted c).complete 0x13 c .ok) = u
  have hpu : Posting s u := hu ▸ (s.accepted_posting c).trans (State.complete_posting _ _ _ _ _ _)
  have hcu : u.crs = s.crs := by rw [← hu, State.complete_crs, State.accepted_crs]
  have keep : Counts (u.commitEnded 8 .aborted) (((u.commitEnded 8 .aborted).complete 0x12 p.cmd .aborted 8 (le 8 p.target)).raise 84) :=
    (State.complete_counts _ _ _ _ _ _).trans (State.raise_counts _ _ _)
  refine ⟨?_, ?_, ?_, ?_, ?_, ?_, ?_⟩
  · rw [State.raise_crs, State.complete_crs, State.commitEnded_pending]
  · rw [State.raise_crs, State.complete_crs, State.commitEnded_staged, hcu]
  · rw [keep.get _ (by decide) (by decide), State.commitEnded_reason]
  · rw [keep.get _ (by decide) (by decide), State.commitEnded_result]
    rfl
  · rw [keep.flag _ (by decide) (by decide), State.commitEnded_flag]
  · refine ended_of_complete (i := 0) (r := []) h13 (s.accepted_posting c) ?_
    rw [hu]
    exact ((u.commitEnded_posting 8 .aborted).grows.trans (State.complete_grows _ _ _ _ _ _)).trans (State.raise_grows _ _ _)
  · exact ended_of_complete h12 (hpu.trans (u.commitEnded_posting 8 .aborted)) (State.raise_grows _ _ _)

theorem planCancel_late (c : Cmd) (s : State) (h : admits c s = true) (hl : c.len = 0) (hp : posts 0x13 s = true)
    (ht : ((s.crs.pending.map fun p => decide (s.course + 8 ≤ p.target)).getD false) = false) :
    Ends (.planCancel c) s fun t => t.crs = s.crs ∧ ended 0x13 c .state s t := by
  have ht' : (((s.accepted c).crs.pending.map fun p => decide ((s.accepted c).course + 8 ≤ p.target)).getD false) = false := by
    rwa [State.accepted_crs, State.accepted_course]
  refine ⟨_, exec_planCancel h hl, ?_⟩
  rw [planCancelEffect_late ht']
  refine ⟨?_, ended_of_complete hp (s.accepted_posting c) (Grows.refl _)⟩
  rw [State.complete_crs, State.accepted_crs]

/-- Settles O24: each command is followed from the gate to what it stages or makes pending, and to its end. -/
theorem planCommands : Obligations.PlanCommands :=
  ⟨planLoad_ok, planLoad_error, planLoad_pending, tableLoad_staged, tableLoad_refused, planCommit_pending, planCommit_refused,
    planCancel_early, planCancel_late⟩

end Sys2Proof.Machine
end
